-- ==== Sys2Proof/Word.lean ====
section
/-! DEFINITION. The word types of the device (00_scope.md, Notation): bytes, register words and the 64-bit words of
channels, queues and cell registers. -/

namespace Sys2Proof

/-- One byte. -/
abbrev Byte := BitVec 8

/-- One 32-bit register word (R447). -/
abbrev W32 := BitVec 32

/-- One 64-bit word: a scalar register of a cell (R95) or a channel word (R406). -/
abbrev W64 := BitVec 64

/-- A byte string, lowest address first (R4). -/
abbrev Bytes := List Byte

end Sys2Proof
end

