-- ==== Sys2Proof/Syntax.lean ====
section
/-! DEFINITION. Syntax: the commands of the block. `Instr` has one constructor for each row of
spec/opcode_table.json, in the table's order. A command is something that reaches the block from outside (a register or
BAR access, an I3C access, a packet or flit on a port, an event on a pin) or one of the steps that the block's own
engines take (95_what_each_step_holds.md). Its operands are what the sender or the surroundings supply; everything
else comes from the state. -/

namespace Sys2Proof

/-- The path of a register access: PCIe BAR0, I3C or firmware (R401, Table 17-4). -/
inductive Path where
  | pcie | i3c | fw
  deriving DecidableEq, Repr

/-- The two hubs (Table 01-1). -/
inductive Hub where
  | h0 | h1
  deriving DecidableEq, Repr

/-- A link: port p or its half A is p, half B of port p is 24 + p (R258). -/
abbrev LinkNo := BitVec 6

/-- What a cell's hard fault reports (R84, Table 03-5 FAULT and HW_FAULT). -/
inductive CellFaultKind where
  | regFile | accBank | scratch | bindCpl
  deriving DecidableEq, Repr

/-- A fault of a control complex (R396, CC.FAULT.CAUSE of Table 16-9). `compareState` is a parity or double-bit error
in the lockstep compare state. -/
inductive CcFaultKind where
  | lockstep | watchdog | sram | complement | selfTest | compareState
  deriving DecidableEq, Repr

/-- An event on a filtered input (R438): a pulse shorter than 1 µs, a qualified assertion, a release. -/
inductive PinEvent where
  | short | asserted | released
  deriving DecidableEq, Repr

/-- The two clocks whose divider moves at run time (R421). -/
inductive ClkDomain where
  | aclk | fclk
  deriving DecidableEq, Repr

/-- Which engine asks for a translation (Table 13-3 SOURCE): the cell of an instance with its kernel or routine, the
command-queue engine of a hub for a command, or the trellis for a KLOAD. -/
inductive FillSource where
  | cell (c : BitVec 9) (t : BitVec 10)
  | engine (id : Nat)
  | trellis
  deriving DecidableEq, Repr

/-- A tier block (R238): slot and block within the slot. -/
structure BlockId where
  slot : BitVec 23
  blk  : BitVec 12
  deriving DecidableEq, Repr

/-- Symbols in error of one stored code word, named by its device byte address divided by 64 (R213): what the
surroundings did to the stack. -/
structure SymErr where
  word : Nat
  syms : Nat
  deriving DecidableEq, Repr

/-- What training finds on one stack (R223): pseudo-channels that fail, hard repairs left, time taken in µs. -/
structure StackTrainResult where
  stack   : BitVec 5
  badPc   : List (BitVec 5)
  pprLeft : BitVec 16
  us      : BitVec 20
  deriving DecidableEq, Repr

/-- A fabric packet, Table 11-1 and R290. `rsv` says that a reserved bit of the header is set; `tagOk` and `plain`
stand for nothing: the protected payload is in `data` and `gtag` as it arrives. -/
structure Packet where
  path    : BitVec 48 := 0xFFFFFFFFFFFF#48
  hop     : BitVec 3 := 0
  e       : Bool := false
  f       : Bool := false
  fp      : Bool := false
  ce      : Bool := false
  ece     : Bool := false
  opcode  : BitVec 8 := 0
  srcEp   : BitVec 13 := 0
  rx      : Bool := false
  enc     : Bool := false
  rsv     : Bool := false
  dstEp   : BitVec 13 := 0
  job     : BitVec 20 := 0
  fcount  : BitVec 10 := 0
  ph      : Bool := false
  tag     : BitVec 16 := 0
  length  : BitVec 13 := 0
  ah      : BitVec 2 := 0
  status  : BitVec 8 := 0
  mod     : BitVec 8 := 0
  token   : BitVec 16 := 0
  addr    : BitVec 64 := 0
  retPath : BitVec 64 := 0
  ctr     : BitVec 64 := 0
  data    : Bytes := []
  gtag    : Bytes := []
  deriving DecidableEq, Repr

/-- A flit as the receiver takes it, Table 10-3. `crcOk` says that FEC decoding and the CRC of bytes 0 to 251 succeed
(R264, R265), `rsv` that a reserved bit is set (R266). `payload` holds bytes 12 to 251. `cws` are the codewords that end
with the flit, each as the physical lanes of its symbols in error with their number (R264). -/
structure Flit where
  type    : BitVec 4 := 0
  xoff    : BitVec 4 := 0
  seq     : BitVec 12 := 0
  ack     : BitVec 12 := 0
  vc      : BitVec 2 := 0
  ackv    : Bool := false
  replay  : Bool := false
  first   : BitVec 4 := 0
  used    : BitVec 4 := 0
  slane   : BitVec 3 := 0
  sreq    : Bool := false
  shalf   : Bool := false
  rsv     : Bool := false
  crcOk   : Bool := true
  payload : Bytes := []
  cws     : List (List (BitVec 4 × Nat)) := []
  deriving DecidableEq, Repr

/-- One marker block of a marker set (R262): the physical lane it arrived on, the bits of bytes 0 to 7 that differ
from the pattern, and bytes 8 to 10. -/
structure Marker where
  lane     : BitVec 4
  badBits  : Nat
  logical  : BitVec 4
  halfB    : Bool
  standsIn : Bool
  deriving DecidableEq, Repr

/-- A marker set with the skew in ns between its lanes (R262). -/
structure MarkerSet where
  markers : List Marker
  skew    : Nat
  deriving DecidableEq, Repr

/-- The parameters of an SPDM request (R371): the slot named, the requester's nonce, the measurement index asked for
(0xFF for all), whether a signature is asked for, the offset and length of a certificate read; `raw` is the whole message, which
signatures cover. -/
structure SpdmRequest where
  slot   : BitVec 8 := 0
  nonce  : Bytes := []
  index  : BitVec 8 := 0
  sign   : Bool := false
  offset : BitVec 16 := 0
  length : BitVec 16 := 0
  raw    : Bytes := []
  deriving DecidableEq, Repr

/-- The commands, one constructor for each row of spec/opcode_table.json.

Rows of a register page's CMD register carry the path and the bits of the CMD word that the command does not fix; their
arguments come from the page's ARG registers (R401). Rows of the cell instruction set carry the cell, the thread within
the cell (group × 64 + thread number, R61) and the operand fields, bits [47:0] of the instruction word (R98); a scalar
integer row also says whether it is the immediate form, an atomic row whether it is the 128-bit minor. -/
inductive Instr where
  /-- CREATE -/
  | create (p : Path) (auto : Bool) (rsv : BitVec 11) (h : BitVec 16)
  /-- GRANT -/
  | grant (p : Path) (auto : Bool) (rsv : BitVec 11) (h : BitVec 16)
  /-- UNGRANT -/
  | ungrant (p : Path) (auto : Bool) (rsv : BitVec 11) (h : BitVec 16)
  /-- RESIZE -/
  | resize (p : Path) (auto : Bool) (rsv : BitVec 11) (h : BitVec 16)
  /-- RELEASE -/
  | release (p : Path) (auto : Bool) (rsv : BitVec 11) (h : BitVec 16)
  /-- SEAL -/
  | seal (p : Path) (auto : Bool) (rsv : BitVec 11) (h : BitVec 16)
  /-- QUERY -/
  | query (p : Path) (auto : Bool) (rsv : BitVec 11) (h : BitVec 16)
  /-- MAP_WINDOW -/
  | mapWindow (p : Path) (auto : Bool) (rsv : BitVec 11) (h : BitVec 16)
  /-- RESTORE -/
  | restore (p : Path) (auto : Bool) (rsv : BitVec 11) (h : BitVec 16)
  /-- REVOKE_ALL -/
  | revokeAll (p : Path) (auto : Bool) (rsv : BitVec 11) (h : BitVec 16)
  /-- REVOCATION_POINT -/
  | revocationPoint (hub : Hub) (h : BitVec 16)
  /-- REVOKING_COMMAND_COMPLETE -/
  | revokingCommandComplete (h : BitVec 16)
  /-- GRANULE_CLEARED -/
  | granuleCleared (g : BitVec 13)
  /-- PUBLISH -/
  | publish (id : Nat)
  /-- PUBLISH_POINT -/
  | publishPoint (h : BitVec 16)
  /-- PUBLISH_COMPLETE -/
  | publishComplete (h : BitVec 16)
  /-- BIND -/
  | bind (p : Path) (rsv : BitVec 28)
  /-- UNBIND -/
  | unbind (p : Path) (rsv : BitVec 28)
  /-- RESET_JOB -/
  | resetJob (p : Path) (rsv : BitVec 28)
  /-- KLOAD -/
  | kload (p : Path) (rsv : BitVec 28)
  /-- KLOAD_COMPLETE -/
  | kloadComplete
  /-- KUNLOAD -/
  | kunload (p : Path) (rsv : BitVec 28)
  /-- KQUERY -/
  | kquery (p : Path) (rsv : BitVec 28)
  /-- SUBSTITUTE -/
  | substitute (p : Path) (rsv : BitVec 28)
  /-- SELFTEST_COMPLETE -/
  | selftestComplete (failed : List (BitVec 9))
  /-- HARD_FAULT -/
  | hardFault (c : BitVec 9) (k : CellFaultKind)
  /-- HEARTBEAT_MISSED -/
  | heartbeatMissed (c : BitVec 9)
  /-- BINDING_CHECK -/
  | bindingCheck (c : BitVec 9)
  /-- SUBSTITUTION_COMPLETE -/
  | substitutionComplete (bed : BitVec 5) (pass : Bool)
  /-- PURGE_COMPLETE -/
  | purgeComplete (c : BitVec 9)
  /-- LENT_PART_DONE -/
  | lentPartDone (c : BitVec 9)
  /-- NO_CELLS_TIMEOUT -/
  | noCellsTimeout (id : Nat)
  /-- CONTEXT_SWAP -/
  | contextSwap (c : BitVec 9) (out : Option (BitVec 10))
  /-- ADD -/
  | add (c : BitVec 9) (t : BitVec 10) (imm : Bool) (f : BitVec 48)
  /-- SUB -/
  | sub (c : BitVec 9) (t : BitVec 10) (imm : Bool) (f : BitVec 48)
  /-- MUL -/
  | mul (c : BitVec 9) (t : BitVec 10) (imm : Bool) (f : BitVec 48)
  /-- MULH -/
  | mulh (c : BitVec 9) (t : BitVec 10) (imm : Bool) (f : BitVec 48)
  /-- MULHU -/
  | mulhu (c : BitVec 9) (t : BitVec 10) (imm : Bool) (f : BitVec 48)
  /-- DIV -/
  | div (c : BitVec 9) (t : BitVec 10) (imm : Bool) (f : BitVec 48)
  /-- DIVU -/
  | divu (c : BitVec 9) (t : BitVec 10) (imm : Bool) (f : BitVec 48)
  /-- REM -/
  | rem (c : BitVec 9) (t : BitVec 10) (imm : Bool) (f : BitVec 48)
  /-- REMU -/
  | remu (c : BitVec 9) (t : BitVec 10) (imm : Bool) (f : BitVec 48)
  /-- AND -/
  | and (c : BitVec 9) (t : BitVec 10) (imm : Bool) (f : BitVec 48)
  /-- OR -/
  | or (c : BitVec 9) (t : BitVec 10) (imm : Bool) (f : BitVec 48)
  /-- XOR -/
  | xor (c : BitVec 9) (t : BitVec 10) (imm : Bool) (f : BitVec 48)
  /-- SHL -/
  | shl (c : BitVec 9) (t : BitVec 10) (imm : Bool) (f : BitVec 48)
  /-- SHR -/
  | shr (c : BitVec 9) (t : BitVec 10) (imm : Bool) (f : BitVec 48)
  /-- SAR -/
  | sar (c : BitVec 9) (t : BitVec 10) (imm : Bool) (f : BitVec 48)
  /-- MIN -/
  | min (c : BitVec 9) (t : BitVec 10) (imm : Bool) (f : BitVec 48)
  /-- MAX -/
  | max (c : BitVec 9) (t : BitVec 10) (imm : Bool) (f : BitVec 48)
  /-- MINU -/
  | minu (c : BitVec 9) (t : BitVec 10) (imm : Bool) (f : BitVec 48)
  /-- MAXU -/
  | maxu (c : BitVec 9) (t : BitVec 10) (imm : Bool) (f : BitVec 48)
  /-- SLT -/
  | slt (c : BitVec 9) (t : BitVec 10) (imm : Bool) (f : BitVec 48)
  /-- SLTU -/
  | sltu (c : BitVec 9) (t : BitVec 10) (imm : Bool) (f : BitVec 48)
  /-- SEQ -/
  | seq (c : BitVec 9) (t : BitVec 10) (imm : Bool) (f : BitVec 48)
  /-- CLZ -/
  | clz (c : BitVec 9) (t : BitVec 10) (imm : Bool) (f : BitVec 48)
  /-- POPC -/
  | popc (c : BitVec 9) (t : BitVec 10) (imm : Bool) (f : BitVec 48)
  /-- SEL -/
  | sel (c : BitVec 9) (t : BitVec 10) (imm : Bool) (f : BitVec 48)
  /-- FADD -/
  | fadd (c : BitVec 9) (t : BitVec 10) (f : BitVec 48)
  /-- FSUB -/
  | fsub (c : BitVec 9) (t : BitVec 10) (f : BitVec 48)
  /-- FMUL -/
  | fmul (c : BitVec 9) (t : BitVec 10) (f : BitVec 48)
  /-- FFMA -/
  | ffma (c : BitVec 9) (t : BitVec 10) (f : BitVec 48)
  /-- FMIN -/
  | fmin (c : BitVec 9) (t : BitVec 10) (f : BitVec 48)
  /-- FMAX -/
  | fmax (c : BitVec 9) (t : BitVec 10) (f : BitVec 48)
  /-- FEQ -/
  | feq (c : BitVec 9) (t : BitVec 10) (f : BitVec 48)
  /-- FLT -/
  | flt (c : BitVec 9) (t : BitVec 10) (f : BitVec 48)
  /-- FLE -/
  | fle (c : BitVec 9) (t : BitVec 10) (f : BitVec 48)
  /-- FCVTI -/
  | fcvti (c : BitVec 9) (t : BitVec 10) (f : BitVec 48)
  /-- ICVTF -/
  | icvtf (c : BitVec 9) (t : BitVec 10) (f : BitVec 48)
  /-- PCVT -/
  | pcvt (c : BitVec 9) (t : BitVec 10) (f : BitVec 48)
  /-- B -/
  | b (c : BitVec 9) (t : BitVec 10) (f : BitVec 48)
  /-- BL -/
  | bl (c : BitVec 9) (t : BitVec 10) (f : BitVec 48)
  /-- JR -/
  | jr (c : BitVec 9) (t : BitVec 10) (f : BitVec 48)
  /-- JRL -/
  | jrl (c : BitVec 9) (t : BitVec 10) (f : BitVec 48)
  /-- LD8U -/
  | ld8u (c : BitVec 9) (t : BitVec 10) (f : BitVec 48)
  /-- LD16U -/
  | ld16u (c : BitVec 9) (t : BitVec 10) (f : BitVec 48)
  /-- LD32U -/
  | ld32u (c : BitVec 9) (t : BitVec 10) (f : BitVec 48)
  /-- LD64 -/
  | ld64 (c : BitVec 9) (t : BitVec 10) (f : BitVec 48)
  /-- LD8S -/
  | ld8s (c : BitVec 9) (t : BitVec 10) (f : BitVec 48)
  /-- LD16S -/
  | ld16s (c : BitVec 9) (t : BitVec 10) (f : BitVec 48)
  /-- LD32S -/
  | ld32s (c : BitVec 9) (t : BitVec 10) (f : BitVec 48)
  /-- ST8 -/
  | st8 (c : BitVec 9) (t : BitVec 10) (f : BitVec 48)
  /-- ST16 -/
  | st16 (c : BitVec 9) (t : BitVec 10) (f : BitVec 48)
  /-- ST32 -/
  | st32 (c : BitVec 9) (t : BitVec 10) (f : BitVec 48)
  /-- ST64 -/
  | st64 (c : BitVec 9) (t : BitVec 10) (f : BitVec 48)
  /-- VLD -/
  | vld (c : BitVec 9) (t : BitVec 10) (f : BitVec 48)
  /-- VST -/
  | vst (c : BitVec 9) (t : BitVec 10) (f : BitVec 48)
  /-- VLDP6 -/
  | vldp6 (c : BitVec 9) (t : BitVec 10) (f : BitVec 48)
  /-- VSTP6 -/
  | vstp6 (c : BitVec 9) (t : BitVec 10) (f : BitVec 48)
  /-- VGTH4 -/
  | vgth4 (c : BitVec 9) (t : BitVec 10) (f : BitVec 48)
  /-- VGTH8 -/
  | vgth8 (c : BitVec 9) (t : BitVec 10) (f : BitVec 48)
  /-- VGTH16 -/
  | vgth16 (c : BitVec 9) (t : BitVec 10) (f : BitVec 48)
  /-- VGTH32 -/
  | vgth32 (c : BitVec 9) (t : BitVec 10) (f : BitVec 48)
  /-- VGTH64 -/
  | vgth64 (c : BitVec 9) (t : BitVec 10) (f : BitVec 48)
  /-- VGTH128 -/
  | vgth128 (c : BitVec 9) (t : BitVec 10) (f : BitVec 48)
  /-- VGTH256 -/
  | vgth256 (c : BitVec 9) (t : BitVec 10) (f : BitVec 48)
  /-- VSCT4 -/
  | vsct4 (c : BitVec 9) (t : BitVec 10) (f : BitVec 48)
  /-- VSCT8 -/
  | vsct8 (c : BitVec 9) (t : BitVec 10) (f : BitVec 48)
  /-- VSCT16 -/
  | vsct16 (c : BitVec 9) (t : BitVec 10) (f : BitVec 48)
  /-- VSCT32 -/
  | vsct32 (c : BitVec 9) (t : BitVec 10) (f : BitVec 48)
  /-- VSCT64 -/
  | vsct64 (c : BitVec 9) (t : BitVec 10) (f : BitVec 48)
  /-- VSCT128 -/
  | vsct128 (c : BitVec 9) (t : BitVec 10) (f : BitVec 48)
  /-- VSCT256 -/
  | vsct256 (c : BitVec 9) (t : BitVec 10) (f : BitVec 48)
  /-- ATOMIC_ADD -/
  | atomicAdd (c : BitVec 9) (t : BitVec 10) (wide : Bool) (f : BitVec 48)
  /-- ATOMIC_FADD -/
  | atomicFadd (c : BitVec 9) (t : BitVec 10) (wide : Bool) (f : BitVec 48)
  /-- ATOMIC_MIN -/
  | atomicMin (c : BitVec 9) (t : BitVec 10) (wide : Bool) (f : BitVec 48)
  /-- ATOMIC_MINU -/
  | atomicMinu (c : BitVec 9) (t : BitVec 10) (wide : Bool) (f : BitVec 48)
  /-- ATOMIC_MAX -/
  | atomicMax (c : BitVec 9) (t : BitVec 10) (wide : Bool) (f : BitVec 48)
  /-- ATOMIC_MAXU -/
  | atomicMaxu (c : BitVec 9) (t : BitVec 10) (wide : Bool) (f : BitVec 48)
  /-- ATOMIC_AND -/
  | atomicAnd (c : BitVec 9) (t : BitVec 10) (wide : Bool) (f : BitVec 48)
  /-- ATOMIC_OR -/
  | atomicOr (c : BitVec 9) (t : BitVec 10) (wide : Bool) (f : BitVec 48)
  /-- ATOMIC_XOR -/
  | atomicXor (c : BitVec 9) (t : BitVec 10) (wide : Bool) (f : BitVec 48)
  /-- ATOMIC_SWAP -/
  | atomicSwap (c : BitVec 9) (t : BitVec 10) (wide : Bool) (f : BitVec 48)
  /-- ATOMIC_CAS -/
  | atomicCas (c : BitVec 9) (t : BitVec 10) (wide : Bool) (f : BitVec 48)
  /-- FWSET -/
  | fwset (c : BitVec 9) (t : BitVec 10) (f : BitVec 48)
  /-- FWGET -/
  | fwget (c : BitVec 9) (t : BitVec 10) (f : BitVec 48)
  /-- FWPUT -/
  | fwput (c : BitVec 9) (t : BitVec 10) (f : BitVec 48)
  /-- FWWAIT -/
  | fwwait (c : BitVec 9) (t : BitVec 10) (f : BitVec 48)
  /-- FWCLR -/
  | fwclr (c : BitVec 9) (t : BitVec 10) (f : BitVec 48)
  /-- FURROW_TILE_DONE -/
  | furrowTileDone (c : BitVec 9) (t : BitVec 10) (fur : Bool) (copy : Nat) (tile : BitVec 32)
  /-- VADD -/
  | vadd (c : BitVec 9) (t : BitVec 10) (f : BitVec 48)
  /-- VSUB -/
  | vsub (c : BitVec 9) (t : BitVec 10) (f : BitVec 48)
  /-- VMUL -/
  | vmul (c : BitVec 9) (t : BitVec 10) (f : BitVec 48)
  /-- VFMA -/
  | vfma (c : BitVec 9) (t : BitVec 10) (f : BitVec 48)
  /-- VMIN -/
  | vmin (c : BitVec 9) (t : BitVec 10) (f : BitVec 48)
  /-- VMAX -/
  | vmax (c : BitVec 9) (t : BitVec 10) (f : BitVec 48)
  /-- VABS -/
  | vabs (c : BitVec 9) (t : BitVec 10) (f : BitVec 48)
  /-- VNEG -/
  | vneg (c : BitVec 9) (t : BitVec 10) (f : BitVec 48)
  /-- VAND -/
  | vand (c : BitVec 9) (t : BitVec 10) (f : BitVec 48)
  /-- VOR -/
  | vor (c : BitVec 9) (t : BitVec 10) (f : BitVec 48)
  /-- VXOR -/
  | vxor (c : BitVec 9) (t : BitVec 10) (f : BitVec 48)
  /-- VSHL -/
  | vshl (c : BitVec 9) (t : BitVec 10) (f : BitVec 48)
  /-- VSHR -/
  | vshr (c : BitVec 9) (t : BitVec 10) (f : BitVec 48)
  /-- VSAR -/
  | vsar (c : BitVec 9) (t : BitVec 10) (f : BitVec 48)
  /-- VCEQ -/
  | vceq (c : BitVec 9) (t : BitVec 10) (f : BitVec 48)
  /-- VCNE -/
  | vcne (c : BitVec 9) (t : BitVec 10) (f : BitVec 48)
  /-- VCLT -/
  | vclt (c : BitVec 9) (t : BitVec 10) (f : BitVec 48)
  /-- VCLE -/
  | vcle (c : BitVec 9) (t : BitVec 10) (f : BitVec 48)
  /-- VCGT -/
  | vcgt (c : BitVec 9) (t : BitVec 10) (f : BitVec 48)
  /-- VCGE -/
  | vcge (c : BitVec 9) (t : BitVec 10) (f : BitVec 48)
  /-- VCLTU -/
  | vcltu (c : BitVec 9) (t : BitVec 10) (f : BitVec 48)
  /-- VCGEU -/
  | vcgeu (c : BitVec 9) (t : BitVec 10) (f : BitVec 48)
  /-- VCUN -/
  | vcun (c : BitVec 9) (t : BitVec 10) (f : BitVec 48)
  /-- VCVT -/
  | vcvt (c : BitVec 9) (t : BitVec 10) (f : BitVec 48)
  /-- EXP2 -/
  | exp2 (c : BitVec 9) (t : BitVec 10) (f : BitVec 48)
  /-- LOG2 -/
  | log2 (c : BitVec 9) (t : BitVec 10) (f : BitVec 48)
  /-- RCP -/
  | rcp (c : BitVec 9) (t : BitVec 10) (f : BitVec 48)
  /-- RSQRT -/
  | rsqrt (c : BitVec 9) (t : BitVec 10) (f : BitVec 48)
  /-- EXP2_F -/
  | exp2F (c : BitVec 9) (t : BitVec 10) (f : BitVec 48)
  /-- VRMAX -/
  | vrmax (c : BitVec 9) (t : BitVec 10) (f : BitVec 48)
  /-- VRMIN -/
  | vrmin (c : BitVec 9) (t : BitVec 10) (f : BitVec 48)
  /-- VRMAXI -/
  | vrmaxi (c : BitVec 9) (t : BitVec 10) (f : BitVec 48)
  /-- MAND -/
  | mand (c : BitVec 9) (t : BitVec 10) (f : BitVec 48)
  /-- MOR -/
  | mor (c : BitVec 9) (t : BitVec 10) (f : BitVec 48)
  /-- MXOR -/
  | mxor (c : BitVec 9) (t : BitVec 10) (f : BitVec 48)
  /-- MANDN -/
  | mandn (c : BitVec 9) (t : BitVec 10) (f : BitVec 48)
  /-- MNOT -/
  | mnot (c : BitVec 9) (t : BitVec 10) (f : BitVec 48)
  /-- MSET -/
  | mset (c : BitVec 9) (t : BitVec 10) (f : BitVec 48)
  /-- MPOP -/
  | mpop (c : BitVec 9) (t : BitVec 10) (f : BitVec 48)
  /-- MFIRST -/
  | mfirst (c : BitVec 9) (t : BitVec 10) (f : BitVec 48)
  /-- MFROMS -/
  | mfroms (c : BitVec 9) (t : BitVec 10) (f : BitVec 48)
  /-- MTOS -/
  | mtos (c : BitVec 9) (t : BitVec 10) (f : BitVec 48)
  /-- MRANGE -/
  | mrange (c : BitVec 9) (t : BitVec 10) (f : BitVec 48)
  /-- VMOV -/
  | vmov (c : BitVec 9) (t : BitVec 10) (f : BitVec 48)
  /-- VBCAST -/
  | vbcast (c : BitVec 9) (t : BitVec 10) (f : BitVec 48)
  /-- VEXT -/
  | vext (c : BitVec 9) (t : BitVec 10) (f : BitVec 48)
  /-- VINS -/
  | vins (c : BitVec 9) (t : BitVec 10) (f : BitVec 48)
  /-- VIOTA -/
  | viota (c : BitVec 9) (t : BitVec 10) (f : BitVec 48)
  /-- VPERM -/
  | vperm (c : BitVec 9) (t : BitVec 10) (f : BitVec 48)
  /-- VDOT -/
  | vdot (c : BitVec 9) (t : BitVec 10) (f : BitVec 48)
  /-- VDOTS -/
  | vdots (c : BitVec 9) (t : BitVec 10) (f : BitVec 48)
  /-- VAXPY -/
  | vaxpy (c : BitVec 9) (t : BitVec 10) (f : BitVec 48)
  /-- ACCADDS -/
  | accadds (c : BitVec 9) (t : BitVec 10) (f : BitVec 48)
  /-- ACCACC -/
  | accacc (c : BitVec 9) (t : BitVec 10) (f : BitVec 48)
  /-- ACCNEG -/
  | accneg (c : BitVec 9) (t : BitVec 10) (f : BitVec 48)
  /-- ACCCLR -/
  | accclr (c : BitVec 9) (t : BitVec 10) (f : BitVec 48)
  /-- ACCCLRG -/
  | accclrg (c : BitVec 9) (t : BitVec 10) (f : BitVec 48)
  /-- ACCRND -/
  | accrnd (c : BitVec 9) (t : BitVec 10) (f : BitVec 48)
  /-- ACCRNDV -/
  | accrndv (c : BitVec 9) (t : BitVec 10) (f : BitVec 48)
  /-- ACCLD -/
  | accld (c : BitVec 9) (t : BitVec 10) (f : BitVec 48)
  /-- ACCST -/
  | accst (c : BitVec 9) (t : BitVec 10) (f : BitVec 48)
  /-- ACCALLOC -/
  | accalloc (c : BitVec 9) (t : BitVec 10) (f : BitVec 48)
  /-- ACCFREE -/
  | accfree (c : BitVec 9) (t : BitVec 10) (f : BitVec 48)
  /-- NOP -/
  | nop (c : BitVec 9) (t : BitVec 10) (f : BitVec 48)
  /-- BARG -/
  | barg (c : BitVec 9) (t : BitVec 10) (f : BitVec 48)
  /-- BARJ -/
  | barj (c : BitVec 9) (t : BitVec 10) (f : BitVec 48)
  /-- FENCE -/
  | fence (c : BitVec 9) (t : BitVec 10) (f : BitVec 48)
  /-- NOTIFY -/
  | notify (c : BitVec 9) (t : BitVec 10) (f : BitVec 48)
  /-- NOTIFYW -/
  | notifyw (c : BitVec 9) (t : BitVec 10) (f : BitVec 48)
  /-- RDID -/
  | rdid (c : BitVec 9) (t : BitVec 10) (f : BitVec 48)
  /-- RDCYC -/
  | rdcyc (c : BitVec 9) (t : BitVec 10) (f : BitVec 48)
  /-- RDTIME -/
  | rdtime (c : BitVec 9) (t : BitVec 10) (f : BitVec 48)
  /-- TRAP -/
  | trap (c : BitVec 9) (t : BitVec 10) (f : BitVec 48)
  /-- EXIT -/
  | exit (c : BitVec 9) (t : BitVec 10) (f : BitVec 48)
  /-- FLAGS -/
  | flags (c : BitVec 9) (t : BitVec 10) (f : BitVec 48)
  /-- FILL -/
  | fill (id : Nat)
  /-- COPY -/
  | copy (id : Nat)
  /-- COMPARE -/
  | compare (id : Nat)
  /-- REDUCE -/
  | reduce (id : Nat)
  /-- HASH -/
  | hash (id : Nat)
  /-- GATHER_POOL -/
  | gatherPool (id : Nat)
  /-- ATTEND -/
  | attend (id : Nat)
  /-- ATTEND_SECOND_PHASE -/
  | attendSecondPhase (id : Nat)
  /-- COLLECT -/
  | collect (id : Nat)
  /-- COLLECT_REDUCE -/
  | collectReduce (slot : BitVec 10)
  /-- COLLECT_TIMEOUT -/
  | collectTimeout (slot : BitVec 10)
  /-- REMOTE_COPY -/
  | remoteCopy (id : Nat)
  /-- KERNEL -/
  | kernel (id : Nat)
  /-- KERNEL_TIMEOUT -/
  | kernelTimeout (id : Nat)
  /-- RETURN_PAGES -/
  | returnPages (id : Nat)
  /-- RETURN_PAGE_CONFIRMED -/
  | returnPageConfirmed (id : Nat)
  /-- JOURNAL_MARK -/
  | journalMark (id : Nat)
  /-- COMPLETION_POST -/
  | completionPost (id : Nat)
  /-- SQ_CREATE -/
  | sqCreate (p : Path) (rsv : BitVec 28)
  /-- CQ_CREATE -/
  | cqCreate (p : Path) (rsv : BitVec 28)
  /-- SQ_DELETE -/
  | sqDelete (p : Path) (rsv : BitVec 28)
  /-- SQ_DELETE_COMPLETE -/
  | sqDeleteComplete (q : BitVec 14)
  /-- CQ_DELETE -/
  | cqDelete (p : Path) (rsv : BitVec 28)
  /-- TENANT_SET -/
  | tenantSet (p : Path) (rsv : BitVec 28)
  /-- TENANT_QUERY -/
  | tenantQuery (p : Path) (rsv : BitVec 28)
  /-- SQ_QUERY -/
  | sqQuery (p : Path) (rsv : BitVec 28)
  /-- DOORBELL -/
  | doorbell (ch : BitVec 12)
  /-- DESCRIPTOR_FETCH -/
  | descriptorFetch (q : BitVec 14)
  /-- TOKEN_ACCRUAL -/
  | tokenAccrual
  /-- DISPATCH_ONE -/
  | dispatchOne
  /-- CALENDAR_RELEASE -/
  | calendarRelease (t : BitVec 12)
  /-- CALENDAR_REVOLUTION -/
  | calendarRevolution
  /-- SELF_REFRESH_ENTRY -/
  | selfRefreshEntry (st : BitVec 5)
  /-- SELF_REFRESH_EXIT_DONE -/
  | selfRefreshExitDone (st : BitVec 5)
  /-- MERGE_DRAIN -/
  | mergeDrain (bed : BitVec 5)
  /-- ACT_TABLE_RESET -/
  | actTableReset (st : BitVec 5)
  /-- STACK_TRAINING -/
  | stackTraining (res : List StackTrainResult)
  /-- RECALIBRATION -/
  | recalibration (st : BitVec 5) (pc : BitVec 5)
  /-- REPAIR_LOG_FLUSH -/
  | repairLogFlush
  /-- PC_COPY_CHUNK -/
  | pcCopyChunk (bed : BitVec 5)
  /-- PC_COPY_DONE -/
  | pcCopyDone (bed : BitVec 5)
  /-- PC_CE_DECAY -/
  | pcCeDecay (st : BitVec 5)
  /-- SCRUB_PASS_START -/
  | scrubPassStart (bed : BitVec 5)
  /-- HOE_SCRUB -/
  | hoeScrub (bed : BitVec 5) (sym : BitVec 7)
  /-- HOE_REKEY -/
  | hoeRekey (bed : BitVec 5) (late : Bool)
  /-- HOE_LAZY_ZERO -/
  | hoeLazyZero (bed : BitVec 5)
  /-- D2D_RETRY -/
  | d2dRetry (bed : BitVec 5) (repair : Bool)
  /-- BED_LINK_LOST -/
  | bedLinkLost (bed : BitVec 5)
  /-- FORMAT -/
  | format (p : Path)
  /-- CACHE_SIZE -/
  | cacheSize (p : Path) (v : BitVec 32)
  /-- DRIVE_FAIL -/
  | driveFail (d : BitVec 4)
  /-- TIER_FILL_COMPLETE -/
  | tierFillComplete (tb : BlockId)
  /-- KEEP_TIME_EXPIRY -/
  | keepTimeExpiry (tb : BlockId)
  /-- TIER_WRITEBACK -/
  | tierWriteback
  /-- WRITEBACK_ACK -/
  | writebackAck (tb : BlockId)
  /-- TAG_PAGE_WRITE -/
  | tagPageWrite
  /-- PWR_FAIL_N -/
  | pwrFailN (ev : PinEvent)
  /-- FLUSH_DEADLINE -/
  | flushDeadline
  /-- IDLE -/
  | idle (l : LinkNo) (fl : Flit)
  /-- DATA -/
  | data (l : LinkNo) (fl : Flit)
  /-- NAK -/
  | nak (l : LinkNo) (fl : Flit)
  /-- TRAIN -/
  | train (l : LinkNo) (fl : Flit) (rtt : BitVec 12)
  /-- SLEEP -/
  | sleep (l : LinkNo) (fl : Flit)
  /-- ACK_TIMEOUT -/
  | ackTimeout (l : LinkNo)
  /-- NOFLIT_TIMEOUT -/
  | noflitTimeout (l : LinkNo)
  /-- LOCK_LOSS -/
  | lockLoss (die : BitVec 3) (n : BitVec 6)
  /-- MARKER_SET -/
  | markerSet (l : LinkNo) (m : MarkerSet)
  /-- SER_WINDOW -/
  | serWindow (die : BitVec 3) (n : BitVec 6) (ratio : BitVec 16)
  /-- SUBST_TIMEOUT -/
  | substTimeout (l : LinkNo)
  /-- TX_SLEEP -/
  | txSleep (l : LinkNo)
  /-- TX_WAKE -/
  | txWake (l : LinkNo)
  /-- WAKE_TIMEOUT -/
  | wakeTimeout (l : LinkNo)
  /-- RETRAIN_START -/
  | retrainStart (l : LinkNo)
  /-- BLOCK_LOCK -/
  | blockLock (die : BitVec 3) (n : BitVec 6)
  /-- SUBST -/
  | subst (p : Path) (l : LinkNo) (lane : BitVec 3)
  /-- RETRAIN -/
  | retrain (p : Path) (l : LinkNo)
  /-- INJ_CRC -/
  | injCrc (p : Path) (l : LinkNo)
  /-- PORT_CFG -/
  | portCfg (p : Path) (l : LinkNo) (v : BitVec 32)
  /-- READ -/
  | read (l : LinkNo) (pkt : Packet) (se : List SymErr)
  /-- WRITE -/
  | write (l : LinkNo) (pkt : Packet)
  /-- ATOMIC -/
  | atomic (l : LinkNo) (pkt : Packet)
  /-- CHAN_WRITE -/
  | chanWrite (l : LinkNo) (pkt : Packet)
  /-- READ_RSP -/
  | readRsp (l : LinkNo) (pkt : Packet)
  /-- WRITE_RSP -/
  | writeRsp (l : LinkNo) (pkt : Packet)
  /-- READY -/
  | ready (l : LinkNo) (pkt : Packet)
  /-- TRANSIT -/
  | transit (l : LinkNo) (pkt : Packet)
  /-- FENCE_TIMEOUT -/
  | fenceTimeout (l : LinkNo)
  /-- TRANSIT_AGE -/
  | transitAge (l : LinkNo)
  /-- DUTY_DEFER -/
  | dutyDefer (rq : Nat)
  /-- REQ_TMO -/
  | reqTmo (tag : BitVec 16)
  /-- PROBE -/
  | probe (l : LinkNo) (pkt : Packet)
  /-- CMAP_READ -/
  | cmapRead (l : LinkNo) (pkt : Packet)
  /-- CMAP_SNAP -/
  | cmapSnap (p : Path) (v : BitVec 32)
  /-- RD_S -/
  | rdS (l : LinkNo) (pkt : Packet)
  /-- RD_E -/
  | rdE (l : LinkNo) (pkt : Packet)
  /-- UPGRADE -/
  | upgrade (l : LinkNo) (pkt : Packet)
  /-- EVICT_CLEAN -/
  | evictClean (l : LinkNo) (pkt : Packet)
  /-- WRITEBACK -/
  | writeback (l : LinkNo) (pkt : Packet)
  /-- INV_ACK -/
  | invAck (l : LinkNo) (pkt : Packet)
  /-- RECALL_RSP -/
  | recallRsp (l : LinkNo) (pkt : Packet)
  /-- REGION_SET_ACK -/
  | regionSetAck (bed : BitVec 5) (region : Nat)
  /-- HOLD_END -/
  | holdEnd (line : BitVec 53)
  /-- RECALL_TIMEOUT -/
  | recallTimeout (tag : BitVec 16)
  /-- PRED_CLEAR -/
  | predClear (p : Path)
  /-- TRANSLATION_FILL -/
  | translationFill (src : FillSource) (job : BitVec 20) (tva : BitVec 57) (need : BitVec 4)
  /-- MIGRATION_COMPLETE -/
  | migrationComplete (fid : BitVec 32)
  /-- MIGRATION_TIMEOUT -/
  | migrationTimeout (fid : BitVec 32)
  /-- FAULT_TIMEOUT -/
  | faultTimeout (fid : BitVec 32)
  /-- SHOOTDOWN_POINT -/
  | shootdownPoint (sd : Nat)
  /-- DRAIN_LIMIT -/
  | drainLimit (sd : Nat)
  /-- SHOOTDOWN_COMPLETE -/
  | shootdownComplete (sd : Nat)
  /-- MAP -/
  | map (p : Path) (rsv : BitVec 28)
  /-- UNMAP -/
  | unmap (p : Path) (rsv : BitVec 28)
  /-- SET_REMOTE -/
  | setRemote (p : Path) (rsv : BitVec 28)
  /-- RESOLVE -/
  | resolve (p : Path) (rsv : BitVec 28)
  /-- FQ_SET -/
  | fqSet (p : Path) (rsv : BitVec 28)
  /-- XLT_QUERY -/
  | xltQuery (p : Path) (rsv : BitVec 28)
  /-- TENANT_CREATE -/
  | tenantCreate
  /-- TENANT_REMOVE -/
  | tenantRemove
  /-- TENANT_REMOVE_DRAINED -/
  | tenantRemoveDrained (t : BitVec 12)
  /-- KEY_INSTALL -/
  | keyInstall
  /-- KEY_WRAP_RELEASE -/
  | keyWrapRelease
  /-- KEY_ROTATE_JOB -/
  | keyRotateJob
  /-- KEY_ROTATE_PLOT -/
  | keyRotatePlot
  /-- REKEY_DONE -/
  | rekeyDone (h : BitVec 16)
  /-- ROT_GRACE_EXPIRY -/
  | rotGraceExpiry (job : BitVec 20)
  /-- KEY_LIFETIME_EXPIRY -/
  | keyLifetimeExpiry (job : BitVec 20)
  /-- TRANSPORT_KEY_EXPIRY -/
  | transportKeyExpiry (kid : BitVec 16)
  /-- ATTEST_REPORT -/
  | attestReport
  /-- ALLOW_NEW -/
  | allowNew (p : Path) (rsv : BitVec 28)
  /-- ALLOW_ADD -/
  | allowAdd (p : Path) (rsv : BitVec 28)
  /-- ALLOW_FREEZE -/
  | allowFreeze (p : Path) (rsv : BitVec 28)
  /-- ALLOW_FREE -/
  | allowFree (p : Path) (rsv : BitVec 28)
  /-- ALLOW_QUERY -/
  | allowQuery (p : Path) (rsv : BitVec 28)
  /-- KEY_QUERY -/
  | keyQuery (p : Path) (rsv : BitVec 28)
  /-- SLOT_QUERY -/
  | slotQuery (p : Path) (rsv : BitVec 28)
  /-- LOCK -/
  | lock (p : Path) (twin : BitVec 32)
  /-- GET_VERSION -/
  | getVersion (conn : Option (BitVec 13)) (rq : SpdmRequest)
  /-- GET_CAPABILITIES -/
  | getCapabilities (conn : Option (BitVec 13)) (rq : SpdmRequest)
  /-- NEGOTIATE_ALGORITHMS -/
  | negotiateAlgorithms (conn : Option (BitVec 13)) (rq : SpdmRequest)
  /-- GET_DIGESTS -/
  | getDigests (conn : Option (BitVec 13)) (rq : SpdmRequest)
  /-- GET_CERTIFICATE -/
  | getCertificate (conn : Option (BitVec 13)) (rq : SpdmRequest)
  /-- CHALLENGE -/
  | challenge (conn : Option (BitVec 13)) (rq : SpdmRequest)
  /-- GET_MEASUREMENTS -/
  | getMeasurements (conn : Option (BitVec 13)) (rq : SpdmRequest)
  /-- JNL_OPEN -/
  | jnlOpen (p : Path) (rsv : BitVec 28)
  /-- JNL_CLOSE -/
  | jnlClose (p : Path) (rsv : BitVec 28)
  /-- JNL_QUERY -/
  | jnlQuery (p : Path) (rsv : BitVec 28)
  /-- RECORD_STAGE -/
  | recordStage (id : Nat)
  /-- RECORD_COMMIT -/
  | recordCommit (t : BitVec 12) (ok : Bool)
  /-- CHECKPOINT_TIMER -/
  | checkpointTimer (t : BitVec 12)
  /-- JOURNAL_SIGN_NOW -/
  | journalSignNow
  /-- JOURNAL_EXPORT -/
  | journalExport
  /-- CC_FAULT -/
  | ccFault (k : CcFaultKind)
  /-- TAKEOVER_RESUMED -/
  | takeoverResumed (us : BitVec 16)
  /-- WATCHDOG_RESET -/
  | watchdogReset
  /-- CORE_SELFTEST -/
  | coreSelftest (pass : Bool)
  /-- SCHEDULED_SWAP -/
  | scheduledSwap (us : BitVec 16)
  /-- ROLE_SWAP -/
  | roleSwap (us : BitVec 16)
  /-- STANDBY_READY -/
  | standbyReady (pass : Bool)
  /-- FW_STAGE -/
  | fwStage
  /-- FW_ACTIVATE -/
  | fwActivate (us : BitVec 16)
  /-- SPARE_INVOKE_CELL -/
  | spareInvokeCell
  /-- SPARE_INVOKE_PC -/
  | spareInvokePc
  /-- SPARE_INVOKE_ROW -/
  | spareInvokeRow
  /-- SPARE_INVOKE_LANE -/
  | spareInvokeLane
  /-- HORORE_WORD_TIMEOUT -/
  | hororeWordTimeout
  /-- HQ_TX -/
  | hqTx (p : Path) (w : BitVec 64)
  /-- HQ_RX -/
  | hqRx (p : Path)
  /-- CHANNEL_WORD_WRITE -/
  | channelWordWrite (p : Path) (ch : BitVec 12) (w : BitVec 64)
  /-- CHANNEL_WORD_READ -/
  | channelWordRead (p : Path) (ch : BitVec 12)
  /-- CH_CFG -/
  | chCfg (p : Path) (v : BitVec 32)
  /-- BAR4_ACCESS -/
  | bar4Access (off : BitVec 36) (len : Nat) (wr : Option (List (BitVec 8)))
  /-- FUNCTION_LEVEL_RESET -/
  | functionLevelReset
  /-- UPSTREAM_LINK_DOWN -/
  | upstreamLinkDown
  /-- ENTDAA -/
  | entdaa (a : BitVec 7)
  /-- SETDASA -/
  | setdasa (st : BitVec 7) (a : BitVec 7)
  /-- I3C_PRIVATE_WRITE -/
  | i3cPrivateWrite (addr : BitVec 32) (v : BitVec 32)
  /-- I3C_PRIVATE_READ -/
  | i3cPrivateRead (addr : BitVec 32)
  /-- RECOVER -/
  | recover (p : Path) (cc : Bool)
  /-- FIRMWARE_BOOT_LOAD -/
  | firmwareBootLoad (cc0Ok : Bool) (cc1Ok : Bool)
  /-- PLATFORM_RESET -/
  | platformReset (cause : BitVec 8) (detail : BitVec 16)
  /-- INTERNAL_RESET_RELEASE -/
  | internalResetRelease (bootSrc : BitVec 2) (clkMode : BitVec 2) (dlySel : BitVec 3)
  /-- PLAT_RST_IN_N -/
  | platRstInN (ev : PinEvent)
  /-- PERST -/
  | perst (asserted : Bool)
  /-- PLAT_RST -/
  | platRst (p : Path) (twin : BitVec 32)
  /-- XTAL_CHECK_WINDOW -/
  | xtalCheckWindow (count : BitVec 24)
  /-- XTAL_FAIL -/
  | xtalFail
  /-- FORERUNNER_DELAY_EXPIRY -/
  | forerunnerDelayExpiry
  /-- ROOT_PLL_LOCK -/
  | rootPllLock
  /-- CLOCK_LOST -/
  | clockLost
  /-- RAMP_STEP -/
  | rampStep (k : ClkDomain)
  /-- ENTER_PS1 -/
  | enterPs1 (p : Path)
  /-- ENTER_PS2 -/
  | enterPs2 (p : Path)
  /-- ENTER_PS3 -/
  | enterPs3 (p : Path)
  /-- RETURN_PS0 -/
  | returnPs0 (p : Path)
  /-- PS2_ENTRY_COMPLETE -/
  | ps2EntryComplete (dur : BitVec 16)
  /-- PS2_EXIT_COMPLETE -/
  | ps2ExitComplete (dur : BitVec 16)
  /-- PS3_ENTRY_COMPLETE -/
  | ps3EntryComplete
  /-- WAKE_N -/
  | wakeN (ev : PinEvent)
  /-- WAKE_MASK_RELEASE -/
  | wakeMaskRelease
  /-- THERM_ALERT_N -/
  | thermAlertN (ev : PinEvent)
  /-- THERM_HOLD_END -/
  | thermHoldEnd
  /-- THROTTLE_STEP -/
  | throttleStep (logic : BitVec 8) (stack : BitVec 8)
  /-- THERMAL_TRIP -/
  | thermalTrip (sensor : BitVec 6)
  /-- DVFS -/
  | dvfs (p : Path) (v : BitVec 32)
  /-- PMBUS_POLL -/
  | pmbusPoll (hub : BitVec 32) (bed : BitVec 32) (watts : BitVec 16) (fault : Bool)
  /-- STK_PG_FALL -/
  | stkPgFall
  /-- SRST -/
  | srst (p : Path) (page : BitVec 14)
  /-- CRITICAL_WRITE -/
  | criticalWrite (p : Path) (off : BitVec 26) (v : BitVec 32)
  /-- TWIN_WRITE -/
  | twinWrite (p : Path) (off : BitVec 26) (v : BitVec 32)
  /-- PAIR_COMMIT -/
  | pairCommit (p : Path) (off : BitVec 26) (v : BitVec 32)
  /-- LATCHING_READ -/
  | latchingRead (p : Path) (off : BitVec 26)
  /-- READ_CLEAR -/
  | readClear (p : Path) (off : BitVec 27)
  /-- IRQ_STATUS_WRITE -/
  | irqStatusWrite (p : Path) (page : BitVec 14) (v : BitVec 32)
  /-- IRQ_ENABLE_WRITE -/
  | irqEnableWrite (p : Path) (page : BitVec 14) (v : BitVec 32)
  /-- IRQ_FORCE -/
  | irqForce (p : Path) (page : BitVec 14) (v : BitVec 32)
  /-- REGISTER_WRITE -/
  | registerWrite (p : Path) (off : BitVec 27) (size : Nat) (v : BitVec 64)
  /-- STANDBY_FAULT -/
  | standbyFault (k : CcFaultKind)
  /-- PARTNER_SIGNAL_DETECT -/
  | partnerSignalDetect (l : LinkNo)
  /-- LANE_POWER_GOOD -/
  | lanePowerGood (die : BitVec 3)
  /-- TIER_REKEY_BLOCK -/
  | tierRekeyBlock (h : BitVec 16)
  /-- DEALLOCATE_COMPLETE -/
  | deallocateComplete (slot : BitVec 23)
  /-- DRIVE_COMMAND_TIMEOUT -/
  | driveCommandTimeout (d : BitVec 4)
  /-- STAGING_TIMEOUT -/
  | stagingTimeout (id : Nat)
  /-- PWR_FAIL_N_RELEASE -/
  | pwrFailNRelease
  /-- VBAT_LOW -/
  | vbatLow
  /-- STK_PG_RISE -/
  | stkPgRise (late : Bool)
  /-- STACK_HOT -/
  | stackHot (st : BitVec 5) (temp : BitVec 8)
  deriving DecidableEq, Repr

end Sys2Proof
end

