-- ==== Sys2Proof/Decode.lean ====
section
/-! DEFINITION. Decode. spec/opcode_table.json gives no row any bits: a command is an event at the block's boundary or a
step of an engine, not a word. No word spells a command. -/

namespace Sys2Proof

/-- The command that a word spells by the table's bits: none, since no row has bits. -/
def decodeTableWord (_nbits _w : Nat) : Option Instr := none

end Sys2Proof
end

