-- ==== Sys2Proof/Data/Cells.lean ====
section
/-! DEFINITION. What the cells, their threads, the trellis and the kernel store hold (03_cells_and_threads.md and the
architectural state of 04_jexkai_isa.md and 05_arithmetic.md). -/

namespace Sys2Proof

/-- The value of an accumulator (R143): a number counted in units of 2^-320, an infinity or a NaN. -/
inductive AccVal where
  | fin (n : Int)
  | inf (neg : Bool)
  | nan
  deriving DecidableEq, Repr

/-- The states of Table 03-3. -/
inductive CellState where
  | selftest | spare | free | bound | lent | purging | failed
  deriving DecidableEq, Repr

/-- What a tile of a copy waits for (R112, R118): nothing, a fault, or a READY. -/
inductive TileWait where
  | go | fault (fid : Nat) | defer (token : BitVec 16)
  deriving DecidableEq, Repr

/-- A tile of a copy instruction that is outstanding (R117): the number of its copy, its direction, tile and scratchpad
address, whether it has been copied and what it waits for. -/
structure TileCopy where
  id      : Nat
  put     : Bool
  tile    : Nat
  scratch : Nat
  done    : Bool
  wait    : TileWait
  deriving DecidableEq, Repr

/-- A furrow (R116 to R118): its four parameters, the copies outstanding with the number of the next
one, the tiles below which every one has been requested or passed (R341), and the trap (cause, detail, TVA) that the next furrow instruction raises. -/
structure Furrow where
  isSet  : Bool := false
  base   : BitVec 57 := 0
  tile   : W32 := 0
  count  : W32 := 0
  stride : W64 := 0
  copies : List TileCopy := []
  next   : Nat := 0
  high   : Nat := 0
  trap   : Option (Nat × Nat × W64) := none
  deriving DecidableEq, Repr

/-- What a thread is doing: ready to issue, waiting (R63, R112), ended by EXIT or stopped by a trap. -/
inductive ThreadRun where
  | ready
  | barG
  | barJ (n : BitVec 3)
  | furrow
  | fault (fid : Nat) (tva : W64)
  | defer (token : BitVec 16)
  | notify
  | exited
  | stopped
  deriving DecidableEq, Repr

/-- A thread's architectural state, Table 04-1, with what it is doing and whether it holds a hardware context (R63).
Registers that are not listed are zero (R97). `since` gives the order in which threads became ready (R63). -/
structure Thread where
  s      : List (Nat × W64) := []
  v      : List (Nat × BitVec 2048) := []
  m      : List (Nat × BitVec 256) := []
  pc     : BitVec 24 := 0
  flags  : BitVec 5 := 0
  trap   : BitVec 128 := 0
  f0     : Furrow := {}
  f1     : Furrow := {}
  run    : ThreadRun := .ready
  resident : Bool := false
  since  : Nat := 0
  deriving DecidableEq, Repr

/-- One cell. `bind` and `bindC` are the stored binding word and its stored complement (R75). Threads are keyed by
group * 64 + number, accumulators by group * 16 + index. `accBank` holds the groups in the bank, least recently used
first, `accOwner` the thread that allocated each group (R71, R124). `cmd` is the engine command the cell works for, and `part` the part index
and part count of a LENT cell (R130). -/
structure Cell where
  state  : CellState := .selftest
  cause  : BitVec 8 := 0
  bind   : W64 := 0
  bindC  : W64 := 0
  threads : List (Nat × Thread) := []
  scratch : List (Nat × Byte) := []
  accs   : List (Nat × AccVal) := []
  accOwner : List (Nat × Nat) := []
  accBank : List Nat := []
  cmd    : Option Nat := none
  part   : Nat × Nat := (0, 0)
  deriving DecidableEq, Repr

/-- A job (R78): the tenant it belongs to, what it was bound with, positions lost with their beds
(R77, R85), and the KERNEL command it runs. -/
structure Job where
  tenant : BitVec 12
  groups : Nat := 0
  scrMib : Nat := 0
  accGroups : Nat := 0
  replay : Bool := false
  lost   : List (Nat × Nat) := []
  kernel : Option Nat := none
  deriving DecidableEq, Repr

/-- A kernel slot (R81, R82). -/
structure KSlot where
  job   : BitVec 20
  image : Bytes
  hash  : BitVec 512
  deriving DecidableEq, Repr

/-- A KLOAD in progress (R81): its slot and arguments, and the fault it waits for (R342). -/
structure KLoadRun where
  slot : Nat
  job  : BitVec 20
  tva  : BitVec 57
  len  : Nat
  dead : Bool
  fault : Option Nat
  deriving DecidableEq, Repr

/-- A substitution whose spare runs its quick self-test (R83): the failed cell, the state and binding it passes on. -/
structure SubstRun where
  failed : Nat
  spare  : Nat
  toBound : Bool
  bind   : W64
  byCmd  : Bool
  deriving DecidableEq, Repr

end Sys2Proof
end

