-- ==== Sys2Proof/Machine/Flags.lean ====
section
/-! DEFINITION. The sticky flags of a thread (Table 04-1, Table 05-8): NV, DZ, OF, UF and NX from bit 4 down, as FLAGS returns
them. -/

namespace Sys2Proof.Machine

/-- A set of flags. -/
abbrev Fl := BitVec 5

def flNone : Fl := 0
def flNV : Fl := 16
def flDZ : Fl := 8
def flOF : Fl := 4
def flUF : Fl := 2
def flNX : Fl := 1

/-- A flag under a condition. -/
def flIf (b : Bool) (f : Fl) : Fl := if b then f else 0

/-- The flags that any of several results set (R160). -/
def flAll (l : List Fl) : Fl := l.foldl (· ||| ·) 0

end Sys2Proof.Machine
end

