-- ==== Sys2Proof/Machine/Tables.lean ====
section
/-! DEFINITION. Sparse tables and bit fields. A table of the device is a list of (key, value) pairs in rising order of the
keys; a key that is not listed reads as a default that the caller names. Setting a key to that default removes it, so two
tables that read alike are the same list. -/

namespace Sys2Proof.Machine

/-- The value listed under a key. -/
def Tab.find? {α : Type} : List (Nat × α) → Nat → Option α
  | [], _ => none
  | (k', v) :: l, k => if k' = k then some v else Tab.find? l k

/-- The value under a key, `d` where none is listed. -/
def Tab.get {α : Type} (d : α) (l : List (Nat × α)) (k : Nat) : α :=
  (Tab.find? l k).getD d

/-- Remove a key. -/
def Tab.del {α : Type} : List (Nat × α) → Nat → List (Nat × α)
  | [], _ => []
  | (k', v) :: l, k => if k' = k then Tab.del l k else (k', v) :: Tab.del l k

/-- Insert before the first larger key. -/
def Tab.ins {α : Type} (k : Nat) (v : α) : List (Nat × α) → List (Nat × α)
  | [] => [(k, v)]
  | (k', v') :: l => if k < k' then (k, v) :: (k', v') :: l else (k', v') :: Tab.ins k v l

/-- List a value under a key. -/
def Tab.put {α : Type} (l : List (Nat × α)) (k : Nat) (v : α) : List (Nat × α) :=
  Tab.ins k v (Tab.del l k)

/-- Set a key whose unlisted value is `d`. -/
def Tab.set {α : Type} [DecidableEq α] (d : α) (l : List (Nat × α)) (k : Nat) (v : α) : List (Nat × α) :=
  if v = d then Tab.del l k else Tab.put l k v

/-- Change the value under a key whose unlisted value is `d`. -/
def Tab.upd {α : Type} [DecidableEq α] (d : α) (l : List (Nat × α)) (k : Nat) (f : α → α) : List (Nat × α) :=
  Tab.set d l k (f (Tab.get d l k))

/-- Whether a key is listed. -/
def Tab.has {α : Type} (l : List (Nat × α)) (k : Nat) : Bool := (Tab.find? l k).isSome

/-- The keys rise strictly. -/
def Tab.sorted {α : Type} : List (Nat × α) → Bool
  | [] => true
  | [_] => true
  | a :: b :: l => decide (a.1 < b.1) && Tab.sorted (b :: l)

/-- Change the member of a list at a position. -/
def modAt {α : Type} (f : α → α) : List α → Nat → List α
  | [], _ => []
  | a :: l, 0 => f a :: l
  | a :: l, n + 1 => a :: modAt f l n

/-- The `len` bits of `n` from bit `lo`. -/
def fieldOf (n lo len : Nat) : Nat := (n >>> lo) % 2 ^ len

/-- Bit `b` of `n`. -/
def bitOf (n b : Nat) : Bool := n.testBit b

/-- `w` with its `len` bits from bit `lo` replaced by the low bits of `v`. -/
def withField (w : W32) (lo len v : Nat) : W32 :=
  BitVec.ofNat 32 (w.toNat - fieldOf w.toNat lo len * 2 ^ lo + (v % 2 ^ len) * 2 ^ lo)

/-- 0 or 1. -/
def ofBool (b : Bool) : Nat := if b then 1 else 0

/-- The little-endian value of a byte string (R4). -/
def leNat : Bytes → Nat
  | [] => 0
  | b :: l => b.toNat + 256 * leNat l

/-- The `n` bytes of a value, little-endian (R4). -/
def leBytes : Nat → Nat → Bytes
  | 0, _ => []
  | n + 1, v => BitVec.ofNat 8 v :: leBytes n (v / 256)

/-- The lowest number from `a` on, of `fuel` numbers, that satisfies `p`. -/
def firstFrom (p : Nat → Bool) : Nat → Nat → Option Nat
  | 0, _ => none
  | fuel + 1, a => if p a then some a else firstFrom p fuel (a + 1)

/-- Add up to a bound (saturating counters). -/
def satAdd (a b bound : Nat) : Nat := if a + b > bound then bound else a + b

/-- Insert into a list of numbers in rising order without repeats. -/
def insNat (n : Nat) : List Nat → List Nat
  | [] => [n]
  | m :: l => if n < m then n :: m :: l else if n = m then m :: l else m :: insNat n l

end Sys2Proof.Machine
end

