-- ==== Sys2Proof/Machine/NumFmt.lean ====
section
/-! DEFINITION. Number formats and exact arithmetic (05_arithmetic.md): element formats, exact values, the one rounding with
its special results and flags, conversion to MX blocks, the exact accumulator and the transcendentals. -/

namespace Sys2Proof.Machine

/-! ### Exact values -/

/-- A value: (-1)^neg * m * 2^e, an infinity, or NaN. -/
inductive Val where
  | fin (neg : Bool) (m : Nat) (e : Int)
  | inf (neg : Bool)
  | nan
  deriving DecidableEq, Repr

/-- The exponent of the leading one. -/
def msb (m : Nat) : Nat := m.log2

/-- Compare a * 2^ea with b * 2^eb. -/
def cmpPow (a : Nat) (ea : Int) (b : Nat) (eb : Int) : Ordering :=
  if ea ≤ eb then compare a (b * 2 ^ (eb - ea).toNat) else compare (a * 2 ^ (ea - eb).toNat) b

/-- The signed mantissa at exponent `t`, which is at most `e`. -/
def alignInt (neg : Bool) (m : Nat) (e t : Int) : Int :=
  let n : Int := (m * 2 ^ (e - t).toNat : Nat)
  if neg then -n else n

def Val.isNan : Val → Bool
  | .nan => true
  | _ => false

def Val.isZero : Val → Bool
  | .fin _ m _ => m == 0
  | _ => false

def Val.neg : Val → Bool
  | .fin n _ _ => n
  | .inf n => n
  | .nan => false

/-! ### Formats (Table 05-1, Table 04-4) -/

/-- A floating-point element format. `kmax` * 2^`qmax` is its largest finite value; `nan4` marks E4M3, whose one NaN code
is all ones. -/
structure FFmt where
  ebits : Nat
  mbits : Nat
  bias : Nat
  hasInf : Bool
  hasNan : Bool
  nan4 : Bool
  kmax : Nat
  qmax : Int
  deriving DecidableEq, Repr

def FFmt.p (f : FFmt) : Nat := f.mbits + 1
def FFmt.emin (f : FFmt) : Int := 1 - (f.bias : Int)

/-- The format of codes 0x0 to 0x9. -/
def ffmt (code : Nat) : FFmt :=
  match code with
  | 0 => ⟨8, 23, 127, true, true, false, 2 ^ 24 - 1, 104⟩
  | 1 => ⟨5, 10, 15, true, true, false, 2047, 5⟩
  | 2 => ⟨8, 7, 127, true, true, false, 255, 120⟩
  | 3 => ⟨4, 3, 7, false, true, true, 14, 5⟩
  | 4 => ⟨5, 2, 15, true, true, false, 7, 13⟩
  | 5 => ⟨4, 3, 7, false, true, true, 14, 5⟩
  | 6 => ⟨5, 2, 15, true, true, false, 7, 13⟩
  | 7 => ⟨3, 2, 3, false, false, false, 7, 2⟩
  | 8 => ⟨2, 3, 1, false, false, false, 15, -1⟩
  | _ => ⟨2, 1, 1, false, false, false, 3, 1⟩

def isIntFmt (code : Nat) : Bool := 10 ≤ code && code ≤ 13
def isMxFmt (code : Nat) : Bool := 5 ≤ code && code ≤ 9
def validFmt (code : Nat) : Bool := code ≤ 13

/-- Element bits (Table 04-4). -/
def fmtBits (code : Nat) : Nat :=
  ([32, 16, 16, 8, 8, 8, 8, 6, 6, 4, 8, 4, 32, 64][code]?).getD 32

/-- Distance between elements in a register: a 6-bit element fills a byte (R102). -/
def fmtStride (code : Nat) : Nat := if fmtBits code == 6 then 8 else fmtBits code

/-- Elements per register. -/
def fmtCount (code : Nat) : Nat := 2048 / fmtStride code

/-- The value of a floating-point element (R138). -/
def decodeFloat (f : FFmt) (c : Nat) : Val :=
  let neg := c.testBit (f.ebits + f.mbits)
  let ex := fieldOf c f.mbits f.ebits
  let mn := fieldOf c 0 f.mbits
  let ones := ex == 2 ^ f.ebits - 1
  if f.nan4 && ones && mn == 2 ^ f.mbits - 1 then .nan
  else if !f.nan4 && f.hasNan && ones && mn != 0 then .nan
  else if f.hasInf && ones && mn == 0 then .inf neg
  else if ex == 0 then .fin neg mn (f.emin - f.mbits)
  else .fin neg (2 ^ f.mbits + mn) ((ex : Int) - f.bias - f.mbits)

/-- Multiply by a block scale (R139). -/
def scaleVal (c : Nat) : Val → Val
  | .fin n m e => if c == 255 then .nan else .fin n m (e + (c : Int) - 127)
  | .inf n => if c == 255 then .nan else .inf n
  | .nan => .nan

/-- The signed value of a w-bit pattern. -/
def toSigned (w n : Nat) : Int :=
  if n % 2 ^ w ≥ 2 ^ (w - 1) then (n % 2 ^ w : Int) - (2 ^ w : Nat) else (n % 2 ^ w : Nat)

/-- The w-bit pattern of an integer. -/
def ofSigned (w : Nat) (i : Int) : Nat := (i % (2 ^ w : Nat)).toNat

def intVal (i : Int) : Val := .fin (decide (i < 0)) i.natAbs 0

/-- The value of an element of any format, with its block scale for an MX one. -/
def decodeElem (code scale c : Nat) : Val :=
  if isIntFmt code then intVal (toSigned (fmtBits code) c)
  else if isMxFmt code then scaleVal scale (decodeFloat (ffmt code) c)
  else decodeFloat (ffmt code) c

/-- The canonical NaN of a format (Table 05-2). -/
def canonNan (code : Nat) : Nat :=
  match code with
  | 0 => 0x7FC00000
  | 1 => 0x7E00
  | 2 => 0x7FC0
  | 3 => 0x7F
  | 5 => 0x7F
  | 4 => 0x7E
  | 6 => 0x7E
  | _ => 0

/-! ### Rounding once (R151, R152, R153) -/

/-- Rounding modes: RNE, RTZ, RU, RD. -/
abbrev Rm := Nat

/-- Whether the kept magnitude goes up. -/
def roundUp (rm : Rm) (neg : Bool) (k rest half : Nat) : Bool :=
  match rm with
  | 0 => decide (half < rest) || (rest == half && k % 2 == 1)
  | 2 => rest != 0 && !neg
  | 3 => rest != 0 && neg
  | _ => false

/-- m * 2^e with its last kept bit at exponent q: kept magnitude and whether it is inexact. -/
def roundAt (rm : Rm) (neg : Bool) (m : Nat) (e q : Int) : Nat × Bool :=
  if q ≤ e then (m * 2 ^ (e - q).toNat, false)
  else
    let sh := (q - e).toNat
    let k := m / 2 ^ sh
    let rest := m % 2 ^ sh
    (k + ofBool (roundUp rm neg k rest (2 ^ (sh - 1))), rest != 0)

/-- What round_float gives: kept magnitude k at exponent q, inexact, overflow. -/
structure Rounded where
  k : Nat
  q : Int
  inexact : Bool
  overflow : Bool
  deriving DecidableEq, Repr

def roundFloat (f : FFmt) (rm : Rm) (neg : Bool) (m : Nat) (e : Int) : Rounded :=
  if m == 0 then ⟨0, f.emin - f.mbits, false, false⟩
  else
    let lead := (msb m : Int) + e
    let q := (if lead < f.emin then f.emin else lead) - f.mbits
    let (k, ix) := roundAt rm neg m e q
    ⟨k, q, ix, cmpPow k q f.kmax f.qmax == .gt⟩

/-- The encoding of a magnitude that the format holds (R138). -/
def encodeMag (f : FFmt) (neg : Bool) (k : Nat) (q : Int) : Nat :=
  let s := ofBool neg * 2 ^ (f.ebits + f.mbits)
  let (k1, q1) := if k == 2 ^ f.p then (2 ^ f.mbits, q + 1) else (k, q)
  if k1 < 2 ^ f.mbits then s + k1
  else s + (q1 + f.mbits + f.bias).toNat * 2 ^ f.mbits + (k1 - 2 ^ f.mbits)

/-- The largest finite value's code. -/
def maxCode (f : FFmt) (neg : Bool) : Nat := encodeMag f neg f.kmax f.qmax

/-- The infinity's code. -/
def infCode (f : FFmt) (neg : Bool) : Nat :=
  ofBool neg * 2 ^ (f.ebits + f.mbits) + (2 ^ f.ebits - 1) * 2 ^ f.mbits

/-- NX and UF of a rounded result (R152). -/
def roundFlags (f : FFmt) (r : Rounded) : Fl :=
  flIf r.inexact flNX ||| flIf (r.inexact && cmpPow r.k r.q 1 f.emin == .lt) flUF

/-- Round to a floating-point format that is not MX: code and flags (Table 05-5). -/
def roundTo (code : Nat) (rm : Rm) (sat : Bool) (v : Val) : Nat × Fl :=
  let f := ffmt code
  match v with
  | .nan => (canonNan code, flNone)
  | .inf n =>
    if code == 3 then (if sat then maxCode f n else canonNan 3, flNV)
    else if sat then (maxCode f n, flNV) else (infCode f n, flNone)
  | .fin n m e =>
    let r := roundFloat f rm n m e
    if r.overflow then
      let c := if sat then maxCode f n else if code ≤ 2 then infCode f n else canonNan code
      (c, flOF ||| flNX)
    else (encodeMag f n r.k r.q, roundFlags f r)

/-- Largest and smallest integers of a width. -/
def maxInt (w : Nat) : Int := (2 ^ (w - 1) : Nat) - 1
def minInt (w : Nat) : Int := -(2 ^ (w - 1) : Nat)

/-- An integer into a width: wrapped, or saturated. -/
def narrowInt (w : Nat) (sat : Bool) (i : Int) : Nat :=
  if sat then ofSigned w (if i > maxInt w then maxInt w else if i < minInt w then minInt w else i)
  else ofSigned w i

/-- Round to an integer of w bits: code and flags (R153, Table 05-5). -/
def roundInt (w : Nat) (rm : Rm) (sat : Bool) (v : Val) : Nat × Fl :=
  match v with
  | .nan => (0, flNV)
  | .inf n => (ofSigned w (if n then minInt w else maxInt w), flNV)
  | .fin n m e =>
    let (k, ix) := roundAt rm n m e 0
    let i : Int := if n then -(k : Int) else k
    let out := i > maxInt w || i < minInt w
    (narrowInt w sat i, flIf out flNV ||| flIf ix flNX)

/-- Round to any format that is not MX. -/
def roundElem (code : Nat) (rm : Rm) (sat : Bool) (v : Val) : Nat × Fl :=
  if isIntFmt code then roundInt (fmtBits code) rm sat v else roundTo code rm sat v

/-! ### Conversion to an MX block (R158) -/

/-- Whether a finite value overflows under a scale of 2^x. -/
def mxOver (f : FFmt) (rm : Rm) (x : Int) (v : Val) : Bool :=
  match v with
  | .fin n m e => m != 0 && (roundFloat f rm n m (e - x)).overflow
  | _ => false

/-- The smallest scale exponent, counted from -127, under which no finite value overflows; 255 when there is none. -/
def mxScale (f : FFmt) (rm : Rm) (vs : List Val) : Nat :=
  ((List.range 255).find? (fun (i : Nat) => !vs.any (mxOver f rm ((i : Int) - 127)))).getD 255

/-- One element's code under a scale of 2^x, with its flags. -/
def mxCode (code : Nat) (rm : Rm) (x : Int) (v : Val) : Nat × Fl :=
  let f := ffmt code
  match v with
  | .nan => (0, flNone)
  | .inf n => if f.hasInf then (infCode f n, flNone) else (maxCode f n, flNV)
  | .fin n m e =>
    let r := roundFloat f rm n m (e - x)
    if r.overflow then (maxCode f n, flOF ||| flNX) else (encodeMag f n r.k r.q, roundFlags f r)

/-- mx_quantise of a block: scale, codes and flags. An element that takes no part is `none` and is written as code 0. -/
def mxQuantise (code : Nat) (rm : Rm) (sat : Bool) (vs : List (Option Val)) : Nat × List Nat × Fl :=
  let f := ffmt code
  let live := vs.filterMap id
  let bad (fl : Fl) : Nat × List Nat × Fl := (255, vs.map (fun _ => 0), fl)
  let isInf (v : Val) : Bool := match v with
    | .inf _ => true
    | _ => false
  if live.any Val.isNan then bad flNone
  else if live.any isInf && !f.hasInf && !sat then bad flNV
  else
    let allZero := live.all (fun v => isInf v || v.isZero)
    let i := if allZero then 127 else mxScale f rm live
    if i == 255 && !sat then bad (flOF ||| flNX)
    else
      let i := if i == 255 then 254 else i
      let rs := vs.map (fun o => match o with
        | some v => mxCode code rm ((i : Int) - 127) v
        | none => (0, flNone))
      (i, rs.map (·.1), flAll (rs.map (·.2)))

/-! ### Exact operations (R154, R155) -/

/-- A product: NaN from zero times an infinity sets NV. -/
def vMul (a b : Val) : Val × Fl :=
  match a, b with
  | .nan, _ => (.nan, flNone)
  | _, .nan => (.nan, flNone)
  | .inf n, y => if y.isZero then (.nan, flNV) else (.inf (n != y.neg), flNone)
  | x, .inf n => if x.isZero then (.nan, flNV) else (.inf (n != x.neg), flNone)
  | .fin n1 m1 e1, .fin n2 m2 e2 => (.fin (n1 != n2) (m1 * m2) (e1 + e2), flNone)

/-- A sum; an exact zero is -0 when both terms are -0, and otherwise +0, or -0 in RD. -/
def vAdd (rm : Rm) (a b : Val) : Val × Fl :=
  match a, b with
  | .nan, _ => (.nan, flNone)
  | _, .nan => (.nan, flNone)
  | .inf n1, .inf n2 => if n1 == n2 then (.inf n1, flNone) else (.nan, flNV)
  | .inf n, _ => (.inf n, flNone)
  | _, .inf n => (.inf n, flNone)
  | .fin n1 m1 e1, .fin n2 m2 e2 =>
    let t := if e1 ≤ e2 then e1 else e2
    let s := alignInt n1 m1 e1 t + alignInt n2 m2 e2 t
    if s == 0 then
      let both := m1 == 0 && m2 == 0 && n1 && n2
      (.fin (both || rm == 3) 0 t, flNone)
    else (.fin (decide (s < 0)) s.natAbs t, flNone)

def vNeg : Val → Val
  | .fin n m e => .fin (!n) m e
  | .inf n => .inf (!n)
  | .nan => .nan

def vAbs : Val → Val
  | .fin _ m e => .fin false m e
  | .inf _ => .inf false
  | .nan => .nan

/-- a × b + c with one rounding to come. -/
def vFma (rm : Rm) (a b c : Val) : Val × Fl :=
  let (p, f1) := vMul a b
  let (r, f2) := vAdd rm p c
  (r, if c.isNan || a.isNan || b.isNan then flNone else f1 ||| f2)

/-- Order of two values that are not NaN; zeros are equal. -/
def vCmp (a b : Val) : Ordering :=
  match a, b with
  | .inf n1, .inf n2 => if n1 == n2 then .eq else if n1 then .lt else .gt
  | .inf n, _ => if n then .lt else .gt
  | _, .inf n => if n then .gt else .lt
  | .fin n1 m1 e1, .fin n2 m2 e2 =>
    let t := if e1 ≤ e2 then e1 else e2
    compare (alignInt n1 m1 e1 t) (alignInt n2 m2 e2 t)
  | _, _ => .eq

/-- Order with -0 below +0, for minima and maxima. -/
def vCmpZ (a b : Val) : Ordering :=
  match vCmp a b with
  | .eq => if a.neg == b.neg then .eq else if a.neg then .lt else .gt
  | o => o

def vMin (a b : Val) : Val := if a.isNan || b.isNan then .nan else if vCmpZ b a == .lt then b else a
def vMax (a b : Val) : Val := if a.isNan || b.isNan then .nan else if vCmpZ b a == .gt then b else a

/-! ### The accumulator (R143 to R150) -/

/-- A finite value in units of 2^-320. -/
def accUnits (neg : Bool) (m : Nat) (e : Int) : Int :=
  let n : Nat := if e + 320 ≥ 0 then m * 2 ^ (e + 320).toNat else m / 2 ^ (-(e + 320)).toNat
  if neg then -(n : Int) else n

def accOf : Val → AccVal
  | .fin n m e => .fin (accUnits n m e)
  | .inf n => .inf n
  | .nan => .nan

def accVal : AccVal → Val
  | .fin n => .fin (decide (n < 0)) n.natAbs (-320)
  | .inf n => .inf n
  | .nan => .nan

/-- The finite range of Table 05-3. -/
def accInRange (n : Int) : Bool := decide (-(2 ^ 638 : Nat) ≤ n) && decide (n < (2 ^ 638 : Nat))

/-- Join two accumulator values (R147, cases 1 to 3). -/
def accJoin : AccVal → AccVal → AccVal
  | .nan, _ => .nan
  | _, .nan => .nan
  | .inf a, .inf b => if a == b then .inf a else .nan
  | .inf a, .fin _ => .inf a
  | .fin _, .inf a => .inf a
  | .fin a, .fin b => .fin (a + b)

def AccVal.isNan : AccVal → Bool
  | .nan => true
  | _ => false

/-- Accumulate contributions: the new value, none when it leaves the range (R148), and NV (R147). `nanIn` says that an
input element was NaN. -/
def accumulate (a : AccVal) (cs : List AccVal) (nanIn : Bool) : Option (AccVal × Fl) :=
  let r := cs.foldl accJoin a
  match r with
  | .fin n => if accInRange n then some (.fin n, flNone) else none
  | .inf n => some (.inf n, flNone)
  | .nan => some (.nan, flIf (!AccVal.isNan a && !nanIn) flNV)

/-- The 640-bit word (Table 05-3). -/
def accWord : AccVal → Nat
  | .fin n => ofSigned 640 n
  | .inf false => 2 ^ 638
  | .inf true => 2 ^ 639
  | .nan => 2 ^ 638 + 2 ^ 637

/-- The value of a 640-bit word; none when it is malformed (R145). -/
def accOfWord (w : Nat) : Option AccVal :=
  if w == 2 ^ 638 then some (.inf false)
  else if w == 2 ^ 639 then some (.inf true)
  else if w == 2 ^ 638 + 2 ^ 637 then some .nan
  else if fieldOf w 638 2 == 0 || fieldOf w 638 2 == 3 then some (.fin (toSigned 640 w)) else none

/-- An accumulator negated; none for ACC_RANGE (R150). -/
def accNeg : AccVal → Option AccVal
  | .fin n => if accInRange (-n) then some (.fin (-n)) else none
  | .inf n => some (.inf (!n))
  | .nan => some .nan

/-- A value taken out of an accumulator: an exact zero is negative in RD only (R151). -/
def accOut (rm : Rm) (a : AccVal) : Val :=
  match a with
  | .fin n => if n == 0 then .fin (rm == 3) 0 (-320) else accVal a
  | _ => accVal a

/-! ### Transcendentals (R159) -/

/-- Floor of the square root, by the low `n` bits of the answer. -/
def isqrt (x : Nat) : Nat → Nat → Nat
  | 0, r => r
  | n + 1, r => if (r + 2 ^ n) * (r + 2 ^ n) ≤ x then isqrt x n (r + 2 ^ n) else isqrt x n r

/-- A value known to lie strictly above q * 2^e and below the next multiple, or to equal it. -/
def sticky (neg : Bool) (q : Nat) (exact : Bool) (e : Int) : Val := .fin neg (2 * q + ofBool (!exact)) (e - 1)

def rcpVal (neg : Bool) (m : Nat) (e : Int) : Val :=
  let n := 64 + msb m
  sticky neg (2 ^ n / m) (2 ^ n % m == 0) (-e - n)

def rsqrtVal (m : Nat) (e : Int) : Val :=
  let (m1, e1) := if e % 2 == 0 then (m, e) else (2 * m, e - 1)
  let n := 64 + msb m1
  let s := isqrt (2 ^ (2 * n) / m1) (n + 1) 0
  sticky false s (s * s * m1 == 2 ^ (2 * n)) (-(e1 / 2) - n)

/-- Fixed-point bits below the point in the evaluation of LOG2 and EXP2. -/
def transP : Nat := 400

/-- The next `n` fraction bits of log2 y, for y in [1, 2) in fixed point. -/
def logBits : Nat → Nat → Nat → Nat
  | 0, _, acc => acc
  | n + 1, y, acc =>
    let y2 := y * y / 2 ^ transP
    if y2 ≥ 2 ^ (transP + 1) then logBits n (y2 / 2) (2 * acc + 1) else logBits n y2 (2 * acc)

def log2Val (m : Nat) (e : Int) : Val :=
  let b := msb m
  let i : Int := b + e
  if m == 2 ^ b then intVal i
  else
    let y := m * 2 ^ transP / 2 ^ b
    let fr := logBits 160 y 0
    -- the exact value lies strictly between t and t + 1 in units of 2^-160
    let t : Int := i * (2 ^ 160 : Nat) + fr
    if t < 0 then sticky true (t.natAbs - 1) false (-160) else sticky false t.toNat false (-160)

/-- 2^f for the fraction bits of f from bit `i` down (`i` bits left), with the root 2^(2^-j) in fixed point. -/
def expBits (f : Nat) : Nat → Nat → Nat → Nat
  | 0, _, acc => acc
  | i + 1, root, acc =>
    let r := isqrt (root * 2 ^ transP) (transP + 2) 0
    expBits f i r (if f.testBit i then acc * r / 2 ^ transP else acc)

/-- 2^x. Arguments so large or small that the result over- or underflows stand for themselves. -/
def exp2Val (neg : Bool) (m : Nat) (e : Int) : Val :=
  if cmpPow m e 200 0 == .gt then (if neg then sticky false 0 false (-400) else .fin false 1 200)
  else
    -- x in units of 2^-160
    let x : Int := alignInt neg m e (-160)
    let n := x / (2 ^ 160 : Nat)
    let f := (x % (2 ^ 160 : Nat)).toNat
    if f == 0 then .fin false 1 n
    else sticky false (expBits f 160 (2 * 2 ^ transP) (2 ^ transP)) false (n - transP)

/-- The four functions on an FP32 value: exact value, or a listed special result with its flag (Table 05-7). -/
inductive Trans where
  | exp2 | log2 | rcp | rsqrt
  deriving DecidableEq, Repr

def transEval (t : Trans) (v : Val) : Val × Fl :=
  match t, v with
  | _, .nan => (.nan, flNone)
  | .exp2, .inf n => (if n then .fin false 0 0 else .inf false, flNone)
  | .exp2, .fin n m e => (if m == 0 then .fin false 1 0 else exp2Val n m e, flNone)
  | .log2, .inf n => if n then (.nan, flNV) else (.inf false, flNone)
  | .log2, .fin n m e =>
    if m == 0 then (.inf true, flDZ) else if n then (.nan, flNV) else (log2Val m e, flNone)
  | .rcp, .inf n => (.fin n 0 0, flNone)
  | .rcp, .fin n m e => if m == 0 then (.inf n, flDZ) else (rcpVal n m e, flNone)
  | .rsqrt, .inf n => if n then (.nan, flNV) else (.fin false 0 0, flNone)
  | .rsqrt, .fin n m e =>
    if m == 0 then (.inf n, flDZ) else if n then (.nan, flNV) else (rsqrtVal m e, flNone)

end Sys2Proof.Machine
end

