-- ==== Sys2Proof/Machine/AtomicOp.lean ====
section
/-! DEFINITION. The atomics of Table 04-9 on a memory word of 64 or 128 bits (R113, R114, R474). -/

namespace Sys2Proof.Machine

/-- The operations of Table 04-9 by the low four bits of the minor. -/
inductive AtomKind where
  | add | fadd | min | minu | max | maxu | and | or | xor | swap | cas
  deriving DecidableEq, Repr

/-- The operation of a minor, and whether it is a 128-bit one. -/
def atomOfMinor (m : Nat) : Option (AtomKind × Bool) :=
  let k : Option AtomKind := [AtomKind.add, .fadd, .min, .minu, .max, .maxu, .and, .or, .xor, .swap, .cas][m % 16]?
  if m < 32 then k.map (fun k => (k, decide (16 ≤ m))) else none

/-- The operand of FADD in units of the word's last bit: none when it is not exactly representable (R114). -/
def faddUnits (frac : Nat) (c : Nat) : Option Int :=
  match decodeFloat (ffmt 0) (c % 2 ^ 32) with
  | .fin n m e =>
    let e' := e + frac
    if m == 0 then some 0
    else if e' ≥ 0 then some (alignInt n m e' 0)
    else
      let d := 2 ^ (-e').toNat
      if m % d == 0 then some (if n then -((m / d : Nat) : Int) else ((m / d : Nat) : Int)) else none
  | _ => none

/-- The new memory value of an atomic on a word of w bits, or the detail of ATOMIC_RANGE (R114). -/
def atomicNew (k : AtomKind) (w old r sn : Nat) : Except Nat Nat :=
  let so := toSigned w old
  let sr := toSigned w r
  match k with
  | .add => .ok ((old + r) % 2 ^ w)
  | .fadd =>
    if w == 128 && r / 2 ^ 64 != 0 then .error 1
    else match faddUnits (w / 2) r with
      | none => .error 1
      | some a =>
        if a > maxInt w || a < minInt w then .error 1
        else if so + a > maxInt w || so + a < minInt w then .error 2
        else .ok (ofSigned w (so + a))
  | .min => .ok (if so < sr then old else r)
  | .minu => .ok (if old < r then old else r)
  | .max => .ok (if so > sr then old else r)
  | .maxu => .ok (if old > r then old else r)
  | .and => .ok (old &&& r)
  | .or => .ok (old ||| r)
  | .xor => .ok (old ^^^ r)
  | .swap => .ok r
  | .cas => .ok (if old == r then sn else old)

end Sys2Proof.Machine
end

