-- ==== Sys2Proof/Config.lean ====
section
/-! DEFINITION. Config: the values that the spec leaves open. Each is a constant without a body, so nothing can be proved of
which value it takes. A fresh value for each use is a constant applied to `State.free`, a counter of the model's own. -/

namespace Sys2Proof.Config

/-- A choice among things the spec puts in no order (a victim of a replacement rule it does not give): some number. -/
opaque pick : Nat → Nat

/-- Whether a code word with five or more symbols in error is detected (R213: no guarantee). -/
opaque detects : Nat → Bool

/-- A byte of a code word that was miscorrected (R213), by use and place. -/
opaque junk : Nat → Nat → Byte

/-- The draws of the CTR_DRBG (R358), by number of the draw and byte place. -/
opaque drbg : Nat → Nat → Byte

/-- The unique device secret of the fuses (R370), 64 bytes by place. -/
opaque uds : Nat → Byte

/-- The nonce scalar of an ECDSA signature, by message digest and use (R370). -/
opaque nonce : Nat → Nat → Nat

/-- A result bit pattern that the spec leaves open, by use. -/
opaque value : Nat → BitVec 64

/-- What an accumulator of a group that has just been allocated holds (R124 names no value), as a 640-bit word, by use and
accumulator. -/
opaque accNew : Nat → Nat → Nat

/-- The measurements that fuses and masks fix: digest of the boot ROM (Table 14-6), by byte place. -/
opaque bootRom : Nat → Byte

/-- The DeviceID certificate chain of Table 14-5 that the maker wrote, as bytes. -/
opaque certChain : List Byte

/-- A certificate in DER: its kind and the data it certifies (R370, JOURNAL_EXPORT). The spec gives no further layout. -/
opaque certDer : Nat → List Byte → List Byte

/-- Raw measurement blocks of Table 14-6 whose layout the spec does not give: block index and the values it holds. -/
opaque measRaw : Nat → List Nat → List Byte

/-- The value type of a measurement block in bits [6:0] (R372). -/
opaque measType : Nat → BitVec 7

/-- Bytes of the SPDM CAPABILITIES message that R371 does not give, by place. -/
opaque spdmCaps : Nat → Byte

/-- The identity of a routine of the pool-operation library (R170), by opcode and byte place. -/
opaque routineId : Nat → Nat → Byte

/-- Crystal tolerance in ppm set by fuses (CLK.XTAL_TOL; 500 as shipped). -/
opaque xtalPpm : BitVec 14

/-- Digest of the fused firmware key and the fused minimum security version (R416). -/
opaque fwKeyHash : Nat → Byte
opaque minSvn : Nat

/-- The sensors and meters that a register shows (Table 18-5, Table 17-16): value by sensor and time. -/
opaque sensor : Nat → Nat → Nat

/-- The boot flash's firmware image as the boot ROM reads it (R417), by byte place, with its length. -/
opaque flashByte : Nat → Byte
opaque flashLen : Nat

/-- The image as delivered; none where the flash cannot be read. -/
def flashImage : Option (List Byte) :=
  if flashLen == 0 then none else some ((List.range flashLen).map flashByte)

end Sys2Proof.Config
end

