-- ==== Sys2Proof/Machine/Crypto.lean ====
section
/-! DEFINITION. The ciphers and digests that the spec names by their standards (PRESUMED, log entry 30): SHA-512 and HMAC
(R81, R170, R370, R386), AES-256 in GCM (R354, R355) and in key wrap (R365), ECDH and ECDSA on P-521 (R365, R370). -/

namespace Sys2Proof.Machine

/-! ### SHA-512 -/

/-- The round constants. -/
def shaK : List W64 :=
  [0x428A2F98D728AE22, 0x7137449123EF65CD, 0xB5C0FBCFEC4D3B2F, 0xE9B5DBA58189DBBC,
   0x3956C25BF348B538, 0x59F111F1B605D019, 0x923F82A4AF194F9B, 0xAB1C5ED5DA6D8118,
   0xD807AA98A3030242, 0x12835B0145706FBE, 0x243185BE4EE4B28C, 0x550C7DC3D5FFB4E2,
   0x72BE5D74F27B896F, 0x80DEB1FE3B1696B1, 0x9BDC06A725C71235, 0xC19BF174CF692694,
   0xE49B69C19EF14AD2, 0xEFBE4786384F25E3, 0x0FC19DC68B8CD5B5, 0x240CA1CC77AC9C65,
   0x2DE92C6F592B0275, 0x4A7484AA6EA6E483, 0x5CB0A9DCBD41FBD4, 0x76F988DA831153B5,
   0x983E5152EE66DFAB, 0xA831C66D2DB43210, 0xB00327C898FB213F, 0xBF597FC7BEEF0EE4,
   0xC6E00BF33DA88FC2, 0xD5A79147930AA725, 0x06CA6351E003826F, 0x142929670A0E6E70,
   0x27B70A8546D22FFC, 0x2E1B21385C26C926, 0x4D2C6DFC5AC42AED, 0x53380D139D95B3DF,
   0x650A73548BAF63DE, 0x766A0ABB3C77B2A8, 0x81C2C92E47EDAEE6, 0x92722C851482353B,
   0xA2BFE8A14CF10364, 0xA81A664BBC423001, 0xC24B8B70D0F89791, 0xC76C51A30654BE30,
   0xD192E819D6EF5218, 0xD69906245565A910, 0xF40E35855771202A, 0x106AA07032BBD1B8,
   0x19A4C116B8D2D0C8, 0x1E376C085141AB53, 0x2748774CDF8EEB99, 0x34B0BCB5E19B48A8,
   0x391C0CB3C5C95A63, 0x4ED8AA4AE3418ACB, 0x5B9CCA4F7763E373, 0x682E6FF3D6B2B8A3,
   0x748F82EE5DEFB2FC, 0x78A5636F43172F60, 0x84C87814A1F0AB72, 0x8CC702081A6439EC,
   0x90BEFFFA23631E28, 0xA4506CEBDE82BDE9, 0xBEF9A3F7B2C67915, 0xC67178F2E372532B,
   0xCA273ECEEA26619C, 0xD186B8C721C0C207, 0xEADA7DD6CDE0EB1E, 0xF57D4F7FEE6ED178,
   0x06F067AA72176FBA, 0x0A637DC5A2C898A6, 0x113F9804BEF90DAE, 0x1B710B35131C471B,
   0x28DB77F523047D84, 0x32CAAB7B40C72493, 0x3C9EBE0A15C9BEBC, 0x431D67C49C100D4C,
   0x4CC5D4BECB3E42B6, 0x597F299CFC657E2A, 0x5FCB6FAB3AD6FAEC, 0x6C44198C4A475817]

/-- The initial chaining value. -/
def shaH : List W64 :=
  [0x6A09E667F3BCC908, 0xBB67AE8584CAA73B, 0x3C6EF372FE94F82B, 0xA54FF53A5F1D36F1,
   0x510E527FADE682D1, 0x9B05688C2B3E6C1F, 0x1F83D9ABFB41BD6B, 0x5BE0CD19137E2179]

/-- Big-endian value of a byte string. -/
def beNat (l : Bytes) : Nat := l.foldl (fun a b => a * 256 + b.toNat) 0

/-- The n bytes of a value, big-endian. -/
def beBytes (n v : Nat) : Bytes := (leBytes n v).reverse

/-- A message padded to whole blocks of 128 bytes. -/
def shaPad (m : Bytes) : Bytes :=
  let z := (239 - m.length % 128) % 128
  m ++ [0x80] ++ List.replicate z 0 ++ beBytes 16 (8 * m.length)

/-- The sixteen words of a block. -/
def shaWords (b : Bytes) : Nat → List W64
  | 0 => []
  | n + 1 => BitVec.ofNat 64 (beNat (b.take 8)) :: shaWords (b.drop 8) n

/-- Extend the message schedule; the list is kept latest first. -/
def shaExtend : Nat → List W64 → List W64
  | 0, w => w
  | n + 1, w =>
    let g (i : Nat) : W64 := (w[i]?).getD 0
    let s0 := (g 14).rotateRight 1 ^^^ (g 14).rotateRight 8 ^^^ (g 14) >>> 7
    let s1 := (g 1).rotateRight 19 ^^^ (g 1).rotateRight 61 ^^^ (g 1) >>> 6
    shaExtend n ((g 15 + s0 + g 6 + s1) :: w)

/-- The rounds over (constant, word) pairs. -/
def shaRounds : List (W64 × W64) → List W64 → List W64
  | [], v => v
  | (k, w) :: l, [a, b, c, d, e, f, g, h] =>
    let S1 := e.rotateRight 14 ^^^ e.rotateRight 18 ^^^ e.rotateRight 41
    let ch := (e &&& f) ^^^ (~~~e &&& g)
    let t1 := h + S1 + ch + k + w
    let S0 := a.rotateRight 28 ^^^ a.rotateRight 34 ^^^ a.rotateRight 39
    let mj := (a &&& b) ^^^ (a &&& c) ^^^ (b &&& c)
    shaRounds l [t1 + (S0 + mj), a, b, c, d + t1, e, f, g]
  | _, v => v

/-- One block. -/
def shaBlock (h : List W64) (b : Bytes) : List W64 :=
  let w := (shaExtend 64 (shaWords b 16).reverse).reverse
  List.zipWith (· + ·) h (shaRounds (List.zip shaK w) h)

/-- The blocks in turn. -/
def shaBlocks : Nat → Bytes → List W64 → List W64
  | 0, _, h => h
  | n + 1, m, h => shaBlocks n (m.drop 128) (shaBlock h (m.take 128))

/-- SHA-512, 64 bytes. -/
def sha512 (m : Bytes) : Bytes :=
  let p := shaPad m
  (shaBlocks (p.length / 128) p shaH).flatMap (fun w => beBytes 8 w.toNat)

/-- A digest as a 512-bit value with its byte 0 in bits [7:0], as the HASH registers hold it. -/
def hashVal (d : Bytes) : BitVec 512 := BitVec.ofNat 512 (leNat d)

/-- HMAC over SHA-512. -/
def hmac512 (key m : Bytes) : Bytes :=
  let k0 := if key.length > 128 then sha512 key else key
  let k := k0 ++ List.replicate (128 - k0.length) 0
  sha512 (k.map (· ^^^ 0x5C) ++ sha512 (k.map (· ^^^ 0x36) ++ m))

/-! ### AES-256 -/

/-- Product in GF(2^8) modulo x^8 + x^4 + x^3 + x + 1, by the low `f` bits of a, added to z. Bytes of AES are plain numbers
inside this section. -/
def gmul : Nat → Nat → Nat → Nat → Nat
  | 0, _, _, z => z
  | f + 1, a, b, z => gmul f (a / 2) ((2 * b) ^^^ (b / 128 * 0x11B)) (z ^^^ (a % 2 * b))

/-- The substitution box of AES, a row of sixteen bytes for each high digit. -/
def sboxRows : List Nat := [
  0x637C777BF26B6FC53001672BFED7AB76, 0xCA82C97DFA5947F0ADD4A2AF9CA472C0, 0xB7FD9326363FF7CC34A5E5F171D83115,
  0x04C723C31896059A071280E2EB27B275, 0x09832C1A1B6E5AA0523BD6B329E32F84, 0x53D100ED20FCB15B6ACBBE394A4C58CF,
  0xD0EFAAFB434D338545F9027F503C9FA8, 0x51A3408F929D38F5BCB6DA2110FFF3D2, 0xCD0C13EC5F974417C4A77E3D645D1973,
  0x60814FDC222A908846EEB814DE5E0BDB, 0xE0323A0A4906245CC2D3AC629195E479, 0xE7C8376D8DD54EA96C56F4EA657AAE08,
  0xBA78252E1CA6B4C6E8DD741F4BBD8B8A, 0x703EB5664803F60E613557B986C11D9E, 0xE1F8981169D98E949B1E87E9CE5528DF,
  0x8CA1890DBFE6426841992D0FB054BB16]

/-- Its inverse. -/
def sboxInvRows : List Nat := [
  0x52096AD53036A538BF40A39E81F3D7FB, 0x7CE339829B2FFF87348E4344C4DEE9CB, 0x547B9432A6C2233DEE4C950B42FAC34E,
  0x082EA16628D924B2765BA2496D8BD125, 0x72F8F66486689816D4A45CCC5D65B692, 0x6C704850FDEDB9DA5E154657A78D9D84,
  0x90D8AB008CBCD30AF7E45805B8B34506, 0xD02C1E8FCA3F0F02C1AFBD0301138A6B, 0x3A9111414F67DCEA97F2CFCEF0B4E673,
  0x96AC7422E7AD3585E2F937E81C75DF6E, 0x47F11A711D29C5896FB7620EAA18BE1B, 0xFC563E4BC6D279209ADBC0FE78CD5AF4,
  0x1FDDA8338807C731B11210592780EC5F, 0x60517FA919B54A0D2DE57A9F93C99CEF, 0xA0E03B4DAE2AF5B0C8EBBB3C83539961,
  0x172B047EBA77D626E169146355210C7D]

/-- The byte that a box gives for `a`. -/
def boxAt (rows : List Nat) (a : Nat) : Nat := ((rows[a / 16]?).getD 0 >>> (8 * (15 - a % 16))) % 256

def sbox (a : Nat) : Nat := boxAt sboxRows a
def sboxInv (a : Nat) : Nat := boxAt sboxInvRows a

def xorN (a b : List Nat) : List Nat := List.zipWith (fun x y => x ^^^ y) a b
def xorB (a b : Bytes) : Bytes := List.zipWith (fun x y => x ^^^ y) a b

/-- Key schedule: words of four bytes, latest first; `i` counts the words made. -/
def aesExpand : Nat → Nat → Nat → List (List Nat) → List (List Nat)
  | 0, _, _, w => w
  | n + 1, i, rc, w =>
    let t := (w[0]?).getD []
    let old := (w[7]?).getD []
    if i % 8 == 0 then
      let r := (t.drop 1 ++ t.take 1).map sbox
      let t' := xorN r [rc, 0, 0, 0]
      aesExpand n (i + 1) (2 * rc) (xorN old t' :: w)
    else if i % 8 == 4 then aesExpand n (i + 1) rc (xorN old (t.map sbox) :: w)
    else aesExpand n (i + 1) rc (xorN old t :: w)

/-- Cut a byte string into pieces of n bytes. -/
def chunks {α : Type} (n : Nat) : Nat → List α → List (List α)
  | 0, _ => []
  | f + 1, l => if l.isEmpty then [] else l.take n :: chunks n f (l.drop n)

/-- The fifteen round keys of 16 bytes; the round constants 1 to 64 are powers of two. -/
def aesKeys (key : Bytes) : List (List Nat) :=
  chunks 16 15 ((aesExpand 52 8 1 (chunks 4 8 (key.map BitVec.toNat)).reverse).reverse.flatten)

/-- Rows of the state are bytes r, r+4, r+8, r+12; row r turns left by r. -/
def shiftRows : List Nat → List Nat
  | [a0, a1, a2, a3, b0, b1, b2, b3, c0, c1, c2, c3, d0, d1, d2, d3] => [a0, b1, c2, d3, b0, c1, d2, a3, c0, d1, a2, b3, d0, a1, b2, c3]
  | s => s
def shiftRowsInv : List Nat → List Nat
  | [a0, b1, c2, d3, b0, c1, d2, a3, c0, d1, a2, b3, d0, a1, b2, c3] => [a0, a1, a2, a3, b0, b1, b2, b3, c0, c1, c2, c3, d0, d1, d2, d3]
  | s => s

/-- Multiply each column by a circulant matrix with this first row. -/
def mixWith (a b c d : Nat) : List Nat → List Nat
  | s0 :: s1 :: s2 :: s3 :: t =>
    let m (u v w x : Nat) : Nat := gmul 4 a u (gmul 4 b v (gmul 4 c w (gmul 4 d x 0)))
    m s0 s1 s2 s3 :: m s1 s2 s3 s0 :: m s2 s3 s0 s1 :: m s3 s0 s1 s2 :: mixWith a b c d t
  | s => s

/-- AES-256 of one block. -/
def aesEnc (key : Bytes) (b : Bytes) : Bytes :=
  match aesKeys key with
  | [] => b
  | k0 :: ks =>
    let n := ks.length
    ((List.zip (List.range n) ks).foldl (fun s ik =>
      let t := shiftRows (s.map sbox)
      xorN (if ik.1 + 1 == n then t else mixWith 2 3 1 1 t) ik.2) (xorN (b.map BitVec.toNat) k0)).map (BitVec.ofNat 8)

/-- Inverse AES-256 of one block. -/
def aesDec (key : Bytes) (b : Bytes) : Bytes :=
  match (aesKeys key).reverse with
  | [] => b
  | k0 :: ks =>
    let n := ks.length
    ((List.zip (List.range n) ks).foldl (fun s ik =>
      let t := xorN ((shiftRowsInv s).map sboxInv) ik.2
      if ik.1 + 1 == n then t else mixWith 14 11 13 9 t) (xorN (b.map BitVec.toNat) k0)).map (BitVec.ofNat 8)

/-! ### GCM -/

/-- Product of GHASH: bit 0 is the most significant bit of byte 0. -/
def ghMul (x y : BitVec 128) : BitVec 128 :=
  ((List.range 128).foldl (fun (acc : BitVec 128 × BitVec 128) i =>
    let z := if x.getLsbD (127 - i) then acc.1 ^^^ acc.2 else acc.1
    let v := if acc.2.getLsbD 0 then (acc.2 >>> 1) ^^^ (0xE1#128 <<< 120) else acc.2 >>> 1
    (z, v)) (0, y)).1

/-- A byte string padded with zeros to whole blocks. -/
def pad16 (l : Bytes) : Bytes := l ++ List.replicate ((16 - l.length % 16) % 16) 0

def ghash (h : BitVec 128) (d : Bytes) : BitVec 128 :=
  (chunks 16 (d.length / 16 + 1) d).foldl (fun y b => ghMul (y ^^^ BitVec.ofNat 128 (beNat b)) h) 0

/-- Counter-mode output over a message, from block counter `c`. -/
def gctr (key iv : Bytes) (c : Nat) (m : Bytes) : Bytes :=
  ((List.zip (List.range (m.length / 16 + 1)) (chunks 16 (m.length / 16 + 1) m)).map (fun ib =>
    xorB ib.2 (aesEnc key (iv ++ beBytes 4 (c + ib.1))))).flatten

/-- The tag over additional data and ciphertext. -/
def gcmTag (key iv aad ct : Bytes) : Bytes :=
  let h := BitVec.ofNat 128 (beNat (aesEnc key (List.replicate 16 0)))
  let d := pad16 aad ++ pad16 ct ++ beBytes 8 (8 * aad.length) ++ beBytes 8 (8 * ct.length)
  xorB (beBytes 16 (ghash h d).toNat) (aesEnc key (iv ++ beBytes 4 1))

/-- Seal: ciphertext and tag. -/
def gcmSeal (key iv aad pt : Bytes) : Bytes × Bytes :=
  let ct := gctr key iv 2 pt
  (ct, gcmTag key iv aad ct)

/-- Open: the plaintext when the tag verifies. -/
def gcmOpen (key iv aad ct tag : Bytes) : Option Bytes :=
  if gcmTag key iv aad ct == tag then some (gctr key iv 2 ct) else none

/-! ### AES key wrap with the default IV -/

/-- One pass of unwrapping over the n registers, from the last down; t counts down. -/
def kwUnpass (key : Bytes) (n : Nat) : Nat → Nat → Bytes × List Bytes → Bytes × List Bytes
  | 0, _, x => x
  | i + 1, j, (a, r) =>
    let t := n * j + (i + 1)
    let b := aesDec key (xorB a (beBytes 8 t) ++ (r[i]?).getD [])
    kwUnpass key n i j (b.take 8, r.set i (b.drop 8))

/-- Unwrap a blob: the key when the integrity check holds. -/
def kwUnwrap (key blob : Bytes) : Option Bytes :=
  let n := blob.length / 8 - 1
  let start : Bytes × List Bytes := (blob.take 8, chunks 8 n (blob.drop 8))
  let (a, r) := [5, 4, 3, 2, 1, 0].foldl (fun x j => kwUnpass key n n j x) start
  if a == List.replicate 8 0xA6 then some r.flatten else none

/-! ### P-521 -/

def p521 : Nat := 2 ^ 521 - 1
def n521 : Nat := 0x01FFFFFFFFFFFFFFFFFFFFFFFFFFFFFFFFFFFFFFFFFFFFFFFFFFFFFFFFFFFFFFFFFA51868783BF2F966B7FCC0148F709A5D03BB5C9B8899C47AEBB6FB71E91386409
def b521 : Nat := 0x0051953EB9618E1C9A1F929A21A0B68540EEA2DA725B99B315F3B8B489918EF109E156193951EC7E937B1652C0BD3BB1BF073573DF883D2C34F1EF451FD46B503F00
def gx521 : Nat := 0x00C6858E06B70404E9CD9E3ECB662395B4429C648139053FB521F828AF606B4D3DBAA14B5E77EFE75928FE1DC127A2FFA8DE3348B3C1856A429BF97E7E31C2E5BD66
def gy521 : Nat := 0x011839296A789A3BC0045C8A5FB42C7D1BD998F54449579B446817AFBD17273E662C97EE72995EF42640C550B9013FAD0761353C7086A272C24088BE94769FD16650

/-- Power modulo m, by the bits of the exponent from the top. -/
def powMod (m a e : Nat) : Nat → Nat
  | 0 => 1 % m
  | i + 1 =>
    -- bits 0..i of e, handled from bit i down
    let hi := powMod m a (e / 2) i
    let sq := hi * hi % m
    if e % 2 == 1 then sq * a % m else sq

/-- Inverse modulo a prime. -/
def invMod (m a : Nat) : Nat := powMod m a (m - 2) 521

/-- Addition of points; none is the point at infinity. -/
def ecAdd : Option (Nat × Nat) → Option (Nat × Nat) → Option (Nat × Nat)
  | none, q => q
  | p, none => p
  | some (x1, y1), some (x2, y2) =>
    if x1 == x2 && (y1 + y2) % p521 == 0 then none
    else
      let l := if x1 == x2 then (3 * x1 * x1 + (p521 - 3)) * invMod p521 (2 * y1) % p521
        else (y2 + p521 - y1) * invMod p521 ((x2 + p521 - x1) % p521) % p521
      let x3 := (l * l + 2 * p521 - x1 - x2) % p521
      some (x3, (l * (x1 + p521 - x3) + p521 - y1) % p521)

/-- Scalar multiple, by the low `f` bits of k. -/
def ecMul (p : Option (Nat × Nat)) : Nat → Nat → Option (Nat × Nat)
  | 0, _ => none
  | f + 1, k =>
    let h := ecMul p f (k / 2)
    let d := ecAdd h h
    if k % 2 == 1 then ecAdd d p else d

def ecG : Option (Nat × Nat) := some (gx521, gy521)

/-- Uncompressed point of 133 bytes. -/
def ecEncode : Option (Nat × Nat) → Bytes
  | none => List.replicate 133 0
  | some (x, y) => 0x04 :: (beBytes 66 x ++ beBytes 66 y)

/-- The point that 133 bytes give, when it lies on the curve. -/
def ecDecode (l : Bytes) : Option (Nat × Nat) :=
  let x := beNat ((l.drop 1).take 66)
  let y := beNat ((l.drop 67).take 66)
  if l.length == 133 && l.head? == some 0x04 && x < p521 && y < p521 &&
      y * y % p521 == (x * x % p521 * x + (p521 - 3) * x + b521) % p521 then some (x, y) else none

/-- A private scalar from a secret and a label (R370). -/
def deriveScalar (k label : Bytes) : Nat :=
  beNat (hmac512 k (label ++ [0x01]) ++ hmac512 k (label ++ [0x02])) % (n521 - 1) + 1

/-- ECDSA over SHA-512 with a given nonce scalar: r and s, 66 bytes each. -/
def ecdsaSign (d nonce : Nat) (m : Bytes) : Bytes :=
  let z := beNat (sha512 m)
  let k := nonce % (n521 - 1) + 1
  match ecMul ecG 521 k with
  | none => List.replicate 132 0
  | some (x, _) =>
    let r := x % n521
    let s := invMod n521 k * (z + r * d) % n521
    beBytes 66 r ++ beBytes 66 s

/-- ECDSA verification. -/
def ecdsaVerify (pub : Bytes) (m r s : Bytes) : Bool :=
  match ecDecode pub with
  | none => false
  | some q =>
    let r := beNat r
    let s := beNat s
    if r == 0 || s == 0 || r ≥ n521 || s ≥ n521 then false
    else
      let w := invMod n521 s
      let z := beNat (sha512 m)
      match ecAdd (ecMul ecG 521 (z * w % n521)) (ecMul (some q) 521 (r * w % n521)) with
      | none => false
      | some (x, _) => x % n521 == r

end Sys2Proof.Machine
end

