-- ==== Sys2Proof/Machine/RegTable.lean ====
section
/-! DEFINITION. The block registers of every register page, as the register tables of the chapters list them
(Tables 02-4, 03-5, 03-6, 07-2, 08-5 to 08-7, 09-4, 10-8, 10-9, 11-6, 12-5, 13-4, 14-8, 15-6, 16-9, 16-10, 17-15 to 17-17
and 18-5). Each row gives the offset, how many registers of that kind there are and how far apart, the value at reset and,
as bit masks, the bits that are RW, RWL, W1C and RC (R5). Every other bit is RO, WO or reserved (R6). A reset value the
tables give as a dash is zero here; what such a field reads is computed from the state where the field is read. -/

namespace Sys2Proof.Machine

/-- One row of a register table. -/
structure RegRow where
  off : Nat
  cnt : Nat
  stride : Nat
  reset : Nat
  rw : Nat
  rwl : Nat
  w1c : Nat
  rc : Nat
  deriving DecidableEq, Repr

/-- The block registers of page type 0x01, HUB. -/
def regsHub : List RegRow := [
  ⟨0x040, 1, 4, 0x0, 0x0, 0x0, 0x0, 0x0⟩,  -- BRIDGE
  ⟨0x044, 1, 4, 0x0, 0x0, 0x0, 0x0, 0xFFFFFFFF⟩,  -- BRIDGE_RETRY
  ⟨0x048, 1, 4, 0x0, 0x0, 0x0, 0x0, 0x0⟩,  -- VEC_PENDING0
  ⟨0x04C, 1, 4, 0x0, 0x0, 0x0, 0x0, 0x0⟩,  -- VEC_PENDING1
  ⟨0x050, 1, 4, 0x0, 0x0, 0x0, 0x0, 0x0⟩  -- VEC_PENDING2
  ]

/-- The block registers of page type 0x02, PORT. -/
def regsPort : List RegRow := [
  ⟨0x040, 1, 4, 0x0, 0x0, 0x0, 0x0, 0x0⟩,  -- CMD
  ⟨0x044, 1, 4, 0x4, 0x1F, 0x0, 0x0, 0x0⟩,  -- CFG
  ⟨0x048, 1, 4, 0x2081E, 0x7F3FFF, 0x0, 0x0, 0x0⟩,  -- TIMERS
  ⟨0x04C, 1, 4, 0x64, 0xFFFF, 0x0, 0x0, 0x0⟩,  -- SLEEP_IDLE
  ⟨0x050, 1, 4, 0x5000400, 0xFFF0FFF, 0x0, 0x0, 0x0⟩,  -- FC
  ⟨0x054, 1, 4, 0x100, 0xFFFF, 0x0, 0x0, 0x0⟩,  -- SER_THRESH
  ⟨0x058, 1, 4, 0x1, 0x0, 0x0, 0x0, 0x0⟩,  -- STATE
  ⟨0x05C, 1, 4, 0x0, 0x0, 0x0, 0x0, 0x0⟩,  -- RTT
  ⟨0x060, 1, 4, 0x0, 0x0, 0x0, 0x0, 0x0⟩,  -- PARTNER
  ⟨0x064, 1, 4, 0x0, 0x0, 0x0, 0x0, 0xFFFFFFFF⟩,  -- REPLAYS
  ⟨0x068, 1, 4, 0x0, 0x0, 0x0, 0x0, 0xFFFFFFFF⟩,  -- CRC_ERR
  ⟨0x06C, 1, 4, 0x0, 0x0, 0x0, 0x0, 0xFFFFFFFF⟩,  -- FEC_CORR
  ⟨0x070, 1, 4, 0x0, 0x0, 0x0, 0x0, 0xFFFFFFFF⟩,  -- FEC_UNCORR
  ⟨0x074, 1, 4, 0x0, 0x0, 0x0, 0x0, 0xFFFFFFFF⟩,  -- NAKS
  ⟨0x078, 1, 4, 0x0, 0x0, 0x0, 0x0, 0xFFFF⟩,  -- LOSSES
  ⟨0x07C, 1, 4, 0x0, 0x0, 0x0, 0x0, 0xFF⟩,  -- SUBSTS
  ⟨0x080, 1, 4, 0x0, 0x0, 0x0, 0x0, 0xFFFFFFFF⟩,  -- FC_DROPS
  ⟨0x084, 1, 4, 0x0, 0x0, 0x0, 0x0, 0xFFFFFFFF⟩  -- FLITS_OK
  ]

/-- The block registers of page type 0x03, LANE. -/
def regsLane : List RegRow := [
  ⟨0x100, 36, 16, 0x0, 0x3F, 0x0, 0x0, 0x0⟩,  -- Ln_CFG
  ⟨0x104, 36, 16, 0xFF0000, 0x0, 0x0, 0x0, 0x0⟩,  -- Ln_STATUS
  ⟨0x108, 36, 16, 0x0, 0x0, 0x0, 0x0, 0xFFFFFFFF⟩,  -- Ln_SYM_ERR
  ⟨0x10C, 36, 16, 0x0, 0x0, 0x0, 0x0, 0xFFFFFFFF⟩,  -- Ln_HDR_ERR
  ⟨0x400, 36, 16, 0x0, 0x1F, 0x0, 0x0, 0x0⟩,  -- Ln_PG_CTRL
  ⟨0x404, 36, 16, 0x100000, 0xFFFFFFFF, 0x0, 0x0, 0x0⟩,  -- Ln_PG_INJ
  ⟨0x408, 36, 16, 0x0, 0x0, 0x0, 0x0, 0xFFFFFFFF⟩,  -- Ln_PG_ERRS
  ⟨0x40C, 36, 16, 0x0, 0x0, 0x0, 0x0, 0x0⟩  -- Ln_PG_BITS
  ]

/-- The block registers of page type 0x04, XBAR. -/
def regsXbar : List RegRow := [
  ⟨0x040, 1, 4, 0x1FFF, 0x1FFF, 0x0, 0x0, 0x0⟩,  -- EP
  ⟨0x044, 1, 4, 0x0, 0x1, 0x0, 0x0, 0x0⟩,  -- EPOCH
  ⟨0x048, 1, 4, 0x0, 0xFFFFFFFF, 0x0, 0x0, 0x0⟩,  -- EMASK0_LO
  ⟨0x04C, 1, 4, 0x0, 0xFFFF, 0x0, 0x0, 0x0⟩,  -- EMASK0_HI
  ⟨0x050, 1, 4, 0x0, 0xFFFFFFFF, 0x0, 0x0, 0x0⟩,  -- EMASK1_LO
  ⟨0x054, 1, 4, 0x0, 0xFFFF, 0x0, 0x0, 0x0⟩,  -- EMASK1_HI
  ⟨0x058, 1, 4, 0x28, 0x3F, 0x0, 0x0, 0x0⟩,  -- FENCE_TMO
  ⟨0x05C, 1, 4, 0x8, 0x7F, 0x0, 0x0, 0x0⟩,  -- REQ_TMO
  ⟨0x060, 1, 4, 0x100, 0xFFF, 0x0, 0x0, 0x0⟩,  -- CE_THRESH
  ⟨0x064, 1, 4, 0x20100, 0xF03FF, 0x0, 0x0, 0x0⟩,  -- CC_CFG
  ⟨0x068, 1, 4, 0x14, 0xFF, 0x0, 0x0, 0x0⟩,  -- TRANSIT_AGE
  ⟨0x06C, 1, 4, 0x0, 0x1, 0x0, 0x0, 0x0⟩,  -- PROBE
  ⟨0x070, 1, 4, 0x0, 0x0, 0x0, 0x0, 0x0⟩,  -- PARKED
  ⟨0x074, 1, 4, 0x0, 0x0, 0x0, 0x0, 0xFFFFFFFF⟩,  -- FENCE_BUSY
  ⟨0x078, 1, 4, 0x0, 0x0, 0x0, 0x0, 0xFFFFFFFF⟩,  -- FENCE_TIMEOUTS
  ⟨0x07C, 1, 4, 0x0, 0x0, 0x0, 0x0, 0xFFFFFFFF⟩,  -- FENCE_OVER
  ⟨0x080, 1, 4, 0x0, 0x0, 0x0, 0x0, 0xFFFFFFFF⟩,  -- NO_ROUTE
  ⟨0x084, 1, 4, 0x0, 0x0, 0x0, 0x0, 0xFFFFFFFF⟩,  -- AGED
  ⟨0x088, 1, 4, 0x0, 0x0, 0x0, 0x0, 0xFFFFFFFF⟩,  -- DUTY_DEFERS
  ⟨0x08C, 1, 4, 0x0, 0x0, 0x0, 0x0, 0xFFFFFFFF⟩,  -- BAD_PKT
  ⟨0x090, 1, 4, 0x0, 0x0, 0x0, 0x0, 0x0⟩,  -- CMAP_SNAP
  ⟨0x100, 48, 4, 0x0, 0x0, 0x0, 0x0, 0x0⟩  -- CMAP
  ]

/-- The block registers of page type 0x05, HOME. -/
def regsHome : List RegRow := [
  ⟨0x040, 1, 4, 0x3C, 0xFF, 0x0, 0x0, 0x0⟩,  -- CFG
  ⟨0x044, 1, 4, 0x10, 0x7F, 0x0, 0x0, 0x0⟩,  -- RECALL_TMO
  ⟨0x048, 1, 4, 0x4, 0x7, 0x0, 0x0, 0x0⟩,  -- PRED
  ⟨0x04C, 1, 4, 0x0, 0x11FFF, 0x0, 0x0, 0x0⟩,  -- SPT_INDEX
  ⟨0x050, 1, 4, 0x0, 0xFFFFFFFF, 0x0, 0x0, 0x0⟩,  -- SPT_LO
  ⟨0x054, 1, 4, 0x0, 0x1FFFF, 0x0, 0x0, 0x0⟩,  -- SPT_HI
  ⟨0x058, 1, 4, 0x0, 0x0, 0x0, 0x0, 0x0⟩,  -- RECORDS
  ⟨0x05C, 1, 4, 0x0, 0x0, 0x0, 0x0, 0x0⟩,  -- TXN
  ⟨0x060, 1, 4, 0x0, 0x0, 0x0, 0x0, 0xFFFFFFFF⟩,  -- REC_EVICTS
  ⟨0x064, 1, 4, 0x0, 0x0, 0x0, 0x0, 0xFFFFFFFF⟩,  -- REC_MISS
  ⟨0x068, 1, 4, 0x0, 0x0, 0x0, 0x0, 0xFFFFFFFF⟩,  -- TO_COARSE
  ⟨0x06C, 1, 4, 0x0, 0x0, 0x0, 0x0, 0xFFFFFFFF⟩,  -- TO_POINTERS
  ⟨0x070, 1, 4, 0x0, 0x0, 0x0, 0x0, 0xFFFFFFFF⟩,  -- INVS
  ⟨0x074, 1, 4, 0x0, 0x0, 0x0, 0x0, 0xFFFFFFFF⟩,  -- RECALLS
  ⟨0x078, 1, 4, 0x0, 0x0, 0x0, 0x0, 0xFFFFFFFF⟩,  -- HOLD_WAITS
  ⟨0x07C, 1, 4, 0x0, 0x0, 0x0, 0x0, 0xFFFFFFFF⟩,  -- ATOM_NEAR
  ⟨0x080, 1, 4, 0x0, 0x0, 0x0, 0x0, 0xFFFFFFFF⟩,  -- ATOM_FAR
  ⟨0x084, 1, 4, 0x0, 0x0, 0x0, 0x0, 0xFFFFFFFF⟩,  -- LINES_LOST
  ⟨0x088, 1, 4, 0x0, 0x0, 0x0, 0x0, 0xFFFFFFFF⟩,  -- INV_TIMEOUTS
  ⟨0x08C, 1, 4, 0x0, 0x0, 0x0, 0x0, 0xFFFFFFFF⟩,  -- LATE_DATA
  ⟨0x090, 1, 4, 0x0, 0x0, 0x0, 0x0, 0xFFFFFFFF⟩,  -- ALT_RETRIES
  ⟨0x094, 1, 4, 0x0, 0x0, 0x0, 0x0, 0xFFFFFFFF⟩,  -- OUTCOME_UNKNOWN
  ⟨0x400, 256, 4, 0x0, 0xFFFFFFFF, 0x0, 0x0, 0x0⟩  -- CEP
  ]

/-- The block registers of page type 0x06, XLT. -/
def regsXlt : List RegRow := [
  ⟨0x040, 1, 4, 0x0, 0x0, 0x0, 0x0, 0x0⟩,  -- CMD
  ⟨0x044, 6, 4, 0x0, 0xFFFFFFFF, 0x0, 0x0, 0x0⟩,  -- ARG0–ARG5
  ⟨0x05C, 1, 4, 0x0, 0x0, 0x0, 0x2, 0x0⟩,  -- CMD_STATUS
  ⟨0x060, 1, 4, 0x14, 0xFF, 0x0, 0x0, 0x0⟩,  -- SHOOT_CFG
  ⟨0x064, 1, 4, 0x40, 0x7F, 0x0, 0x0, 0x0⟩,  -- FURROW_CFG
  ⟨0x068, 1, 4, 0xA, 0xFFFF, 0x0, 0x0, 0x0⟩,  -- FAULT_TMO
  ⟨0x06C, 1, 4, 0x2C00000, 0x0, 0x0, 0x0, 0x0⟩,  -- TABLE_FREE
  ⟨0x070, 1, 4, 0x0, 0x0, 0x0, 0x0, 0x0⟩,  -- FAULTS_OPEN
  ⟨0x074, 1, 4, 0x0, 0x0, 0x0, 0x0, 0xFFFFFFFF⟩,  -- WALKS
  ⟨0x078, 1, 4, 0x0, 0x0, 0x0, 0x0, 0xFFFFFFFF⟩,  -- FAULTS
  ⟨0x07C, 1, 4, 0x0, 0x0, 0x0, 0x0, 0xFFFFFFFF⟩,  -- FAULT_JOINS
  ⟨0x080, 1, 4, 0x0, 0x0, 0x0, 0x0, 0xFFFFFFFF⟩,  -- FAULTS_WAITED
  ⟨0x084, 1, 4, 0x0, 0x0, 0x0, 0x0, 0xFFFFFFFF⟩,  -- FQ_FULL
  ⟨0x088, 1, 4, 0x0, 0x0, 0x0, 0x0, 0xFFFFFFFF⟩,  -- MIGRATIONS
  ⟨0x08C, 1, 4, 0x0, 0x0, 0x0, 0x0, 0xFFFFFFFF⟩,  -- MIGRATE_FAILS
  ⟨0x090, 1, 4, 0x0, 0x0, 0x0, 0x0, 0xFFFFFFFF⟩,  -- PF_DROPPED
  ⟨0x094, 1, 4, 0x0, 0x0, 0x0, 0x0, 0xFFFFFFFF⟩,  -- SHOOTDOWNS
  ⟨0x098, 1, 4, 0x0, 0x0, 0x0, 0x0, 0xFFFFFFFF⟩  -- SHOOT_ABORTS
  ]

/-- The block registers of page type 0x07, SEC. -/
def regsSec : List RegRow := [
  ⟨0x040, 1, 4, 0x0, 0x0, 0x1, 0x0, 0x0⟩,  -- LOCK
  ⟨0x044, 1, 4, 0x3000, 0x0, 0x7FFF, 0x0, 0x0⟩,  -- ISO
  ⟨0x048, 1, 4, 0x0, 0x0, 0x3, 0x0, 0x0⟩,  -- KROOT
  ⟨0x04C, 1, 4, 0xFFFFFFFF, 0x0, 0xFFFFFFFF, 0x0, 0x0⟩,  -- FW_RECONF_LO
  ⟨0x050, 1, 4, 0xFFFFFFFF, 0x0, 0xFFFFFFFF, 0x0, 0x0⟩,  -- FW_RECONF_HI
  ⟨0x054, 1, 4, 0x0, 0x0, 0x0, 0x0, 0x0⟩,  -- CMD
  ⟨0x058, 4, 4, 0x0, 0xFFFFFFFF, 0x0, 0x0, 0x0⟩,  -- ARG0–ARG3
  ⟨0x068, 1, 4, 0x0, 0x0, 0x0, 0x2, 0x0⟩,  -- CMD_STATUS
  ⟨0x06C, 1, 4, 0x0, 0x1FFFF, 0x0, 0x0, 0x0⟩,  -- ATT_SEL
  ⟨0x070, 1, 4, 0xA, 0x3FFF, 0x0, 0x0, 0x0⟩,  -- ROT_GRACE
  ⟨0x074, 1, 4, 0x0, 0x0, 0x0, 0x0, 0x0⟩,  -- SLOTS_USED
  ⟨0x078, 1, 4, 0x0, 0x0, 0x0, 0x0, 0x0⟩,  -- REKEYS
  ⟨0x07C, 1, 4, 0x0, 0x0, 0x0, 0x0, 0xFFFFFFFF⟩,  -- AUTH_FAIL
  ⟨0x080, 1, 4, 0x0, 0x0, 0x0, 0x0, 0xFFFFFFFF⟩,  -- KEY_FAIL
  ⟨0x084, 1, 4, 0x0, 0x0, 0x0, 0x0, 0xFFFFFFFF⟩,  -- SEALED
  ⟨0x088, 1, 4, 0x0, 0x0, 0x0, 0x0, 0xFFFFFFFF⟩,  -- BAR4_CONF
  ⟨0x08C, 1, 4, 0x0, 0x0, 0x0, 0x0, 0xFFFFFFFF⟩,  -- LOCK_REJECT
  ⟨0x090, 1, 4, 0x0, 0x0, 0x0, 0x0, 0x0⟩,  -- TRANSPORT
  ⟨0x0C0, 16, 4, 0x0, 0xFFFFFFFF, 0x0, 0x0, 0x0⟩  -- HASH0–HASH15
  ]

/-- The block registers of page type 0x08, CQE. -/
def regsCqe : List RegRow := [
  ⟨0x040, 1, 4, 0x0, 0x0, 0x0, 0x0, 0x0⟩,  -- CMD
  ⟨0x044, 4, 4, 0x0, 0xFFFFFFFF, 0x0, 0x0, 0x0⟩,  -- ARG0–ARG3
  ⟨0x054, 1, 4, 0x0, 0x0, 0x0, 0x2, 0x0⟩,  -- CMD_STATUS
  ⟨0x058, 1, 4, 0x0, 0x0, 0x0, 0x0, 0x0⟩,  -- SQ_USED
  ⟨0x05C, 1, 4, 0x0, 0x0, 0x0, 0x0, 0x0⟩,  -- CQ_USED
  ⟨0x060, 1, 4, 0x0, 0x0, 0x0, 0x0, 0x0⟩,  -- INFLIGHT
  ⟨0x064, 1, 4, 0x0, 0x0, 0x0, 0x0, 0xFFFFFFFF⟩,  -- DB_DISCARDS
  ⟨0x068, 1, 4, 0x0, 0x0, 0x0, 0x0, 0xFFFFFFFF⟩,  -- POLICE_DROPS
  ⟨0x06C, 1, 4, 0x0, 0x0, 0x0, 0x0, 0xFFFFFFFF⟩,  -- NTF_DISCARDS
  ⟨0x070, 1, 4, 0x0, 0x0, 0x0, 0x0, 0xFFFFFFFF⟩,  -- CQ_STALLS
  ⟨0x074, 1, 4, 0x0, 0x0, 0x0, 0x0, 0xFFFFFFFF⟩,  -- CQ_DISCARDS
  ⟨0x078, 1, 4, 0x0, 0x0, 0x0, 0x0, 0x0⟩,  -- QERR_LAST
  ⟨0x080, 1, 4, 0x0, 0x0, 0x0, 0x0, 0x0⟩,  -- VTIME_LO
  ⟨0x084, 1, 4, 0x0, 0x0, 0x0, 0x0, 0x0⟩  -- VTIME_HI
  ]

/-- The block registers of page type 0x09, TIER. -/
def regsTier : List RegRow := [
  ⟨0x040, 1, 4, 0x0, 0x3FFF, 0x0, 0x0, 0x0⟩,  -- CACHE_SIZE
  ⟨0x044, 1, 4, 0x40, 0x7FF, 0x0, 0x0, 0x0⟩,  -- DIRTY_MAX
  ⟨0x048, 1, 4, 0x3E8, 0xFFFF, 0x0, 0x0, 0x0⟩,  -- WB_CFG
  ⟨0x04C, 1, 4, 0xA, 0xFFFF, 0x0, 0x0, 0x0⟩,  -- FILL_TMO
  ⟨0x050, 1, 4, 0x0, 0x0, 0x0, 0x0, 0x0⟩,  -- DRIVES
  ⟨0x054, 1, 4, 0x0, 0x0, 0x0, 0x0, 0x0⟩,  -- STRIPE
  ⟨0x058, 1, 4, 0x0, 0x0, 0x0, 0x0, 0x0⟩,  -- SLOTS_TOTAL
  ⟨0x05C, 1, 4, 0x0, 0x0, 0x0, 0x0, 0x0⟩,  -- SLOTS_FREE
  ⟨0x060, 1, 4, 0x0, 0x0, 0x0, 0x0, 0x0⟩,  -- DIRTY
  ⟨0x064, 1, 4, 0x0, 0x0, 0x0, 0x0, 0x0⟩,  -- STRANDED
  ⟨0x068, 1, 4, 0x0, 0x0, 0x0, 0x0, 0x0⟩,  -- TOKENS
  ⟨0x06C, 1, 4, 0x0, 0x0, 0x0, 0x0, 0xFFFFFFFF⟩,  -- MISSES
  ⟨0x070, 1, 4, 0x0, 0x0, 0x0, 0x0, 0xFFFFFFFF⟩,  -- NO_TOKEN
  ⟨0x074, 1, 4, 0x0, 0x0, 0x0, 0x0, 0xFFFFFFFF⟩,  -- WRITEBACKS
  ⟨0x078, 1, 4, 0x0, 0x0, 0x0, 0x0, 0xFFFFFFFF⟩,  -- DIRTY_HOLDS
  ⟨0x07C, 1, 4, 0x0, 0x0, 0x0, 0x0, 0xFFFF⟩,  -- FILL_LAT
  ⟨0x080, 1, 4, 0x0, 0x0, 0x0, 0x0, 0xFFFFFFFF⟩  -- SET_WAITS
  ]

/-- The block registers of page type 0x0A, PCIE. -/
def regsPcie : List RegRow := [
  ⟨0x040, 1, 4, 0x0, 0x0, 0x0, 0x0, 0x0⟩,  -- LINK
  ⟨0x044, 1, 4, 0x0, 0x0, 0x0, 0x0, 0xFFFFFFFF⟩,  -- CORR
  ⟨0x048, 1, 4, 0x0, 0x0, 0x0, 0x0, 0xFFFFFFFF⟩,  -- UNCORR
  ⟨0x04C, 1, 4, 0x0, 0x0, 0x0, 0x0, 0xFFFFFFFF⟩  -- RECOVERY
  ]

/-- The block registers of page type 0x0B, PLM. -/
def regsPlm : List RegRow := [
  ⟨0x040, 1, 4, 0x0, 0x0, 0x0, 0x0, 0x0⟩,  -- CMD
  ⟨0x044, 4, 4, 0x0, 0xFFFFFFFF, 0x0, 0x0, 0x0⟩,  -- ARG0–ARG3
  ⟨0x054, 1, 4, 0x0, 0x0, 0x0, 0x2, 0x0⟩,  -- CMD_STATUS
  ⟨0x058, 1, 4, 0x0, 0x0, 0x0, 0x0, 0x0⟩,  -- RESULT_LO
  ⟨0x05C, 1, 4, 0x0, 0x0, 0x0, 0x0, 0x0⟩,  -- RESULT_HI
  ⟨0x060, 1, 4, 0x0, 0xFFFFFFFF, 0x0, 0x0, 0x0⟩,  -- VERSION_LO
  ⟨0x064, 1, 4, 0x0, 0xFFFFFFFF, 0x0, 0x0, 0x0⟩,  -- VERSION_HI
  ⟨0x068, 1, 4, 0x2000, 0x0, 0x0, 0x0, 0x0⟩,  -- FREE_GRANULES
  ⟨0x06C, 1, 4, 0x0, 0x0, 0x0, 0x0, 0x0⟩,  -- PLOTS_USED
  ⟨0x070, 1, 4, 0x0, 0x0, 0x0, 0x0, 0xFFFF⟩,  -- CPL_ERR_COUNT
  ⟨0x074, 1, 4, 0x0, 0x0, 0x0, 0x0, 0x0⟩,  -- CPL_ERR_HANDLE
  ⟨0x078, 1, 4, 0x10000, 0x0, 0x1FFFF, 0x0, 0x0⟩,  -- LIMIT_PLOTS
  ⟨0x07C, 1, 4, 0x2000, 0x0, 0x3FFF, 0x0, 0x0⟩,  -- LIMIT_GRANULES
  ⟨0x080, 1, 4, 0x800000, 0x0, 0xFFFFFF, 0x0, 0x0⟩,  -- LIMIT_TIERED
  ⟨0x084, 1, 4, 0x100, 0x0, 0x1FF, 0x0, 0x0⟩  -- LIMIT_GRANTS
  ]

/-- The block registers of page type 0x0C, BED. -/
def regsBed : List RegRow := [
  ⟨0x040, 1, 4, 0x0, 0x0, 0x0, 0x0, 0x0⟩,  -- D2D_STATUS
  ⟨0x044, 1, 4, 0x0, 0x0, 0x0, 0x0, 0xFFFFFFFF⟩,  -- D2D_CRC_RETRY
  ⟨0x048, 1, 4, 0x0, 0x0, 0x0, 0x0, 0xFF⟩,  -- D2D_LANE_REPAIRS
  ⟨0x04C, 1, 4, 0x40, 0x7F, 0x0, 0x0, 0x0⟩,  -- MB_CFG
  ⟨0x050, 1, 4, 0x0, 0x0, 0x0, 0x0, 0xFFFFFFFF⟩,  -- MB_FULL
  ⟨0x054, 1, 4, 0x0, 0x0, 0x0, 0x0, 0xFFFFFFFF⟩,  -- MB_ZERO_FILL
  ⟨0x058, 1, 4, 0x0, 0x0, 0x0, 0x0, 0xFFFFFFFF⟩,  -- MB_RMW
  ⟨0x05C, 1, 4, 0x0, 0x0, 0x0, 0x0, 0xFFFFFFFF⟩,  -- MB_EVICT
  ⟨0x060, 1, 4, 0x0, 0x0, 0x0, 0x0, 0xFFFFFFFF⟩,  -- VB_MISS
  ⟨0x064, 1, 4, 0x0, 0x0, 0x0, 0x0, 0xFFFFFFFF⟩,  -- DIRECT
  ⟨0x068, 1, 4, 0x0, 0x0, 0x0, 0x0, 0xFFFFFFFF⟩,  -- VIA_HOME
  ⟨0x06C, 1, 4, 0x0, 0x0, 0x0, 0x0, 0x0⟩  -- FILTER
  ]

/-- The block registers of page type 0x0D, STK. -/
def regsStk : List RegRow := [
  ⟨0x040, 1, 4, 0x1F4, 0xFFFFF, 0x0, 0x0, 0x0⟩,  -- CFG
  ⟨0x044, 1, 4, 0x400, 0x1FFF, 0x0, 0x0, 0x0⟩,  -- TRR_THRESH
  ⟨0x048, 1, 4, 0x800, 0xFFFF, 0x0, 0x0, 0x0⟩,  -- CE_THRESH
  ⟨0x04C, 1, 4, 0x0, 0x0, 0x0, 0x0, 0x0⟩,  -- STATE
  ⟨0x050, 1, 4, 0x0, 0x0, 0x0, 0x0, 0x0⟩,  -- SPARE_MAP
  ⟨0x054, 1, 4, 0x0, 0x0, 0x0, 0x0, 0x0⟩,  -- RETIRED
  ⟨0x058, 1, 4, 0x0, 0x0, 0x0, 0x0, 0x0⟩,  -- PPR_LEFT
  ⟨0x05C, 1, 4, 0x0, 0x0, 0x0, 0x0, 0x0⟩,  -- REPAIR_LOG
  ⟨0x060, 1, 4, 0x0, 0x0, 0x0, 0x0, 0xFFFFFFFF⟩,  -- UE_COUNT
  ⟨0x064, 1, 4, 0x0, 0x0, 0x0, 0x0, 0xFFFFFFF⟩,  -- UE_LOC
  ⟨0x068, 1, 4, 0x0, 0x0, 0x0, 0x0, 0x0⟩,  -- UE_LOC_HI
  ⟨0x06C, 1, 4, 0x0, 0x0, 0x0, 0x0, 0x0⟩,  -- UE_GRANULE
  ⟨0x070, 1, 4, 0x0, 0x0, 0x0, 0x0, 0xFFFFFFFF⟩,  -- CE_TOTAL
  ⟨0x074, 1, 4, 0x0, 0x0, 0x0, 0x0, 0xFFFFFFFF⟩,  -- TRR_COUNT
  ⟨0x078, 1, 4, 0x0, 0x0, 0x0, 0x0, 0xFFFFFFFF⟩,  -- SR_ENTRIES
  ⟨0x07C, 1, 4, 0x0, 0x0, 0x0, 0x0, 0x0⟩,  -- TRAIN_TIME
  ⟨0x100, 32, 4, 0x0, 0x0, 0x0, 0x10000, 0x0⟩  -- PC_CE0–PC_CE31
  ]

/-- The block registers of page type 0x0E, CELL. -/
def regsCell : List RegRow := [
  ⟨0x040, 1, 4, 0x0, 0x0, 0x0, 0x0, 0x0⟩,  -- BIND_LO
  ⟨0x044, 1, 4, 0x0, 0x0, 0x0, 0x0, 0x0⟩,  -- BIND_HI
  ⟨0x048, 1, 4, 0x0, 0x0, 0x0, 0x0, 0x0⟩,  -- STATE
  ⟨0x04C, 1, 4, 0x0, 0x0, 0x0, 0x0, 0x0⟩,  -- LOAD
  ⟨0x050, 1, 4, 0x0, 0x0, 0x0, 0x0, 0xFFFFFFFF⟩,  -- SWAPS
  ⟨0x054, 1, 4, 0x0, 0x0, 0x0, 0x0, 0xFFFFFFFF⟩,  -- ACC_EVICTS
  ⟨0x058, 1, 4, 0x0, 0x0, 0x0, 0x0, 0xFFFFFFFF⟩,  -- SCR_DRAM
  ⟨0x05C, 1, 4, 0x0, 0x3, 0x0, 0x0, 0x0⟩,  -- DEBUG
  ⟨0x060, 1, 4, 0x0, 0x0, 0x0, 0x3F, 0x0⟩,  -- HW_FAULT
  ⟨0x064, 1, 4, 0x0, 0x0, 0x0, 0x0, 0xFFFF⟩,  -- CORR_COUNT
  ⟨0x068, 1, 4, 0x100, 0xFFFF, 0x0, 0x0, 0x0⟩  -- CORR_THRESH
  ]

/-- The block registers of page type 0x0F, TRL. -/
def regsTrl : List RegRow := [
  ⟨0x040, 1, 4, 0x0, 0x0, 0x0, 0x0, 0x0⟩,  -- CMD
  ⟨0x044, 4, 4, 0x0, 0xFFFFFFFF, 0x0, 0x0, 0x0⟩,  -- ARG0–ARG3
  ⟨0x054, 1, 4, 0x0, 0x0, 0x0, 0x2, 0x0⟩,  -- CMD_STATUS
  ⟨0x058, 1, 4, 0x0, 0x0, 0x0, 0x0, 0x0⟩,  -- FREE_CELLS
  ⟨0x05C, 1, 4, 0x0, 0x0, 0x0, 0x0, 0x0⟩,  -- BOUND_CELLS
  ⟨0x060, 1, 4, 0x0, 0x0, 0x0, 0x0, 0x0⟩,  -- SPARE_USED
  ⟨0x064, 1, 4, 0x0, 0x0, 0x0, 0x0, 0x0⟩,  -- REDUCED_BEDS
  ⟨0x068, 1, 4, 0x0, 0x0, 0x0, 0x0, 0x0⟩,  -- SUBST_LAST
  ⟨0x06C, 1, 4, 0x0, 0x0, 0x0, 0x0, 0xFF⟩,  -- SUBST_COUNT
  ⟨0x070, 1, 4, 0x0, 0x0, 0x0, 0x0, 0xFFFF⟩,  -- REPLAY_TRAPS
  ⟨0x074, 1, 4, 0x0, 0x0, 0x0, 0x0, 0x0⟩,  -- KSLOTS_USED
  ⟨0x078, 1, 4, 0x10000, 0x0, 0x0, 0x0, 0x0⟩,  -- KSTORE_FREE
  ⟨0x080, 16, 4, 0x0, 0x0, 0x0, 0x0, 0x0⟩  -- KHASH0–KHASH15
  ]

/-- The block registers of page type 0x10, HOE. -/
def regsHoe : List RegRow := [
  ⟨0x040, 1, 4, 0xC0418, 0xFFFFFF, 0x0, 0x0, 0x0⟩,  -- CFG
  ⟨0x044, 1, 4, 0x0, 0x0, 0x0, 0x0, 0x0⟩,  -- SCRUB_PTR_LO
  ⟨0x048, 1, 4, 0x0, 0x0, 0x0, 0x0, 0x0⟩,  -- SCRUB_PTR_HI
  ⟨0x04C, 1, 4, 0x0, 0x0, 0x0, 0x0, 0x0⟩,  -- PASS_COUNT
  ⟨0x050, 1, 4, 0x0, 0x0, 0x0, 0x0, 0x0⟩,  -- LAST_PASS
  ⟨0x054, 1, 4, 0x0, 0x0, 0x0, 0x0, 0x0⟩,  -- LATE
  ⟨0x058, 1, 4, 0x0, 0x0, 0x0, 0x0, 0xFFFFFFFF⟩,  -- SCRUB_CE
  ⟨0x05C, 1, 4, 0x0, 0x0, 0x0, 0x0, 0xFFFFFFFF⟩,  -- SCRUB_UE
  ⟨0x060, 1, 4, 0x0, 0x0, 0x0, 0x0, 0x0⟩,  -- REKEY_LEFT
  ⟨0x064, 1, 4, 0x0, 0x0, 0x0, 0x0, 0x0⟩,  -- ZERO_LEFT
  ⟨0x068, 1, 4, 0x0, 0x0, 0x0, 0x0, 0x0⟩,  -- COPY
  ⟨0x06C, 1, 4, 0x0, 0x0, 0x0, 0x0, 0xFFFFFFFF⟩  -- DROPPED_WB
  ]

/-- The block registers of page type 0x11, CLK. -/
def regsClk : List RegRow := [
  ⟨0x040, 1, 4, 0x0, 0x0, 0x0, 0x0, 0x0⟩,  -- SRC
  ⟨0x044, 1, 4, 0x0, 0x0, 0x0, 0x0, 0x0⟩,  -- XTAL_CHK
  ⟨0x048, 1, 4, 0x0, 0x0, 0x0, 0x0, 0x0⟩,  -- XTAL_TOL
  ⟨0x04C, 1, 4, 0x0, 0x0, 0x0, 0x0, 0x0⟩,  -- ACLK
  ⟨0x050, 1, 4, 0x0, 0x0, 0x0, 0x0, 0x0⟩,  -- FCLK
  ⟨0x054, 1, 4, 0x300C0308, 0x0, 0x0, 0x0, 0x0⟩,  -- FIXED_DIV
  ⟨0x058, 1, 4, 0x0, 0xF, 0x0, 0x0, 0x0⟩,  -- AUX_EN
  ⟨0x05C, 1, 4, 0x0, 0x0, 0x0, 0x0, 0xFFFFFFFF⟩  -- RAMPS
  ]

/-- The block registers of page type 0x12, PWR. -/
def regsPwr : List RegRow := [
  ⟨0x040, 1, 4, 0x0, 0x0, 0x0, 0x0, 0x0⟩,  -- CMD
  ⟨0x044, 1, 4, 0x0, 0x0, 0x0, 0x2, 0x0⟩,  -- CMD_STATUS
  ⟨0x048, 1, 4, 0x0, 0x0, 0x0, 0x0, 0x0⟩,  -- STATE
  ⟨0x04C, 1, 4, 0x1, 0x1, 0x0, 0x0, 0x0⟩,  -- CFG
  ⟨0x050, 1, 4, 0x604, 0xF0F, 0x0, 0x0, 0x0⟩,  -- DVFS
  ⟨0x054, 1, 4, 0x5A64, 0xFFFF, 0x0, 0x0, 0x0⟩,  -- THROTTLE_CFG
  ⟨0x058, 1, 4, 0x0, 0x0, 0x0, 0x0, 0x0⟩,  -- THERMAL
  ⟨0x05C, 1, 4, 0x3, 0x0, 0x0, 0x0, 0x0⟩,  -- DOMAINS
  ⟨0x060, 1, 4, 0x0, 0x0, 0x0, 0x0, 0x0⟩,  -- VDD_BED
  ⟨0x064, 1, 4, 0x0, 0x0, 0x0, 0x0, 0x0⟩,  -- VDD_HUB
  ⟨0x068, 1, 4, 0x0, 0x0, 0x0, 0x0, 0x0⟩,  -- PACKAGE
  ⟨0x06C, 1, 4, 0x0, 0x0, 0x0, 0x0, 0xFFFFFFFF⟩,  -- TRANSITIONS
  ⟨0x070, 1, 4, 0x0, 0x0, 0x0, 0x0, 0x0⟩  -- LAST_US
  ]

/-- The block registers of page type 0x13, RSTC. -/
def regsRstc : List RegRow := [
  ⟨0x040, 1, 4, 0x0, 0x0, 0x0, 0x0, 0x0⟩,  -- PLAT_RST
  ⟨0x044, 1, 4, 0x0, 0x0, 0x0, 0x0, 0x0⟩,  -- RESET_COUNT
  ⟨0x048, 1, 4, 0x0, 0x0, 0x0, 0x0, 0x0⟩,  -- LOG_HEAD
  ⟨0x04C, 1, 4, 0x0, 0xF, 0x0, 0x0, 0x0⟩,  -- LOG_INDEX
  ⟨0x050, 1, 4, 0x0, 0x0, 0x0, 0x0, 0x0⟩,  -- LOG_LO
  ⟨0x054, 1, 4, 0x0, 0x0, 0x0, 0x0, 0x0⟩,  -- LOG_HI
  ⟨0x058, 1, 4, 0x0, 0x0, 0x0, 0x1, 0x0⟩,  -- BACKUP
  ⟨0x05C, 1, 4, 0x0, 0x0, 0x0, 0x0, 0x0⟩,  -- STRAPS
  ⟨0x060, 1, 4, 0x0, 0x0, 0x0, 0x0, 0x0⟩,  -- INPUTS
  ⟨0x064, 1, 4, 0x0, 0x0, 0x0, 0x0, 0x0⟩,  -- BOOT_STOP
  ⟨0x068, 1, 4, 0x0, 0x0, 0x0, 0x0, 0xFFFFFFFF⟩  -- FILTERED
  ]

/-- The block registers of page type 0x14, MBX. -/
def regsMbx : List RegRow := [
  ⟨0x040, 1, 4, 0x0, 0xFFF, 0x0, 0x0, 0x0⟩,  -- CH_INDEX
  ⟨0x044, 1, 4, 0x0, 0x1FFF7FFF, 0x0, 0x0, 0x0⟩,  -- CH_CFG
  ⟨0x048, 1, 4, 0x0, 0x0, 0x0, 0x0, 0x0⟩,  -- ABORT_LAST
  ⟨0x04C, 1, 4, 0x0, 0x0, 0x0, 0x0, 0xFFFFFFFF⟩,  -- ABORTS
  ⟨0x050, 1, 4, 0x0, 0x0, 0x0, 0x0, 0xFFFFFFFF⟩,  -- REJECTS
  ⟨0x054, 1, 4, 0x10, 0x0, 0x0, 0x0, 0x0⟩,  -- HQ_STATUS
  ⟨0x058, 1, 4, 0x0, 0x0, 0x0, 0x100, 0x0⟩,  -- I3C_STATUS
  ⟨0x05C, 1, 4, 0x0, 0x0, 0x0, 0x0, 0xFFFFFFFF⟩,  -- I3C_ERRS
  ⟨0x060, 1, 4, 0x0, 0xFFFF, 0x0, 0x0, 0x0⟩,  -- BAR4_HANDLE
  ⟨0x064, 1, 4, 0x0, 0xFFFFFFFF, 0x0, 0x0, 0x0⟩,  -- BAR4_BASE_LO
  ⟨0x068, 1, 4, 0x0, 0xFFF, 0x0, 0x0, 0x0⟩  -- BAR4_BASE_HI
  ]

/-- The block registers of page type 0x15, JNL. -/
def regsJnl : List RegRow := [
  ⟨0x040, 1, 4, 0x0, 0x0, 0x0, 0x0, 0x0⟩,  -- CMD
  ⟨0x044, 4, 4, 0x0, 0xFFFFFFFF, 0x0, 0x0, 0x0⟩,  -- ARG0–ARG3
  ⟨0x054, 1, 4, 0x0, 0x0, 0x0, 0x2, 0x0⟩,  -- CMD_STATUS
  ⟨0x058, 1, 4, 0x0, 0x0, 0x0, 0x0, 0x0⟩,  -- OPEN
  ⟨0x05C, 1, 4, 0x0, 0x0, 0x0, 0x0, 0x0⟩,  -- STAGED
  ⟨0x060, 1, 4, 0x0, 0x0, 0x0, 0x0, 0xFFFFFFFF⟩,  -- RECORDS
  ⟨0x064, 1, 4, 0x0, 0x0, 0x0, 0x0, 0xFFFFFFFF⟩,  -- CHECKPOINTS
  ⟨0x068, 1, 4, 0x0, 0x0, 0x0, 0x0, 0xFFFFFFFF⟩,  -- UNAVAIL
  ⟨0x06C, 1, 4, 0x0, 0x0, 0x0, 0x0, 0x0⟩,  -- COUNTER_LO
  ⟨0x070, 1, 4, 0x0, 0x0, 0x0, 0x0, 0x0⟩  -- COUNTER_HI
  ]

/-- The block registers of page type 0x16, CC. -/
def regsCc : List RegRow := [
  ⟨0x040, 1, 4, 0x0, 0x0, 0x0, 0x0, 0x0⟩,  -- ROLE
  ⟨0x044, 1, 4, 0x118, 0x1FF, 0x0, 0x0, 0x0⟩,  -- SWAP_CFG
  ⟨0x048, 1, 4, 0x5A0, 0x0, 0x0, 0x0, 0x0⟩,  -- SWAP_NEXT
  ⟨0x04C, 1, 4, 0x0, 0x0, 0x0, 0x0, 0x0⟩,  -- FAULT
  ⟨0x050, 1, 4, 0x0, 0x0, 0x0, 0x0, 0xFFFF⟩,  -- TAKEOVERS
  ⟨0x054, 1, 4, 0x0, 0x0, 0x0, 0x0, 0xFFFF⟩,  -- SWAPS
  ⟨0x058, 1, 4, 0x0, 0x0, 0x0, 0x0, 0x0⟩,  -- LAST_PAUSE
  ⟨0x05C, 1, 4, 0x0, 0x0, 0x0, 0x0, 0xFFFFFFFF⟩,  -- SRAM_CE
  ⟨0x060, 1, 4, 0x0, 0x0, 0x0, 0x0, 0x0⟩,  -- FW_VERSION
  ⟨0x064, 1, 4, 0x0, 0x0, 0x0, 0x0, 0x0⟩,  -- FW_SVN
  ⟨0x068, 1, 4, 0x0, 0x0, 0x0, 0x0, 0x0⟩  -- BOOT
  ]

/-- The block registers of page type 0x17, TEL. -/
def regsTel : List RegRow := [
  ⟨0x040, 1, 4, 0x0, 0x3F, 0x0, 0x0, 0x0⟩,  -- SENSOR_SEL
  ⟨0x044, 1, 4, 0x0, 0x0, 0x0, 0x0, 0x0⟩,  -- SENSOR
  ⟨0x048, 1, 4, 0x0, 0x0, 0x0, 0x0, 0x0⟩,  -- ENERGY_LO
  ⟨0x04C, 1, 4, 0x0, 0x0, 0x0, 0x0, 0x0⟩  -- ENERGY_HI
  ]

/-- The block registers of a page type (R445, Table 18-1); the auxiliary blocks hold none (R456). -/
def regRowsOf : Nat → List RegRow
  | 1 => regsHub
  | 2 => regsPort
  | 3 => regsLane
  | 4 => regsXbar
  | 5 => regsHome
  | 6 => regsXlt
  | 7 => regsSec
  | 8 => regsCqe
  | 9 => regsTier
  | 10 => regsPcie
  | 11 => regsPlm
  | 12 => regsBed
  | 13 => regsStk
  | 14 => regsCell
  | 15 => regsTrl
  | 16 => regsHoe
  | 17 => regsClk
  | 18 => regsPwr
  | 19 => regsRstc
  | 20 => regsMbx
  | 21 => regsJnl
  | 22 => regsCc
  | 23 => regsTel
  | _ => []

end Sys2Proof.Machine
end

