-- ==== Sys2Proof/Data/Control.lean ====
section
/-! DEFINITION. What the control pair, the mailboxes, the clock, power and reset logic and the backup domain hold beside
their register pages (16_control_pair_and_mailboxes.md, 17_clocks_power_reset.md). -/

namespace Sys2Proof

/-- The stamp of a channel word (R409). -/
structure Stamp where
  ep   : BitVec 13
  job  : BitVec 20
  path : BitVec 2
  deriving DecidableEq, Repr

/-- A channel (R406): its configuration, and its word with the stamp when FULL. -/
structure Channel where
  tenant  : BitVec 12 := 0
  granted : Bool := false
  recv    : BitVec 2 := 0
  ep      : BitVec 13 := 0
  word    : Option (W64 × Stamp) := none
  deriving DecidableEq, Repr

/-- A Horore message that the active complex has taken whole (R412). `timedOut` marks a header whose words did not come. -/
structure HororeMsg where
  words : List W64
  timedOut : Bool
  deriving DecidableEq, Repr

/-- A Horore command that goes on after its row (TENANT_REMOVE waits for its drain, SPARE_INVOKE of a cell for the trellis):
header and parameters. -/
structure HororeRun where
  hdr   : W64
  words : List W64
  deriving DecidableEq, Repr

/-- An entry of the reset log (R436, Table 17-17). -/
structure LogEntry where
  cause   : BitVec 8 := 0
  flushed : Bool := false
  valid   : Bool := false
  detail  : BitVec 16 := 0
  count   : BitVec 32 := 0
  deriving DecidableEq, Repr

/-- The backup domain (R436): reset counter, log ring with the entry written next, journal counter, VBAT flags. -/
structure Backup where
  resets   : BitVec 32 := 0
  log      : List (Nat × LogEntry) := []
  head     : BitVec 4 := 0
  counter  : BitVec 64 := 0
  vbatLost : Bool := false
  vbatLow  : Bool := false
  deriving DecidableEq, Repr

/-- Where the device stands in its start-up (R422, R433, R437): held in reset, released and checking its source, the
source judged stable with the root PLL locking, running; or stopped in PS3. -/
inductive Phase where
  | inReset | sourceCheck | pllLock | running | ps3
  deriving DecidableEq, Repr

/-- The levels of pins that the device reads or drives (R433, R438, R460, R462). Inputs named _N are true when high. -/
structure Pins where
  platRstInN : Bool := true
  wakeN      : Bool := true
  pwrFailN   : Bool := true
  thermAlertN : Bool := true
  perstN     : Bool := true
  stkPg      : Bool := false
  platRstOutN : Bool := false
  stkPwrEn   : Bool := false
  railsGood  : Bool := true
  deriving DecidableEq, Repr

/-- The ramp of one clock (R424, R425): the divider in force, 0 on the oscillator, the divider it moves to and whether
it moves, and the divider it is to move to when the ramp in progress has completed. -/
structure Ramp where
  div     : Nat := 0
  target  : Nat := 0
  ramping : Bool := false
  next    : Option Nat := none
  deriving DecidableEq, Repr

/-- The power-fail sequence of Table 09-2, once it has begun: whether it runs with the deadline (PWR_FAIL_N) or without
(PS2 and PS3 entry), and the steps finished. -/
structure FlushSeq where
  deadline : Bool
  logged   : Bool
  deriving DecidableEq, Repr

/-- What the firmware image carries that the device reports (R416): version, security version, digest of the whole
image. -/
structure FwImage where
  version : BitVec 32
  svn     : BitVec 32
  digest  : Bytes
  deriving DecidableEq, Repr

/-- A message-signalled interrupt sent (R453): its vector. -/
structure MsiState where
  enabled : Bool := false
  masked  : Bool := false
  pba     : List Nat := []
  deriving DecidableEq, Repr

/-- An SPDM connection (R371): a requester endpoint, none for DOE, how far it has negotiated, and the messages that signatures
cover: those of the negotiation, of the certificates and of the measurements. -/
structure SpdmConn where
  ep    : Option (BitVec 13)
  stage : Nat
  vca   : Bytes := []
  certs : Bytes := []
  meas  : Bytes := []
  deriving DecidableEq, Repr

end Sys2Proof
end

