-- ==== Sys2Proof/Data/Plots.lean ====
section
/-! DEFINITION. What the device holds about plots, keys and tenants: the plot table with its grants (02_plots.md), the
key store, allow lists and transport keys (14_tenants_keys_attestation.md) and the journals (15_replay_journal.md). -/

namespace Sys2Proof

/-- The states of Table 02-2. -/
inductive PlotState where
  | unused | active | draining | revoked | released | publishing | cplErr
  deriving DecidableEq, Repr

/-- One grant entry (R36, R37): `job` says whether `id` is a job or an endpoint; rights are X A W R from bit 3 down. -/
structure Grant where
  job     : Bool
  id      : BitVec 20
  live    : BitVec 4
  removed : BitVec 4
  deriving DecidableEq, Repr

/-- A plot-table entry, Table 02-1. `grans` lists the granules of a PINNED plot: the granule at position i on the m-th
stack of a set of k is element i*k + m (R32). `slots` lists the tier slot of each unit of a TIERED plot (R240).
`allow` is the bound allow list of a sealed plot, none for the empty list a RESTORE leaves (R40). `maxSize` is the
largest size since CREATE or RESTORE (R475). -/
structure PlotEntry where
  state   : PlotState := .unused
  owner   : BitVec 12 := 0
  tiered  : Bool := false
  uncached : Bool := false
  conf    : Bool := false
  ilv     : BitVec 3 := 0
  set     : BitVec 5 := 0
  pgsz    : BitVec 2 := 0
  sealed  : Bool := false
  allow   : Option (BitVec 10) := none
  version : BitVec 64 := 0
  size    : Nat := 0
  maxSize : Nat := 0
  grants  : List Grant := []
  grans   : List Nat := []
  slots   : List Nat := []
  deriving DecidableEq, Repr

/-- A revoking command between its acceptance and its completion (R53, R54): the entry that each hub's plot check
applies at its point, whether each hub has applied it, the state the plot ends in, what a shrink gives up, whether the
command came through PLM.CMD (it then completes there), the time of the first point, the
bulk operations aborted and lines lost so far, whether the shootdown aborted transfers, and the number below which requests at
the homes were accepted before the point. -/
structure Revoking where
  entry   : PlotEntry
  at0     : Bool
  at1     : Bool
  final   : PlotState
  freed   : List Nat
  freedSlots : List Nat
  byCmd   : Bool
  since   : Nat
  aborted : Nat
  lost    : Nat
  xfer    : Bool
  mark    : Nat
  deriving DecidableEq, Repr

/-- One handle of the plot table: its entry, a revoking command in progress, whether it is the shadow or target of a
PUBLISH in progress and whether the value and the complement in reserved DRAM agree (R38). `written` is the journal's
written bit (R384). -/
structure Plot where
  cur     : PlotEntry := {}
  rev     : Option Revoking := none
  cplBad  : Bool := false
  written : Bool := false
  deriving DecidableEq, Repr

/-- A PUBLISH past its checks (R51): engine command, target, shadow, whether the publish point has passed, the
number below which requests at the homes were accepted before it, and whether the lines that those cached have been recalled. -/
structure Publishing where
  cmd    : Nat
  target : BitVec 16
  shadow : BitVec 16
  point  : Bool
  mark   : Nat := 0
  swept  : Bool := false
  deriving DecidableEq, Repr

/-- One entry of the granule map (R40): owner handle, position in the plot's list, sealed flag. -/
structure GranuleRec where
  owner  : BitVec 16
  pos    : Nat
  sealed : Bool
  deriving DecidableEq, Repr

/-- One entry of a tenant's plot window table (R44). -/
structure Window where
  valid : Bool := false
  base  : BitVec 57 := 0
  deriving DecidableEq, Repr

/-- The key pair of a plot (R358): keys of 512 bits, parity, the ATTESTED flag with its bound list (R369), and the
re-key sweep (R363): active, its pointer in blocks for a TIERED plot (R364). -/
structure KeyPair where
  cur      : Option (BitVec 512) := none
  prev     : Option (BitVec 512) := none
  parity   : Bool := false
  attested : Bool := false
  list     : Option (BitVec 10) := none
  sweep    : Bool := false
  ptr      : Nat := 0
  deriving DecidableEq, Repr

/-- A job-key slot (R353). `lifetime` is the second at which an ATTESTED slot ends (R369). -/
structure JobSlot where
  job      : BitVec 20
  tenant   : BitVec 12
  cur      : BitVec 256
  prev     : Option (BitVec 256)
  parity   : Bool
  attested : Bool
  bound    : BitVec 16
  lifetime : Nat
  ctr0     : Nat
  ctr1     : Nat
  deriving DecidableEq, Repr

/-- A tenant (R351, R361): its confidential flag, its recorded public key, its spill key, whether it is being removed,
and the totals its removal reports. -/
structure Tenant where
  conf     : Bool
  pubKey   : Option Bytes
  spill    : Option (BitVec 512)
  removing : Bool
  aborted  : Nat
  lost     : Nat
  deriving DecidableEq, Repr

/-- An allow list (R366). -/
structure AllowList where
  frozen : Bool
  ids    : List (BitVec 512)
  deriving DecidableEq, Repr

/-- A transport key (R372): key ID, the handle it is bound to, the nonce of the report that created it and its private
scalar. -/
structure TransportKey where
  id     : BitVec 16
  handle : Option (BitVec 16)
  nonce  : Bytes
  priv   : Nat
  deriving DecidableEq, Repr

/-- A record staged by the journal engine and not yet committed (R380): its bytes and the engine command whose completion
waits for it, if any. -/
structure StagedRec where
  seq   : Nat
  bytes : Bytes
  cmd   : Option Nat
  deriving DecidableEq, Repr

/-- An open journal (R378 to R389): plot, next sequence number, chain, operation records since the last checkpoint or
OPEN, records staged, and the certificate spans: the Journal key in use and the one before when the span began at an
FW_ACTIVATE. `lastSigned` is the last committed checkpoint or OPEN record. -/
structure Journal where
  plot       : BitVec 16
  next       : Nat
  chain      : Bytes
  sinceCkpt  : Nat
  staged     : List StagedRec
  key        : Bytes
  prevKey    : Option Bytes
  lastSigned : Bytes
  closing    : Bool
  deriving DecidableEq, Repr

end Sys2Proof
end

