-- ==== Sys2Proof/Data/Fabric.lean ====
section
/-! DEFINITION. What the ports, the crossbar, the home agents and the translator hold (10_lanes_and_link.md,
11_fabric_paths.md, 12_coherence_and_remote_access.md, 13_translation_and_faults.md). -/

namespace Sys2Proof

/-- One link: a port, or a half of a split port (R258). `out` is the replay buffer, oldest first (R267); `held` the
packets waiting for the window or for XOFF; `rx` the flits in the receive buffer of each VC (R271). `nakAt` is the time of a
NAK that stands (R268); `tries` the timeouts and NAKs without progress and `moved` says that A has advanced since the last
(R270); `ackHold` and `rxHold` are the times up to which a substitution holds the ack timer and the no-flit timer (R276);
`xoffAt` the time at which each VC held by the partner came under XOFF (R306); `rxQuiet` says that the marker set which closes
a SLEEP has come (R278), `waking` that a wake has begun (R279), `sreq` is the lane whose substitution is asked for (R275). -/
structure Link where
  state  : BitVec 4 := 1
  width  : BitVec 4 := 0
  seq    : BitVec 12 := 0
  acked  : BitVec 12 := 0xFFF
  out    : List Flit := []
  held   : List Packet := []
  expect : BitVec 12 := 0
  ackv   : Bool := false
  nakAt  : Option Nat := none
  tries  : Nat := 0
  moved  : Bool := false
  ackHold : Nat := 0
  rxHold : Nat := 0
  xoff   : BitVec 4 := 0
  xoffAt : List (Nat × Nat) := []
  off    : BitVec 4 := 0
  rx     : List (Nat × Nat) := []
  txAsleep : Bool := false
  rxAsleep : Bool := false
  rxQuiet : Bool := false
  waking : Bool := false
  ackOwed : Bool := false
  sreq   : Option (BitVec 3) := none
  spareRx : Option (BitVec 3) := none
  spareTx : Option (BitVec 3) := none
  readySent : Bool := false
  readyRecv : Bool := false
  echoSent : Bool := false
  lost   : BitVec 4 := 0
  injCrc : Bool := false
  partner : Option (BitVec 13 × BitVec 6) := none
  rtt    : BitVec 12 := 0
  deriving DecidableEq, Repr

/-- One physical lane (R262, R263, Table 10-9): lock, markers lost in a row, whether it counts as failed, the half it serves,
its roles and logical numbers in both directions. -/
structure Lane where
  lock    : Bool := false
  lostMk  : Nat := 0
  bad     : Bool := false
  halfB   : Bool := false
  rxRole  : BitVec 3 := 0
  txRole  : BitVec 3 := 0
  rxLog   : BitVec 4 := 0xF
  txLog   : BitVec 4 := 0xF
  deriving DecidableEq, Repr

/-- A flagged packet in the fence park of its ingress link (R300, R301). -/
structure Parked where
  link : LinkNo
  pkt  : Packet
  deriving DecidableEq, Repr

/-- The owner of a line in E/M: an endpoint, or a bed with a far atomic (Table 12-2). -/
inductive Owner where
  | ep (e : BitVec 13)
  | bed (b : BitVec 5)
  deriving DecidableEq, Repr

/-- A sharer record (Table 12-2); a line with none is in I. -/
inductive LineRec where
  | s (ptrs : List (BitVec 13))
  | sc (vec : BitVec 128)
  | em (o : Owner)
  deriving DecidableEq, Repr

/-- A record with the order of its last use (R317). -/
structure RecEnt where
  r   : LineRec
  lru : Nat
  deriving DecidableEq, Repr

/-- Why the home snoops a line: for a request that waits, for a record eviction (R317), for a cell or an engine of the
device that will ask again, or for a revocation, PUBLISH or removal (Table 02-9), which then names the plot. -/
inductive SnoopFor where
  | request (rq : Nat)
  | evict
  | inside
  | plot (h : BitVec 16)
  deriving DecidableEq, Repr

/-- A snoop awaiting its answer (R329): the endpoint, its TAG, whether it is a RECALL and one that leaves a shared copy,
the link it left on and whether it has been sent again on the alternate path. -/
structure Snoop where
  ep     : BitVec 13
  tag    : BitVec 16
  isRecall : Bool
  keep   : Bool
  link   : Option LinkNo
  resent : Bool
  deriving DecidableEq, Repr

/-- A transaction in progress on a line (R321): its cause, the snoops not yet answered and the record that the line is left
with when the last one has been; returned data goes to the place the line had when the snoops began (R52): the handle whose
keys apply and the entry. -/
structure Txn where
  cause  : SnoopFor
  snoops : List Snoop
  after_ : Option LineRec
  kh     : BitVec 16
  entry  : PlotEntry
  deriving DecidableEq, Repr

/-- A request at the home that waits (R321): its number, link and packet, and the place it addressed when it was accepted
(R52): the handle whose keys apply and the entry. -/
structure HomeReq where
  rq    : Nat
  link  : LinkNo
  pkt   : Packet
  kh    : BitVec 16
  entry : PlotEntry
  deriving DecidableEq, Repr

/-- A hold after an exclusive grant (R324), with the time of the grant and whether it was a far atomic (R326). -/
structure Hold where
  since  : Nat
  active : Bool
  far    : Bool
  deriving DecidableEq, Repr

/-- A line held in a bed's atomic buffer (R325). -/
structure AtomLine where
  line : Nat
  data : Bytes
  lru  : Nat
  deriving DecidableEq, Repr

/-- A leaf of a tenant's page table (Table 13-2). -/
structure Leaf where
  tva    : BitVec 57
  size   : BitVec 2
  rights : BitVec 4
  remote : Bool := false
  resident : Bool := false
  enc    : Bool := false
  handle : BitVec 16
  offset : BitVec 28
  owner  : BitVec 13 := 0
  raddr  : BitVec 48 := 0
  deriving DecidableEq, Repr

/-- What order 4 of Table 02-3 admitted, for entries of sealed plots (R338): a kernel slot or a library routine. -/
inductive Admit where
  | anyone | kernel (slot : Nat) | routine (opcode : Nat)
  deriving DecidableEq, Repr

/-- An entry of a translation cache (R338, R339): caches 0 to 23 are the beds', 24 and 25 the hubs' engines.
`cell` is the cell whose fill placed it (R80, R340); `ahead` marks one that a prefetch placed and no access has used (R341). -/
structure TlbEnt where
  cache  : Nat
  cell   : Option Nat
  job    : BitVec 20
  tva    : BitVec 57
  size   : BitVec 2
  rights : BitVec 4
  by_    : Admit
  handle : BitVec 16
  ofs    : Nat
  ahead  : Bool := false
  deriving DecidableEq, Repr

/-- A page migration (R343): the time it began, the parts of 4,096 bytes that have arrived, and the status of the part that
failed, if one has. -/
structure Migr where
  since  : Nat
  got    : List Nat
  failed : Option Nat
  deriving DecidableEq, Repr

/-- An open fault (R342 to R345): the 64 KiB region, what its first waiter needs, its waiters, whether its record has been
posted, the migration that serves it, and the record (kind, detail) that is due. `joined` says that it waits for a return of
the page (R346). -/
structure OpenFault where
  tenant : BitVec 12
  region : BitVec 57
  need   : BitVec 4
  job    : BitVec 20
  source : Nat
  waiters : Nat
  posted : Bool
  mig    : Option Migr
  due    : Option (Nat × Nat)
  joined : Bool
  deriving DecidableEq, Repr

/-- A fault queue (R344). -/
structure FaultQ where
  plot  : BitVec 16
  ofs   : Nat
  code  : BitVec 4
  chan  : BitVec 12
  tail  : Nat := 0
  phase : Bool := true
  deriving DecidableEq, Repr

/-- Who started a shootdown (R347): an UNMAP or SET_REMOTE, a page of RETURN_PAGES, a revoking PLM command, a PUBLISH. -/
inductive ShootBy where
  | unmap | setRemote | returnPage (cmd : Nat) (tva : BitVec 57) | revoke (h : BitVec 16) | publish (t s : BitVec 16)
  deriving DecidableEq, Repr

/-- A copy instruction of a furrow: cell, thread, furrow 0 or 1, number of the copy. -/
structure CopyRef where
  cell   : Nat
  thread : Nat
  furrow : Nat
  id     : Nat
  deriving DecidableEq, Repr

/-- A shootdown in progress (R347, R348): tenant and pages, or the plots, whose translations are withdrawn; the owner and
remote address that a SET_REMOTE gives; whether its point has passed and whether the drain limit has run out; the entries
withdrawn, the transfers that go on using them, and how many were aborted. -/
structure Shoot where
  by_    : ShootBy
  tenant : Option (BitVec 12)
  lo     : Nat
  hi     : Nat
  plots  : List (BitVec 16)
  remote : Option (BitVec 13 × BitVec 48) := none
  point  : Bool := false
  limit  : Bool := false
  ents   : List TlbEnt := []
  users  : List CopyRef := []
  aborted : Nat := 0
  deriving DecidableEq, Repr

end Sys2Proof
end

