-- ==== Sys2Proof/Data/Memory.lean ====
section
/-! DEFINITION. What the stacks, their controllers, the hoes and the dense tier hold (08_memory_stacks.md,
09_dense_tier.md). -/

namespace Sys2Proof

/-- What is stored with a 64-byte code word: its valid bit (R214), the fields of the metadata byte (Table 08-3) and the
number of its symbols in error (R213). -/
structure WordMeta where
  valid : Bool := false
  kg    : Bool := false
  td    : Bool := false
  cs    : BitVec 2 := 0
  err   : Nat := 0
  deriving DecidableEq, Repr

/-- One entry of a merge buffer (R216): the word and its 64 bytes, none where the mask is clear. -/
structure MergeEntry where
  word : Nat
  data : List (Option Byte)
  deriving DecidableEq, Repr

/-- One row of a repair log (R224). -/
structure RepairRow where
  pc   : Nat
  bank : Nat
  row  : Nat
  deriving DecidableEq, Repr

/-- What one stack and its bed's controller hold beside their register pages: the merge buffer, oldest entry first; the
activate-counter tables by pseudo-channel and bank, as lists of (row, count) (R222); the open row of each bank (R42);
corrected reads of a row in this scrub pass and the repair log (R224); the lines of the valid-bit cache (R215); the spares that
have failed; the time at which the scrub pass in progress began, and that at which the next one was due while it still ran
(R228, R230). -/
structure Stack where
  mb     : List MergeEntry := []
  act    : List (Nat × List (Nat × Nat)) := []
  open_  : List (Nat × Nat) := []
  rowCe  : List (Nat × Nat) := []
  repair : List RepairRow := []
  vbc    : List Nat := []
  spareFailed : List Nat := []
  pass   : Option Nat := none
  passDue : Option Nat := none
  deriving DecidableEq, Repr

/-- A drive (R235 to R239): whether a drive answers on the port, its LBA count, its serial number, and the superblock
that its two copies give, if one is good. The superblock fields that tie drives into a tier are in `TierSb`. -/
structure TierSb where
  gen     : Nat
  w       : Nat
  pos     : Nat
  area    : Nat
  slots   : Nat
  tierId  : BitVec 128
  serials : List (BitVec 160)
  deriving DecidableEq, Repr

structure Drive where
  present : Bool
  lbas    : Nat
  serial  : BitVec 160
  sb      : Option TierSb
  deriving DecidableEq, Repr

/-- A tier tag, Table 09-8. -/
structure TierTag where
  owner : BitVec 16 := 0
  unit  : BitVec 16 := 0
  valid : Bool := false
  zero  : Bool := false
  deriving DecidableEq, Repr

/-- Who waits for a READY (R246, R248, R302, R429): a requester at a port, with its request as it arrived (its READY takes the
path of its DEFER, R294), or a thread of a cell. -/
inductive Waiter where
  | port (l : LinkNo) (req : Packet)
  | cell (c t : Nat)
  deriving DecidableEq, Repr

/-- A block of the tier cache (R244): the cache tag, whether a fill or a write-back is in flight, the order of last use,
the order in which it became dirty, whether its keep time runs, its token with the waiters still to reissue. -/
structure CacheBlk where
  owner  : BitVec 16
  unit   : BitVec 16
  blk    : BitVec 12
  lru    : Nat
  dirty  : Option Nat
  wb     : Bool
  keep   : Bool
  waiters : List Waiter
  deriving DecidableEq, Repr

/-- A fill of a block that is not resident (R246): token, the waiters, whether the
drive read has been issued or waits for a way (R244), or has failed, and the time it began. -/
structure TierFill where
  token   : BitVec 16
  waiters : List Waiter
  issued  : Bool
  failed  : Bool
  since   : Nat
  deriving DecidableEq, Repr

/-- A store deferred at the dirty bound (R248): token and waiters. -/
structure DirtyHold where
  token   : BitVec 16
  waiters : List Waiter
  deriving DecidableEq, Repr

/-- A plot record of the tier tags (Table 09-9): the key pair as kept under R362. -/
structure PlotRecFlash where
  cur      : Option (BitVec 512)
  prev     : Option (BitVec 512)
  parity   : Bool
  attested : Bool
  list     : Option (BitVec 10)
  sweep    : Bool
  ptr      : Nat
  deriving DecidableEq, Repr

end Sys2Proof
end

