-- ==== Sys2Proof/Data/Queues.lean ====
section
/-! DEFINITION. What the command-queue engine holds: queues, tenants' shares and rate limits, the calendar, commands
fetched, requests of the device's own and the collective slots (06_pool_operations.md, 07_queues_and_admission.md). -/

namespace Sys2Proof

/-- A submission queue (R187 to R190). -/
structure Sq where
  tenant : BitVec 12
  plot   : BitVec 16
  ofs    : Nat
  code   : BitVec 4
  cq     : BitVec 14
  chan   : BitVec 12
  head   : Nat := 0
  tail   : Nat := 0
  err    : Bool := false
  deleting : Bool := false
  deriving DecidableEq, Repr

/-- A completion queue (R191, R192). -/
structure Cq where
  tenant : BitVec 12
  plot   : BitVec 16
  ofs    : Nat
  code   : BitVec 4
  chan   : BitVec 12
  head   : Nat := 0
  tail   : Nat := 0
  phase  : Bool := true
  err    : Bool := false
  deleting : Bool := false
  deriving DecidableEq, Repr

/-- What the engine keeps for a tenant (R197 to R203). Both buckets count in units of 1/15,625, so that an accrual of 256 ns
adds whole units: `cmdTok` of a token, `byteTok` of a byte. `tag` is S, `elig` the time E in ns, `nextQ` the queue after
the one served last. -/
structure Share where
  weight  : Nat := 1
  cmdRate : Nat := 0
  cmdBurst : Nat := 0
  byteRate : Nat := 0
  byteBurst : Nat := 0
  cap     : Nat := 0
  maxInflight : Nat := 4096
  cmdTok  : Nat := 0
  byteTok : Int := 0
  tag     : Nat := 0
  elig    : Nat := 0
  drops   : Nat := 0
  nextQ   : Nat := 0
  deriving DecidableEq, Repr

/-- Where a fetched command stands: admitted and waiting for dispatch, dispatched and waiting for staging space of the journal
(R391), in execution, registered as a rank of a
collective (R179), waiting for its journal record (R390), ready to post its completion, or held as a PUBLISH (R51). -/
inductive CmdPhase where
  | admitted | staging | running | ranked | held | record | posting
  deriving DecidableEq, Repr

/-- A command that the engine has fetched: its descriptor, its place in the order of dispatch, and what it has come to.
`result` is bytes 0x08 to 0x1F of the completion entry, `moved` the bytes it is charged for, `out` its output bytes for the
journal, `reads` its input version vector (R384) with the version at the first read, `pubs` the plots that passed a publish point
since its dispatch, `beds` the parts that wait for a cell,
`cells` the cells that run its parts (R79). `fault` and
`tva` are the fault it waits for and the address that met it. `ran` says that it has been
run (R164), `place` that the journal has reserved the place of its record (R390), `appended` that the first phase of an ATTEND is done,
`stall` that its completion has met a full CQ, `jnl` that its record has been committed. -/
structure Cmd where
  desc    : Bytes
  sq      : BitVec 14
  tenant  : BitVec 12
  phase   : CmdPhase := .admitted
  order   : Nat := 0
  slot    : Bool := false
  status  : BitVec 8 := 0
  result  : Bytes := []
  moved   : Nat := 0
  out     : Bytes := []
  reads   : List (Nat × Nat) := []
  pubs    : List Nat := []
  beds    : List Nat := []
  cells   : List Nat := []
  fault   : Option Nat := none
  tva     : Nat := 0
  ran     : Bool := false
  place   : Bool := false
  appended : Bool := false
  stall   : Bool := false
  jnl     : Bool := false
  deriving DecidableEq, Repr

/-- The states of a collective slot that is not FREE (R179). -/
inductive CollPhase where
  | open_ | reducing | finishing
  deriving DecidableEq, Repr

/-- A collective slot (R179): FREE slots are not listed. `ranks` are the registered ranks with their commands, the latest
first; `moved` the bytes it is charged for when its execution slot is given up (R199). -/
structure CollSlot where
  phase  : CollPhase
  job    : BitVec 20
  n      : Nat
  e      : Nat
  ifmt   : BitVec 4
  ofmt   : BitVec 4
  cop    : BitVec 4
  rm     : BitVec 2
  timeout : Nat
  ranks  : List (Nat × Nat)
  lastSq : BitVec 14
  hasSlot : Bool
  moved  : Nat := 0
  deriving DecidableEq, Repr

/-- What a request of the device's own is for (R328): a part of a REMOTE_COPY at a place of its range, a part of a page that
migrates, or a part of a page that RETURN_PAGES pushes back. -/
inductive OwnKind where
  | copyRead (cmd : Nat) (place : Nat)
  | copyWrite (cmd : Nat) (place : Nat)
  | migrate (fid : Nat) (part : Nat)
  | returnPage (cmd : Nat) (part : Nat)
  deriving DecidableEq, Repr

/-- A request of the device's own (R303, R305, R328, R330): READ or WRITE, what it carries, the link it left on when it has
been sent, whether on the alternate path, whether it has been sent a second time, and the token of a DEFER. -/
structure OwnReq where
  tag   : BitVec 16
  kind  : OwnKind
  write : Bool
  dest  : BitVec 13
  job   : BitVec 20
  enc   : Bool
  addr  : BitVec 64
  len   : Nat
  data  : Bytes
  sent  : Option LinkNo
  alt   : Bool
  again : Bool
  token : Option (BitVec 16)
  deriving DecidableEq, Repr

/-- The window of a destination (R305). -/
structure Win where
  w     : Nat
  clean : Nat
  since : Nat
  deriving DecidableEq, Repr

/-- Progress of a REMOTE_COPY: bytes asked for, bytes confirmed written, the end it has come to
(status, remote address, remote status). Of a RETURN_PAGES: the pages still to visit, the page under way with its parts
confirmed, and the pages returned. -/
structure Xfer where
  next  : Nat := 0
  ok    : Nat := 0
  failed : Option (Nat × Nat × Nat) := none
  pages : List (BitVec 57) := []
  cur   : Option (BitVec 57) := none
  got   : List Nat := []
  count : Nat := 0
  deriving DecidableEq, Repr

end Sys2Proof
end

