-- ==== Sys2Proof/Machine/State.lean ====
section
/-! DEFINITION. The state of the device: every register, table, buffer, counter and pin that the spec gives it, as plain
data, and the queue of commands that wait. Tables are sparse lists of (key, entry) in rising order of their keys; an
unlisted key holds the entry that the table's owner names. -/

namespace Sys2Proof.Machine

/-- Why a step stops with a fault. The spec describes nothing that stops the block: every error it knows is an answer, a status,
a trap, a boot stop or a reset, and each of these is a next state. No meaning raises `noSuchMemory`; it stands for an access to a
place that no rule gives the machine, and raising it would be safe, since nothing could be proved of what follows. -/
inductive Fault where
  | noSuchMemory (key : Nat)
  deriving DecidableEq, Repr

/-- Why a step gives no meaning. `notModelled` names a command of the table that has no meaning yet (safe: nothing can be
proved of it). -/
inductive Refusal where
  | notModelled (mnemonic : String)
  deriving DecidableEq, Repr

/-- What has left the device: packets and flits on a link, marker sets, MSI-X messages, I3C in-band interrupts, the data
answered to a read (none: completer abort, bus error or an I3C read that ends after zero bytes), SPDM messages on DOE,
and commands to regulators and drives that the spec names. -/
inductive Output where
  | packet (l : LinkNo) (p : Packet)
  | flit (l : LinkNo) (f : Flit)
  | markers (l : LinkNo) (standsFor : Option (BitVec 3))
  | msix (v : Nat)
  | ibi
  | answer (d : Option Bytes)
  | doe (m : Bytes)
  | rails (on : Bool)
  | deallocate (slot : Nat)
  deriving DecidableEq, Repr

/-- A command that waits at its page with BUSY at 1 (R54, R55, R88): the bits of its CMD word. -/
structure Waiting where
  op   : BitVec 4
  auto : Bool
  h    : BitVec 16
  deriving DecidableEq, Repr

/-- The state. -/
structure State where
  /-- Commands that wait, first in first out. -/
  pending : List Instr
  /-- Time in ns and cycles of the cells' clock since platform reset (Table 04-14); the seconds of key lifetimes. -/
  time : Nat
  cycles : Nat
  /-- Counter that the free values draw on: the model's own, no part of the device. -/
  free : Nat
  /-- What has left the device, latest first: the model's record. -/
  out : List Output
  /-- Register words by BAR0 offset (18_register_pages.md); unlisted registers hold their reset value. -/
  regs : List (Nat × W32)
  /-- Pending latches of critical registers and of the low halves of pairs, and latched high halves (R450 to R452). -/
  latch : List (Nat × W32)
  /-- Commands that wait at their page. -/
  wait : List (Nat × Waiting)
  /-- MSI-X table words by byte offset, and the function's MSI-X state (R446, R453). -/
  msixTab : List (Nat × W32)
  msix : MsiState
  /-- Plots (02_plots.md). -/
  plots : List (Nat × Plot)
  granules : List (Nat × GranuleRec)
  clearing : List Nat
  windows : List (Nat × Window)
  publishing : List Publishing
  heldPublish : List Nat
  /-- Pool memory by byte, keyed granule * 2^28 + position (R30, R32), and what the stacks hold with it (08). -/
  mem : List Host.Cell
  wmeta : List (Nat × WordMeta)
  summ : List Nat
  stackTab : List (Nat × Stack)
  repairFlash : List (Nat × List RepairRow)
  /-- The dense tier (09): drives, tags in DRAM and on flash, changed tag pages, the cache by tier block, fills, holds at
  the dirty bound, contents on flash keyed slot * 2^28 + position, slots being deallocated, drives' failed positions. -/
  drives : List (Nat × Drive)
  tags : List (Nat × TierTag)
  tagsFlash : List (Nat × TierTag)
  tagPages : List Nat
  plotRecs : List (Nat × PlotRecFlash)
  cache : List (Nat × CacheBlk)
  cacheGrans : List Nat
  cmem : List Host.Cell
  fills : List (Nat × TierFill)
  holds : List DirtyHold
  flash : List Host.Cell
  dealloc : List Nat
  driveTries : List (Nat × Nat)
  lruClock : Nat
  nextToken : Nat
  flushSeq : Option FlushSeq
  /-- Security (14). -/
  tenants : List (Nat × Tenant)
  slots : List (Nat × JobSlot)
  pairs : List (Nat × KeyPair)
  allow : List (Nat × AllowList)
  transport : List TransportKey
  nextKid : Nat
  spdm : List SpdmConn
  /-- Cells and the trellis (03). -/
  cells : List (Nat × Cell)
  jobs : List (Nat × Job)
  kslots : List (Nat × KSlot)
  kload : Option KLoadRun
  substs : List SubstRun
  /-- The command-queue engine (06, 07). -/
  sqs : List (Nat × Sq)
  cqs : List (Nat × Cq)
  shares : List (Nat × Share)
  cmds : List (Nat × Cmd)
  nextCmd : Nat
  nextOrder : Nat
  vt : Nat
  calNow : Nat
  calendar : List (Nat × Nat)
  overflow : List Nat
  coll : List (Nat × CollSlot)
  own : List OwnReq
  nextTag : Nat
  wins : List (Nat × Win)
  xfers : List (Nat × Xfer)
  /-- Links, lanes and the crossbar (10, 11). -/
  links : List (Nat × Link)
  lanes : List (Nat × Lane)
  fences : List (Nat × (Nat × Nat))
  park : List Parked
  marks : List (Nat × Nat)
  xoffUs : List (Nat × Nat)
  /-- The home agents (12): requests that wait, in order of arrival (R321), and those withdrawn with a DEFER (R302). -/
  homeq : List HomeReq
  deferred : List (Nat × LinkNo × Packet)
  /-- Recalls answered by a write-back that crossed them: endpoint and TAG of the answer still to be discarded (R323). -/
  crossed : List (Nat × Nat)
  recs : List (Nat × RecEnt)
  txns : List (Nat × Txn)
  lineHolds : List (Nat × Hold)
  regionBits : List (Nat × Nat)
  pred : List (Nat × Nat)
  nearBy : List (Nat × Nat)
  atomBuf : List (Nat × List AtomLine)
  spt : List (Nat × BitVec 49)
  nextRq : Nat
  /-- Translation (13). -/
  leaves : List (Nat × List Leaf)
  tlb : List TlbEnt
  faults : List (Nat × OpenFault)
  nextFault : Nat
  faultQs : List (Nat × FaultQ)
  shoots : List (Nat × Shoot)
  nextShoot : Nat
  /-- Journals (15). -/
  journals : List (Nat × Journal)
  /-- Control pair and mailboxes (16). -/
  channels : List (Nat × Channel)
  txq : List W64
  rxq : List W64
  taken : List HororeMsg
  running : Option HororeRun
  pbuf : List (Nat × Byte)
  staged : Option (Bytes × Bool)
  fw : Option FwImage
  /-- The firmware image slot of boot flash (R416): what it has been written with, none while it holds what it was delivered
  with; the time of the next scheduled swap (R400); BAR4 accesses that wait for a snoop (R405). -/
  fwFlash : Option Bytes
  swapDue : Nat
  bar4Q : List (BitVec 36 × Nat × Option Bytes)
  i3cUp : Option (Nat × W32)
  /-- Clocks, power and reset (17). -/
  phase : Phase
  pins : Pins
  aclk : Ramp
  fclk : Ramp
  xtalCentre : Option Nat
  backup : Backup
  powerToken : Option (BitVec 16)
  powerWait : List (LinkNo × Packet)
  savedSleep : List Nat
  frozen : Bool
  journalKey : Bytes
  deriving DecidableEq, Repr

/-- A drive of the board as the model has it at reset: present, unformatted, and large enough for the 2 PiB of R238 over 16
drives (DESIGN CHOICE, log entry 8). -/
def Drive.fresh (d : Nat) : Drive :=
  { present := true, lbas := 37120 + 16 * 256 * 8388608, serial := BitVec.ofNat 160 (d + 1), sb := none }

/-- The machine right after platform reset (R433, R435): every table empty, every register at the reset value of its
table, nothing in memory, the device held until internal reset release. The backup domain is as at the first power-up
(R436). -/
def State.reset : State where
  pending := []
  time := 0
  cycles := 0
  free := 0
  out := []
  regs := []
  latch := []
  wait := []
  msixTab := []
  msix := { enabled := true }
  plots := []
  granules := []
  clearing := []
  windows := []
  publishing := []
  heldPublish := []
  mem := []
  wmeta := []
  summ := []
  stackTab := []
  repairFlash := []
  drives := [(0, Drive.fresh 0), (1, Drive.fresh 1), (2, Drive.fresh 2), (3, Drive.fresh 3), (4, Drive.fresh 4),
    (5, Drive.fresh 5), (6, Drive.fresh 6), (7, Drive.fresh 7), (8, Drive.fresh 8), (9, Drive.fresh 9),
    (10, Drive.fresh 10), (11, Drive.fresh 11), (12, Drive.fresh 12), (13, Drive.fresh 13), (14, Drive.fresh 14),
    (15, Drive.fresh 15)]
  tags := []
  tagsFlash := []
  tagPages := []
  plotRecs := []
  cache := []
  cacheGrans := []
  cmem := []
  fills := []
  holds := []
  flash := []
  dealloc := []
  driveTries := []
  lruClock := 0
  nextToken := 0
  flushSeq := none
  tenants := []
  slots := []
  pairs := []
  allow := []
  transport := []
  nextKid := 1
  spdm := []
  cells := []
  jobs := []
  kslots := []
  kload := none
  substs := []
  sqs := []
  cqs := []
  shares := []
  cmds := []
  nextCmd := 0
  nextOrder := 0
  vt := 0
  calNow := 0
  calendar := []
  overflow := []
  coll := []
  own := []
  nextTag := 0
  wins := []
  xfers := []
  links := []
  lanes := []
  fences := []
  park := []
  marks := []
  xoffUs := []
  homeq := []
  deferred := []
  crossed := []
  recs := []
  txns := []
  lineHolds := []
  regionBits := []
  pred := []
  nearBy := []
  atomBuf := []
  spt := []
  nextRq := 0
  leaves := []
  tlb := []
  faults := []
  nextFault := 0
  faultQs := []
  shoots := []
  nextShoot := 0
  journals := []
  channels := []
  txq := []
  rxq := []
  taken := []
  running := none
  pbuf := []
  staged := none
  fw := none
  fwFlash := none
  swapDue := 86400000000000
  bar4Q := []
  i3cUp := none
  phase := .inReset
  pins := {}
  aclk := {}
  fclk := {}
  xtalCentre := none
  backup := { vbatLost := true }
  powerToken := none
  powerWait := []
  savedSleep := []
  frozen := false
  journalKey := []

end Sys2Proof.Machine
end

