-- ==== Sys2Proof/Machine/Ops.lean ====
section
/-! DEFINITION. The named operations over the register pages: page map, register words and fields, saturating counters,
the error record, interrupt status with its MSI-X vectors, and the start and completion of a page's commands
(18_register_pages.md). -/

namespace Sys2Proof.Machine

/-! ### The page map (R445, R446) -/

/-- Page numbers of the single-instance blocks (Table 18-1). -/
def pgCLK : Nat := 0x000
def pgRSTC : Nat := 0x001
def pgPWR : Nat := 0x002
def pgMBX : Nat := 0x003
def pgCC (i : Nat) : Nat := 0x004 + i
def pgSEC : Nat := 0x006
def pgPLM : Nat := 0x007
def pgTRL : Nat := 0x008
def pgCQE : Nat := 0x009
def pgXBAR : Nat := 0x00A
def pgHOME : Nat := 0x00B
def pgXLT : Nat := 0x00C
def pgTIER : Nat := 0x00D
def pgJNL : Nat := 0x00E
def pgTEL : Nat := 0x00F
def pgHUB (i : Nat) : Nat := 0x010 + i
def pgPCIE (i : Nat) : Nat := 0x020 + i
def pgPORT (p : Nat) : Nat := 0x040 + p
def pgLANE (i : Nat) : Nat := 0x060 + i
def pgBED (b : Nat) : Nat := 0x080 + b
def pgSTK (b : Nat) : Nat := 0x0A0 + b
def pgHOE (b : Nat) : Nat := 0x0C0 + b
def pgCELL (c : Nat) : Nat := 0x100 + c

/-- The rows of Table 18-1: type, instances, first page. -/
def pageMap : List (Nat × Nat × Nat) :=
  [(0x11, 1, 0x000), (0x13, 1, 0x001), (0x12, 1, 0x002), (0x14, 1, 0x003), (0x16, 2, 0x004), (0x07, 1, 0x006),
   (0x0B, 1, 0x007), (0x0F, 1, 0x008), (0x08, 1, 0x009), (0x04, 1, 0x00A), (0x05, 1, 0x00B), (0x06, 1, 0x00C),
   (0x09, 1, 0x00D), (0x15, 1, 0x00E), (0x17, 1, 0x00F), (0x01, 2, 0x010), (0x0A, 17, 0x020), (0x18, 1, 0x038),
   (0x19, 1, 0x039), (0x1A, 1, 0x03A), (0x02, 24, 0x040), (0x03, 6, 0x060), (0x0C, 24, 0x080), (0x0D, 24, 0x0A0),
   (0x10, 24, 0x0C0), (0x0E, 408, 0x100)]

/-- The type and instance of a page; none where the page map holds no block. -/
def pageBlock (p : Nat) : Option (Nat × Nat) :=
  (pageMap.find? (fun r => r.2.2 ≤ p && p < r.2.2 + r.2.1)).map (fun r => (r.1, p - r.2.2))

/-- The type of a page, 0 where there is none. -/
def pageType (p : Nat) : Nat := ((pageBlock p).map (·.1)).getD 0

/-- The instance of a page. -/
def pageInst (p : Nat) : Nat := ((pageBlock p).map (·.2)).getD 0

/-- The auxiliary blocks (R426, R456). -/
def isAux (ty : Nat) : Bool := ty == 0x18 || ty == 0x19 || ty == 0x1A

/-- Whether a row of a register table covers an offset. -/
def RegRow.covers (r : RegRow) (o : Nat) : Bool :=
  r.off ≤ o && (o - r.off) % r.stride == 0 && (o - r.off) / r.stride < r.cnt

/-- The offset at which half B's registers of a PORT page stand in the table (R287). -/
def halfBOff (ty o : Nat) : Nat :=
  if ty == 2 && 0x440 ≤ o && o ≤ 0x484 then o - 0x400 else o

/-- The row of the register tables that holds an offset of a page type. -/
def regRow? (ty o : Nat) : Option RegRow :=
  (regRowsOf ty).find? (fun r => r.covers (halfBOff ty o))

/-- The reset value of a register word; half B's FC resets to 0x0280_0200 (R287). -/
def resetWord (k : Nat) : W32 :=
  let p := k / 4096
  let o := k % 4096
  let ty := pageType p
  if ty == 2 && o == 0x450 then 0x02800200
  else match regRow? ty o with
    | some r => BitVec.ofNat 32 r.reset
    | none => 0

/-! ### Words, fields and counters -/

/-- The word a register holds. -/
def State.rd (s : State) (p o : Nat) : W32 :=
  Tab.get (resetWord (p * 4096 + o)) s.regs (p * 4096 + o)

/-- Set the word a register holds. -/
def State.wr (s : State) (p o : Nat) (v : W32) : State :=
  { s with regs := Tab.set (resetWord (p * 4096 + o)) s.regs (p * 4096 + o) v }

/-- A field of a register. -/
def State.fld (s : State) (p o lo len : Nat) : Nat := fieldOf (s.rd p o).toNat lo len

/-- Set a field of a register. -/
def State.setFld (s : State) (p o lo len v : Nat) : State :=
  s.wr p o (withField (s.rd p o) lo len v)

/-- One bit of a register. -/
def State.bit (s : State) (p o b : Nat) : Bool := (s.rd p o).getLsbD b

/-- Raise a saturating counter. -/
def State.count (s : State) (p o lo len n : Nat) : State :=
  s.setFld p o lo len (satAdd (s.fld p o lo len) n (2 ^ len - 1))

/-- Count one event in a whole-word counter. -/
def State.inc (s : State) (p o : Nat) : State := s.count p o 0 32 1

/-- Record what leaves the device. -/
def State.emit (s : State) (o : Output) : State := { s with out := o :: s.out }

/-! ### Interrupts (R453, R454, R404) -/

def oIRQS : Nat := 0x010
def oIRQE : Nat := 0x014
def oERRC : Nat := 0x01C
def oERRF : Nat := 0x020
def oERRI : Nat := 0x024

/-- The MSI-X vector of a page (Table 18-4). -/
def vectorOf (p : Nat) : Nat :=
  let i := pageInst p
  match pageType p with
  | 0x14 => 0
  | 0x16 => 1
  | 0x11 => 2
  | 0x12 => 2
  | 0x13 => 2
  | 0x0B => 3
  | 0x0F => 4
  | 0x0E => 4
  | 0x08 => 5
  | 0x06 => 6
  | 0x07 => 7
  | 0x15 => 8
  | 0x09 => 9
  | 0x05 => 10
  | 0x04 => 11
  | 0x01 => 12
  | 0x0A => 12
  | 0x17 => 12
  | 0x02 => 13 + i
  | 0x03 => 37 + i
  | 0x0C => 43 + i
  | 0x0D => 43 + i
  | 0x10 => 43 + i
  | _ => 67

/-- Whether a page asserts its interrupt (R453). -/
def State.pageIrq (s : State) (p : Nat) : Bool :=
  (s.rd p oIRQS &&& s.rd p oIRQE) != 0

/-- The condition of a vector: the OR of its pages' interrupts. A page with no interrupt status set asserts nothing, so
only pages whose status is listed are looked at. -/
def State.vecCond (s : State) (v : Nat) : Bool :=
  s.regs.any (fun kv => kv.1 % 4096 == oIRQS && vectorOf (kv.1 / 4096) == v && s.pageIrq (kv.1 / 4096))

/-- The vector control word of the MSI-X table masks the vector; its mask bit is 1 after reset (PRESUMED, log entry 20). -/
def State.vecMasked (s : State) (v : Nat) : Bool :=
  s.msix.masked || (Tab.get (1 : W32) s.msixTab (16 * v + 12)).getLsbD 0

/-- Send a vector's message, or set its pending bit when it is masked. -/
def State.sendMsix (s : State) (v : Nat) : State :=
  if !s.msix.enabled then s
  else if s.vecMasked v then { s with msix := { s.msix with pba := insNat v s.msix.pba } }
  else s.emit (.msix v)

/-- The device's I3C dynamic address, 0 when none (MBX.I3C_STATUS.DYN_ADDR). -/
def State.dynAddr (s : State) : Nat := s.fld pgMBX 0x058 0 7

/-- After a change of a page's IRQ_STATUS or IRQ_ENABLE from `s` to `t`: the message goes out when the vector's condition
rises, and again after a software write (`again`) that leaves it at 1. MBX also raises an I3C in-band interrupt. -/
def irqSync (s t : State) (p : Nat) (again : Bool) : State :=
  let v := vectorOf p
  let t1 := if t.vecCond v && (again || !s.vecCond v) then t.sendMsix v else t
  if p == pgMBX && t.pageIrq pgMBX && !s.pageIrq pgMBX && t.dynAddr != 0 then t1.emit .ibi else t1

/-- Set a bit of a page's IRQ_STATUS. -/
def State.raise (s : State) (p b : Nat) : State :=
  irqSync s (s.setFld p oIRQS b 1 1) p false

/-- Record an error of Table 18-3: ERR_COUNT, and ERR_FIRST with its INFO when it holds none. HUB, PCIE and TEL raise
ERR (R455). -/
def State.logErr (s : State) (p code : Nat) (info : W32) : State :=
  let s1 := s.inc p oERRC
  let s2 := if s1.bit p oERRF 31 then s1
    else (s1.wr p oERRF (BitVec.ofNat 32 (2 ^ 31 + code))).wr p oERRI info
  if vectorOf p == 12 then s2.raise p 0 else s2

/-! ### Page commands (R46, R91, R206, R349, R377, R394, R443) -/

/-- Offset of CMD_STATUS and the IRQ_STATUS bit of OVERRUN of a page that takes commands. -/
def cmdStatusOff (p : Nat) : Nat :=
  if p == pgXLT then 0x05C else if p == pgSEC then 0x068 else if p == pgPWR then 0x044 else 0x054

def overrunBit (p : Nat) : Nat :=
  if p == pgPLM then 2 else if p == pgCQE then 2 else if p == pgTRL then 3 else if p == pgPWR then 3 else 4

/-- Offset of ARG0. -/
def argOff (p : Nat) : Nat := if p == pgSEC then 0x058 else 0x044

/-- Argument n of a page's commands (R401: whatever the registers hold). -/
def State.arg (s : State) (p n : Nat) : Nat := (s.rd p (argOff p + 4 * n)).toNat

/-- Write a result into argument n. -/
def State.setArg (s : State) (p n v : Nat) : State := s.wr p (argOff p + 4 * n) (BitVec.ofNat 32 v)

/-- BUSY. -/
def State.busy (s : State) (p : Nat) : Bool := s.bit p (cmdStatusOff p) 0

/-- A command completes: BUSY falls, STATUS is written and CMD_DONE is set. -/
def State.complete (s : State) (p status : Nat) : State :=
  ((s.setFld p (cmdStatusOff p) 0 1 0).setFld p (cmdStatusOff p) 8 8 status).raise p 0

/-- A write of CMD while BUSY is 1 is ignored and sets OVERRUN. -/
def State.overrun (s : State) (p : Nat) : State :=
  (s.setFld p (cmdStatusOff p) 1 1 1).raise p (overrunBit p)

/-! ### Free values -/

/-- A fresh number for a free value: the counter as it stands, and the state with the counter moved on. -/
def State.fresh (s : State) : Nat × State := (s.free, { s with free := s.free + 1 })

/-- Reserved metadata granules of a stack (R209). -/
def resGran (st : Nat) : Nat := if st < 8 then 18 else 19

/-- Pool granules of a stack (R30). -/
def poolGran (st : Nat) : Nat := if st < 8 then 342 else 341

/-- The first device granule of a stack: granules are numbered stack by stack (DEDUCED, log entry 6). -/
def granBase (st : Nat) : Nat := if st < 8 then 342 * st else 2736 + 341 * (st - 8)

/-- The stack of a device granule. -/
def granStack (g : Nat) : Nat := if g < 2736 then g / 342 else 8 + (g - 2736) / 341

/-- Number of pool granules (R30). -/
def numGran : Nat := 8192

/-- The hub of a bed (R13): 0 or 1. -/
def hubOfBed (b : Nat) : Nat := if b < 12 then 0 else 1

/-- The port of a link and whether it is half B (R258). -/
def portOf (l : Nat) : Nat := if l < 24 then l else l - 24
def isHalfB (l : Nat) : Bool := 24 ≤ l

/-- The hub of a link (R14). -/
def hubOfLink (l : Nat) : Nat := if portOf l < 12 then 0 else 1

end Sys2Proof.Machine
end

