-- ==== Sys2Proof/Machine/Send.lean ====
section
/-! DEFINITION. How packets leave the device: the header and payload of a packet as bytes (R290, R354), sealing and opening
under a job key (R353 to R357), flits with their window, XOFF and sleep (R265 to R272, R278), the response to a request
(R294, R473), requests of the device's own (R328) and congestion marks (R304). -/

namespace Sys2Proof

open Machine

/-- The 32-byte header; `masked` sets to zero what transit may change, for the authenticated data (R291, R355). -/
def Packet.header (p : Packet) (masked : Bool) : Bytes :=
  let z (n : Nat) : Nat := if masked then 0 else n
  leBytes 6 (z p.path.toNat) ++
  leBytes 1 (z p.hop.toNat + 8 * ofBool p.e + 16 * ofBool p.f + 32 * ofBool p.fp + z (64 * ofBool p.ce) +
    128 * ofBool p.ece) ++
  leBytes 1 p.opcode.toNat ++
  leBytes 2 (p.srcEp.toNat + 2 ^ 13 * ofBool p.rx + 2 ^ 14 * ofBool p.enc + 2 ^ 15 * ofBool p.rsv) ++
  leBytes 2 p.dstEp.toNat ++
  leBytes 4 (p.job.toNat + 2 ^ 20 * p.fcount.toNat + 2 ^ 30 * ofBool p.ph) ++
  leBytes 2 p.tag.toNat ++
  leBytes 2 (p.length.toNat + 2 ^ 13 * p.ah.toNat) ++
  leBytes 1 p.status.toNat ++ leBytes 1 p.mod.toNat ++ leBytes 2 p.token.toNat ++ leBytes 8 p.addr.toNat

/-- A whole packet, padded to 16 bytes (R290). -/
def Packet.encode (p : Packet) : Bytes :=
  pad16 (p.header false ++ (if p.rx then leBytes 8 p.retPath.toNat else []) ++
    (if p.enc then leBytes 8 p.ctr.toNat else []) ++ p.data ++ (if p.enc then p.gtag else []))

/-- The VC of a packet (Table 11-2, Table 12-1). -/
def Packet.vc (p : Packet) : BitVec 2 :=
  match p.opcode.toNat with
  | 0x02 => if p.length.toNat ≤ 256 then 0 else 2
  | 0x11 | 0x12 | 0x13 | 0x14 | 0x20 | 0x21 => 1
  | 0x38 | 0x39 | 0x3A | 0x3B | 0x3C | 0x3D | 0x3E | 0x3F => 1
  | 0x60 | 0x61 | 0x62 | 0x68 => 3
  | _ => 0

/-- Number of flits that a packet fills. -/
def Packet.flits (p : Packet) : Nat := (p.encode.length + 239) / 240

/-- DATA flits flow: states UP and SUBST (Table 10-5). -/
def Link.isUp (k : Link) : Bool := k.state == 5 || k.state == 6

/-- The header fields that every flit carries at the time it is sent: XOFF, ACK, ACKV and a substitution request. -/
def Link.stamp (k : Link) (half : Bool) (f : Flit) : Flit :=
  { f with xoff := k.off, ack := k.expect - 1, ackv := k.ackv, sreq := k.sreq.isSome, slane := k.sreq.getD 0,
           shalf := half && k.sreq.isSome }

end Sys2Proof

namespace Sys2Proof.Machine

/-! ### Links -/

/-- What a link holds. -/
def State.lnk (s : State) (l : LinkNo) : Link := Tab.get {} s.links l.toNat

def State.setLnk (s : State) (l : LinkNo) (k : Link) : State :=
  { s with links := Tab.set {} s.links l.toNat k }

def State.modLnk (s : State) (l : LinkNo) (f : Link → Link) : State := s.setLnk l (f (s.lnk l))

/-- A port that is split into halves (R258). -/
def State.isSplit (s : State) (p : Nat) : Bool := s.bit (pgPORT p) 0x044 0

/-- A link that exists: one of the 24 ports, or half B of a split one. -/
def State.linkExists (s : State) (l : LinkNo) : Bool :=
  l.toNat < 24 || (l.toNat < 48 && s.isSplit (l.toNat - 24))

def State.linkUp (s : State) (l : LinkNo) : Bool := s.linkExists l && (s.lnk l).isUp

/-- The page of a link and its register offset for half A or half B (R287). -/
def linkPage (l : LinkNo) : Nat := pgPORT (portOf l.toNat)
def linkOff (l : LinkNo) (o : Nat) : Nat := if isHalfB l.toNat then o + 0x400 else o

/-- Count in a COUNT register of a link's PORT page. -/
def State.countLink (s : State) (l : LinkNo) (o len n : Nat) : State := s.count (linkPage l) (linkOff l o) 0 len n

/-- Raise an event of a link: bits [5:0] for half A, [13:8] for half B (R288). -/
def State.raiseLink (s : State) (l : LinkNo) (b : Nat) : State :=
  s.raise (linkPage l) (if isHalfB l.toNat then b + 8 else b)

/-- Flits of the replay buffer and of each VC's receive buffer (R258, R267, R271). -/
def State.bufFlits (s : State) (l : LinkNo) : Nat := if s.isSplit (portOf l.toNat) then 1024 else 2048

/-- The time that a VC has spent under the partner's XOFF so far is added to its egress's count (R306). -/
def State.xoffSettle (s : State) (l : LinkNo) : State :=
  let k := s.lnk l
  let us := k.xoffAt.foldl (fun n x => n + (s.time - x.2) / 1000) 0
  if k.xoffAt.isEmpty then s
  else { s with
    xoffUs := Tab.upd 0 s.xoffUs l.toNat (fun n => satAdd n us 0xFFFF)
    links := Tab.set {} s.links l.toNat { k with xoffAt := k.xoffAt.map (fun x => (x.1, x.2 + (s.time - x.2) / 1000 * 1000)) } }

/-! ### Packets as bytes -/

/-- The opcodes of Table 11-2; codes 0x35 to 0x37 are invalid (R313). -/
def validOpcode (o : Nat) : Bool :=
  [0x01, 0x02, 0x03, 0x04, 0x11, 0x12, 0x13, 0x14, 0x20, 0x21, 0x30, 0x31, 0x32, 0x33, 0x34, 0x38, 0x39, 0x3A, 0x3B,
   0x3C, 0x3D, 0x3E, 0x3F, 0x60, 0x61, 0x62, 0x68].contains o

/-- The response opcode that a request awaits (R473); none for what is no request. -/
def rspOpcode (o : Nat) : Option Nat :=
  match o with
  | 0x01 => some 0x11
  | 0x02 => some 0x12
  | 0x03 => some 0x13
  | 0x04 => some 0x14
  | 0x60 => some 0x61
  | 0x62 => some 0x61
  | 0x30 => some 0x38
  | 0x31 => some 0x39
  | 0x32 => some 0x3A
  | 0x33 => some 0x3B
  | 0x34 => some 0x3B
  | _ => none

/-! ### Job keys (R353 to R357) -/

/-- The slot of a job. -/
def State.slotOf (s : State) (job : BitVec 20) : Option (Nat × JobSlot) :=
  s.slots.find? (fun kv => kv.2.job == job)

/-- The GCM initialisation vector (R355). -/
def gcmIv (p : Packet) : Bytes := leBytes 2 p.srcEp.toNat ++ leBytes 8 p.ctr.toNat ++ [0, 0]

/-- The additional authenticated data (R355). -/
def gcmAad (p : Packet) : Bytes := p.header true ++ (if p.rx then leBytes 8 p.retPath.toNat else [])

/-- Seal a packet that leaves on a hub's port under its job's current key; none when the job has no slot. -/
def State.sealPkt (s : State) (hub : Nat) (p : Packet) : Option (Packet × State) :=
  match s.slotOf p.job with
  | none => none
  | some (k, sl) =>
    let n := if hub == 0 then sl.ctr0 else sl.ctr1
    let sl' := if hub == 0 then { sl with ctr0 := n + 1 } else { sl with ctr1 := n + 1 }
    let p1 := { p with enc := true, ctr := BitVec.ofNat 64 (2 ^ 63 * ofBool sl.parity + 2 ^ 62 * hub + n) }
    let (ct, tag) := gcmSeal (leBytes 32 sl.cur.toNat) (gcmIv p1) (gcmAad p1) p1.data
    some ({ p1 with data := ct, gtag := tag }, { s with slots := Tab.put s.slots k sl' })

/-- Open a packet with ENC = 1 (R356); none when it fails authentication. -/
def State.openPkt (s : State) (p : Packet) : Option Packet :=
  match s.slotOf p.job with
  | none => none
  | some (_, sl) =>
    let key := if p.ctr.getLsbD 63 == sl.parity then some sl.cur else sl.prev
    match key with
    | none => none
    | some k =>
      (gcmOpen (leBytes 32 k.toNat) (gcmIv p) (gcmAad p) p.data p.gtag).map (fun d => { p with data := d })

/-! ### Flits -/

/-- Send a flit that is no DATA flit: IDLE, NAK, TRAIN or SLEEP. -/
def State.sendCtl (s : State) (l : LinkNo) (f : Flit) : State :=
  let k := s.lnk l
  (s.setLnk l { k with ackOwed := false }).emit (.flit l (k.stamp (isHalfB l.toNat) { f with seq := k.seq }))

/-- The DATA flits of a packet: it starts its own flit (DESIGN CHOICE, log entry 31). -/
def dataFlits (v : BitVec 2) : Bool → List Bytes → List Flit
  | _, [] => []
  | start, b :: l =>
    { type := 1, vc := v, first := if start then 0 else 15, used := BitVec.ofNat 4 (b.length / 16),
      payload := b ++ List.replicate (240 - b.length) 0 } :: dataFlits v false l

/-- Send DATA flits for the first time: numbered, kept in the replay buffer; a CRC error asked for goes with the first
(R286). -/
def State.sendFlits (s : State) (l : LinkNo) : List Flit → State
  | [] => s
  | f :: fs =>
    let k := s.lnk l
    let f1 := k.stamp (isHalfB l.toNat) { f with seq := k.seq }
    let k1 := { k with seq := k.seq + 1, out := k.out ++ [f1], ackOwed := false, injCrc := false }
    ((s.setLnk l k1).emit (.flit l { f1 with crcOk := !k.injCrc })).sendFlits l fs

/-- A packet may go now: the link up and awake, its VC not held by XOFF, room in the window (R267, R272, R278). -/
def State.maySend (s : State) (l : LinkNo) (p : Packet) : Bool :=
  let k := s.lnk l
  s.linkUp l && !k.txAsleep && !k.xoff.getLsbD p.vc.toNat && k.out.length + p.flits ≤ s.bufFlits l

/-- Put a packet on the wire. -/
def State.wire (s : State) (l : LinkNo) (p : Packet) : State :=
  let s1 := s.emit (.packet l p)
  s1.sendFlits l (dataFlits p.vc true (chunks 240 p.flits p.encode))

/-- Send what may go of the packets held for a link: in order within each VC. -/
def State.flushHeld (s : State) (l : LinkNo) : List Packet → List (BitVec 2) → State
  | [], _ => s
  | p :: ps, stuck =>
    if stuck.contains p.vc || !s.maySend l p then
      (s.modLnk l (fun k => { k with held := k.held ++ [p] })).flushHeld l ps (p.vc :: stuck)
    else (s.wire l p).flushHeld l ps stuck

/-- Send what may go. -/
def State.flush (s : State) (l : LinkNo) : State :=
  let h := (s.lnk l).held
  if h.isEmpty then s else (s.modLnk l (fun k => { k with held := [] })).flushHeld l h []

/-- Flits queued for a VC of an egress (R304). -/
def State.queued (s : State) (l : LinkNo) (v : BitVec 2) : Nat :=
  (s.lnk l).held.foldl (fun n p => if p.vc == v then n + p.flits else n) 0

/-- Place a packet in an egress queue. -/
def State.enqueue (s : State) (l : LinkNo) (p : Packet) : State :=
  (s.modLnk l (fun k => { k with held := k.held ++ [p] })).flush l

/-- The congestion mark of a transit packet or a response (R304), counted by egress (R306). -/
def State.markCe (s : State) (l : LinkNo) (p : Packet) : Packet × State :=
  if s.queued l p.vc > s.fld pgXBAR 0x060 0 12 || (s.lnk l).xoff.getLsbD p.vc.toNat then
    ({ p with ce := true },
      if p.ce then s else { s with marks := Tab.upd 0 s.marks l.toNat (fun n => satAdd n 1 0xFFFF) })
  else (p, s)

/-! ### Paths and responses -/

/-- The device's endpoint ID (XBAR.EP.ID) and the E of packets it originates (XBAR.EPOCH.CUR). -/
def State.ep (s : State) : BitVec 13 := BitVec.ofNat 13 (s.fld pgXBAR 0x040 0 13)
def State.epoch (s : State) : Bool := s.bit pgXBAR 0x044 0

/-- Entry h of a path. -/
def pathEntry (p : BitVec 48) (h : Nat) : Nat := fieldOf p.toNat (6 * h) 6

/-- A path from its eight entries. -/
def pathOf (f : Nat → Nat) : BitVec 48 :=
  BitVec.ofNat 48 ((List.range 8).foldl (fun n h => n + (f h % 64) * 2 ^ (6 * h)) 0)

/-- The path of a response to a request that arrived on `a` (R294). -/
def rspPath (a : LinkNo) (req : Packet) : BitVec 48 :=
  if req.rx then BitVec.ofNat 48 req.retPath.toNat
  else
    let k := (req.hop.toNat + 7) % 8
    pathOf (fun i => if i == 0 then a.toNat else if i ≤ k then pathEntry req.path (k + 1 - i) else 0x3F)

/-- A packet with no route is discarded and counted (R295, R308). -/
def State.noRoute (s : State) : State := (s.inc pgXBAR 0x080).raise pgXBAR 1

/-- Whether the responses to a job are encrypted whatever the request says: its tenant is confidential (Table 14-1). -/
def State.tenantConf (s : State) (t : BitVec 12) : Bool :=
  match Tab.find? s.tenants t.toNat with
  | some x => x.conf
  | none => false

def State.jobTenant (s : State) (job : BitVec 20) : Option (BitVec 12) :=
  (Tab.find? s.jobs job.toNat).map (·.tenant)

def State.jobConf (s : State) (job : BitVec 20) : Bool :=
  match s.jobTenant job with
  | some t => s.tenantConf t
  | none => false

/-- Send a response to `req`, which arrived on `a`: path, E, TAG and the echo of CE from the request; encrypted when the
request was or its job's tenant is confidential. Without a key nothing can be sent (log entry 32). -/
def State.sendRsp (s : State) (a : LinkNo) (req : Packet) (f : Packet → Packet) : State :=
  let base : Packet :=
    { path := rspPath a req, hop := 1, e := req.e, ece := req.ce, srcEp := s.ep, dstEp := req.srcEp, job := req.job,
      tag := req.tag, addr := req.addr }
  let p0 := f base
  let p := { p0 with length := BitVec.ofNat 13 p0.data.length }
  let out : LinkNo := BitVec.ofNat 6 (pathEntry p.path 0)
  if !s.linkUp out then s.noRoute
  else
    let (p1, s1) := s.markCe out p
    if req.enc || s.jobConf req.job then
      match s1.sealPkt (hubOfLink out.toNat) p1 with
      | some (p2, s2) => s2.enqueue out p2
      | none => s1
    else s1.enqueue out p1

/-- Answer a request with a status of Table 11-3 that is not OK (R473). A request without a response opcode is discarded and
counted (R291). -/
def State.answer (s : State) (a : LinkNo) (req : Packet) (status : Nat) : State :=
  match rspOpcode req.opcode.toNat with
  | some o =>
    s.sendRsp a req (fun p => { p with opcode := BitVec.ofNat 8 o, status := BitVec.ofNat 8 status })
  | none => (s.inc pgXBAR 0x08C).raise pgXBAR 3

/-- Answer DEFER with a token (R246, R292). -/
def State.answerDefer (s : State) (a : LinkNo) (req : Packet) (token : BitVec 16) : State :=
  match rspOpcode req.opcode.toNat with
  | some o => s.sendRsp a req (fun p => { p with opcode := BitVec.ofNat 8 o, status := 0x20, token := token })
  | none => s

/-- Answer a request with OK and data. -/
def State.answerOk (s : State) (a : LinkNo) (req : Packet) (mod : BitVec 8) (d : Bytes) : State :=
  match rspOpcode req.opcode.toNat with
  | some o => s.sendRsp a req (fun p => { p with opcode := BitVec.ofNat 8 o, mod := mod, data := d })
  | none => s

/-- READY for a token, on the path of the DEFER. -/
def State.sendReady (s : State) (a : LinkNo) (req : Packet) (token : BitVec 16) : State :=
  s.sendRsp a req (fun p => { p with opcode := 0x20, token := token })

/-- Tiles that wait for a token go on (R118). -/
def wakeTiles (w : TileWait) (f : Furrow) : Furrow :=
  { f with copies := f.copies.map (fun x => if x.wait == w then { x with wait := .go } else x) }

/-- A thread that waits for a token reissues its access (R112), and its tiles theirs. -/
def wakeThread (token : BitVec 16) (order : Nat) (t : Thread) : Thread :=
  let t1 := { t with f0 := wakeTiles (.defer token) t.f0, f1 := wakeTiles (.defer token) t.f1 }
  if t1.run == .defer token then { t1 with run := .ready, since := order } else t1

/-- READY to one waiter. -/
def State.readyTo (s : State) (token : BitVec 16) : Waiter → State
  | .port l req => s.sendReady l req token
  | .cell c t =>
    { s with
      nextOrder := s.nextOrder + 1
      cells := Tab.upd {} s.cells c (fun x =>
        { x with threads := x.threads.map (fun kv => if kv.1 == t then (kv.1, wakeThread token s.nextOrder kv.2) else kv) }) }

/-- READY to every waiter. -/
def State.readyAll (s : State) (token : BitVec 16) : List Waiter → State
  | [] => s
  | w :: ws => (s.readyTo token w).readyAll token ws

/-! ### Requests of the device's own (R328) -/

/-- A path of the source path table, when valid. -/
def State.sptPath (s : State) (ep : BitVec 13) (alt : Bool) : Option (BitVec 48) :=
  let v := Tab.get (0 : BitVec 49) s.spt (2 * ep.toNat + ofBool alt)
  if v.getLsbD 48 then some (v.setWidth 48) else none

/-- The path that a request takes: the primary, or the alternate when the primary's egress has lost its link. -/
def State.route (s : State) (ep : BitVec 13) : Option (BitVec 48 × LinkNo × Bool) :=
  let cand (alt : Bool) : Option (BitVec 48 × LinkNo × Bool) :=
    (s.sptPath ep alt).map (fun p => (p, BitVec.ofNat 6 (pathEntry p 0), alt))
  match cand false with
  | some c => if s.linkUp c.2.1 then some c else (cand true).orElse (fun _ => some c)
  | none => cand true

/-- The alternate path, for a request sent again. -/
def State.altRoute (s : State) (ep : BitVec 13) : Option (BitVec 48 × LinkNo) :=
  match s.sptPath ep true with
  | some p => if s.linkUp (BitVec.ofNat 6 (pathEntry p 0)) then some (p, BitVec.ofNat 6 (pathEntry p 0)) else none
  | none => none

/-- A TAG that no request of the device holds: the next in turn (DESIGN CHOICE, log entry 33). -/
def State.tagBusy (s : State) (t : Nat) : Bool :=
  s.own.any (fun o => o.tag.toNat == t) || s.txns.any (fun kv => kv.2.snoops.any (fun n => n.tag.toNat == t))

def State.newTag (s : State) : BitVec 16 × State :=
  let cand := (List.range 65536).map (fun i => (s.nextTag + i) % 65536)
  let t := (cand.find? (fun t => !s.tagBusy t)).getD (s.nextTag % 65536)
  (BitVec.ofNat 16 t, { s with nextTag := (t + 1) % 65536 })

/-- Send a packet that the device originates on a path. False when it had to be encrypted and its job has no key. -/
def State.sendOwn (s : State) (path : BitVec 48) (out : LinkNo) (enc : Bool) (f : Packet → Packet) : Bool × State :=
  let p0 := f { path := path, hop := 1, e := s.epoch, srcEp := s.ep }
  if enc then
    match s.sealPkt (hubOfLink out.toNat) p0 with
    | some (p1, s1) => (true, s1.enqueue out p1)
    | none => (false, s)
  else (true, s.enqueue out p0)

/-! ### Tokens (R246, R247) -/

/-- Whether a token is in use. -/
def State.tokenBusy (s : State) (t : Nat) : Bool :=
  s.fills.any (fun kv => !kv.2.failed && kv.2.token.toNat == t) || s.holds.any (fun h => h.token.toNat == t) ||
  s.deferred.any (fun d => d.1 == t) || s.powerToken == some (BitVec.ofNat 16 t)

/-- Tokens in use (TIER.TOKENS). -/
def State.tokensUsed (s : State) : Nat :=
  (s.fills.filter (fun kv => !kv.2.failed)).length + s.holds.length + s.deferred.length + ofBool s.powerToken.isSome

/-- A free token, the next in turn (DESIGN CHOICE, log entry 33); none when all 65,535 are in use. -/
def State.newToken (s : State) : Option (BitVec 16 × State) :=
  if s.tokensUsed ≥ 65535 then none
  else
    let cand := (List.range 65535).map (fun i => (s.nextToken + i) % 65535)
    (cand.find? (fun t => !s.tokenBusy t)).map (fun t =>
      (BitVec.ofNat 16 t, { s with nextToken := (t + 1) % 65535 }))

/-- The token of a DEFER with no READY to come (R247). -/
def noToken : BitVec 16 := 0xFFFF#16

end Sys2Proof.Machine
end

