-- ==== Sys2Proof/Machine/Channels.lean ====
section
/-! DEFINITION. Single-word channels (R406 to R410) and wake events (R429, R431). -/

namespace Sys2Proof.Machine

/-! ### Wake events -/

/-- Commands frozen: from step 2 of an entry into PS2 to the end of its exit (R428, R429). -/
def State.dormant (s : State) : Bool := s.frozen

/-- A wake event of source `src` (PWR.STATE.WAKE_SRC): in PS2 the exit starts, during an entry it is recorded (R431). -/
def State.wakeEvent (s : State) (src : Nat) : State :=
  let cur := s.fld pgPWR 0x048 0 2
  let step := s.fld pgPWR 0x048 2 3
  let exiting := s.bit pgPWR 0x048 5
  if step != 0 && !exiting then ((s.setFld pgPWR 0x048 6 1 1).setFld pgPWR 0x048 8 4 src).raise pgPWR 2
  else if cur == 2 && step == 0 then
    (((s.setFld pgPWR 0x048 2 3 1).setFld pgPWR 0x048 5 1 1).setFld pgPWR 0x048 8 4 src).raise pgPWR 2
  else s

/-! ### Channels -/

def State.chan (s : State) (n : Nat) : Channel := Tab.get {} s.channels n

def State.setChan (s : State) (n : Nat) (c : Channel) : State :=
  { s with channels := Tab.set {} s.channels n c }

/-- A word turned away (R407). -/
def State.reject (s : State) : State := s.inc pgMBX 0x050

/-- The 16 bytes of a NOTIFY (R408). -/
def notifyBytes (ch : Nat) (w : W64) (st : Stamp) (kind : Nat) : Bytes :=
  leBytes 8 w.toNat ++ leBytes 2 ch ++ leBytes 2 st.ep.toNat ++ leBytes 1 st.path.toNat ++ leBytes 1 kind ++ [0, 0]

/-- Send a NOTIFY to an endpoint; false when there is no path to it or its link is down. -/
def State.sendNotify (s : State) (ep : BitVec 13) (ch : Nat) (w : W64) (st : Stamp) (kind : Nat) : Bool × State :=
  match s.route ep with
  | none => (false, s)
  | some (path, out, _) =>
    if !s.linkUp out then (false, s)
    else
      let d := notifyBytes ch w st kind
      (true, (s.sendOwn path out false (fun p =>
        { p with opcode := 0x21, dstEp := ep, job := st.job, length := BitVec.ofNat 13 d.length, data := d })).2)

/-- A discarded word's notice to its sender (R410); a sender inside the device receives none. -/
def State.abortWord (s : State) (ch : Nat) (w : W64) (st : Stamp) : State :=
  let s1 := s.inc pgMBX 0x04C
  if st.path == 2 then
    if st.ep == s.ep then s1 else (s1.sendNotify st.ep ch w st 1).2
  else (s1.wr pgMBX 0x048 (BitVec.ofNat 32 (2 ^ 31 + ch))).raise pgMBX 2

/-- Empty a channel. -/
def State.emptyChan (s : State) (ch : Nat) : State := s.setChan ch { s.chan ch with word := none }

/-- Discard a channel's word with a notice. -/
def State.discardWord (s : State) (ch : Nat) : State :=
  match (s.chan ch).word with
  | some (w, st) => (s.emptyChan ch).abortWord ch w st
  | none => s

/-- Deliver the word of a channel whose receiver is an endpoint (R408): it leaves unless the VC is held by XOFF; with no
path, or the port lost, it is discarded (R410). -/
def State.deliver (s : State) (ch : Nat) : State :=
  let c := s.chan ch
  match c.word with
  | none => s
  | some (w, st) =>
    if c.recv != 2 then s
    else
      let held := match s.route c.ep with
        | some (_, out, _) => s.linkUp out && (s.lnk out).xoff.getLsbD 1
        | none => false
      if held then s
      else match s.sendNotify c.ep ch w st 0 with
        | (true, s1) => s1.emptyChan ch
        | (false, s1) => s1.discardWord ch

/-- Words that waited for XOFF to clear go out. -/
def State.deliverAll (s : State) : State :=
  s.channels.foldl (fun s kv => if kv.2.recv == 2 && kv.2.word.isSome then s.deliver kv.1 else s) s

/-- What became of a word that a sender wrote. -/
inductive ChanRes where
  | taken | full | refused
  deriving DecidableEq, Repr

/-- A word from a sender (Table 16-2); a sender for a job must be of the channel's tenant, and the channel granted to it. -/
def State.sendWord (s : State) (ch : Nat) (w : W64) (st : Stamp) (byJob : Bool) : ChanRes × State :=
  let c := s.chan ch
  let tenantOk := !byJob || (c.granted && s.jobTenant st.job == some c.tenant)
  if ch ≥ 4096 || c.recv == 0 || !tenantOk then (.refused, s)
  else if c.word.isSome then (.full, s)
  else
    let s1 := s.setChan ch { c with word := some (w, st) }
    let s2 := if c.recv == 1 then s1.raise pgMBX 1
      else if c.recv == 2 then s1.deliver ch
      else s1.wakeEvent 2
    (.taken, s2)

/-- The stamp of a sender inside the device: its own endpoint, path 2 (R409). -/
def State.ownStamp (s : State) (job : BitVec 20) : Stamp := { ep := s.ep, job := job, path := 2 }

/-- A CHAN_WRITE from an endpoint (R407). -/
def State.chanWrite (s : State) (l : LinkNo) (p : Packet) : State :=
  if p.length != 8 then s.answer l p 0x01
  else
    match s.sendWord p.addr.toNat (BitVec.ofNat 64 (leNat p.data)) { ep := p.srcEp, job := p.job, path := 2 } true with
    | (.taken, s1) => s1.answerOk l p 0 []
    | (_, s1) => s1.reject.answer l p 0x03

end Sys2Proof.Machine
end

