-- ==== Sys2Proof/Machine/RegGate.lean ====
section
/-! DEFINITION. What stands between a register access and its page: pages that do not exist (R446), pages that do not run or
are gated (R422, R426, Table 17-4), the write mask of firmware (R374), and how an access that fails ends on each path
(R404, R446). -/

namespace Sys2Proof.Machine

/-- The state of a cell by its CELL page (Table 03-3). -/
def State.cellIdle (s : State) (c : Nat) : Bool :=
  match (Tab.get {} s.cells c).state with
  | .spare => true
  | .free => true
  | _ => false

/-- A data-path page whose clock is off: cells, beds, stacks and hoes in PS2; FREE and SPARE cells in PS1 (Table 17-5,
log entry 40); every page but CLK and RSTC until the source has been judged stable (R422). -/
def State.pageGated (s : State) (pg : Nat) : Bool :=
  let ty := pageType pg
  match s.phase with
  | .running =>
    (s.dormant && (ty == 0x0C || ty == 0x0D || ty == 0x0E || ty == 0x10)) ||
      (s.fld pgPWR 0x048 0 2 == 1 && ty == 0x0E && s.cellIdle (pageInst pg))
  | _ => ty != 0x11 && ty != 0x13

/-- The clock enable of an auxiliary block (CLK.AUX_EN); the pattern registers of a LANE page are one (R285). -/
def State.auxOff (s : State) (pg off : Nat) : Bool :=
  match pageType pg with
  | 0x18 => !s.bit pgCLK 0x058 0
  | 0x19 => !s.bit pgCLK 0x058 1
  | 0x03 => decide (0x400 ≤ off) && !s.bit pgCLK 0x058 2
  | 0x1A => !s.bit pgCLK 0x058 3
  | _ => false

/-- How far an access gets. -/
inductive Gating where
  | serve | drop | error
  deriving DecidableEq, Repr

/-- Table 17-4, R446 and the phases in which nothing answers (R430, R433). -/
def State.gating (s : State) (p : Path) (pg off : Nat) : Gating :=
  if s.phase == .inReset || s.phase == .ps3 then .error
  else if (pageBlock pg).isNone then .error
  else if s.auxOff pg off then .error
  else if s.pageGated pg then (if p == .i3c then .error else .drop)
  else .serve

/-- An access that ends with an error: completer abort, an I3C error (R404), a bus error. A firmware access to a gated
auxiliary block is logged (Table 18-3). -/
def State.accessError (s : State) (p : Path) (pg off : Nat) : State :=
  match p with
  | .pcie => s.emit (.answer none)
  | .i3c => ((s.setFld pgMBX 0x058 8 1 1).inc pgMBX 0x05C).emit (.answer none)
  | .fw => (if s.auxOff pg off then s.logErr pgCLK 0x07 (BitVec.ofNat 32 pg) else s).emit (.answer none)

/-- SEC.LOCK.LOCKED. -/
def State.locked (s : State) : Bool := s.bit pgSEC 0x040 0

/-- Whether firmware may write pages of a block type: always before the lock, by SEC.FW_RECONF after it (R374). -/
def State.fwMay (s : State) (ty : Nat) : Bool :=
  !s.locked || (if ty < 32 then s.bit pgSEC 0x04C ty else s.bit pgSEC 0x050 (ty - 32))

/-- A write refused by the lock or by FW_RECONF: counted and logged (R373, R374). -/
def State.lockReject (s : State) (pg off code : Nat) : State :=
  ((s.inc pgSEC 0x08C).raise pgSEC 3).logErr pg code (BitVec.ofNat 32 off)

/-- A write that reaches offset `off` of a page on a path: `f` when it is served. -/
def State.writeAt (s : State) (p : Path) (pg off : Nat) (f : State → State) : State :=
  match s.gating p pg off with
  | .error => s.accessError p pg off
  | .drop => s
  | .serve =>
    if p == .fw && !s.fwMay (pageType pg) then s.lockReject pg off 0x03
    else f s

/-- A command written to a page's CMD register: ignored while BUSY is 1 (R46), otherwise started with its arguments. -/
def State.command (s : State) (p : Path) (pg : Nat) (f : State → State) : State :=
  s.writeAt p pg (if pg == pgSEC then 0x054 else 0x040) (fun s =>
    if s.busy pg then s.overrun pg
    else f (s.setFld pg (cmdStatusOff pg) 0 1 1))

end Sys2Proof.Machine
end

