-- ==== Sys2Proof/Machine/Stack.lean ====
section
/-! DEFINITION. The stack controllers (08_memory_stacks.md): where a pool word lies, valid bits and summaries, code-word
reads and writes, narrow writes through the merge buffer, corrected and uncorrectable errors, row disturbance and the
start of pseudo-channel sparing. Memory is keyed by device granule times 2^28 plus the byte within it; a word is a key
divided by 64, a region (one summary bit) a key divided by 65,536. -/

namespace Sys2Proof.Machine

/-- What a stack and its controller hold. -/
def State.stk (s : State) (b : Nat) : Stack := Tab.get {} s.stackTab b

def State.setStk (s : State) (b : Nat) (k : Stack) : State :=
  { s with stackTab := Tab.set {} s.stackTab b k }

/-! ### Places (R208, R209) -/

/-- The stack of a word. -/
def wordStack (w : Nat) : Nat := granStack (w / 4194304)

/-- Stack byte address of a word (R209). -/
def wordSa (w : Nat) : Nat :=
  let g := w / 4194304
  let st := granStack g
  (resGran st + (g - granBase st)) * 268435456 + (w % 4194304) * 64

/-- Logical pseudo-channel, bank, row and column of a stack byte address (R208). -/
structure Place where
  lpc  : Nat
  bank : Nat
  row  : Nat
  col  : Nat
  deriving DecidableEq, Repr

def placeOf (sa : Nat) : Place :=
  let set := sa / 0x780000000
  let u := (sa % 0x780000000) / 256
  let off := (u / 10) * 256 + sa % 256
  let cw := off / 64
  { lpc := 10 * set + u % 10, bank := (cw / 64) % 32, row := cw / 2048, col := cw % 64 }

/-- Chunks of 16 KiB copied so far of the pseudo-channel under copy (HOE.COPY). -/
def State.copyChunks (s : State) (b : Nat) : Nat := s.fld (pgHOE b) 0x068 0 18

/-- The physical pseudo-channel that serves a place: a spare when it stands in, or when it is being filled and the place
lies below the copy pointer (R225). -/
def State.physPc (s : State) (b : Nat) (p : Place) : Nat :=
  let byte := ((p.row * 32 + p.bank) * 64 + p.col) * 64
  let below := byte / 16384 < s.copyChunks b && s.fld (pgHOE b) 0x068 20 5 == p.lpc && s.bit (pgHOE b) 0x068 31
  let via (base : Nat) : Bool :=
    s.fld (pgSTK b) 0x050 base 5 == p.lpc &&
      (s.bit (pgSTK b) 0x050 (base + 5) || (s.bit (pgSTK b) 0x050 (base + 6) && below))
  if via 8 then 31 else if via 0 then 30 else p.lpc

/-! ### Row disturbance (R222) and page policy (R42) -/

/-- Update one activate-counter table: the table after the activate of a row, and whether a targeted refresh is issued. -/
def actUpdate (t : List (Nat × Nat)) (row thresh : Nat) : List (Nat × Nat) × Bool :=
  let put (n : Nat) (l : List (Nat × Nat)) : List (Nat × Nat) × Bool :=
    if n ≥ thresh then (Tab.del l row, true) else (Tab.put l row n, false)
  match Tab.find? t row with
  | some n => put (n + 1) t
  | none =>
    if t.length < 16 then put 1 t
    else
      -- lowest count, the lowest row among equals: rows are listed in rising order
      match t.foldl (fun (best : Option (Nat × Nat)) e =>
          match best with
          | none => some e
          | some m => if e.2 < m.2 then some e else best) none with
      | none => put 1 t
      | some m => put (m.2 + 1) (Tab.del t m.1)

/-- An access to a row: an activate unless the row is open, the counter table, and the row left open or closed by the page
hint (R42). -/
def State.activate (s : State) (b pc bank row : Nat) (hint : Bool) : State :=
  let k := s.stk b
  let key := pc * 32 + bank
  let isOpen := Tab.find? k.open_ key == some row
  let open' := if hint then Tab.put k.open_ key row else Tab.del k.open_ key
  if isOpen then s.setStk b { k with open_ := open' }
  else
    let (t, trr) := actUpdate (Tab.get [] k.act key) row (s.fld (pgSTK b) 0x044 0 13)
    let s1 := s.setStk b { k with open_ := open', act := Tab.set [] k.act key t }
    if trr then s1.inc (pgSTK b) 0x074 else s1

/-- An access starts the exit of a stack from self-refresh, and waits for an entry in progress (R220). -/
def State.wakeStack (s : State) (b : Nat) : State :=
  if s.fld (pgSTK b) 0x04C 0 2 == 0 then s else s.setFld (pgSTK b) 0x04C 0 2 3

/-! ### Sparing and the repair log (R224 to R226) -/

/-- Whether spare 30 (n = 0) or 31 (n = 1) is free. -/
def State.spareFree (s : State) (b n : Nat) : Bool :=
  !s.bit (pgSTK b) 0x050 (8 * n + 5) && !s.bit (pgSTK b) 0x050 (8 * n + 6) && !(s.stk b).spareFailed.contains (30 + n)

/-- The lower-numbered free spare. -/
def State.freeSpare (s : State) (b : Nat) : Option Nat :=
  if s.spareFree b 0 then some 0 else if s.spareFree b 1 then some 1 else none

/-- Start the hoe's copy for a spare, when none runs on the bed. -/
def State.beginCopy (s : State) (b lpc : Nat) : State :=
  if s.bit (pgHOE b) 0x068 31 then s
  else s.wr (pgHOE b) 0x068 (BitVec.ofNat 32 (2 ^ 31 + lpc * 2 ^ 20))

/-- A spare is to replace logical pseudo-channel `lpc`: the lower-numbered free one is taken and its copy begins, or the
set is retired and SPARE_EXHAUSTED raised (R225, R226). -/
def State.spareStart (s : State) (b lpc : Nat) : State :=
  match s.freeSpare b with
  | some n =>
    let s1 := (s.setFld (pgSTK b) 0x050 (8 * n) 5 lpc).setFld (pgSTK b) 0x050 (8 * n + 6) 1 1
    s1.beginCopy b lpc
  | none =>
    let s1 := s.setFld (pgSTK b) 0x054 (lpc / 10) 1 1
    s1.raise (pgSTK b) 3

/-- Add a row to the repair log, which holds 64 (R224). -/
def State.logRow (s : State) (b : Nat) (r : RepairRow) : State :=
  let k := s.stk b
  if k.repair.length < 64 && !k.repair.contains r then
    (s.setStk b { k with repair := k.repair ++ [r] }).setFld (pgSTK b) 0x05C 0 7 (k.repair.length + 1)
  else s

/-- A corrected read at a stack byte address: the counts of its physical pseudo-channel and row, and what they start (R213,
R224, R225). -/
def State.correctedAt (s : State) (b sa : Nat) : State :=
  let p := placeOf sa
  let pc := s.physPc b p
  let o := 0x100 + 4 * pc
  let s1 := (s.inc (pgSTK b) 0x070).count (pgSTK b) o 0 16 1
  let key := (pc * 32 + p.bank) * 24576 + p.row
  let k := s1.stk b
  let n := Tab.get 0 k.rowCe key + 1
  let s2 := s1.setStk b { k with rowCe := Tab.put k.rowCe key n }
  let s3 := if n ≥ 16 then s2.logRow b { pc := pc, bank := p.bank, row := p.row } else s2
  let th := s3.fld (pgSTK b) 0x048 0 16
  if th != 0 && s3.fld (pgSTK b) o 0 16 ≥ th && !s3.bit (pgSTK b) o 16 then
    ((s3.setFld (pgSTK b) o 16 1 1).raise (pgSTK b) 1).spareStart b p.lpc
  else s3

/-- A corrected read of a pool word. -/
def State.corrected (s : State) (w : Nat) : State := s.correctedAt (wordStack w) (wordSa w)

/-- An uncorrectable read (R219) at a stack byte address of a device granule: counted, the first since the last read of UE_LOC
recorded (masked for a confidential tenant), UE raised, the error record of the page, and the row logged for repair. -/
def State.uncorrectableAt (s : State) (b sa g : Nat) (conf : Bool) : State :=
  let p := placeOf sa
  let pc := s.physPc b p
  let s1 := s.inc (pgSTK b) 0x060
  let s2 := if s1.bit (pgSTK b) 0x068 6 then s1
    else
      let loc := if conf then pc else pc + p.bank * 32 + p.row * 1024
      let hi := if conf then 64 + 128 else 64 + p.col
      ((s1.wr (pgSTK b) 0x064 (BitVec.ofNat 32 loc)).wr (pgSTK b) 0x068 (BitVec.ofNat 32 hi)).setFld
        (pgSTK b) 0x06C 0 14 g
  let s3 := (s2.raise (pgSTK b) 0).logErr (pgSTK b) 0x05 (BitVec.ofNat 32 g)
  s3.logRow b { pc := pc, bank := p.bank, row := p.row }

/-- An uncorrectable read of a pool word. -/
def State.uncorrectable (s : State) (w : Nat) (conf : Bool) : State :=
  s.uncorrectableAt (wordStack w) (wordSa w) (w / 4194304) conf

/-! ### Bytes, valid bits and code words -/

/-- One byte of pool memory as the stack holds it; memory that nothing has written reads zero (R214). -/
def State.memByte (s : State) (k : Nat) : Byte := Tab.get 0 s.mem k

/-- Consecutive bytes as the stack holds them. -/
def State.memBytes (s : State) (k : Nat) : Nat → Bytes
  | 0 => []
  | n + 1 => s.memByte k :: s.memBytes (k + 1) n

/-- Put consecutive bytes into memory. -/
def putBytes (m : List Host.Cell) (k : Nat) : Bytes → List Host.Cell
  | [] => m
  | b :: l => putBytes (Tab.set 0 m k b) (k + 1) l

/-- What is stored with a word. -/
def State.wm (s : State) (w : Nat) : WordMeta := Tab.get {} s.wmeta w

def State.setWm (s : State) (w : Nat) (m : WordMeta) : State :=
  { s with wmeta := Tab.set {} s.wmeta w m }

/-- The summary bit of a word's 64 KiB region (R214). -/
def State.summary (s : State) (w : Nat) : Bool := s.summ.contains (w / 1024)

/-- A word that reads as stored: its summary and its valid bit are set (R214). -/
def State.valid (s : State) (w : Nat) : Bool := s.summary w && (s.wm w).valid

/-- The valid-bit cache of a bed holds 32,768 lines of 32 KiB of pool each; a miss is counted (R215). Which line leaves a full
cache is open: a free value. -/
def State.vbAccess (s : State) (w : Nat) : State :=
  let b := wordStack w
  let k := s.stk b
  let line := w / 512
  if k.vbc.contains line then s
  else
    let (n, s1) := s.fresh
    let kept := if k.vbc.length < 32768 then k.vbc else k.vbc.eraseIdx (Config.pick n % 32768)
    (s1.setStk b { k with vbc := insNat line kept }).inc (pgBED b) 0x060

/-- The merge-buffer entry of a word. -/
def State.mbEntry (s : State) (w : Nat) : Option MergeEntry :=
  (s.stk (wordStack w)).mb.find? (fun e => e.word == w)

/-- The bytes of an entry over the stored bytes (R217). -/
def overlay : List (Option Byte) → Bytes → Bytes
  | some b :: l, _ :: m => b :: overlay l m
  | none :: l, x :: m => x :: overlay l m
  | _, m => m

/-- Read a pool word as its stack holds it (R213, R214): none when it is uncorrectable. -/
def State.readStored (s : State) (w : Nat) (hint conf : Bool) : Option Bytes × State :=
  let b := wordStack w
  if !s.summary w then (some (List.replicate 64 0), s)
  else
    let s0 := (s.wakeStack b).vbAccess w
    let m := s0.wm w
    if !m.valid then (some (List.replicate 64 0), s0)
    else
      let p := placeOf (wordSa w)
      let s1 := s0.activate b (s0.physPc b p) p.bank p.row hint
      if m.err == 0 then (some (s1.memBytes (w * 64) 64), s1)
      else if m.err ≤ 3 then (some (s1.memBytes (w * 64) 64), (s1.setWm w { m with err := 0 }).corrected w)
      else if m.err == 4 then (none, s1.uncorrectable w conf)
      else
        let (n, s2) := s1.fresh
        if Config.detects n then (none, s2.uncorrectable w conf)
        else
          let d := (List.range 64).map (Config.junk n)
          (some d, { (s2.setWm w { m with err := 0 }).corrected w with mem := putBytes s2.mem (w * 64) d })

/-- Read a word as a requester sees it, with the merge buffer's bytes over the stored ones (R217). -/
def State.readWord (s : State) (w : Nat) (hint conf : Bool) : Option Bytes × State :=
  let (d, s1) := s.readStored w hint conf
  match d, s1.mbEntry w with
  | some d, some e => (some (overlay e.data d), s1)
  | d, _ => (d, s1)

/-- Clear the fine valid bits of a region (R55). -/
def clearFine (l : List (Nat × WordMeta)) (region : Nat) : List (Nat × WordMeta) :=
  l.filter (fun kv => kv.1 / 1024 != region)

/-- The first write under a clear summary clears the region's fine bits and sets the summary (R55). -/
def State.openRegion (s : State) (w : Nat) : State :=
  if s.summary w then s
  else { s with wmeta := clearFine s.wmeta (w / 1024), summ := insNat (w / 1024) s.summ }

/-- Write a whole code word: bytes, fresh check bytes, valid bit, KG and TD (R212, R214, R360). CS is kept (R316). -/
def State.writeWord (s : State) (w : Nat) (d : Bytes) (kg td hint : Bool) : State :=
  let b := wordStack w
  let s0 := ((s.wakeStack b).openRegion w).vbAccess w
  let p := placeOf (wordSa w)
  let s1 := s0.activate b (s0.physPc b p) p.bank p.row hint
  let m := s1.wm w
  { s1.setWm w { m with valid := true, kg := kg, td := td, err := 0 } with mem := putBytes s1.mem (w * 64) d }

/-- Drain one entry that has left the buffer (R217, R218); false when the word is uncorrectable and the entry's bytes are
discarded. -/
def State.drainEntry (s : State) (e : MergeEntry) (kg : Bool) : Bool × State :=
  let b := wordStack e.word
  if e.data.all (·.isSome) then
    (true, (s.writeWord e.word (overlay e.data (List.replicate 64 0)) kg false false).inc (pgBED b) 0x050)
  else if !s.valid e.word then
    (true, (s.writeWord e.word (overlay e.data (List.replicate 64 0)) kg false false).inc (pgBED b) 0x054)
  else
    let (d, s1) := s.readStored e.word false false
    match d with
    | some d => (true, (s1.writeWord e.word (overlay e.data d) kg false false).inc (pgBED b) 0x058)
    | none => (false, s1.inc (pgBED b) 0x058)

/-- Take an entry out of its bed's buffer. -/
def State.dropEntry (s : State) (w : Nat) : State :=
  let b := wordStack w
  s.setStk b { s.stk b with mb := (s.stk b).mb.filter (fun e => e.word != w) }

/-- The KG that a drained word keeps: that of the word as stored. -/
def State.entryKg (s : State) (w : Nat) : Bool := (s.wm w).kg

/-- Drain the oldest entry of a bed's buffer. -/
def State.drainOldest (s : State) (b : Nat) : State :=
  match (s.stk b).mb with
  | [] => s
  | e :: _ => ((s.dropEntry e.word).drainEntry e (s.entryKg e.word)).2

/-- Drain the entry of a word if the buffer holds one (an atomic at the home, R217). -/
def State.drainWord (s : State) (w : Nat) : State :=
  match s.mbEntry w with
  | some e => ((s.dropEntry w).drainEntry e (s.entryKg w)).2
  | none => s

/-- Bytes at a place of an entry, later over earlier. -/
def entryPut (d : List (Option Byte)) (at_ : Nat) (bs : Bytes) : List (Option Byte) :=
  (List.range 64).map (fun i =>
    if at_ ≤ i && i < at_ + bs.length then bs[i - at_]? else (d[i]?).getD none)

/-- A write narrower than a word enters the merge buffer (R216, R217). It answers false, UNCORRECTABLE, when the word it
would merge with cannot be corrected (R218): the entry is then drained at once (DESIGN CHOICE, log entry 11). -/
def State.writeNarrow (s : State) (w at_ : Nat) (bs : Bytes) (kg : Bool) : Bool × State :=
  let b := wordStack w
  let s0 := s.wakeStack b
  let full := (s0.stk b).mb.length ≥ 32 && (s0.mbEntry w).isNone
  let s1 := if full then (s0.drainOldest b).inc (pgBED b) 0x05C else s0
  let old := ((s1.mbEntry w).map (·.data)).getD (List.replicate 64 none)
  let e : MergeEntry := { word := w, data := entryPut old at_ bs }
  let k := s1.stk b
  let bad := s1.valid w && (s1.wm w).err ≥ 4 && !e.data.all (·.isSome)
  if e.data.all (·.isSome) || bad || s1.fld (pgBED b) 0x04C 0 7 == 0 then
    (s1.dropEntry w).drainEntry e kg
  else if (s1.mbEntry w).isSome then
    (true, s1.setStk b { k with mb := k.mb.map (fun x => if x.word == w then e else x) })
  else (true, s1.setStk b { k with mb := k.mb ++ [e] })

/-- Set the coherence summary of a word (R316). -/
def State.setCs (s : State) (w : Nat) (cs : BitVec 2) : State :=
  s.setWm w { s.wm w with cs := cs }

/-! ### Granules -/

/-- Every summary of a granule is clear (R55). -/
def State.granClear (s : State) (g : Nat) : Bool := !s.summ.any (fun r => r / 4096 == g)

/-- Clear every summary of a granule (R55). -/
def State.clearGranule (s : State) (g : Nat) : State :=
  { s with summ := s.summ.filter (fun r => r / 4096 != g), clearing := s.clearing.filter (· != g) }

/-- The set of pseudo-channels that a granule lies in (R209). -/
def granSet (g : Nat) : Nat :=
  let st := granStack g
  ((resGran st + (g - granBase st)) * 268435456) / 0x780000000

/-- A granule whose set has been retired on its stack (R226). -/
def State.granRetired (s : State) (g : Nat) : Bool := s.bit (pgSTK (granStack g)) 0x054 (granSet g)

/-- A granule that a plot may take: owned by none, not being cleared, not of the tier cache, not retired. -/
def State.granFree (s : State) (g : Nat) : Bool :=
  !Tab.has s.granules g && !s.clearing.contains g && !s.cacheGrans.contains g && !s.granRetired g

/-- Free granules of a stack, lowest first (the choice among them is DESIGN CHOICE, log entry 12). -/
def State.freeOn (s : State) (st : Nat) : List Nat :=
  ((List.range (poolGran st)).map (granBase st + ·)).filter s.granFree

/-- PLM.FREE_GRANULES (R55, R226). -/
def State.freeGranules (s : State) : Nat := ((List.range numGran).filter s.granFree).length

end Sys2Proof.Machine
end

