-- ==== Sys2Proof/Machine/Access.lean ====
section
/-! DEFINITION. Reaching a plot: its entry as a hub's plot check has it, the check of Table 02-3, where a byte of it lies
(R32, R240), the keys of a confidential plot (R360), residency of tier blocks with the answers to a miss (R244 to R250),
and reads and writes of its bytes. -/

namespace Sys2Proof.Machine

/-! ### Plots -/

def State.plot (s : State) (h : BitVec 16) : Plot := Tab.get {} s.plots h.toNat

def State.setPlot (s : State) (h : BitVec 16) (p : Plot) : State :=
  { s with plots := Tab.set {} s.plots h.toNat p }

/-- The size code of an interleave set (Table 02-7). -/
def ilvSize (c : BitVec 3) : Nat := ([1, 2, 3, 4, 6, 8, 12, 24][c.toNat]?).getD 24

/-- A granule, and a unit of a TIERED plot: 256 MiB. -/
def unitBytes : Nat := 268435456

/-- The size of a plot in bytes, and the largest it has had (R475). -/
def plotBytes (e : PlotEntry) : Nat := e.size * unitBytes
def plotMaxBytes (e : PlotEntry) : Nat := e.maxSize * unitBytes

/-- The entry that a hub's plot check applies (R53): the new entry once its revocation point has passed. -/
def viewAt (hub : Nat) (p : Plot) : PlotEntry :=
  match p.rev with
  | some r => if (hub == 0 && r.at0) || (hub != 0 && r.at1) then r.entry else p.cur
  | none => p.cur

/-- The key pair of a handle (R358). -/
def State.pair (s : State) (h : BitVec 16) : KeyPair := Tab.get {} s.pairs h.toNat

def State.setPair (s : State) (h : BitVec 16) (k : KeyPair) : State :=
  { s with pairs := Tab.set {} s.pairs h.toNat k }

/-- Whether a plot counts as sealed (R367), and the identities its list admits: those of the pair's bound list when it is
ATTESTED, else those of its own. -/
def State.sealList (s : State) (h : BitVec 16) (e : PlotEntry) : Option (List (BitVec 512)) :=
  let ids (l : Option (BitVec 10)) : List (BitVec 512) :=
    match l with
    | some n => ((Tab.find? s.allow n.toNat).map (·.ids)).getD []
    | none => []
  if (s.pair h).attested then some (ids (s.pair h).list)
  else if e.sealed then some (ids e.allow) else none

/-! ### The plot check (Table 02-3) -/

/-- The rights bits of a grant entry: R, W, A, X from bit 0 up (Table 02-6). -/
def rightR : BitVec 4 := 1
def rightW : BitVec 4 := 2
def rightA : BitVec 4 := 4
def rightX : BitVec 4 := 8

/-- Who makes a request: an endpoint at a port for a job, with ENC and whether its slot is ATTESTED for this plot; a job
of the device (a cell, an engine command, the trellis) with the identity that order 4 may admit; the BAR4 window, which
holds all four rights (R405); the device itself, for queues, fault queues and migrations (R188, R344). -/
inductive Who where
  | port (ep : BitVec 13) (job : BitVec 20) (enc : Bool)
  | inside (job : BitVec 20) (ident : Option (BitVec 512))
  | window
  | device
  deriving DecidableEq, Repr

/-- Kinds of request for order 4 (Table 14-4): a read, a write, or what a sealed plot never takes. -/
inductive Need where
  | read | write | exclusive
  deriving DecidableEq, Repr

/-- Live and removed rights of a requester on a plot (R36, R37). -/
def State.rightsOf (s : State) (e : PlotEntry) (w : Who) : BitVec 4 × BitVec 4 :=
  let hit (g : Grant) : Bool :=
    match w with
    | .port ep job _ => if g.job then g.id == job else g.id == ep.setWidth 20
    | .inside job _ => g.job && g.id == job
    | .window => false
    | .device => false
  let own : Bool :=
    match w with
    | .port _ job _ => s.jobTenant job == some e.owner
    | .inside job _ => s.jobTenant job == some e.owner
    | .window => true
    | .device => true
  let gs := e.grants.filter hit
  let live := gs.foldl (fun a g => a ||| g.live) 0
  (if own then 0xF else live, gs.foldl (fun a g => a ||| g.removed) 0)

/-- Whether order 4 lets a request to a sealed plot through (Table 14-4). -/
def State.sealAdmits (s : State) (h : BitVec 16) (ids : List (BitVec 512)) (w : Who) (n : Need) : Bool :=
  match n with
  | .exclusive => false
  | .read =>
    match w with
    | .inside _ (some d) => ids.contains d
    | _ => false
  | .write =>
    if !(s.pair h).attested then true
    else match w with
      | .port _ job true =>
        match s.slotOf job with
        | some (_, sl) => sl.attested && sl.bound == h
        | none => false
      | _ => false

/-- Whether an open journal holds the plot, which then takes no other write (R379). -/
def State.journalPlot (s : State) (h : BitVec 16) : Bool := s.journals.any (fun j => j.2.plot == h)

/-- A byte of the request lies in a range cut off by a shrink (R475). -/
def inCut (e : PlotEntry) (ofs len : Nat) : Bool :=
  decide (0 < len) && decide (ofs < plotMaxBytes e) && decide (plotBytes e < ofs + len) &&
    decide (plotBytes e < plotMaxBytes e)

/-- The statuses of Table 11-3 and Table 06-4 that the check gives. -/
def stOK : Nat := 0x00
def stInvalid : Nat := 0x01
def stNoPlot : Nat := 0x02
def stDenied : Nat := 0x03
def stRevoked : Nat := 0x04
def stSealed : Nat := 0x05
def stRange : Nat := 0x06
def stKeyFail : Nat := 0x07
def stUncorr : Nat := 0x08

/-- The plot check against an entry: the status, 0 when the request passes. -/
def State.checkEntry (s : State) (h : BitVec 16) (e : PlotEntry) (w : Who) (n : Need) (rights : BitVec 4)
    (ofs len : Nat) : Nat :=
  let (live, removed) := s.rightsOf e w
  let missing := rights &&& ~~~live
  let sealBad := match s.sealList h e with
    | some ids => !s.sealAdmits h ids w n
    | none => false
  let plain := match w with
    | .port _ _ enc => !enc && s.tenantConf e.owner
    | .window => s.tenantConf e.owner
    | _ => false
  if e.state == .unused then stNoPlot
  else if e.state == .cplErr then stDenied
  else if e.state == .revoked || e.state == .released then stRevoked
  else if sealBad then stSealed
  else if (missing &&& removed) != 0 || inCut e ofs len then stRevoked
  else if missing != 0 || plain || (rights &&& (rightW ||| rightA) != 0 && s.journalPlot h) then stDenied
  else if ofs + len > plotBytes e then stRange
  else stOK

/-- A fill of the plot check that finds value and complement disagree (R39). -/
def State.cplCheck (s : State) (h : BitVec 16) : State :=
  let p := s.plot h
  if p.cplBad && p.cur.state != .cplErr then
    let again (r : Revoking) : Revoking :=
      if r.final == .released || r.final == .revoked then r
      else { r with entry := { r.entry with state := .cplErr }, final := .cplErr }
    let s1 := s.setPlot h { p with cur := { p.cur with state := .cplErr }, cplBad := false, rev := p.rev.map again }
    let s2 := (s1.count pgPLM 0x070 0 16 1).wr pgPLM 0x074 (BitVec.ofNat 32 (h.toNat + 2 ^ 16))
    (s2.logErr pgPLM 0x04 (BitVec.ofNat 32 h.toNat)).raise pgPLM 1
  else s

/-- The plot check of a hub: status, the entry it used, and the state with what the check counts. -/
def State.plotCheck (s : State) (hub : Nat) (h : BitVec 16) (w : Who) (n : Need) (rights : BitVec 4) (ofs len : Nat) :
    Nat × PlotEntry × State :=
  let s1 := s.cplCheck h
  let e := viewAt hub (s1.plot h)
  let st := s1.checkEntry h e w n rights ofs len
  (st, e, if st == stSealed then s1.inc pgSEC 0x084 else s1)

/-! ### Places -/

/-- Key of the first word of the tier in the word tables: above every word of the stacks. -/
def tierBase : Nat := 2 ^ 36

/-- The word of a plot offset (R32; R240 for a TIERED plot). -/
def plotWord (e : PlotEntry) (ofs : Nat) : Nat :=
  if e.tiered then
    tierBase + ((e.slots[ofs / unitBytes]?).getD 0 * unitBytes + ofs % unitBytes) / 64
  else
    let k := ilvSize e.ilv
    let u := ofs / 4096
    let w := (u / k) * 4096 + ofs % 4096
    ((e.grans[(w / unitBytes) * k + u % k]?).getD 0 * unitBytes + w % unitBytes) / 64

/-- The bed of a plot offset: that of its granule's stack (R31, R32); a TIERED plot counts as on the set of 24 (R33). -/
def plotBed (e : PlotEntry) (ofs : Nat) : Nat :=
  if e.tiered then (ofs / 4096) % 24
  else granStack (plotWord e ofs / 4194304)

/-- The tier block of an offset of a TIERED plot. -/
def plotBlock (e : PlotEntry) (ofs : Nat) : Nat :=
  (e.slots[ofs / unitBytes]?).getD 0 * 4096 + (ofs % unitBytes) / 65536

/-- The tier blocks that a range touches. -/
def plotBlocks (e : PlotEntry) (ofs len : Nat) : List Nat :=
  if len == 0 then [] else
    (List.range ((ofs + len - 1) / 65536 - ofs / 65536 + 1)).map (fun i => plotBlock e ((ofs / 65536 + i) * 65536))

/-- The page hint that a controller obeys (R42). -/
def hintOf (e : PlotEntry) (ph : Bool) : Bool := ph && !e.tiered && e.ilv != 7

/-! ### The tier (09_dense_tier.md) -/

/-- Whether a tier is in use: stripe width and drives in it. -/
def State.stripeW (s : State) : Nat := s.fld pgTIER 0x054 0 5

/-- The position that a block lies at (R238). -/
def State.blockPos (s : State) (tb : Nat) : Nat := (tb % 4096 + tb / 4096) % (if s.stripeW == 0 then 1 else s.stripeW)

/-- A drive that has failed (TIER.DRIVES.FAILED). -/
def State.driveFailed (s : State) (d : Nat) : Bool := s.bit pgTIER 0x050 (16 + d)

/-- The superblock of the tier: that of the highest generation on a drive in service (R239). -/
def State.tierRef (s : State) : Option TierSb :=
  s.drives.foldl (fun (r : Option TierSb) kv =>
    match kv.2.sb with
    | some b => if kv.2.present && !s.driveFailed kv.1 && decide ((r.map (·.gen)).getD 0 < b.gen) then some b else r
    | none => r) none

/-- A position of the stripe that no good drive serves (R239). -/
def State.posFailed (s : State) (p : Nat) : Bool :=
  !s.drives.any (fun kv => kv.2.present && !s.driveFailed kv.1 &&
    match kv.2.sb with
    | some b => b.pos == p && some b.tierId == s.tierRef.map (·.tierId)
    | none => false)

/-- A block on a failed position. -/
def State.blockFailed (s : State) (tb : Nat) : Bool := s.posFailed (s.blockPos tb)

def State.tag (s : State) (slot : Nat) : TierTag := Tab.get {} s.tags slot

/-- Change a tier tag; its page is to be written (R241). -/
def State.setTag (s : State) (slot : Nat) (t : TierTag) : State :=
  { s with tags := Tab.set {} s.tags slot t, tagPages := insNat (slot / 256) s.tagPages }

/-- Blocks of the cache (TIER.DIRTY, TIER.STRANDED, R245, R250). -/
def State.dirtyBlocks (s : State) : Nat := (s.cache.filter (fun kv => kv.2.dirty.isSome)).length
def State.strandedBlocks (s : State) : Nat :=
  (s.cache.filter (fun kv => kv.2.dirty.isSome && s.blockFailed kv.1)).length

/-- The dirty bound in blocks (TIER.DIRTY_MAX). -/
def State.dirtyMax (s : State) : Nat := s.fld pgTIER 0x044 0 11 * 1024

/-- The set of a tier block (R244). -/
def State.tierSets (s : State) : Nat := s.fld pgTIER 0x040 0 14 * 256
def State.tierSet (s : State) (tb : Nat) : Nat := if s.tierSets == 0 then 0 else tb % s.tierSets

def State.resident (s : State) (tb : Nat) : Bool := Tab.has s.cache tb

/-- A slot whose ZERO flag is set: blocks not resident read zero without a drive (R240). -/
def State.slotZero (s : State) (tb : Nat) : Bool := (s.tag (tb / 4096)).zero

/-- Words of a block. -/
def blockWord (tb : Nat) : Nat := tierBase + tb * 1024

/-- Forget what the word tables hold of a block. -/
def dropBlockMeta (l : List (Nat × WordMeta)) (tb : Nat) : List (Nat × WordMeta) :=
  l.filter (fun kv => !(blockWord tb ≤ kv.1 && kv.1 < blockWord tb + 1024))

/-- The generation that a block on flash is under (R364). -/
def State.blockKg (s : State) (h : BitVec 16) (unit blk : Nat) : Bool :=
  let k := s.pair h
  if !k.sweep || unit * 4096 + blk < k.ptr then k.parity else !k.parity

/-- Bring a block to a generation in the word tables. -/
def setBlockKg (l : List (Nat × WordMeta)) (tb : Nat) (kg : Bool) : List (Nat × WordMeta) :=
  (List.range 1024).foldl (fun l i => Tab.upd {} l (blockWord tb + i) (fun m => { m with kg := kg })) l

/-- The ways of a set that hold a block, and those that an issued fill will take. -/
def State.waysUsed (s : State) (set : Nat) : Nat :=
  (s.cache.filter (fun kv => s.tierSet kv.1 == set)).length +
    (s.fills.filter (fun kv => kv.2.issued && s.tierSet kv.1 == set)).length

/-- A stranded block (R250): it never leaves. -/
def State.stranded (s : State) (tb : Nat) (b : CacheBlk) : Bool := b.dirty.isSome && s.blockFailed tb

/-- The victim of a set (R244): the least recently used block that has no write-back in flight and no keep time running
and is not stranded. -/
def State.victim (s : State) (set : Nat) : Option (Nat × CacheBlk) :=
  s.cache.foldl (fun best kv =>
    if s.tierSet kv.1 != set || kv.2.wb || kv.2.keep || s.stranded kv.1 kv.2 then best
    else match best with
      | none => some kv
      | some b => if kv.2.lru < b.2.lru then some kv else some b) none

/-- Every way of a set is taken by a stranded block (R244). -/
def State.setStuck (s : State) (set : Nat) : Bool :=
  (s.cache.filter (fun kv => s.tierSet kv.1 == set && s.stranded kv.1 kv.2)).length ≥ 16

/-- Put the bytes of a block into the flash image as the cache holds them. -/
def copyBlock (src dst : List Host.Cell) (tb : Nat) : List Host.Cell :=
  let a := tb * 65536
  dst.filter (fun kv => kv.1 < a) ++ src.filter (fun kv => a ≤ kv.1 && kv.1 < a + 65536) ++
    dst.filter (fun kv => a + 65536 ≤ kv.1)

/-- Start to write a block back (R245): every word is brought to the key of R364, and the block is written as it stands.
A slot whose ZERO flag is set is deallocated first (R240). -/
def State.startWriteback (s : State) (tb : Nat) (b : CacheBlk) : State :=
  let slot := tb / 4096
  if (s.tag slot).zero then
    if s.dealloc.contains slot then s
    else { s with dealloc := insNat slot s.dealloc }.emit (.deallocate slot)
  else
    let e := viewAt 0 (s.plot b.owner)
    let cleared := s.wmeta.map (fun kv =>
      if blockWord tb ≤ kv.1 && kv.1 < blockWord tb + 1024 then (kv.1, { kv.2 with td := false }) else kv)
    let metas := if e.conf then setBlockKg cleared tb (s.blockKg b.owner b.unit.toNat b.blk.toNat) else cleared
    { s with
      cache := Tab.put s.cache tb { b with wb := true }
      flash := copyBlock s.cmem s.flash tb
      wmeta := metas.filter (fun kv => decide (kv.2 ≠ ({} : WordMeta))) }.inc pgTIER 0x074

/-- Some word of a block has TD set. -/
def State.anyTd (s : State) (tb : Nat) : Bool :=
  s.wmeta.any (fun kv => decide (blockWord tb ≤ kv.1) && decide (kv.1 < blockWord tb + 1024) && kv.2.td)

/-- Stores held at the dirty bound go on once the count has fallen below it (R248). -/
def State.freeHolds (s : State) : State :=
  if s.dirtyBlocks < s.dirtyMax then
    s.holds.foldl (fun s h => s.readyAll h.token h.waiters) { s with holds := [] }
  else s

/-- A drive has acknowledged a block's write: the block is clean unless a store has landed since (R245). -/
def State.ackWriteback (s : State) (tb : Nat) : State :=
  match Tab.find? s.cache tb with
  | none => s
  | some b =>
    if !b.wb then s
    else
      let d := if s.anyTd tb then b.dirty else none
      { s with cache := Tab.put s.cache tb { b with wb := false, dirty := d } }.freeHolds

/-- Write a block back at once: for a bulk operation, which waits in its place (R163), and for the power-fail sequence. -/
def State.writebackNow (s : State) (tb : Nat) : State :=
  match Tab.find? s.cache tb with
  | none => s
  | some b =>
    let slot := tb / 4096
    let s0 : State := if (s.tag slot).zero then
        { (s.setTag slot { s.tag slot with zero := false }).emit (.deallocate slot) with
          flash := s.flash.filter (fun kv => kv.1 / unitBytes != slot), dealloc := s.dealloc.filter (· != slot) }
      else s
    (s0.startWriteback tb b).ackWriteback tb

/-- Take a block out of the cache. -/
def State.dropBlock (s : State) (tb : Nat) : State :=
  { s with cache := Tab.del s.cache tb, wmeta := dropBlockMeta s.wmeta tb }

/-- Find a way for a fill (R244): true when its drive read can be issued, the victim gone; a dirty victim is written back
first. -/
def State.findWay (s : State) (tb : Nat) : Bool × State :=
  let set := s.tierSet tb
  if s.waysUsed set < 16 then (true, s)
  else match s.victim set with
    | none => (false, s)
    | some (v, b) =>
      if b.dirty.isSome then (false, s.startWriteback v b)
      else (true, s.dropBlock v)

/-- Put a filled block into the cache (R244, R246, R364). -/
def State.installBlock (s : State) (tb : Nat) (keep : Bool) (ws : List Waiter) : State :=
  let t := s.tag (tb / 4096)
  let b : CacheBlk :=
    { owner := t.owner, unit := t.unit, blk := BitVec.ofNat 12 (tb % 4096), lru := s.lruClock, dirty := none,
      wb := false, keep := keep, waiters := ws }
  let e := viewAt 0 (s.plot t.owner)
  let kg := e.conf && s.blockKg t.owner t.unit.toNat (tb % 4096)
  let metas := dropBlockMeta s.wmeta tb
  { s with cache := Tab.put s.cache tb b, lruClock := s.lruClock + 1,
           wmeta := if kg then setBlockKg metas tb true else metas }

/-- Try to issue the fills that wait for a way. -/
def State.pumpFills (s : State) : State :=
  s.fills.foldl (fun s kv =>
    if kv.2.issued || kv.2.failed then s
    else
      let (ok, s1) := s.findWay kv.1
      if ok then { s1 with fills := Tab.put s1.fills kv.1 { kv.2 with issued := true } } else s1) s

/-- Waiters that a token already has, threads of cells among them. -/
def sameWaiter (a b : Waiter) : Bool :=
  match a, b with
  | .port _ p, .port _ q => p.srcEp == q.srcEp && p.tag == q.tag
  | .cell c t, .cell d u => c == d && t == u
  | _, _ => false

/-- A waiter as it is kept: without the data its request carried. -/
def keptWaiter : Waiter → Waiter
  | .port l p => .port l { p with data := [], gtag := [] }
  | w => w

/-- A miss (R246, R247): the token of the DEFER. -/
def State.tierMiss (s : State) (tb : Nat) (w : Waiter) : BitVec 16 × State :=
  let s0 := s.inc pgTIER 0x06C
  let start (s : State) : BitVec 16 × State :=
    match s.newToken with
    | none => (noToken, s.inc pgTIER 0x070)
    | some (t, s1) =>
      let (ok, s2) := s1.findWay tb
      let s3 := if !ok && (s1.victim (s1.tierSet tb)).isNone then s2.inc pgTIER 0x080 else s2
      let f : TierFill := { token := t, waiters := [keptWaiter w], issued := ok, failed := false, since := s.time }
      (t, { s3 with fills := Tab.put s3.fills tb f })
  match Tab.find? s0.fills tb with
  | some f =>
    if f.failed then start s0
    else if f.waiters.length ≥ 64 then (noToken, s0.inc pgTIER 0x070)
    else (f.token, { s0 with fills := Tab.put s0.fills tb { f with waiters := f.waiters ++ [keptWaiter w] } })
  | none => start s0

/-- A waiter of a failed fill asks again: it is answered UNCORRECTABLE (R250). -/
def State.takeFailed (s : State) (tb : Nat) (w : Waiter) : Option State :=
  match Tab.find? s.fills tb with
  | some f =>
    if f.failed && f.waiters.any (fun x => sameWaiter x w) then
      let rest := f.waiters.filter (fun x => !sameWaiter x w)
      some { s with fills := if rest.isEmpty then Tab.del s.fills tb else Tab.put s.fills tb { f with waiters := rest } }
    else none
  | none => none

/-- An access to a resident block: its last use, and a waiter that has reissued (R246). -/
def State.touchBlock (s : State) (tb : Nat) (w : Waiter) : State :=
  match Tab.find? s.cache tb with
  | none => s
  | some b =>
    let ws := b.waiters.filter (fun x => !sameWaiter x w)
    { s with cache := Tab.put s.cache tb { b with lru := s.lruClock, waiters := ws, keep := b.keep && !ws.isEmpty },
             lruClock := s.lruClock + 1 }

/-- Hold a store at the dirty bound (R248). -/
def State.holdDirty (s : State) (w : Waiter) : BitVec 16 × State :=
  let s0 := s.inc pgTIER 0x078
  match s0.newToken with
  | none => (noToken, s0.inc pgTIER 0x070)
  | some (t, s1) => (t, { s1 with holds := s1.holds ++ [{ token := t, waiters := [keptWaiter w] }] })

/-- What the tier says to a load, store or atomic. -/
inductive Gate where
  | pass | defer (token : BitVec 16) | lost
  deriving DecidableEq, Repr

/-- Whether a store must be deferred with token 0xFFFF: the power-fail sequence runs (R251). -/
def State.storesStopped (s : State) : Bool := s.flushSeq.isSome

/-- One block for a load, store or atomic (R246, R248, R250, R251). -/
def State.gateBlock (s : State) (tb : Nat) (store : Bool) (w : Waiter) : Gate × State :=
  if store && s.storesStopped then (.defer noToken, s)
  else if s.resident tb then
    let clean := ((Tab.find? s.cache tb).map (fun b => b.dirty.isNone)).getD true
    if store && clean && s.dirtyBlocks ≥ s.dirtyMax then
      let (t, s1) := s.holdDirty w
      (.defer t, s1)
    else (.pass, s.touchBlock tb w)
  else if !store && s.slotZero tb then (.pass, s)
  else match s.takeFailed tb w with
    | some s1 => (.lost, s1)
    | none =>
      let (t, s1) := s.tierMiss tb w
      (.defer t, s1)

/-- Every block of a range; the first that does not pass decides. -/
def State.gateBlocks (s : State) (store : Bool) (w : Waiter) : List Nat → Gate × State
  | [] => (.pass, s)
  | tb :: l =>
    match s.gateBlock tb store w with
    | (.pass, s1) => s1.gateBlocks store w l
    | r => r

/-- The tier's answer for a range of a plot. -/
def State.tierGate (s : State) (e : PlotEntry) (ofs len : Nat) (store : Bool) (w : Waiter) : Gate × State :=
  if e.tiered then s.gateBlocks store w (plotBlocks e ofs len) else (.pass, s)

/-- Make a way for a bulk operation's fill, which waits for it (R163): what is in flight ends first. -/
def State.wayNow (s : State) (tb : Nat) : Option State :=
  let set := s.tierSet tb
  if s.waysUsed set < 16 then some s
  else
    let s1 : State := { s with cache := s.cache.map (fun kv =>
      if s.tierSet kv.1 == set then (kv.1, { kv.2 with keep := false }) else kv) }
    let s2 := s1.cache.foldl (fun s kv => if kv.2.wb && s.tierSet kv.1 == set then s.ackWriteback kv.1 else s) s1
    match s2.victim set with
    | none => none
    | some (v, b) => some ((if b.dirty.isSome then s2.writebackNow v else s2).dropBlock v)

/-- Residency for a bulk operation (R163, R250): none when the block's drive has failed. -/
def State.bulkBlock (s : State) (tb : Nat) (store : Bool) : Option State :=
  if s.resident tb then some s
  else if !store && s.slotZero tb then some s
  else if s.blockFailed tb || s.setStuck (s.tierSet tb) then none
  else (s.wayNow tb).map (fun s1 => s1.installBlock tb false [])

/-- Write back the oldest dirty block that can be (R248). -/
def State.oldestDirty (s : State) : Option (Nat × CacheBlk) :=
  s.cache.foldl (fun best kv =>
    match kv.2.dirty with
    | none => best
    | some n =>
      if kv.2.wb || s.blockFailed kv.1 then best
      else match best with
        | none => some kv
        | some b => if n < (b.2.dirty.getD 0) then some kv else some b) none

/-- A bulk store at the dirty bound waits for a write-back (R248). -/
def State.bulkDirty (s : State) (tb : Nat) : State :=
  let clean := ((Tab.find? s.cache tb).map (fun b => b.dirty.isNone)).getD true
  if clean && s.dirtyBlocks ≥ s.dirtyMax then
    let s1 := s.inc pgTIER 0x078
    match s1.oldestDirty with
    | some (v, _) => s1.writebackNow v
    | none => s1
  else s

/-- A store dirties a block (R245). -/
def State.markDirty (s : State) (tb : Nat) : State :=
  match Tab.find? s.cache tb with
  | none => s
  | some b =>
    match b.dirty with
    | some _ => s
    | none =>
      let s1 : State := { s with cache := Tab.put s.cache tb { b with dirty := some s.lruClock },
                                 lruClock := s.lruClock + 1 }
      if s1.dirtyBlocks == s1.dirtyMax then s1.raise pgTIER 1 else s1

/-! ### Bytes of a plot -/

/-- Whether the key of a generation is held (R360). -/
def keyHeld (k : KeyPair) (kg : Bool) : Bool := if kg == k.parity then k.cur.isSome else k.prev.isSome

/-- An access that needs an absent key (R360). -/
def State.keyFail (s : State) : State := s.inc pgSEC 0x080

/-- Read one word of a plot: status, and 64 bytes when it is OK. -/
def State.readPlotWord (s : State) (h : BitVec 16) (e : PlotEntry) (ofs : Nat) (hint : Bool) : Except Nat Bytes × State :=
  let w := plotWord e ofs
  if e.tiered then
    let tb := plotBlock e ofs
    if !s.resident tb && s.slotZero tb then (.ok (List.replicate 64 0), s)
    else
      let m := s.wm w
      let zero := s.slotZero tb && !m.td && m.err == 0
      if m.err ≥ 4 then (.error stUncorr, s)
      else if e.conf && !zero && !keyHeld (s.pair h) m.kg then (.error stKeyFail, s.keyFail)
      else
        let a := (w - tierBase) * 64
        (.ok ((List.range 64).map (fun i => Tab.get 0 s.cmem (a + i))), s)
  else if e.conf && s.valid w && !keyHeld (s.pair h) (s.wm w).kg then (.error stKeyFail, s.keyFail)
  else
    match s.readWord w hint (s.tenantConf e.owner) with
    | (some d, s1) => (.ok d, s1)
    | (none, s1) => (.error stUncorr, s1)

/-- Read consecutive words. -/
def State.readPlotWords (s : State) (h : BitVec 16) (e : PlotEntry) (hint : Bool) : Nat → Nat → Except Nat Bytes × State
  | _, 0 => (.ok [], s)
  | ofs, n + 1 =>
    match s.readPlotWord h e ofs hint with
    | (.error st, s1) => (.error st, s1)
    | (.ok d, s1) =>
      match s1.readPlotWords h e hint (ofs + 64) n with
      | (.ok r, s2) => (.ok (d ++ r), s2)
      | r => r

/-- Words that a range touches. -/
def spanWords (ofs len : Nat) : Nat := if len == 0 then 0 else (ofs + len - 1) / 64 - ofs / 64 + 1

/-- Read a range of a plot. -/
def State.readPlot (s : State) (h : BitVec 16) (e : PlotEntry) (ofs len : Nat) (hint : Bool) : Except Nat Bytes × State :=
  match s.readPlotWords h e hint (ofs / 64 * 64) (spanWords ofs len) with
  | (.ok d, s1) => (.ok ((d.drop (ofs % 64)).take len), s1)
  | r => r

/-- Write bytes within one word of a plot: the status. -/
def State.writePlotWord (s : State) (h : BitVec 16) (e : PlotEntry) (ofs : Nat) (bs : Bytes) (hint : Bool) : Nat × State :=
  let w := plotWord e ofs
  let k := s.pair h
  if e.conf && k.cur.isNone then (stKeyFail, s.keyFail)
  else
    let kg := e.conf && k.parity
    if e.tiered then
      let tb := plotBlock e ofs
      let m := s.wm w
      if bs.length < 64 && m.err ≥ 4 then (stUncorr, s)
      else
        let a := (w - tierBase) * 64 + ofs % 64
        let s1 := ({ s with cmem := putBytes s.cmem a bs }.setWm w { m with td := true, kg := kg, err := 0 })
        (stOK, s1.markDirty tb)
    else if bs.length == 64 then (stOK, (s.dropEntry w).writeWord w bs kg false hint)
    else
      match s.writeNarrow w (ofs % 64) bs kg with
      | (true, s1) => (stOK, s1)
      | (false, s1) => (stUncorr, s1)

/-- Write a range word by word, `n` pieces at most; it ends at the first word that fails. -/
def State.writePlotPieces (s : State) (h : BitVec 16) (e : PlotEntry) (hint : Bool) : Nat → Nat → Bytes → Nat × State
  | 0, _, _ => (stOK, s)
  | n + 1, ofs, bs =>
    if bs.isEmpty then (stOK, s)
    else
      let c := 64 - ofs % 64
      match s.writePlotWord h e ofs (bs.take c) hint with
      | (0, s1) => s1.writePlotPieces h e hint n (ofs + c) (bs.drop c)
      | r => r

/-- The written bit of a plot is set (R384). -/
def State.markWritten (s : State) (h : BitVec 16) : State := s.setPlot h { s.plot h with written := true }

/-- Write a range of a plot. -/
def State.writePlot (s : State) (h : BitVec 16) (e : PlotEntry) (ofs : Nat) (bs : Bytes) (hint : Bool) : Nat × State :=
  match s.writePlotPieces h e hint (spanWords ofs bs.length) ofs bs with
  | (0, s1) => (0, s1.markWritten h)
  | r => r

/-- A bulk operation's blocks made resident in turn (R163). -/
def State.bulkBlocks (s : State) (store : Bool) : List Nat → Option State
  | [] => some s
  | tb :: l =>
    match s.bulkBlock tb store with
    | some s1 => ((if store then s1.bulkDirty tb else s1)).bulkBlocks store l
    | none => none

end Sys2Proof.Machine
end

