-- ==== Sys2Proof/Machine/Home.lean ====
section
/-! DEFINITION. The home agents (12_coherence_and_remote_access.md): sharer records, regions, transactions with their snoops,
the order of conflicting requests, holds, near and far atomics, and the performance of a request that has been ordered. -/

namespace Sys2Proof.Machine

/-! ### Lines, records and regions -/

/-- The line number of a plot offset (R311). -/
def lineOf (h : BitVec 16) (ofs : Nat) : Nat := h.toNat * 2 ^ 37 + ofs / 128
def lineHandle (line : Nat) : BitVec 16 := BitVec.ofNat 16 (line / 2 ^ 37)
def lineOfs (line : Nat) : Nat := line % 2 ^ 37 * 128

/-- The lines of a range. -/
def linesOf (h : BitVec 16) (ofs len : Nat) : List Nat :=
  if len == 0 then [] else
    (List.range ((ofs + len - 1) / 128 - ofs / 128 + 1)).map (fun i => lineOf h ofs + i)

/-- The 64 KiB region of a line (R312); regions of the tier are numbered above those of the stacks. -/
def regionOf (e : PlotEntry) (ofs : Nat) : Nat :=
  if e.tiered then 2 ^ 40 + plotBlock e ofs else plotWord e ofs / 1024

def State.lineEntry (s : State) (line : Nat) : PlotEntry := (s.plot (lineHandle line)).cur

def State.lineRegion (s : State) (line : Nat) : Nat := regionOf (s.lineEntry line) (lineOfs line)

def State.rec_ (s : State) (line : Nat) : Option LineRec := (Tab.find? s.recs line).map (·.r)

/-- The coherence summary of a record (Table 12-2). -/
def csOf : Option LineRec → BitVec 2
  | none => 0
  | some (.s _) => 1
  | some (.sc _) => 2
  | some (.em _) => 3

/-- An endpoint marked in the coherent-endpoint map (HOME.CEP). -/
def State.cepMarked (s : State) (ep : BitVec 13) : Bool :=
  s.bit pgHOME (0x400 + 4 * (ep.toNat / 32)) (ep.toNat % 32)

/-- Nothing of a region is recorded, granted or snooped: the bed's bit is cleared (R312). -/
def State.dropRegion (s : State) (r : Nat) : State :=
  if s.recs.any (fun kv => s.lineRegion kv.1 == r) || s.txns.any (fun kv => s.lineRegion kv.1 == r) then s
  else { s with regionBits := Tab.del s.regionBits r }

/-- Write CS into both code words of a line (R316). -/
def State.writeCs (s : State) (line : Nat) (cs : BitVec 2) : State :=
  let e := s.lineEntry line
  let o := lineOfs line
  if o + 128 ≤ plotBytes e then (s.setCs (plotWord e o) cs).setCs (plotWord e (o + 64)) cs else s

/-- Change the record of a line: its CS, its region, its hold, and the count of lines that leave SC (R319). -/
def State.setRec (s : State) (line : Nat) (r : Option LineRec) : State :=
  let old := s.rec_ line
  let s1 : State := match r with
    | some x => { s with recs := Tab.put s.recs line { r := x, lru := s.lruClock }, lruClock := s.lruClock + 1 }
    | none => { s with recs := Tab.del s.recs line }
  let s2 := if csOf old == 2 && csOf r != 2 then s1.inc pgHOME 0x06C else s1
  let s3 := if csOf old == csOf r then s2 else s2.writeCs line (csOf r)
  let s4 : State := if csOf r == 3 then s3 else { s3 with lineHolds := Tab.del s3.lineHolds line }
  if r.isNone then s4.dropRegion (s.lineRegion line) else s4

/-- The set of a line's record (R317). -/
def recSet (line : Nat) : Nat :=
  ((line % 2 ^ 27) ^^^ (line / 2 ^ 37 * 2 ^ 11)) % 2 ^ 27

/-- Record lookups beyond what a hub's cache holds may miss: which do is open (R317, log entry 35). -/
def State.recLookup (s : State) (line : Nat) : State :=
  if Tab.has s.recs line && s.recs.length > 262144 then
    let (n, s1) := s.fresh
    if Config.pick n % 2 == 1 then s1.inc pgHOME 0x064 else s1
  else s

/-! ### The contention predictor (R326) -/

def predIdx (line : Nat) : Nat := (line % 2 ^ 16) ^^^ (line / 2 ^ 16 % 2 ^ 16)

def State.predAt (s : State) (line : Nat) : Nat := Tab.get 4 s.pred (predIdx line)

def State.predUp (s : State) (line : Nat) : State :=
  { s with pred := Tab.upd 4 s.pred (predIdx line) (fun n => if n < 7 then n + 1 else 7) }

def State.predDown (s : State) (line : Nat) : State :=
  { s with pred := Tab.upd 4 s.pred (predIdx line) (· - 1) }

/-- A near atomic by a requester (numbered from 1): against the one before it at the same counter. -/
def State.predNear (s : State) (line who : Nat) : State :=
  let last := Tab.get 0 s.nearBy (predIdx line)
  let s1 : State := { s with nearBy := Tab.put s.nearBy (predIdx line) who }
  if last == 0 then s1 else if last == who then s1.predDown line else s1.predUp line

/-- T_HOLD in ns (R324). -/
def State.tHold (s : State) : Nat := 10 * s.fld pgHOME 0x040 0 8

/-- A line granted far comes back: recalled for another requester, or returned by eviction. -/
def State.predReturn (s : State) (line : Nat) (recalled : Bool) : State :=
  match Tab.find? s.lineHolds line with
  | some h =>
    if !h.far then s
    else if recalled && s.time - h.since ≤ 4 * s.tHold then s.predUp line else s.predDown line
  | none => s

/-- A hold in force (R324). -/
def State.held (s : State) (line : Nat) : Bool :=
  match Tab.find? s.lineHolds line with
  | some h => h.active
  | none => false

/-- Grant a line exclusively: record and hold. -/
def State.grantEm (s : State) (line : Nat) (o : Owner) (far : Bool) : State :=
  let s1 := s.setRec line (some (.em o))
  { s1 with lineHolds := Tab.put s1.lineHolds line { since := s.time, active := true, far := far } }

/-! ### Data at the home -/

/-- Write at the home without a DEFER: data of a recall, a write-back or a bed's buffer. -/
def State.homeStore (s : State) (kh : BitVec 16) (e : PlotEntry) (ofs : Nat) (d : Bytes) : State :=
  let s1 := if e.tiered then ((s.bulkBlocks false (plotBlocks e ofs d.length)).getD s) else s
  (s1.writePlot kh e ofs d false).2

/-- A bed returns a line that its atomic buffer holds (R325). -/
def State.bedReturn (s : State) (line b : Nat) (kh : BitVec 16) (e : PlotEntry) : State :=
  let buf := Tab.get [] s.atomBuf b
  let s1 : State := { s with atomBuf := Tab.set [] s.atomBuf b (buf.filter (fun a => a.line != line)) }
  match buf.find? (fun a => a.line == line) with
  | some a => (s1.homeStore kh e (lineOfs line) a.data).setRec line none
  | none => s1.setRec line none

/-! ### Snoops -/

/-- What a request asks of a line. -/
inductive Ask where
  | read | rdS | rdE | upgrade | write
  deriving DecidableEq, Repr

/-- Endpoints of the groups of a coarse vector that the map marks (R320). -/
def State.coarseEps (s : State) (v : BitVec 128) : List (BitVec 13) :=
  ((List.range 128).filter (fun g => v.getLsbD g)).flatMap (fun g =>
    ((List.range 64).map (fun i => BitVec.ofNat 13 (64 * g + i))).filter s.cepMarked)

/-- The snoops that a line needs before a request is ordered and the record it then has (Table 12-3, R320): endpoint,
recall, keep. None when it needs none. A line in a bed's buffer is returned without a message. -/
def State.snoopsFor (s : State) (line : Nat) (a : Ask) (who : Option (BitVec 13)) :
    Option (List (BitVec 13 × Bool × Bool) × Option LineRec) :=
  match s.rec_ line with
  | none => none
  | some (.em (.bed _)) => none
  | some (.em (.ep o)) =>
    if who == some o then none
    else match a with
      | .read => some ([(o, true, true)], some (.s [o]))
      | .rdS => some ([(o, true, true)], some (.s [o]))
      | _ => some ([(o, true, false)], none)
  | some (.s ps) =>
    let mine := ps.filter (fun p => who == some p)
    let others := ps.filter (fun p => who != some p)
    match a with
    | .read => none
    | .rdS => none
    | .write => some (ps.map (fun p => (p, false, false)), none)
    | _ => if others.isEmpty then none
           else some (others.map (fun p => (p, false, false)), if mine.isEmpty then none else some (.s mine))
  | some (.sc v) =>
    match a with
    | .read => none
    | .rdS => none
    | .write => some ((s.coarseEps v).map (fun p => (p, false, false)), none)
    | _ =>
      let others := (s.coarseEps v).filter (fun p => who != some p)
      let mine : BitVec 128 := match who with
        | some w => if v.getLsbD (w.toNat / 64) then 1#128 <<< (w.toNat / 64) else 0
        | none => 0
      if others.isEmpty && mine == v then none
      else some (others.map (fun p => (p, false, false)), if mine == 0 then none else some (.sc mine))

/-- Send one INV or RECALL on the path the table gives; with no valid path nothing is sent, and the snoop is settled by its
timeout (R328, R329). -/
def State.sendSnoop (s : State) (line : Nat) (ep : BitVec 13) (isRecall keep : Bool) : Snoop × State :=
  let (tag, s1) := s.newTag
  let s2 := s1.inc pgHOME (if isRecall then 0x074 else 0x070)
  match s2.route ep with
  | none => ({ ep := ep, tag := tag, isRecall := isRecall, keep := keep, link := none, resent := false }, s2)
  | some (path, out, _) =>
    let (_, s3) := s2.sendOwn path out false (fun p =>
      { p with opcode := if isRecall then 0x3D else 0x3C, dstEp := ep, tag := tag, mod := if keep then 1 else 0,
               addr := BitVec.ofNat 64 ((lineHandle line).toNat * 2 ^ 48 + lineOfs line) })
    ({ ep := ep, tag := tag, isRecall := isRecall, keep := keep, link := some out, resent := false }, s3)

def State.sendSnoops (s : State) (line : Nat) : List (BitVec 13 × Bool × Bool) → List Snoop × State
  | [] => ([], s)
  | (ep, r, k) :: l =>
    let (n, s1) := s.sendSnoop line ep r k
    -- each snoop is listed before the next takes its tag
    let s2 : State := { s1 with txns := s1.txns.map (fun kv =>
      if kv.1 == line then (kv.1, { kv.2 with snoops := kv.2.snoops ++ [n] }) else kv) }
    let (ns, s3) := s2.sendSnoops line l
    (n :: ns, s3)

/-- The last snoop of a line has been settled: the line takes the record that they leave. -/
def State.endTxn (s : State) (line : Nat) (t : Txn) : State :=
  ({ s with txns := Tab.del s.txns line }).setRec line t.after_

/-- Start a transaction on a line. -/
def State.startTxn (s : State) (line : Nat) (cause : SnoopFor) (plan : List (BitVec 13 × Bool × Bool))
    (after : Option LineRec) (kh : BitVec 16) (e : PlotEntry) : State :=
  let t : Txn := { cause := cause, snoops := [], after_ := after, kh := kh, entry := e }
  let s1 : State := { s with txns := Tab.put s.txns line t }
  let s2 := (s1.sendSnoops line plan).2
  if plan.isEmpty then s2.endTxn line t else s2

/-! ### Requests -/

/-- The line kind of a request packet. -/
def askOf (p : Packet) : Ask :=
  match p.opcode.toNat with
  | 0x01 => .read
  | 0x30 => .rdS
  | 0x31 => .rdE
  | 0x32 => .upgrade
  | _ => .write

/-- Handle, offset and length that a request addresses. -/
def pktHandle (p : Packet) : BitVec 16 := p.addr.extractLsb' 48 16
def pktOfs (p : Packet) : Nat := fieldOf p.addr.toNat 0 44
def pktLen (p : Packet) : Nat :=
  match p.opcode.toNat with
  | 0x01 => p.length.toNat
  | 0x02 => p.length.toNat
  | 0x03 => if p.mod.toNat < 16 then 8 else 16
  | _ => 128

def pktLines (p : Packet) : List Nat := linesOf (pktHandle p) (pktOfs p) (pktLen p)

/-- Two requests conflict unless both read (R321). -/
def conflict (p q : Packet) : Bool :=
  let rd (x : Packet) : Bool := x.opcode == 0x01 || x.opcode == 0x30
  !(rd p && rd q) && (pktLines p).any (fun l => (pktLines q).contains l)

/-- Whether a cacheable grant may follow: a COHERENT plot and a marked endpoint. -/
def State.mayCache (s : State) (e : PlotEntry) (ep : BitVec 13) : Bool := !e.uncached && s.cepMarked ep

/-- An atomic runs far (R325, R326). -/
def State.runsFar (s : State) (e : PlotEntry) (p : Packet) : Bool :=
  s.mayCache e p.srcEp && (p.ah == 2 ||
    (p.ah == 0 && s.predAt (lineOf (pktHandle p) (pktOfs p)) < s.fld pgHOME 0x048 0 3))

/-- A request that will leave a record behind. -/
def State.makesRecord (s : State) (e : PlotEntry) (p : Packet) : Bool :=
  match p.opcode.toNat with
  | 0x30 => true
  | 0x31 => true
  | 0x32 => true
  | 0x03 => s.runsFar e p
  | _ => false

/-- The victim of a full record set (R317): S first, then SC, then E/M, least recently used first; not one with a
transaction or a hold. -/
def State.recVictim (s : State) (line : Nat) : Option Nat :=
  let c (kv : Nat × RecEnt) : Nat := (csOf (some kv.2.r)).toNat
  (s.recs.foldl (fun (best : Option (Nat × RecEnt)) kv =>
    if recSet kv.1 != recSet line || Tab.has s.txns kv.1 || s.held kv.1 then best
    else match best with
      | none => some kv
      | some b => if c kv < c b || (c kv == c b && kv.2.lru < b.2.lru) then some kv else some b) none).map (·.1)

/-- The snoops that a record needs before its line is in I. -/
def State.clearPlan (s : State) : Option LineRec → List (BitVec 13 × Bool × Bool)
  | some (.em (.ep o)) => [(o, true, false)]
  | some (.s ps) => ps.map (fun p => (p, false, false))
  | some (.sc v) => (s.coarseEps v).map (fun p => (p, false, false))
  | _ => []

/-- Invalidate or recall a line altogether: for an eviction or a revocation. -/
def State.clearLine (s : State) (line : Nat) (cause : SnoopFor) (kh : BitVec 16) (e : PlotEntry) : State :=
  match Tab.find? s.txns line with
  | some t =>
    -- a transaction that runs already takes the line on to I
    let s1 : State := { s with txns := Tab.put s.txns line { t with after_ := none, cause := cause } }
    (s1.sendSnoops line (s.clearPlan t.after_)).2
  | none => match s.rec_ line with
    | none => s
    | some (.em (.bed b)) => (s.predReturn line true).bedReturn line b.toNat kh e
    | r => (s.predReturn line true).startTxn line cause (s.clearPlan r) none kh e

/-- The set message of a region: its bed acknowledges it by REGION_SET_ACK (R312). True when the bit is set. -/
def State.needRegion (s : State) (r : Nat) : Bool × State :=
  match Tab.get 0 s.regionBits r with
  | 2 => (true, s)
  | 1 => (false, s)
  | _ => (false, { s with regionBits := Tab.put s.regionBits r 1 })

/-- Make one line ready for a request: true when it can be ordered. Otherwise what it waits for has been started. -/
def State.readyLine (s : State) (q : HomeReq) (line : Nat) : Bool × State :=
  let who := q.pkt.srcEp
  let a := askOf q.pkt
  if Tab.has s.txns line then (false, s)
  else
    let own := match s.rec_ line with
      | some (.em (.ep o)) => o == who
      | _ => false
    let snoops := s.snoopsFor line a (some who)
    let inBed := match s.rec_ line with
      | some (.em (.bed _)) => true
      | _ => false
    if (snoops.isSome || inBed) && s.held line then (false, s)
    else
      let needBit := snoops.isSome || s.makesRecord q.entry q.pkt
      let (bit, s1) := if needBit then s.needRegion (regionOf q.entry (lineOfs line)) else (true, s)
      if !bit then (false, s1)
      else
        let s2 := match s1.rec_ line with
          | some (.em (.bed b)) => (s1.predReturn line true).bedReturn line b.toNat q.kh q.entry
          | _ => s1
        match s2.snoopsFor line a (some who) with
        | some (plan, after) =>
          let s3 := if csOf (s2.rec_ line) == 3 then s2.predReturn line true else s2
          let s4 := s3.startTxn line (.request q.rq) plan after q.kh q.entry
          (!Tab.has s4.txns line, s4)
        | none =>
          if s2.makesRecord q.entry q.pkt && !own && !Tab.has s2.recs line &&
              (s2.recs.filter (fun kv => recSet kv.1 == recSet line)).length ≥ 16 then
            match s2.recVictim line with
            | some v =>
              let s3 := (s2.inc pgHOME 0x060).clearLine v .evict (lineHandle v) (s2.lineEntry v)
              (!Tab.has s3.txns v, s3)
            | none => (false, s2)
          else (true, s2)

def State.readyLines (s : State) (q : HomeReq) : List Nat → Bool × State
  | [] => (true, s)
  | l :: ls =>
    let (a, s1) := s.readyLine q l
    let (b, s2) := s1.readyLines q ls
    (a && b, s2)

/-- Add a sharer (R318). -/
def State.addSharer (s : State) (line : Nat) (ep : BitVec 13) : State :=
  let bit (e : BitVec 13) : BitVec 128 := 1#128 <<< (e.toNat / 64)
  match s.rec_ line with
  | none => s.setRec line (some (.s [ep]))
  | some (.s ps) =>
    if ps.contains ep then s.setRec line (some (.s ps))
    else if ps.length < 4 then s.setRec line (some (.s (ps ++ [ep])))
    else (s.setRec line (some (.sc (ps.foldl (fun v p => v ||| bit p) (bit ep))))).inc pgHOME 0x068
  | some (.sc v) => s.setRec line (some (.sc (v ||| bit ep)))
  | some (.em o) => s.setRec line (some (.em o))

/-- Answer with data, or with the status that reading it gave. -/
def State.answerData (s : State) (q : HomeReq) (r : Except Nat Bytes) (mod : BitVec 8) : State :=
  match r with
  | .ok d => s.answerOk q.link q.pkt mod d
  | .error st => s.answer q.link q.pkt st

/-- Perform an atomic of an accelerator at the home (R325, R474). -/
def State.homeAtomic (s : State) (q : HomeReq) : State :=
  let p := q.pkt
  let ofs := pktOfs p
  let line := lineOf (pktHandle p) ofs
  let n := pktLen p
  match atomOfMinor p.mod.toNat, s.readPlot q.kh q.entry ofs n false with
  | some (k, _), (.ok old, s0) =>
    -- the word leaves the merge buffer before it is read and changed (R217)
    let s1 := if q.entry.tiered then s0 else s0.drainWord (plotWord q.entry ofs)
    match atomicNew k (8 * n) (leNat old) (leNat (p.data.take n)) (leNat (p.data.drop n)) with
    | .error d =>
      s1.sendRsp q.link p (fun r => { r with opcode := 0x13, status := 0x25, mod := BitVec.ofNat 8 d })
    | .ok v =>
      let far := s1.runsFar q.entry p
      match s1.writePlot q.kh q.entry ofs (leBytes n v) false with
      | (0, s2) =>
        if far then
          let (d, s3) := s2.readPlot q.kh q.entry (lineOfs line) 128 false
          match d with
          | .ok d => ((s3.grantEm line (.ep p.srcEp) true).inc pgHOME 0x080).answerOk q.link p 1 (old ++ d)
          | .error _ => (s3.inc pgHOME 0x07C).answerOk q.link p 0 old
        else ((s2.predNear line (p.srcEp.toNat + 1)).inc pgHOME 0x07C).answerOk q.link p 0 old
      | (st, s2) => s2.answer q.link p st
  | _, (.error st, s0) => s0.answer q.link p st
  | none, (_, s0) => s0.answer q.link p stInvalid

/-- Perform a request that has been ordered (Table 12-3). -/
def State.perform (s : State) (q : HomeReq) : State :=
  let p := q.pkt
  let ofs := pktOfs p
  let line := lineOf (pktHandle p) ofs
  let s0 := s.recLookup line
  let store := p.opcode == 0x02 || p.opcode == 0x03
  match s0.tierGate q.entry ofs (pktLen p) store (.port q.link p) with
  | (.defer t, s1) => s1.answerDefer q.link p t
  | (.lost, s1) => s1.answer q.link p stUncorr
  | (.pass, s1) =>
    let hint := hintOf q.entry p.ph
    match p.opcode.toNat with
    | 0x01 =>
      let (r, s2) := s1.readPlot q.kh q.entry ofs p.length.toNat hint
      s2.answerData q r 0
    | 0x02 =>
      let (st, s2) := s1.writePlot q.kh q.entry ofs (p.data.take p.length.toNat) hint
      if st == 0 then s2.answerOk q.link p 0 [] else s2.answer q.link p st
    | 0x03 => s1.homeAtomic q
    | 0x30 =>
      let (r, s2) := s1.readPlot q.kh q.entry ofs 128 hint
      match r with
      | .ok _ => (s2.addSharer line p.srcEp).answerData q r 0
      | .error _ => s2.answerData q r 0
    | 0x31 =>
      let (r, s2) := s1.readPlot q.kh q.entry ofs 128 hint
      match r with
      | .ok _ => (s2.grantEm line (.ep p.srcEp) false).answerData q r 0
      | .error _ => s2.answerData q r 0
    | _ =>
      let named := match s1.rec_ line with
        | some (.s ps) => ps.contains p.srcEp
        | _ => false
      if named then
        (s1.grantEm line (.ep p.srcEp) false).sendRsp q.link p (fun r => { r with opcode := 0x3A })
      else
        let (r, s2) := s1.readPlot q.kh q.entry ofs 128 hint
        match r with
        | .ok d => (s2.grantEm line (.ep p.srcEp) false).sendRsp q.link p (fun x => { x with opcode := 0x39, data := d })
        | .error st => s2.answer q.link p st

/-- One pass over the requests that wait, in order of arrival: each is performed when no earlier one that it conflicts with
still waits and its lines are ready. -/
def State.passReqs (s : State) (earlier : List HomeReq) : List HomeReq → State
  | [] => s
  | q :: qs =>
    if earlier.any (fun r => conflict r.pkt q.pkt) then
      ({ s with homeq := s.homeq ++ [q] }).passReqs (q :: earlier) qs
    else
      let (ok, s1) := s.readyLines q (pktLines q.pkt)
      if ok then (s1.perform q).passReqs earlier qs
      else ({ s1 with homeq := s1.homeq ++ [q] }).passReqs (q :: earlier) qs

/-- READY to the requests withdrawn with a DEFER whose lines have no transaction any more (R302). -/
def State.readyDeferred (s : State) : State :=
  let stuck (d : Nat × LinkNo × Packet) : Bool := (pktLines d.2.2).any (fun l => Tab.has s.txns l || s.held l)
  let go := s.deferred.filter (fun d => !stuck d)
  go.foldl (fun s d => s.sendReady d.2.1 d.2.2 (BitVec.ofNat 16 d.1)) { s with deferred := s.deferred.filter stuck }

/-- Let the requests that wait go on. -/
def State.pump (s : State) : State :=
  let q := s.homeq
  (({ s with homeq := [] }).passReqs [] q).readyDeferred

/-- The transaction table of each hub holds 4,096 lines (R321). A request arrives at the home: it is performed or waits. -/
def State.homeArrive (s : State) (l : LinkNo) (p : Packet) (e : PlotEntry) : State :=
  let q : HomeReq := { rq := s.nextRq, link := l, pkt := p, kh := pktHandle p, entry := e }
  let waits := (pktLines p).any (fun x => s.held x && ((s.snoopsFor x (askOf p) (some p.srcEp)).isSome ||
    match s.rec_ x with
    | some (.em (.bed _)) => true
    | _ => false))
  let s1 : State := { s with nextRq := s.nextRq + 1, homeq := s.homeq ++ [q] }
  (if waits then s1.inc pgHOME 0x078 else s1).pump

/-! ### Accesses from inside the device (R311, R312) -/

/-- A line that a cell or an engine reads or writes: ready, or what it waits for has been started. -/
def State.insideLine (s : State) (line : Nat) (write : Bool) (e : PlotEntry) : Bool × State :=
  if Tab.has s.txns line then (false, s)
  else match s.rec_ line with
    | none => (true, s)
    | some r =>
      let a := if write then Ask.write else Ask.read
      let touch := match r with
        | .em _ => true
        | _ => write
      if !touch then (true, s)
      else if s.held line then (false, s.inc pgHOME 0x078)
      else match r with
        | .em (.bed b) => (true, (s.predReturn line true).bedReturn line b.toNat (lineHandle line) e)
        | _ =>
          match s.snoopsFor line a none with
          | some (plan, after) =>
            let s1 := if csOf (some r) == 3 then s.predReturn line true else s
            let s2 := s1.startTxn line .inside plan after (lineHandle line) e
            (!Tab.has s2.txns line, s2)
          | none => (true, s)

def State.insideLines (s : State) (write : Bool) (e : PlotEntry) : List Nat → Bool × State
  | [] => (true, s)
  | l :: ls =>
    let (a, s1) := s.insideLine l write e
    let (b, s2) := s1.insideLines write e ls
    (a && b, s2)

/-- Whether the lines of a range are ready for an access from inside; UNCACHED plots never hold a record. -/
def State.insideReady (s : State) (h : BitVec 16) (e : PlotEntry) (ofs len : Nat) (write : Bool) : Bool × State :=
  if e.uncached then (true, s) else s.insideLines write e (linesOf h ofs len)

/-! ### Answers to snoops -/

/-- The transaction that awaits a snoop answer by its TAG. -/
def State.txnOf (s : State) (ep : BitVec 13) (tag : BitVec 16) : Option (Nat × Txn × Snoop) :=
  match s.txns.find? (fun kv => kv.2.snoops.any (fun n => n.ep == ep && n.tag == tag)) with
  | some (line, t) => (t.snoops.find? (fun n => n.ep == ep && n.tag == tag)).map (fun n => (line, t, n))
  | none => none

/-- One snoop of a line is settled; with the last the transaction ends and what waited goes on. -/
def State.settle (s : State) (line : Nat) (tag : BitVec 16) : State :=
  match Tab.find? s.txns line with
  | none => s
  | some t =>
    let rest := t.snoops.filter (fun n => n.tag != tag)
    if rest.isEmpty then (s.endTxn line t).pump
    else { s with txns := Tab.put s.txns line { t with snoops := rest } }

/-- Data that an owner returns. -/
def State.recallData (s : State) (line : Nat) (t : Txn) (d : Bytes) : State :=
  s.homeStore t.kh t.entry (lineOfs line) d

/-- A message from an endpoint that no record names is counted (R323). -/
def State.lateData (s : State) : State := (s.inc pgHOME 0x08C).raise pgHOME 2

end Sys2Proof.Machine
end

