-- ==== Sys2Proof/Machine/Cells.lean ====
section
/-! DEFINITION. Cells and their threads (03_cells_and_threads.md): the binding word, threads and contexts, the end of a
command's threads, purges, and the end of an engine command with its completion (R165, R167). -/

namespace Sys2Proof.Machine

/-! ### The binding word (Table 03-4) -/

def bwJob (w : W64) : BitVec 20 := w.extractLsb' 0 20
def bwTenant (w : W64) : BitVec 12 := w.extractLsb' 20 12
def bwPos (w : W64) : Nat := (w.extractLsb' 32 9).toNat
def bwGroups (w : W64) : Nat := (w.extractLsb' 41 5).toNat
def bwScr (w : W64) : Nat := (w.extractLsb' 46 5).toNat
def bwAcc (w : W64) : Nat := (w.extractLsb' 51 7).toNat
def bwReplay (w : W64) : Bool := w.getLsbD 58
def bwConf (w : W64) : Bool := w.getLsbD 59
def bwLent (w : W64) : Bool := w.getLsbD 60
def bwValid (w : W64) : Bool := w.getLsbD 61

/-- A binding word in force. -/
def bindWord (job : BitVec 20) (tenant : BitVec 12) (pos groups scr acc : Nat) (replay conf lent : Bool) : W64 :=
  BitVec.ofNat 64 (job.toNat + 2 ^ 20 * tenant.toNat + 2 ^ 32 * (pos % 512) + 2 ^ 41 * groups + 2 ^ 46 * scr + 2 ^ 51 * acc +
    2 ^ 58 * ofBool replay + 2 ^ 59 * ofBool conf + 2 ^ 60 * ofBool lent + 2 ^ 61)

/-! ### Cells -/

def State.cell (s : State) (c : Nat) : Cell := Tab.get {} s.cells c

def State.setCell (s : State) (c : Nat) (x : Cell) : State := { s with cells := Tab.set {} s.cells c x }

def State.modCell (s : State) (c : Nat) (f : Cell → Cell) : State := s.setCell c (f (s.cell c))

/-- The bed of a cell, and whether it is the bed's spare (R12). -/
def cellBed (c : Nat) : Nat := c / 17
def isSpareCell (c : Nat) : Bool := c % 17 == 16

/-- The cells of a bed. -/
def bedCells (b : Nat) : List Nat := (List.range 17).map (17 * b + ·)

/-- The hub of a cell. -/
def hubOfCell (c : Nat) : Nat := hubOfBed (cellBed c)

end Sys2Proof.Machine

namespace Sys2Proof

open Machine

/-- The stored word and its stored complement agree (R75, R76). -/
def Cell.bindOk (x : Cell) : Bool := x.bindC == ~~~x.bind

/-- The job a cell is bound or lent to. -/
def Cell.job (x : Cell) : Option (BitVec 20) :=
  if (x.state == .bound || x.state == .lent) && bwValid x.bind then some (bwJob x.bind) else none

end Sys2Proof

namespace Sys2Proof.Machine

/-- The BOUND cells of a job. -/
def State.boundCells (s : State) (job : BitVec 20) : List Nat :=
  (s.cells.filter (fun kv => kv.2.state == .bound && kv.2.job == some job)).map (·.1)

/-- Cells in a state. -/
def State.cellsIn (s : State) (k : CellState) : List Nat :=
  (s.cells.filter (fun kv => kv.2.state == k)).map (·.1)

end Sys2Proof.Machine

namespace Sys2Proof

open Machine

/-! ### Threads -/

def Cell.thread? (x : Cell) (t : Nat) : Option Thread := Tab.find? x.threads t

def Cell.setThread (x : Cell) (t : Nat) (y : Thread) : Cell := { x with threads := Tab.put x.threads t y }

def Cell.modThread (x : Cell) (t : Nat) (f : Thread → Thread) : Cell :=
  match x.thread? t with
  | some y => x.setThread t (f y)
  | none => x

end Sys2Proof

namespace Sys2Proof.Machine

def State.modThread (s : State) (c t : Nat) (f : Thread → Thread) : State :=
  s.modCell c (fun x => x.modThread t f)

end Sys2Proof.Machine

namespace Sys2Proof

open Machine

/-- A live thread: one that has neither ended nor been stopped. -/
def Thread.live (t : Thread) : Bool := t.run != .exited && t.run != .stopped

/-- A thread that may issue: it waits for nothing, or for what the instruction itself looks at again. -/
def Thread.canIssue (t : Thread) : Bool :=
  t.resident && (t.run == .ready || t.run == .furrow || t.run == .notify)

/-- Live threads and resident contexts (CELL.LOAD). -/
def Cell.liveCount (x : Cell) : Nat := (x.threads.filter (fun kv => kv.2.live)).length
def Cell.residentCount (x : Cell) : Nat := (x.threads.filter (fun kv => kv.2.resident)).length

end Sys2Proof

namespace Sys2Proof.Machine

/-- The threads of a KERNEL command on a cell as they start: 64 of each group, at the entry offset, the first 64 resident
(R63, R97). -/
def startThreads (groups entry : Nat) (since : Nat) : List (Nat × Thread) :=
  (List.range (64 * groups)).map (fun t =>
    (t, { pc := BitVec.ofNat 24 entry, resident := decide (t < 64), since := since }))

/-- A thread that is stopped: its furrows are unset and it gives up its context (R127, R135). -/
def stopThread (t : Thread) : Thread :=
  if t.live then { t with run := .stopped, resident := false, f0 := {}, f1 := {} } else t

end Sys2Proof.Machine

namespace Sys2Proof

open Machine

/-- What the end of a command does to a cell that runs it (R127, R135). -/
def Cell.endCommand (x : Cell) : Cell :=
  { x with
    threads := x.threads.map (fun kv => (kv.1, { stopThread kv.2 with f0 := {}, f1 := {}, resident := false }))
    accs := [], accOwner := [], accBank := [], cmd := none }

/-! ### Purges (R80) -/

/-- A cell begins to be purged: its threads are stopped. -/
def Cell.startPurge (x : Cell) : Cell := { x.endCommand with state := .purging }

/-- A purged cell. -/
def Cell.purged (x : Cell) (k : CellState) : Cell :=
  { x with state := k, bind := 0, bindC := 0, threads := [], scratch := [], accs := [], accOwner := [], accBank := [],
           cmd := none, part := (0, 0) }

end Sys2Proof

namespace Sys2Proof.Machine

/-- The translations of a cell leave its bed's cache (R80). -/
def State.dropCellTlb (s : State) (c : Nat) : State := { s with tlb := s.tlb.filter (fun e => e.cell != some c) }

/-- The translations of a job leave every cache (R340). -/
def State.dropJobTlb (s : State) (job : BitVec 20) : State := { s with tlb := s.tlb.filter (fun e => e.job != job) }

/-! ### Engine commands -/

def State.cmd? (s : State) (id : Nat) : Option Cmd := Tab.find? s.cmds id

def State.putCmd (s : State) (id : Nat) (c : Cmd) : State := { s with cmds := Tab.put s.cmds id c }

end Sys2Proof.Machine

namespace Sys2Proof

open Machine

/-- A field of a descriptor. -/
def Cmd.field (c : Cmd) (ofs len : Nat) : Nat := leNat ((c.desc.drop ofs).take len)

def Cmd.opcode (c : Cmd) : Nat := c.field 0 1
def Cmd.flag (c : Cmd) (b : Nat) : Bool := (c.field 1 1).testBit b
def Cmd.job (c : Cmd) : BitVec 20 := BitVec.ofNat 20 (c.field 4 4)

end Sys2Proof

namespace Sys2Proof.Machine

/-- Statuses of Table 06-4 that the end of a command gives. -/
def cstTranslation : Nat := 0x09
def cstNoCells : Nat := 0x0A
def cstJobReset : Nat := 0x0B
def cstKernelTrap : Nat := 0x0E
def cstJournal : Nat := 0x1D

end Sys2Proof.Machine

namespace Sys2Proof

open Machine

/-- A command that is to have a journal record (R185, R382). -/
def Cmd.marked (c : Cmd) : Bool := c.flag 0 || c.opcode == 0x50

end Sys2Proof

namespace Sys2Proof.Machine

/-- A command comes to its end: status and RESULT are fixed, its LENT cells are purged unless it ended OK (R79, R167), and
its record or its completion entry is due. -/
def State.finish1 (s : State) (id status : Nat) (result : Bytes) (moved : Nat) : State :=
  match s.cmd? id with
  | none => s
  | some c =>
    if c.phase == .record || c.phase == .posting then s
    else
      let next : CmdPhase := if c.marked && status != cstJournal then .record else .posting
      let c1 : Cmd := { c with phase := next, status := BitVec.ofNat 8 status, result := result }
      let s0 := if status == cstJournal then (s.inc pgJNL 0x068).raise pgJNL 1 else s
      let s1 := s0.putCmd id { c1 with moved := c.moved + moved, fault := none, beds := [] }
      let s2 : State := { s1 with xfers := Tab.del s1.xfers id }
      if status == 0 then s2
      else c.cells.foldl (fun s n =>
        let x := s.cell n
        if x.state == .lent && x.cmd == some id then s.setCell n x.startPurge else s) s2

/-- The collective instance that a registered rank belongs to. -/
def State.slotOfRank (s : State) (id : Nat) : Option (Nat × CollSlot) :=
  s.coll.find? (fun kv => kv.2.ranks.any (fun r => r.2 == id))

/-- A command comes to its end; a rank that fails ends its whole instance, whose slot is freed (R181). -/
def State.finish (s : State) (id status : Nat) (result : Bytes) (moved : Nat) : State :=
  let ranked := ((s.cmd? id).map (fun c => c.phase == .ranked)).getD false
  match s.slotOfRank id with
  | some (n, c) =>
    if status != 0 && ranked then
      let s1 : State := { s with coll := Tab.del s.coll n }
      c.ranks.foldl (fun s r => s.finish1 r.2 status result moved) s1
    else s.finish1 id status result moved
  | none => s.finish1 id status result moved

/-- RESULT of a failure at a TVA (Table 06-5). -/
def failResult (tva written : Nat) : Bytes := leBytes 8 tva ++ leBytes 8 written

/-- A KERNEL command ends: its threads on every cell, and the job is free for the next one (R127, R183). -/
def State.endKernel (s : State) (id : Nat) : State :=
  { s with
    cells := s.cells.map (fun kv => if kv.2.cmd == some id then (kv.1, kv.2.endCommand) else kv)
    jobs := s.jobs.map (fun kv => if kv.2.kernel == some id then (kv.1, { kv.2 with kernel := none }) else kv) }

/-! ### Traps (R133 to R136) -/

/-- A trap that a thread raises: cell, thread, cause, detail and the address of the access. -/
structure TrapOf where
  cell   : Nat
  thread : Nat
  cause  : Nat
  detail : Nat
  addr   : W64
  deriving DecidableEq, Repr

/-- The trap record (R134). -/
def trapRecord (x : TrapOf) (pc : BitVec 24) : BitVec 128 :=
  BitVec.ofNat 128 (x.cause + 2 ^ 8 * (x.detail % 65536) + 2 ^ 24 * pc.toNat + 2 ^ 48 * x.addr.toNat)

/-- The thread of a trap ends with its record written. -/
def State.recordTrap (s : State) (x : TrapOf) : State :=
  s.modThread x.cell x.thread (fun t =>
    { t with trap := trapRecord x t.pc, run := .stopped, resident := false, f0 := {}, f1 := {} })

/-- The status of a library trap (Table 06-6). -/
def libraryStatus (x : TrapOf) : Nat :=
  if x.cause == 0x09 then x.detail
  else if x.cause == 0x0A then stUncorr
  else if x.cause == 0x08 && (x.detail == 2 || x.detail == 3) then cstTranslation
  else if x.cause == 0x08 && x.detail == 1 then stInvalid
  else 0x11

/-- The lower in logical position, then group and thread (R135). -/
def trapBefore (s : State) (x y : TrapOf) : Bool :=
  let p (z : TrapOf) : Nat := bwPos (s.cell z.cell).bind
  p x < p y || (p x == p y && x.thread < y.thread)

/-- The KERNEL command of traps ends (R135). -/
def State.kernelTrap (s : State) (id : Nat) (ts : List TrapOf) : State :=
  match ts with
  | [] => s
  | t :: l =>
    let m := l.foldl (fun m x => if trapBefore s x m then x else m) t
    let tr := (((s.cell m.cell).thread? m.thread).map (·.trap)).getD 0
    let res := leBytes 16 tr.toNat ++ leBytes 2 (bwPos (s.cell m.cell).bind) ++ leBytes 1 (m.thread / 64) ++
      leBytes 1 (m.thread % 64) ++ leBytes 2 (satAdd ts.length 0 0xFFFF)
    (s.endKernel id).finish id cstKernelTrap res 0

/-- Threads trap at one moment: each has its record, then each command they belong to is stopped. -/
def State.trapAll (s : State) (ts : List TrapOf) : State :=
  let s1 := ts.foldl (fun s x => s.recordTrap x) s
  let ids := ts.foldl (fun l x => match (s.cell x.cell).cmd with
    | some id => insNat id l
    | none => l) ([] : List Nat)
  ids.foldl (fun s id =>
    let mine := ts.filter (fun x => (s.cell x.cell).cmd == some id)
    match mine with
    | [] => s
    | x :: _ =>
      if (s.cell x.cell).state == .lent then
        let r := if libraryStatus x == 0x11 then leBytes 2 x.cause ++ leBytes 2 x.detail else failResult x.addr.toNat 0
        s.finish id (libraryStatus x) r 0
      else s.kernelTrap id mine) s1

/-! ### Jobs (R78) -/

/-- A job ID held by no tenant is taken up. -/
def State.takeJob (s : State) (job : BitVec 20) (tenant : BitVec 12) : State :=
  if Tab.has s.jobs job.toNat then s else { s with jobs := Tab.put s.jobs job.toNat { tenant := tenant } }

/-- A job that holds nothing any more belongs to no tenant (R78). -/
def State.dropJob (s : State) (job : BitVec 20) : State :=
  let holds := s.cells.any (fun kv => (kv.2.state == .bound || kv.2.state == .lent) && bwJob kv.2.bind == job) ||
    s.kslots.any (fun kv => kv.2.job == job) || (s.slotOf job).isSome || s.cmds.any (fun kv => kv.2.job == job)
  if holds then s else { s with jobs := Tab.del s.jobs job.toNat }

end Sys2Proof.Machine
end

