-- ==== Sys2Proof/Machine/Own.lean ====
section
/-! DEFINITION. Requests of the device's own to other endpoints (R303, R305, R328, R330): the window of a destination, sending
in order, sending again on the alternate path, and what a request that fails leaves with what it was for. -/

namespace Sys2Proof.Machine

/-! ### The window of a destination (R305) -/

def State.win (s : State) (ep : BitVec 13) : Win :=
  Tab.get { w := s.fld pgXBAR 0x064 0 10, clean := 0, since := 0 } s.wins ep.toNat

/-- Requests that have been sent to a destination and not been answered. -/
def State.outstanding (s : State) (ep : BitVec 13) : Nat :=
  (s.own.filter (fun o => o.dest == ep && o.sent.isSome)).length

/-- The window has room. -/
def State.winOpen (s : State) (ep : BitVec 13) : Bool := s.outstanding ep < (s.win ep).w

/-- A response from an endpoint: the window is halved on a mark, at most once per HOLD µs, and rises by one for each 64
responses without one (R305). -/
def State.winResponse (s : State) (ep : BitVec 13) (marked : Bool) : State :=
  let k := s.win ep
  let wmax := s.fld pgXBAR 0x064 0 10
  let hold := s.fld pgXBAR 0x064 16 4 * 1000
  let k' : Win :=
    if marked then
      if k.since == 0 || s.time + 1 - k.since ≥ hold then
        { w := if k.w / 2 == 0 then 1 else k.w / 2, clean := 0, since := s.time + 1 }
      else { k with clean := 0 }
    else if k.clean ≥ 63 then { k with w := if k.w < wmax then k.w + 1 else wmax, clean := 0 }
    else { k with clean := k.clean + 1 }
  { s with wins := Tab.put s.wins ep.toNat k' }

/-! ### What a request is for -/

def State.xfer (s : State) (id : Nat) : Xfer := Tab.get {} s.xfers id

def State.setXfer (s : State) (id : Nat) (x : Xfer) : State := { s with xfers := Tab.put s.xfers id x }

/-- Note how a transfer command ends; the first reason stands. -/
def State.failXfer (s : State) (id status addr remote : Nat) : State :=
  let x := s.xfer id
  if x.failed.isSome then s else s.setXfer id { x with failed := some (status, addr, remote) }

def cstRemoteError : Nat := 0x1B
def cstUnknown : Nat := 0x1C

/-- A request fails with a status: the migration, or the command with REMOTE_ERROR (R182, R328, R343, R346). -/
def State.ownFail (s : State) (k : OwnKind) (addr : BitVec 64) (status : Nat) : State :=
  match k with
  | .migrate fid _ =>
    match Tab.find? s.faults fid with
    | some f =>
      { s with faults := Tab.put s.faults fid { f with mig := f.mig.map (fun m =>
          if m.failed.isSome then m else { m with failed := some status }) } }
    | none => s
  | .copyRead id _ => s.failXfer id cstRemoteError addr.toNat status
  | .copyWrite id _ => s.failXfer id cstRemoteError addr.toNat status
  | .returnPage id _ => s.failXfer id cstRemoteError addr.toNat status

/-- A write whose outcome is unknown (Table 12-4). -/
def State.ownUnknown (s : State) (k : OwnKind) : State :=
  let s1 := (s.inc pgHOME 0x094).raise pgHOME 3
  match k with
  | .migrate _ _ => s1
  | .copyRead id _ => s1.failXfer id cstUnknown 0 0
  | .copyWrite id _ => s1.failXfer id cstUnknown 0 0
  | .returnPage id _ => s1.failXfer id cstUnknown 0 0

/-! ### Sending -/

/-- Replace or remove a request in the list. -/
def State.setOwn (s : State) (o : OwnReq) : State :=
  { s with own := s.own.map (fun x => if x.tag == o.tag then o else x) }

def State.dropOwn (s : State) (o : OwnReq) : State := { s with own := s.own.filter (fun x => x.tag != o.tag) }

/-- The packet of a request. -/
def reqPacket (o : OwnReq) (p : Packet) : Packet :=
  { p with opcode := if o.write then 0x02 else 0x01, dstEp := o.dest, job := o.job, tag := o.tag, addr := o.addr,
           data := o.data, length := BitVec.ofNat 13 (if o.write then o.data.length else o.len) }

/-- A request that must be encrypted has no key (R376): the command ends KEY_FAIL, the migration fails with that status. -/
def State.ownKeyFail (s : State) (k : OwnKind) (addr : BitVec 64) : State :=
  match k with
  | .migrate _ _ => s.ownFail k addr stKeyFail
  | .copyRead id _ => s.failXfer id stKeyFail addr.toNat 0
  | .copyWrite id _ => s.failXfer id stKeyFail addr.toNat 0
  | .returnPage id _ => s.failXfer id stKeyFail addr.toNat 0

/-- Send a request on a path. -/
def State.launch (s : State) (o : OwnReq) (path : BitVec 48) (out : LinkNo) (alt again : Bool) : State :=
  match s.sendOwn path out o.enc (reqPacket o) with
  | (true, s1) => s1.setOwn { o with sent := some out, alt := alt, again := again, token := none }
  | (false, s1) => (s1.dropOwn o).ownKeyFail o.kind o.addr

/-- Send what the windows let go, in order; a destination with no valid path fails its request with 0x23 (R328). -/
def State.pumpOwn (s : State) : State :=
  s.own.foldl (fun s o =>
    if o.sent.isSome || !s.winOpen o.dest then s
    else match s.route o.dest with
      | some (path, out, alt) => s.launch o path out alt false
      | none => (s.dropOwn o).ownFail o.kind o.addr 0x23) s

/-- Add a request, which goes out when the window of its destination lets it. -/
def State.addOwn (s : State) (kind : OwnKind) (write : Bool) (dest : BitVec 13) (job : BitVec 20) (enc : Bool)
    (addr : BitVec 64) (len : Nat) (data : Bytes) : State :=
  let (tag, s1) := s.newTag
  { s1 with own := s1.own ++ [{ tag := tag, kind := kind, write := write, dest := dest, job := job, enc := enc, addr := addr,
                                len := len, data := data, sent := none, alt := false, again := false, token := none }] }

/-- Send a request once more on the alternate path, if it has not been and there is one. -/
def State.sendAgain (s : State) (o : OwnReq) : Option State :=
  if o.again || o.alt then none
  else (s.altRoute o.dest).map (fun (path, out) => (s.inc pgHOME 0x090).launch o path out true true)

/-- A command has a write under way that has not been answered. -/
def State.writeOut (s : State) (id : Nat) : Bool :=
  s.own.any (fun o => o.sent.isSome && (match o.kind with
    | .copyWrite n _ => n == id
    | _ => false))

/-- A read is lost for good: REMOTE_ERROR, or OUTCOME_UNKNOWN while a write of the same command is unconfirmed (Table 12-4). -/
def State.readLost (s : State) (o : OwnReq) : State :=
  match o.kind with
  | .copyRead id _ => if s.writeOut id then s.failXfer id cstUnknown 0 0 else s.ownFail o.kind o.addr 0x23
  | k => s.ownFail k o.addr 0x23

/-- A request whose response will not come: link lost or time run out. A read goes once more on the alternate path; a write is
not sent again (Table 12-4). -/
def State.ownLost (s : State) (o : OwnReq) : State :=
  if o.write then (s.dropOwn o).ownUnknown o.kind
  else match s.sendAgain o with
    | some s1 => s1
    | none => (s.dropOwn o).readLost o

end Sys2Proof.Machine
end

