-- ==== Sys2Proof/Machine/Xlt.lean ====
section
/-! DEFINITION. Translation (13_translation_and_faults.md): page tables, translation caches and fills, faults with their
records and queues, migrations of remote-backed pages, and shootdowns. -/

namespace Sys2Proof.Machine

/-! ### Accesses of the device itself (R188, R344) -/

/-- What an access of the device to a plot gives: the data, a failure status, or a wait for snoops that it has started. -/
inductive DevRes where
  | ok (d : Bytes)
  | fail (status : Nat)
  | wait
  deriving DecidableEq, Repr

/-- The blocks of a range of a TIERED plot made resident for the device or a bulk operation (R163); none when a drive that
holds one has failed (R250). -/
def State.resident? (s : State) (e : PlotEntry) (ofs len : Nat) (store : Bool) : Option State :=
  if e.tiered then s.bulkBlocks store (plotBlocks e ofs len) else some s

/-- Read plot bytes with device rights. -/
def State.devRead (s : State) (h : BitVec 16) (ofs len : Nat) : DevRes × State :=
  let (st, e, s1) := s.plotCheck 0 h .device .read rightR ofs len
  if st != stOK then (.fail st, s1)
  else match s1.insideReady h e ofs len false with
    | (false, s2) => (.wait, s2)
    | (true, s2) =>
      match s2.resident? e ofs len false with
      | none => (.fail stUncorr, s2)
      | some s3 =>
        match s3.readPlot h e ofs len false with
        | (.ok d, s4) => (.ok d, s4)
        | (.error st, s4) => (.fail st, s4)

/-- Write plot bytes with device rights. -/
def State.devWrite (s : State) (h : BitVec 16) (ofs : Nat) (d : Bytes) : DevRes × State :=
  let (st, e, s1) := s.plotCheck 0 h .device .write rightW ofs d.length
  if st != stOK then (.fail st, s1)
  else match s1.insideReady h e ofs d.length true with
    | (false, s2) => (.wait, s2)
    | (true, s2) =>
      match s2.resident? e ofs d.length true with
      | none => (.fail stUncorr, s2)
      | some s3 =>
        match s3.writePlot h e ofs d false with
        | (0, s4) => (.ok [], s4)
        | (st, s4) => (.fail st, s4)

/-! ### Page tables (R335 to R337) -/

/-- Bytes of a page (Table 13-2 SIZE). -/
def pageBytes (z : BitVec 2) : Nat :=
  match z.toNat with
  | 0 => 65536
  | 1 => 2097152
  | _ => 1073741824

def State.tree (s : State) (t : BitVec 12) : List Leaf := Tab.get [] s.leaves t.toNat

/-- The leaf whose page holds a TVA. -/
def findLeaf (l : List Leaf) (tva : Nat) : Option Leaf :=
  l.find? (fun x => x.tva.toNat ≤ tva && tva < x.tva.toNat + pageBytes x.size)

def State.leafAt (s : State) (t : BitVec 12) (tva : Nat) : Option Leaf := findLeaf (s.tree t) tva

/-- Change the leaves of a tenant. Its level-4 node stays once it is there (R476). -/
def State.setTree (s : State) (t : BitVec 12) (l : List Leaf) : State :=
  { s with leaves := Tab.put s.leaves t.toNat l }

def State.modLeaf (s : State) (t : BitVec 12) (tva : Nat) (f : Leaf → Leaf) : State :=
  s.setTree t ((s.tree t).map (fun x => if x.tva.toNat == tva then f x else x))

/-- How many different nodes of a level the leaves need. -/
def nodesAt (l : List Leaf) (shift : Nat) : Nat :=
  (l.foldl (fun a x => insNat (x.tva.toNat / 2 ^ shift) a) ([] : List Nat)).length

/-- Node space of a tree in units of 512 bytes: 16 for a node of levels 1 to 4, 1 for a node of level 0 (Table 13-1). -/
def treeUnits (l : List Leaf) : Nat :=
  let small := l.filter (fun x => x.size == 0)
  let mid := l.filter (fun x => x.size != 2)
  16 * (1 + nodesAt l 48 + nodesAt l 39 + nodesAt mid 30) + nodesAt small 21

/-- XLT.TABLE_FREE: of 22,528 MiB (R335). -/
def State.tableFree (s : State) : Nat := 0x2C00000 - s.leaves.foldl (fun n kv => n + treeUnits kv.2) 0

/-! ### Fills (R338, R339) -/

/-- Who asks for a translation: the cache that asks (none for the trellis), the cell, the job with its tenant, the identity
that order 4 may admit and the tag it leaves, the SOURCE of Table 13-3, and the copy instruction that it is for. -/
structure XlReq where
  cache  : Option Nat
  cell   : Option Nat
  job    : BitVec 20
  tenant : BitVec 12
  ident  : Option (BitVec 512)
  tag    : Admit
  source : Nat
  copy   : Option CopyRef
  deriving DecidableEq, Repr

/-- What a translation ends in: a place, a status of Table 02-3, TRANSLATION detail 3, an open fault, detail 2 (the fault is
served at once as unmappable), or a wait for a place in the fault table. -/
inductive Xl where
  | ok (h : BitVec 16) (ofs : Nat)
  | status (st : Nat)
  | rights
  | fault (fid : Nat)
  | unmapped
  | full
  deriving DecidableEq, Repr

/-- The kind of access that a right stands for to order 4 (R368). -/
def needOf (r : BitVec 4) : Need :=
  if r == rightW then .write else if r == rightA then .exclusive else .read

/-- The rights that an entry for a page keeps: those for which the plot check passes, intersected with RIGHTS. -/
def State.keptRights (s : State) (q : XlReq) (l : Leaf) (e : PlotEntry) (ofs len : Nat) : BitVec 4 :=
  [rightR, rightW, rightA, rightX].foldl (fun a r =>
    if s.checkEntry l.handle e (.inside q.job q.ident) (needOf r) r ofs len == stOK then a ||| (r &&& l.rights) else a) 0

/-- Capacity of a translation cache (R339). -/
def cacheCap (c : Nat) : Nat := if c < 24 then 4096 else 256

/-- Put an entry into its cache as the one used last; the one used least recently leaves a full cache. -/
def State.putTlb (s : State) (e : TlbEnt) : State :=
  let same (x : TlbEnt) : Bool := x.cache == e.cache && x.job == e.job && x.tva == e.tva && x.by_ == e.by_
  let l := s.tlb.filter (fun x => !same x)
  let mine := l.filter (fun x => x.cache == e.cache)
  let l' := if mine.length < cacheCap e.cache then l
    else match mine with
      | v :: _ => l.erase v
      | [] => l
  { s with tlb := l' ++ [e] }

end Sys2Proof.Machine

namespace Sys2Proof

open Machine

/-- Whether an entry serves an access of a job, by a kernel slot or routine, to an address with a right. -/
def TlbEnt.serves (x : TlbEnt) (q : XlReq) (tva : Nat) (need : BitVec 4) : Bool :=
  some x.cache == q.cache && x.job == q.job && x.tva.toNat ≤ tva && tva < x.tva.toNat + pageBytes x.size &&
    (x.by_ == .anyone || x.by_ == q.tag) && need &&& x.rights == need

end Sys2Proof

namespace Sys2Proof.Machine

/-- The withdrawn entry through which a copy instruction goes on until DRAIN_LIMIT (R347). -/
def State.withdrawn (s : State) (q : XlReq) (tva : Nat) (need : BitVec 4) : Option TlbEnt :=
  match q.copy with
  | none => none
  | some c => s.shoots.findSome? (fun kv =>
      if kv.2.point && !kv.2.limit && kv.2.users.contains c then kv.2.ents.find? (fun x => x.serves q tva need) else none)

/-! ### Faults (R342 to R345) -/

/-- The 64 KiB region of a TVA. -/
def regionTva (tva : Nat) : BitVec 57 := BitVec.ofNat 57 (tva / 65536 * 65536)

/-- The open fault of a region. -/
def State.faultOf (s : State) (t : BitVec 12) (r : BitVec 57) : Option (Nat × OpenFault) :=
  s.faults.find? (fun kv => kv.2.tenant == t && kv.2.region == r)

/-- A KLOAD that cannot read its image: the slot is freed and the command completes KERNEL_ACCESS (R81, R342). -/
def State.kloadFail (s : State) : State := ({ s with kload := none }).complete pgTRL 0x08

end Sys2Proof.Machine

namespace Sys2Proof

open Machine

/-- The TVA of a tile. -/
def Furrow.tileTva (f : Furrow) (k : Nat) : W64 :=
  BitVec.ofInt 64 ((f.base.toNat : Int) + (k : Int) * f.stride.toInt)

/-- A furrow whose tile fails: the rest of that copy instruction stops and the trap is kept for the next furrow instruction;
an earlier one stands (R118). -/
def Furrow.failCopy (f : Furrow) (id cause detail : Nat) (tva : W64) : Furrow :=
  { f with copies := f.copies.filter (fun x => x.id != id),
           trap := if f.trap.isSome then f.trap else some (cause, detail, tva) }

/-- Fail the copies whose tiles wait for a fault that is unmappable. -/
def Furrow.failFault (f : Furrow) (fid : Nat) : Furrow :=
  f.copies.foldl (fun g x => if x.wait == .fault fid then g.failCopy x.id 0x08 2 (f.tileTva x.tile) else g) f

end Sys2Proof

namespace Sys2Proof.Machine

/-- Every waiter of a fault starts its access again (R345). -/
def State.restartFault (s : State) (fid : Nat) : State :=
  let th (t : Thread) : Thread :=
    let t1 := { t with f0 := wakeTiles (.fault fid) t.f0, f1 := wakeTiles (.fault fid) t.f1 }
    match t1.run with
    | .fault n _ => if n == fid then { t1 with run := .ready, since := s.nextOrder } else t1
    | _ => t1
  { s with
    nextOrder := s.nextOrder + 1
    faults := Tab.del s.faults fid
    cells := s.cells.map (fun kv => (kv.1, { kv.2 with threads := kv.2.threads.map (fun x => (x.1, th x.2)) }))
    cmds := s.cmds.map (fun kv => if kv.2.fault == some fid then (kv.1, { kv.2 with fault := none }) else kv)
    kload := s.kload.map (fun k => if k.fault == some fid then { k with fault := none } else k) }

/-- A fault is closed as unmappable: every waiter receives TRANSLATION detail 2 (R345). -/
def State.closeUnmappable (s : State) (fid : Nat) : State :=
  let ts : List TrapOf := s.cells.flatMap (fun kv => kv.2.threads.filterMap (fun x =>
    match x.2.run with
    | .fault n tva => if n == fid then some { cell := kv.1, thread := x.1, cause := 0x08, detail := 2, addr := tva } else none
    | _ => none))
  let s1 : State := { s with
    faults := Tab.del s.faults fid
    cells := s.cells.map (fun kv => (kv.1, { kv.2 with threads := kv.2.threads.map (fun x =>
      (x.1, { x.2 with f0 := x.2.f0.failFault fid, f1 := x.2.f1.failFault fid })) })) }
  let s2 := s1.trapAll ts
  let s3 := s2.cmds.foldl (fun s kv =>
    if kv.2.fault == some fid then s.finish kv.1 cstTranslation (failResult kv.2.tva 0) 0 else s) s2
  match s3.kload with
  | some k => if k.fault == some fid then s3.kloadFail else s3
  | none => s3

/-- A fault that cannot be recorded is served at once as unmappable (R479). -/
def State.fqFull (s : State) (fid : Nat) : State := ((s.inc pgXLT 0x084).raise pgXLT 2).closeUnmappable fid

/-- Records of a fault queue (R344). -/
def fqSize (q : FaultQ) : Nat := 2 ^ (q.code.toNat + 4)

/-- The bytes of a fault record (Table 13-3). -/
def faultRecord (f : OpenFault) (fid kind detail : Nat) (phase : Bool) : Bytes :=
  leBytes 1 kind ++ leBytes 1 (ofBool phase) ++ leBytes 1 f.need.toNat ++ [0] ++ leBytes 4 fid ++ leBytes 8 f.region.toNat ++
    leBytes 4 f.job.toNat ++ leBytes 2 (satAdd f.waiters 0 0xFFFF) ++ leBytes 1 f.source ++ [0] ++ leBytes 8 detail

/-- Post the record that is due for a fault (R344, R479). It stays due while its ring or head record is snooped. -/
def State.postFault (s : State) (fid : Nat) : State :=
  match Tab.find? s.faults fid with
  | none => s
  | some f =>
    match f.due with
    | none => s
    | some (kind, detail) =>
      match Tab.find? s.faultQs f.tenant.toNat with
      | none => s.fqFull fid
      | some q =>
        let n := fqSize q
        match s.devRead q.plot (q.ofs + 32 * n) 64 with
        | (.wait, s1) => s1
        | (.fail _, s1) => s1.fqFull fid
        | (.ok d, s1) =>
          if (q.tail + 1) % n == leNat (d.take 4) % n then s1.fqFull fid
          else match s1.devWrite q.plot (q.ofs + 32 * q.tail) (faultRecord f fid kind detail q.phase) with
            | (.wait, s2) => s2
            | (.fail _, s2) => s2.fqFull fid
            | (.ok _, s2) =>
              let tail := (q.tail + 1) % n
              let s3 : State := { s2 with
                faultQs := Tab.put s2.faultQs f.tenant.toNat { q with tail := tail, phase := if tail == 0 then !q.phase else q.phase }
                faults := Tab.put s2.faults fid { f with posted := true, due := none } }
              match s3.sendWord q.chan.toNat (BitVec.ofNat 64 fid) (s3.ownStamp f.job) true with
              | (.taken, s4) => s4
              | (_, s4) => s4.reject

/-- Records that waited for a snoop are posted. -/
def State.postDue (s : State) : State :=
  s.faults.foldl (fun s kv => if kv.2.due.isSome then s.postFault kv.1 else s) s

/-- A record becomes due and is posted. -/
def State.record_ (s : State) (fid kind detail : Nat) : State :=
  match Tab.find? s.faults fid with
  | some f => ({ s with faults := Tab.put s.faults fid { f with due := some (kind, detail), mig := none } }).postFault fid
  | none => s

/-- Ask the owner for a page: 16 READs of 4,096 bytes with the first waiter's job (R343). -/
def State.startMigration (s : State) (fid : Nat) (l : Leaf) : State :=
  match Tab.find? s.faults fid with
  | none => s
  | some f =>
    let f1 : OpenFault := { f with joined := false, mig := some { since := s.time, got := [], failed := none } }
    let s1 : State := { s with faults := Tab.put s.faults fid f1 }
    let s2 := (List.range 16).foldl (fun s i =>
      s.addOwn (.migrate fid i) false l.owner f.job l.enc (BitVec.ofNat 64 (l.raddr.toNat * 65536 + 4096 * i)) 4096 []) s1
    s2.pumpOwn

/-- A page that a RETURN_PAGES is pushing back: past its shootdown point (R346). -/
def State.returning (s : State) (t : BitVec 12) (tva : Nat) : Bool :=
  s.xfers.any (fun kv => match kv.2.cur with
    | some p => p.toNat ≤ tva && tva < p.toNat + 65536 &&
        ((s.cmd? kv.1).map (·.tenant)) == some t &&
        !s.shoots.any (fun x => x.2.by_ == .returnPage kv.1 p && !x.2.point)
    | none => false)

/-- A fill ends without a leaf that can be used (R342, R343). -/
def State.openFault (s : State) (q : XlReq) (tva : Nat) (need : BitVec 4) : Xl × State :=
  let r := regionTva tva
  match s.faultOf q.tenant r with
  | some (fid, f) =>
    let s1 : State := { s with faults := Tab.put s.faults fid { f with waiters := f.waiters + 1 } }
    (.fault fid, if f.posted then s1.inc pgXLT 0x07C else s1)
  | none =>
    if s.faults.length ≥ 4096 then (.full, s.inc pgXLT 0x080)
    else
      let fid := s.nextFault % 2 ^ 32
      let f : OpenFault := { tenant := q.tenant, region := r, need := need, job := q.job, source := q.source, waiters := 1,
                             posted := false, mig := none, due := none, joined := false }
      let s1 := ({ s with nextFault := s.nextFault + 1, faults := Tab.put s.faults fid f }.inc pgXLT 0x078).raise pgXLT 1
      if s1.returning q.tenant tva then
        (.fault fid, { s1 with faults := Tab.put s1.faults fid { f with joined := true } })
      else
        let s2 := match s1.leafAt q.tenant tva with
          | some l => s1.startMigration fid l
          | none => s1.record_ fid 1 0
        (if Tab.has s2.faults fid then .fault fid else .unmapped, s2)

/-- A fill: the walk of one TVA for one job (R338). -/
def State.fill (s : State) (q : XlReq) (tva : Nat) (need : BitVec 4) : Xl × State :=
  let s0 := s.inc pgXLT 0x074
  match s0.leafAt q.tenant tva with
  | none => s0.openFault q tva need
  | some l =>
    let len := pageBytes l.size
    let ofs := l.offset.toNat * 65536
    let (st, e, s1) := s0.plotCheck (match q.cache with
      | some c => if c < 24 then hubOfBed c else c - 24
      | none => 0) l.handle (.inside q.job q.ident) (needOf need) need ofs len
    if st != stOK then (.status st, s1)
    else if need &&& l.rights != need then (.rights, s1)
    else if (l.remote && !l.resident) || s1.returning q.tenant tva then s1.openFault q tva need
    else
      let s2 := match q.cache with
        | some c =>
          s1.putTlb { cache := c, cell := q.cell, job := q.job, tva := l.tva, size := l.size,
                      rights := s1.keptRights q l e ofs len,
                      by_ := if (s1.sealList l.handle e).isSome then q.tag else .anyone, handle := l.handle, ofs := ofs }
        | none => s1
      (.ok l.handle (ofs + (tva - l.tva.toNat)), s2)

/-- Translate one TVA: from the cache, else by a fill. -/
def State.xlate (s : State) (q : XlReq) (tva : Nat) (need : BitVec 4) : Xl × State :=
  match s.withdrawn q tva need with
  | some x => (.ok x.handle (x.ofs + (tva - x.tva.toNat)), s)
  | none =>
    match s.tlb.find? (fun x => x.serves q tva need) with
    | some x => (.ok x.handle (x.ofs + (tva - x.tva.toNat)), s.putTlb { x with ahead := false })
    | none => s.fill q tva need

/-- Entries of a cache that prefetches hold (R341). -/
def State.aheadCount (s : State) (c : Nat) : Nat := (s.tlb.filter (fun x => x.cache == c && x.ahead)).length

/-- Ask for a translation ahead of its use: it raises no fault and starts no migration; one that would is dropped and counted
(R341). -/
def State.prefetch (s : State) (q : XlReq) (tva : Nat) : State :=
  match q.cache with
  | none => s
  | some c =>
    if s.tlb.any (fun x => x.serves q tva 0) then s
    else match s.leafAt q.tenant tva with
      | none => s.inc pgXLT 0x090
      | some l =>
        let ofs := l.offset.toNat * 65536
        let len := pageBytes l.size
        let e := (s.plot l.handle).cur
        let kept := s.keptRights q l e ofs len
        if kept == 0 || (l.remote && !l.resident) || s.returning q.tenant tva then s.inc pgXLT 0x090
        else if s.aheadCount c ≥ 1024 then s
        else
          (s.inc pgXLT 0x074).putTlb
            { cache := c, cell := q.cell, job := q.job, tva := l.tva, size := l.size, rights := kept,
              by_ := if (s.sealList l.handle e).isSome then q.tag else .anyone, handle := l.handle, ofs := ofs, ahead := true }

/-! ### Shootdowns (R347, R348) -/

/-- An entry that a shootdown withdraws. -/
def State.shot (s : State) (d : Shoot) (x : TlbEnt) : Bool :=
  match d.tenant with
  | some t => s.jobTenant x.job == some t && x.tva.toNat < d.hi && d.lo < x.tva.toNat + pageBytes x.size
  | none => d.plots.contains x.handle

/-- The copy instructions that have used an entry of the range and are not done: cells of the entries' jobs whose furrow has
a tile done that touches a withdrawn page, and one that is not. -/
def State.shootUsers (s : State) (ents : List TlbEnt) : List CopyRef :=
  let touches (job : BitVec 20) (f : Furrow) (x : TileCopy) : Bool :=
    let a := (f.tileTva x.tile).toNat
    ents.any (fun e => e.job == job && e.tva.toNat < a + f.tile.toNat && a < e.tva.toNat + pageBytes e.size)
  s.cells.flatMap (fun c => c.2.threads.flatMap (fun t =>
    [(0, t.2.f0), (1, t.2.f1)].flatMap (fun (n, f) =>
      let ids := f.copies.foldl (fun l x => insNat x.id l) ([] : List Nat)
      (ids.filter (fun i => f.copies.any (fun x => x.id == i && !x.done) &&
          f.copies.any (fun x => x.id == i && x.done && touches (bwJob c.2.bind) f x))).map
        (fun i => { cell := c.1, thread := t.1, furrow := n, id := i }))))

/-- Start a shootdown. -/
def State.startShoot (s : State) (d : Shoot) : State :=
  { s with shoots := Tab.put s.shoots s.nextShoot d, nextShoot := s.nextShoot + 1 }

/-- A migration in progress on the range holds the point back (R348). -/
def State.shootBlocked (s : State) (d : Shoot) : Bool :=
  s.faults.any (fun kv => kv.2.mig.isSome &&
    match d.tenant with
    | some t => kv.2.tenant == t && kv.2.region.toNat < d.hi && d.lo < kv.2.region.toNat + 65536
    | none =>
      match s.leafAt kv.2.tenant kv.2.region.toNat with
      | some l => d.plots.contains l.handle
      | none => false)

/-- A copy instruction is still outstanding. -/
def State.copyLive (s : State) (r : CopyRef) : Bool :=
  match (s.cell r.cell).thread? r.thread with
  | some t => (if r.furrow == 0 then t.f0 else t.f1).copies.any (fun x => x.id == r.id && !x.done)
  | none => false

/-- Stop a copy instruction with REVOKED at its first tile that is not done. -/
def State.abortCopy (s : State) (r : CopyRef) : State :=
  s.modThread r.cell r.thread (fun t =>
    let go (f : Furrow) : Furrow :=
      match f.copies.find? (fun x => x.id == r.id && !x.done) with
      | some x => f.failCopy r.id 0x09 stRevoked (f.tileTva x.tile)
      | none => f
    if r.furrow == 0 then { t with f0 := go t.f0 } else { t with f1 := go t.f1 })

end Sys2Proof.Machine
end

