-- ==== Sys2Proof/Machine/XltRows.lean ====
section
/-! DEFINITION. Meanings of the commands of 13_translation_and_faults.md: fills, migrations, faults, shootdowns and the XLT
commands, with the progress of a RETURN_PAGES (R346). -/

namespace Sys2Proof.Machine

/-! ### Who asks -/

/-- The identity of a routine of the pool-operation library (R170). -/
def routineIdent (op : Nat) : BitVec 512 := BitVec.ofNat 512 (leNat ((List.range 64).map (Config.routineId op)))

end Sys2Proof.Machine

namespace Sys2Proof

open Machine

/-- The kernel slot that a KERNEL command runs. -/
def Cmd.kslot (c : Cmd) : Nat := c.field 0x20 2

end Sys2Proof

namespace Sys2Proof.Machine

/-- The request of a thread of a cell: by its kernel slot, or by the routine that a LENT cell runs. None on a cell that holds no
binding or whose binding word is not what its complement says (R75). -/
def State.cellReq (s : State) (c : Nat) (copy : Option CopyRef) : Option XlReq :=
  let x := s.cell c
  match x.job with
  | none => none
  | some job =>
    if !x.bindOk then none
    else
      let cm := x.cmd.bind s.cmd?
      let (ident, tag) : Option (BitVec 512) × Admit := match cm with
        | some k =>
          if x.state == .lent then (some (routineIdent k.opcode), .routine k.opcode)
          else ((Tab.find? s.kslots k.kslot).map (·.hash), .kernel k.kslot)
        | none => (none, .anyone)
      some { cache := some (cellBed c), cell := some c, job := job, tenant := bwTenant x.bind, ident := ident, tag := tag,
             source := 0, copy := copy }

/-- Opcodes that cells carry out with a library routine (Table 06-2, R170). -/
def libraryOp (op : Nat) : Bool := op == 0x03 || op == 0x04 || op == 0x05 || op == 0x10 || op == 0x11

end Sys2Proof.Machine

namespace Sys2Proof

open Machine

/-- The request of an engine command: by the routine when cells carry it out, else by the engine itself. -/
def Cmd.xreq (c : Cmd) : XlReq :=
  let lib := libraryOp c.opcode && (c.opcode != 0x11 || c.appended)
  match lib, c.cells with
  | true, n :: _ =>
    { cache := some (cellBed n), cell := some n, job := c.job, tenant := c.tenant, ident := some (routineIdent c.opcode),
      tag := .routine c.opcode, source := 0, copy := none }
  | _, _ =>
    { cache := some 24, cell := none, job := c.job, tenant := c.tenant, ident := none, tag := .anyone, source := 1,
      copy := none }

end Sys2Proof

namespace Sys2Proof.Machine

/-- The request of a KLOAD (R81). -/
def State.kloadReq (s : State) (k : KLoadRun) : XlReq :=
  { cache := none, cell := none, job := k.job, tenant := (s.jobTenant k.job).getD 0, ident := none, tag := .anyone,
    source := 2, copy := none }

/-- TRANSLATION_FILL: the walk of one TVA for one job, for a thread, a command or a KLOAD, which then waits for the fault if
there is one (R338, R342). The status that a walk ends in reaches the access when it is made. -/
def execTranslationFill (src : FillSource) (job : BitVec 20) (tva : BitVec 57) (need : BitVec 4) (s : State) :
    Host.Outcome State Fault Refusal :=
  match src with
  | .cell c t =>
    match s.cellReq c.toNat none, (s.cell c.toNat).thread? t.toNat with
    | some q, some th =>
      if q.job != job || !th.canIssue then .next s
      else match s.fill q tva.toNat need with
        | (.fault fid, s1) =>
          .next (s1.modThread c.toNat t.toNat (fun x => { x with run := .fault fid (tva.setWidth 64) }))
        | (_, s1) => .next s1
    | _, _ => .next s
  | .engine id =>
    match s.cmd? id with
    | some c =>
      if c.job != job || c.phase != .running || c.fault.isSome then .next s
      else match s.fill c.xreq tva.toNat need with
        | (.fault fid, s1) => .next (s1.putCmd id { c with fault := some fid, tva := tva.toNat })
        | (_, s1) => .next s1
    | none => .next s
  | .trellis =>
    match s.kload with
    | some k =>
      if k.job != job || k.fault.isSome then .next s
      else match s.fill (s.kloadReq k) tva.toNat need with
        | (.fault fid, s1) => .next { s1 with kload := some { k with fault := some fid } }
        | (_, s1) => .next s1
    | none => .next s

/-! ### Migrations and fault limits -/

/-- A migration fails: the fault becomes a MIGRATE_FAIL fault and its record is posted (R343). -/
def State.migrateFail (s : State) (fid status : Nat) : State :=
  match Tab.find? s.faults fid with
  | none => s
  | some f =>
    let owner := ((s.leafAt f.tenant f.region.toNat).map (fun l => l.owner.toNat)).getD 0
    let mine (o : OwnReq) : Bool := match o.kind with
      | .migrate n _ => n == fid
      | _ => false
    let s1 := ({ s with own := s.own.filter (fun o => !mine o) }.inc pgXLT 0x08C).raise pgXLT 3
    s1.record_ fid 2 (status + 65536 * owner)

/-- MIGRATION_COMPLETE: every part of a page has been written to its place, or one has failed (R343). -/
def execMigrationComplete (fid : BitVec 32) (s : State) : Host.Outcome State Fault Refusal :=
  match Tab.find? s.faults fid.toNat with
  | none => .next s
  | some f =>
    match f.mig with
    | none => .next s
    | some m =>
      match m.failed with
      | some st => .next (s.migrateFail fid.toNat st).pumpOwn
      | none =>
        if m.got.length < 16 then .next s
        else
          let s1 := (s.modLeaf f.tenant f.region.toNat (fun l => { l with resident := true })).inc pgXLT 0x088
          .next (s1.restartFault fid.toNat)

/-- MIGRATION_TIMEOUT: a migration has not been done within 100 µs (R343). -/
def execMigrationTimeout (fid : BitVec 32) (s : State) : Host.Outcome State Fault Refusal :=
  match Tab.find? s.faults fid.toNat with
  | some f => .next (if f.mig.isSome then (s.migrateFail fid.toNat 0).pumpOwn else s)
  | none => .next s

/-- FAULT_TIMEOUT: no resolution within FAULT_TMO of the record's posting (R345). -/
def execFaultTimeout (fid : BitVec 32) (s : State) : Host.Outcome State Fault Refusal :=
  match Tab.find? s.faults fid.toNat with
  | some f => .next (if f.posted then s.closeUnmappable fid.toNat else s)
  | none => .next s

/-! ### RETURN_PAGES (R346) -/

/-- Faults that joined the return of a page start a migration when the page is no longer RESIDENT, else their waiters go on. -/
def State.endJoined (s : State) (t : BitVec 12) (page : BitVec 57) : State :=
  match s.faultOf t page with
  | some (fid, f) =>
    if !f.joined then s
    else match s.leafAt t page.toNat with
      | some l => if l.remote && !l.resident then s.startMigration fid l else s.restartFault fid
      | none => s.restartFault fid
  | none => s

/-- A RETURN_PAGES ends with what it noted. -/
def State.endReturn (s : State) (id status : Nat) (result : Bytes) : State :=
  let x := s.xfer id
  let mine (o : OwnReq) : Bool := match o.kind with
    | .returnPage n _ => n == id
    | _ => false
  let s1 : State := { s with xfers := Tab.del s.xfers id, own := s.own.filter (fun o => !mine o) }
  let s2 := match x.cur, s.cmd? id with
    | some p, some c => s1.endJoined c.tenant p
    | _, _ => s1
  s2.finish id status result (131072 * x.count)

/-- What a RETURN_PAGES does next: it ends, shoots down its next page, or writes the page's 64 KiB to the owner. -/
def State.returnStep (s : State) (id : Nat) : State :=
  match s.cmd? id with
  | none => s
  | some c =>
    let x := s.xfer id
    match x.failed with
    | some (st, addr, _) => s.endReturn id st (if st == stKeyFail then failResult addr 0 else [])
    | none =>
      match x.cur with
      | none =>
        match x.pages with
        | [] => s.endReturn id stOK (leBytes 8 x.count)
        | p :: rest =>
          let s1 := s.setXfer id { x with cur := some p, pages := rest, got := [] }
          s1.startShoot { by_ := .returnPage id p, tenant := some c.tenant, lo := p.toNat, hi := p.toNat + 65536, plots := [] }
      | some p =>
        let begun := s.own.any (fun o => match o.kind with
          | .returnPage n _ => n == id
          | _ => false)
        if begun || !x.got.isEmpty || s.shoots.any (fun d => d.2.by_ == .returnPage id p) then s
        else match s.leafAt c.tenant p.toNat with
          | none => s.endReturn id cstTranslation (failResult p.toNat 0)
          | some l =>
            match s.devRead l.handle (l.offset.toNat * 65536) 65536 with
            | (.wait, s1) => s1
            | (.fail st, s1) => s1.endReturn id st (failResult p.toNat 0)
            | (.ok d, s1) =>
              let s2 := (List.range 16).foldl (fun s i =>
                s.addOwn (.returnPage id i) true l.owner c.job l.enc (BitVec.ofNat 64 (l.raddr.toNat * 65536 + 4096 * i)) 4096
                  ((d.drop (4096 * i)).take 4096)) s1
              s2.pumpOwn

/-- RETURN_PAGE_CONFIRMED: every WRITE of the page is confirmed; it is no longer RESIDENT, and the next page follows. -/
def execReturnPageConfirmed (id : Nat) (s : State) : Host.Outcome State Fault Refusal :=
  match s.cmd? id with
  | none => .next s
  | some c =>
    let x := s.xfer id
    match x.cur with
    | none => .next s
    | some p =>
      if x.got.length < 16 then .next (s.returnStep id)
      else
        let s1 := (s.modLeaf c.tenant p.toNat (fun l => { l with resident := false })).setXfer id
          { x with cur := none, got := [], count := x.count + 1 }
        .next ((s1.endJoined c.tenant p).returnStep id)

/-! ### Shootdowns -/

/-- SHOOTDOWN_POINT: the withdrawal is recorded in the tree, and the entries leave every cache (R347, R348, R350). -/
def execShootdownPoint (sd : Nat) (s : State) : Host.Outcome State Fault Refusal :=
  match Tab.find? s.shoots sd with
  | none => .next s
  | some d =>
    if d.point || s.shootBlocked d then .next s
    else
      let ents := s.tlb.filter (s.shot d)
      let users := match d.by_ with
        | .publish _ _ => []
        | _ => s.shootUsers ents
      let inR (l : Leaf) : Bool := d.lo ≤ l.tva.toNat && l.tva.toNat < d.hi
      let s1 := match d.by_, d.tenant with
        | .unmap, some t => s.setTree t ((s.tree t).filter (fun l => !inR l))
        | .setRemote, some t =>
          match d.remote with
          | some (o, r) => s.setTree t ((s.tree t).map (fun l =>
              if inR l then { l with remote := true, resident := false, owner := o,
                                     raddr := BitVec.ofNat 48 (r.toNat + (l.tva.toNat - d.lo) / 65536) } else l))
          | none => s
        | _, _ => s
      .next { s1 with
        tlb := s1.tlb.filter (fun x => !s.shot d x)
        shoots := Tab.put s1.shoots sd { d with point := true, ents := ents, users := users } }

/-- DRAIN_LIMIT: the transfers that still use a withdrawn entry are aborted with REVOKED (R347). -/
def execDrainLimit (sd : Nat) (s : State) : Host.Outcome State Fault Refusal :=
  match Tab.find? s.shoots sd with
  | none => .next s
  | some d =>
    if !d.point || d.limit then .next s
    else
      let live := d.users.filter s.copyLive
      let s1 := (live.foldl (fun s r => s.abortCopy r) s).count pgXLT 0x098 0 32 live.length
      .next { s1 with shoots := Tab.put s1.shoots sd { d with limit := true, aborted := d.aborted + live.length } }

/-- SHOOTDOWN_COMPLETE: every cache has acknowledged (R348). -/
def execShootdownComplete (sd : Nat) (s : State) : Host.Outcome State Fault Refusal :=
  match Tab.find? s.shoots sd with
  | none => .next s
  | some d =>
    if !d.point || (!d.limit && d.users.any s.copyLive) then .next s
    else
      let s1 := { s with shoots := Tab.del s.shoots sd }.inc pgXLT 0x094
      match d.by_ with
      | .unmap => .next ((s1.setFld pgXLT 0x05C 16 1 (if d.aborted > 0 then 1 else 0)).complete pgXLT 0)
      | .setRemote => .next (s1.complete pgXLT 0)
      | .returnPage id _ => .next (s1.returnStep id)
      | .revoke h =>
        let p := s1.plot h
        .next (s1.setPlot h { p with rev := p.rev.map (fun r => { r with xfer := r.xfer || decide (0 < d.aborted) }) })
      | .publish _ _ => .next s1

/-! ### XLT commands (R349, R350) -/

/-- Argument n of an XLT command. -/
def State.xa (s : State) (n : Nat) : Nat := s.arg pgXLT n

/-- The TVA of an XLT command. -/
def State.xltTva (s : State) : Nat := s.xa 1 * 65536 + fieldOf (s.xa 2) 0 9 * 2 ^ 48

/-- Reserved bits of a command: those of its arguments outside the masks, and those of the CMD word (R7). -/
def State.argsBad (s : State) (pg : Nat) (rsv : Nat) (masks : List Nat) : Bool :=
  rsv != 0 || (List.range masks.length).any (fun i => (s.arg pg i &&& (masks[i]?).getD 0) != s.arg pg i)

/-- A tenant that has been created. -/
def State.tenantKnown (s : State) (t : Nat) : Bool := Tab.has s.tenants t

/-- MAP (R337, R350). -/
def State.xltMap (s : State) (rsv : Nat) : State :=
  let t := BitVec.ofNat 12 (fieldOf (s.xa 0) 0 12)
  let h := BitVec.ofNat 16 (fieldOf (s.xa 2) 16 16)
  let ofs := fieldOf (s.xa 3) 0 28
  let n := fieldOf (s.xa 4) 0 24
  let e := (s.plot h).cur
  let sz := pageBytes e.pgsz
  let tva := s.xltTva
  let all := s.tree t
  if s.argsBad pgXLT rsv [0x2F0FFF, 0xFFFFFFFF, 0xFFFF01FF, 0x0FFFFFFF, 0x00FFFFFF, 0] || n == 0 then s.complete pgXLT 0x01
  else if !s.tenantKnown t.toNat then s.complete pgXLT 0x02
  else if e.state == .unused || e.state == .released then s.complete pgXLT 0x03
  else if tva % sz != 0 || ofs * 65536 % sz != 0 || tva + n * sz > 2 ^ 57 then s.complete pgXLT 0x01
  else if ofs * 65536 + n * sz > plotBytes e then s.complete pgXLT 0x04
  else if all.any (fun l => l.tva.toNat < tva + n * sz && tva < l.tva.toNat + pageBytes l.size) then s.complete pgXLT 0x05
  else
    let new := (List.range n).map (fun i =>
      ({ tva := BitVec.ofNat 57 (tva + i * sz), size := e.pgsz, rights := BitVec.ofNat 4 (fieldOf (s.xa 0) 16 4),
         enc := (s.xa 0).testBit 21, handle := h, offset := BitVec.ofNat 28 (ofs + i * (sz / 65536)) } : Leaf))
    let l := all.filter (fun x => x.tva.toNat < tva) ++ new ++ all.filter (fun x => tva ≤ x.tva.toNat)
    let old := if Tab.has s.leaves t.toNat then treeUnits all else 0
    if treeUnits l > s.tableFree + old then s.complete pgXLT 0x07
    else (s.setTree t l).complete pgXLT 0

/-- MAP. -/
def execMap (p : Path) (rsv : BitVec 28) (s : State) : Host.Outcome State Fault Refusal :=
  .next (s.command p pgXLT (fun s => s.xltMap rsv.toNat))

/-- The pages of a range command, by the tree (R476): the end of the range, or the status. -/
def pageRange (l : List Leaf) (small : Bool) : Nat → Nat → Except Nat Nat
  | 0, a => .ok a
  | n + 1, a =>
    match findLeaf l a with
    | none => .error 0x06
    | some x => if x.tva.toNat != a || (small && x.size != 0) then .error 0x01 else pageRange l small n (a + pageBytes x.size)

/-- UNMAP (R350, R476): it completes when its shootdown does. -/
def State.xltUnmap (s : State) (rsv : Nat) : State :=
  let t := BitVec.ofNat 12 (fieldOf (s.xa 0) 0 12)
  let n := fieldOf (s.xa 4) 0 24
  if s.argsBad pgXLT rsv [0xFFF, 0xFFFFFFFF, 0x1FF, 0, 0xFFFFFF, 0] || n == 0 then s.complete pgXLT 0x01
  else if !s.tenantKnown t.toNat then s.complete pgXLT 0x02
  else match pageRange (s.tree t) false n s.xltTva with
    | .error st => s.complete pgXLT st
    | .ok hi => s.startShoot { by_ := .unmap, tenant := some t, lo := s.xltTva, hi := hi, plots := [] }

/-- UNMAP. -/
def execUnmap (p : Path) (rsv : BitVec 28) (s : State) : Host.Outcome State Fault Refusal :=
  .next (s.command p pgXLT (fun s => s.xltUnmap rsv.toNat))

/-- SET_REMOTE (R350, R476). -/
def State.xltRemote (s : State) (rsv : Nat) : State :=
  let t := BitVec.ofNat 12 (fieldOf (s.xa 0) 0 12)
  let n := fieldOf (s.xa 3) 16 16
  let owner := BitVec.ofNat 13 (fieldOf (s.xa 3) 0 13)
  let raddr := BitVec.ofNat 48 (s.xa 4 + fieldOf (s.xa 5) 0 16 * 2 ^ 32)
  if s.argsBad pgXLT rsv [0xFFF, 0xFFFFFFFF, 0x1FF, 0xFFFF1FFF, 0xFFFFFFFF, 0xFFFF] || n == 0 then s.complete pgXLT 0x01
  else if !s.tenantKnown t.toNat then s.complete pgXLT 0x02
  else match pageRange (s.tree t) true n s.xltTva with
    | .error st => s.complete pgXLT st
    | .ok hi => s.startShoot
        { by_ := .setRemote, tenant := some t, lo := s.xltTva, hi := hi, plots := [], remote := some (owner, raddr) }

/-- SET_REMOTE. -/
def execSetRemote (p : Path) (rsv : BitVec 28) (s : State) : Host.Outcome State Fault Refusal :=
  .next (s.command p pgXLT (fun s => s.xltRemote rsv.toNat))

/-- RESOLVE (R345). -/
def State.xltResolve (s : State) (rsv : Nat) : State :=
  let fid := s.xa 0
  if s.argsBad pgXLT rsv [0xFFFFFFFF, 1, 0, 0, 0, 0] then s.complete pgXLT 0x01
  else match Tab.find? s.faults fid with
    | none => s.complete pgXLT 0x08
    | some f =>
      if f.mig.isSome || f.joined then s.complete pgXLT 0x08
      else if (s.xa 1).testBit 0 then (s.closeUnmappable fid).complete pgXLT 0
      else (s.restartFault fid).complete pgXLT 0

/-- RESOLVE. -/
def execResolve (p : Path) (rsv : BitVec 28) (s : State) : Host.Outcome State Fault Refusal :=
  .next (s.command p pgXLT (fun s => s.xltResolve rsv.toNat))

/-- FQ_SET (R344, R477, R479). While lines of the ring are snooped it waits at its page. -/
def State.xltFqSet (s : State) (rsv : Nat) : State :=
  let t := BitVec.ofNat 12 (fieldOf (s.xa 0) 0 12)
  let code := fieldOf (s.xa 0) 16 4
  let ch := fieldOf (s.xa 0) 20 12
  let h := BitVec.ofNat 16 (fieldOf (s.xa 1) 0 16)
  let ofs := s.xa 2 * 4096
  let e := (s.plot h).cur
  let n := 2 ^ (code + 4)
  let c := s.chan ch
  if s.argsBad pgXLT rsv [0xFFFF0FFF, 0xFFFF, 0xFFFFFFFF, 0, 0, 0] || code > 12 then s.complete pgXLT 0x01
  else if !s.tenantKnown t.toNat then s.complete pgXLT 0x02
  else if e.state == .unused || e.state == .released then s.complete pgXLT 0x03
  else if !c.granted || c.tenant != t || e.tiered || e.owner != t || e.state != .active then s.complete pgXLT 0x01
  else if ofs + 32 * n + 64 > plotBytes e then s.complete pgXLT 0x04
  else match s.devWrite h ofs (List.replicate (32 * n + 64) 0) with
    | (.wait, s1) => { s1 with wait := Tab.put s1.wait pgXLT { op := 5, auto := false, h := 0 } }
    | (_, s1) =>
      let q : FaultQ := { plot := h, ofs := ofs, code := BitVec.ofNat 4 code, chan := BitVec.ofNat 12 ch, phase := true }
      { s1 with faultQs := Tab.put s1.faultQs t.toNat q, wait := Tab.del s1.wait pgXLT }.complete pgXLT 0

/-- FQ_SET. -/
def execFqSet (p : Path) (rsv : BitVec 28) (s : State) : Host.Outcome State Fault Refusal :=
  .next (s.command p pgXLT (fun s => s.xltFqSet rsv.toNat))

/-- The two words of a leaf entry (Table 13-2). -/
def leafWord0 (l : Leaf) : Nat :=
  3 + 4 * l.size.toNat + 16 * l.rights.toNat + 256 * ofBool l.remote + 512 * ofBool l.resident + 1024 * ofBool l.enc +
    2 ^ 16 * l.handle.toNat + 2 ^ 32 * l.offset.toNat
def leafWord1 (l : Leaf) : Nat := if l.remote then l.owner.toNat + 2 ^ 16 * l.raddr.toNat else 0

/-- QUERY (R336). -/
def State.xltQuery (s : State) (rsv : Nat) : State :=
  let t := BitVec.ofNat 12 (fieldOf (s.xa 0) 0 12)
  if s.argsBad pgXLT rsv [0xFFF, 0xFFFFFFFF, 0x1FF] then s.complete pgXLT 0x01
  else if !s.tenantKnown t.toNat then s.complete pgXLT 0x02
  else match s.leafAt t s.xltTva with
    | none => s.complete pgXLT 0x06
    | some l =>
      ((((s.setArg pgXLT 1 (leafWord1 l / 2 ^ 32)).setArg pgXLT 3 (leafWord0 l)).setArg pgXLT 4 (leafWord0 l / 2 ^ 32)).setArg
        pgXLT 5 (leafWord1 l)).complete pgXLT 0

/-- XLT QUERY. -/
def execXltQuery (p : Path) (rsv : BitVec 28) (s : State) : Host.Outcome State Fault Refusal :=
  .next (s.command p pgXLT (fun s => s.xltQuery rsv.toNat))

end Sys2Proof.Machine
end

