-- ==== Sys2Proof/Machine/Operands.lean ====
section
/-! DEFINITION. What every instruction of a cell shares (04_jexkai_isa.md): registers of a thread, the operand fields of each
format (Table 04-3), elements, masks and block scales (R102 to R104), and the issue of an instruction with its checks, traps
and waits (R58, R99, R100, R132 to R135). -/

namespace Sys2Proof

open Machine

/-! ### Registers of a thread (R95, R96) -/

/-- A scalar register; S0 reads as zero. -/
def Thread.getS (t : Thread) (n : Nat) : W64 := if n == 0 then 0 else Tab.get 0 t.s n

/-- Write a scalar register; a write to S0 is discarded. -/
def Thread.setS (t : Thread) (n : Nat) (v : W64) : Thread := if n == 0 then t else { t with s := Tab.set 0 t.s n v }

def Thread.getV (t : Thread) (n : Nat) : BitVec 2048 := Tab.get 0 t.v n
def Thread.setV (t : Thread) (n : Nat) (v : BitVec 2048) : Thread := { t with v := Tab.set 0 t.v n v }

def Thread.getM (t : Thread) (n : Nat) : BitVec 256 := Tab.get 0 t.m n
def Thread.setM (t : Thread) (n : Nat) (v : BitVec 256) : Thread := { t with m := Tab.set 0 t.m n v }

/-- Set sticky flags (R160). -/
def Thread.addFlags (t : Thread) (f : Fl) : Thread := { t with flags := t.flags ||| f }

/-- A register pair as 128 bits: Sn is the low half (R96). -/
def Thread.getPair (t : Thread) (n : Nat) : Nat := (t.getS n).toNat + 2 ^ 64 * (t.getS (n + 1)).toNat
def Thread.setPair (t : Thread) (n v : Nat) : Thread :=
  (t.setS n (BitVec.ofNat 64 v)).setS (n + 1) (BitVec.ofNat 64 (v / 2 ^ 64))

end Sys2Proof

namespace Sys2Proof.Machine

/-! ### Issue -/

/-- The instruction at hand: cell, thread, what they hold, and operand fields [47:0]. -/
structure Ctx where
  c  : Nat
  t  : Nat
  x  : Cell
  th : Thread
  f  : Nat
  deriving DecidableEq, Repr

/-- A field of the instruction word. -/
def fldOf (k : Ctx) (lo len : Nat) : Nat := fieldOf k.f lo len

/-- Bits outside a mask are zero (R99: fields not used and reserved fields). -/
def onlyBits (k : Ctx) (mask : Nat) : Bool := k.f &&& mask == k.f

/-- The mask of a field. -/
def fm (lo len : Nat) : Nat := (2 ^ len - 1) * 2 ^ lo

/-- What an instruction comes to: it is done with the thread's registers as given and goes on at PC + 8; it branches to an
offset; it stays where it is, with what it waits for; or it traps. -/
inductive Res where
  | done (s : State)
  | jump (s : State) (target : Nat)
  | wait (s : State)
  | trap (s : State) (cause detail : Nat) (addr : W64)
  deriving DecidableEq, Repr

/-- The length of the image that a thread's kernel slot holds (R100); none for library code. -/
def State.imageLen (s : State) (x : Cell) : Option Nat :=
  if x.state == .lent then none
  else match x.cmd.bind s.cmd? with
    | some k => some (((Tab.find? s.kslots k.kslot).map (fun z => z.image.length)).getD 0)
    | none => some 0

/-- An offset from which nothing can be fetched. -/
def pastImage (len : Option Nat) (pc : Nat) : Bool :=
  match len with
  | some n => decide (n ≤ pc)
  | none => false

/-- A thread goes on at an offset. -/
def State.goOn (s : State) (c t : Nat) (pc : Nat) : State :=
  s.modThread c t (fun y => { y with pc := BitVec.ofNat 24 pc, run := .ready })

/-- A cell that may issue: bound or lent, its binding word agreeing with its complement (R76), the device running and not
dormant. -/
def State.cellRuns (s : State) (x : Cell) : Bool :=
  s.phase == .running && !s.dormant && x.job.isSome && x.bindOk

/-- One instruction of a thread: fetch, decode, the replay check when `nd` gives the major and minor of a non-deterministic
one, and its operation. A thread that cannot issue is left as it is (R58, R63). -/
def State.issue (s : State) (c : BitVec 9) (t : BitVec 10) (f : BitVec 48) (nd : Option Nat) (bad : Ctx → Bool)
    (op : Ctx → State → Res) : State :=
  let x := s.cell c.toNat
  match x.thread? t.toNat with
  | none => s
  | some th =>
    if !s.cellRuns x || !th.canIssue then s
    else
      let k : Ctx := { c := c.toNat, t := t.toNat, x := x, th := th, f := f.toNat }
      let len := s.imageLen x
      let trap (s : State) (cause detail : Nat) (addr : W64) : State :=
        s.trapAll [{ cell := k.c, thread := k.t, cause := cause, detail := detail, addr := addr }]
      if pastImage len th.pc.toNat then trap s 0x01 0 0
      else if bad k then trap s 0x02 0 0
      else if nd.isSome && bwReplay x.bind then trap (s.count pgTRL 0x070 0 16 1) 0x03 (nd.getD 0) 0
      else match op k s with
        | .done s1 => s1.goOn k.c k.t (th.pc.toNat + 8)
        | .jump s1 target => if target % 8 != 0 || pastImage len target then trap s 0x01 0 0 else s1.goOn k.c k.t target
        | .wait s1 => s1
        | .trap s1 cause detail addr => trap s1 cause detail addr

/-- An instruction that only changes its thread. -/
def onThread (g : Ctx → Thread) (k : Ctx) (s : State) : Res := .done (s.modThread k.c k.t (fun _ => g k))

/-! ### Elements (R102) -/

/-- Element i of a register. -/
def elemAt (code : Nat) (v : BitVec 2048) (i : Nat) : Nat := fieldOf v.toNat (fmtStride code * i) (fmtBits code)

def elems (code : Nat) (v : BitVec 2048) : List Nat := (List.range (fmtCount code)).map (elemAt code v)

/-- A value from parts of `w` bits, lowest first. -/
def joinBits (w : Nat) : List Nat → Nat
  | [] => 0
  | a :: l => a + 2 ^ w * joinBits w l

/-- A register from its elements. -/
def fromElems (code : Nat) (l : List Nat) : BitVec 2048 := BitVec.ofNat 2048 (joinBits (fmtStride code) l)

/-- Elements per mask bit: two for 4-bit formats (R103). -/
def perBit (code : Nat) : Nat := if fmtBits code == 4 then 2 else 1

/-- Whether element i is active under ME and a mask. -/
def activeAt (me : Bool) (m : BitVec 256) (code i : Nat) : Bool := !me || m.getLsbD (i / perBit code)

/-- The scale of a block held in a register or pair (R104). -/
def scaleOf (t : Thread) (n blk : Nat) : Nat := fieldOf (t.getPair n) (8 * blk) 8

/-- A register that holds block scales of a format: for MXFP4 an even one (R104). -/
def scaleRegOk (code n : Nat) : Bool := if isMxFmt code then (code != 9 || n % 2 == 0) else n == 0

/-- The values of the elements of a register, with its scale register. -/
def valsOf (t : Thread) (code : Nat) (v : BitVec 2048) (sx : Nat) : List Val :=
  (elems code v).zipIdx.map (fun (c, i) => decodeElem code (if isMxFmt code then scaleOf t sx (i / 32) else 0) c)

/-! ### Fields of the formats (Table 04-3) -/

/-- SS: destination, sources, rounding mode. -/
def ssD (k : Ctx) : Nat := fldOf k 43 5
def ssA (k : Ctx) : Nat := fldOf k 38 5
def ssB (k : Ctx) : Nat := fldOf k 33 5
def ssC (k : Ctx) : Nat := fldOf k 28 5
def ssRm (k : Ctx) : Nat := fldOf k 26 2

def mD : Nat := fm 43 5
def mA : Nat := fm 38 5
def mB : Nat := fm 33 5
def mC : Nat := fm 28 5
def mRm : Nat := fm 26 2

/-- VV. -/
def vvD (k : Ctx) : Nat := fldOf k 44 4
def vvA (k : Ctx) : Nat := fldOf k 40 4
def vvB (k : Ctx) : Nat := fldOf k 36 4
def vvC (k : Ctx) : Nat := fldOf k 32 4
def vvMe (k : Ctx) : Bool := k.f.testBit 31
def vvMk (k : Ctx) : Nat := fldOf k 28 3
def vvMz (k : Ctx) : Bool := k.f.testBit 27
def vvFmt (k : Ctx) : Nat := fldOf k 23 4
def vvRm (k : Ctx) : Nat := fldOf k 21 2
def vvSat (k : Ctx) : Bool := k.f.testBit 20
def vvX (k : Ctx) : Nat := fldOf k 15 5
def vvY (k : Ctx) : Nat := fldOf k 10 5
def vvZ (k : Ctx) : Nat := fldOf k 5 5
def vvDfmt (k : Ctx) : Nat := fldOf k 1 4

def mVd : Nat := fm 44 4
def mVa : Nat := fm 40 4
def mVb : Nat := fm 36 4
def mVc : Nat := fm 32 4
def mMe : Nat := fm 28 4
def mMz : Nat := fm 27 1
def mFmt : Nat := fm 23 4
def mVrm : Nat := fm 21 2
def mSat : Nat := fm 20 1
def mSx : Nat := fm 15 5
def mSy : Nat := fm 10 5
def mSz : Nat := fm 5 5
def mDfmt : Nat := fm 1 4

/-- Mk and MZ are zero where ME is 0 (Table 04-3; a mask field is then not used, R99). -/
def maskOk (k : Ctx) : Bool := vvMe k || (vvMk k == 0 && !vvMz k)

/-- The governing mask of a VV instruction. -/
def vvMask (k : Ctx) : BitVec 256 := k.th.getM (vvMk k)
def vvActive (k : Ctx) (code i : Nat) : Bool := activeAt (vvMe k) (vvMask k) code i

/-! ### Scalar integer instructions (R105, R106) -/

/-- The operand shapes of Table 04-6: a and b, a alone (SS only, Sb zero), or a, b and Sc (SS only). -/
inductive AluKind where
  | two | one | three
  deriving DecidableEq, Repr

/-- The extended immediate (R106). -/
def extImm (k : Ctx) : W64 :=
  match fldOf k 32 2 with
  | 0 => (BitVec.ofNat 32 (fldOf k 0 32)).signExtend 64
  | 1 => BitVec.ofNat 64 (fldOf k 0 32)
  | _ => BitVec.ofNat 64 (fldOf k 0 32 * 2 ^ 32)

def aluBad (a : AluKind) (imm : Bool) (k : Ctx) : Bool :=
  if imm then a != .two || fldOf k 32 2 == 3 || !onlyBits k (mD + mA + fm 0 34)
  else match a with
    | .two => !onlyBits k (mD + mA + mB)
    | .one => !onlyBits k (mD + mA)
    | .three => !onlyBits k (mD + mA + mB + mC)

/-- A scalar integer row: `op` takes a, b and Sc. -/
def State.alu (s : State) (c : BitVec 9) (t : BitVec 10) (imm : Bool) (f : BitVec 48) (a : AluKind)
    (op : W64 → W64 → W64 → W64) : State :=
  s.issue c t f none (aluBad a imm) (onThread (fun k =>
    let b := if imm then extImm k else k.th.getS (ssB k)
    k.th.setS (ssD k) (op (k.th.getS (ssA k)) b (k.th.getS (ssC k)))))

/-- 1 or 0. -/
def w64Of (b : Bool) : W64 := if b then 1 else 0

/-- Leading zeros and set bits of a word. -/
def clz64 (a : W64) : W64 := if a == 0 then 64 else BitVec.ofNat 64 (63 - msb a.toNat)
def popc64 (a : W64) : W64 := BitVec.ofNat 64 ((List.range 64).filter (fun i => a.getLsbD i)).length

/-! ### Scalar FP32 (R107) -/

/-- The FP32 value in bits [31:0] of a register. -/
def f32Of (w : W64) : Val := decodeFloat (ffmt 0) (w.toNat % 2 ^ 32)

/-- A scalar FP32 row: `mask` the fields it uses, `op` gives the 64 bits of Sd and the flags. -/
def State.fpu (s : State) (c : BitVec 9) (t : BitVec 10) (f : BitVec 48) (mask : Nat)
    (op : Ctx → Val → Val → Val → Nat × Fl) : State :=
  s.issue c t f none (fun k => !onlyBits k mask) (onThread (fun k =>
    let (r, fl) := op k (f32Of (k.th.getS (ssA k))) (f32Of (k.th.getS (ssB k))) (f32Of (k.th.getS (ssC k)))
    (k.th.setS (ssD k) (BitVec.ofNat 64 r)).addFlags fl))

/-- Round an exact FP32 result once, with the flags of the operation. -/
def fpRound (rm : Nat) (r : Val × Fl) : Nat × Fl :=
  let (c, fl) := roundTo 0 rm false r.1
  (c, r.2 ||| fl)

/-- A comparison that is false with a NaN (R155). -/
def fpCmp (a b : Val) (p : Ordering → Bool) : Nat × Fl :=
  (ofBool (!a.isNan && !b.isNan && p (vCmp a b)), flNone)

end Sys2Proof.Machine
end

