-- ==== Sys2Proof/Machine/MemOps.lean ====
section
/-! DEFINITION. Memory accesses of a cell (R109 to R118): the scratchpad, pool accesses through translation, tier and home,
atomics near and far (R325, R326), and the tile copies of furrows. -/

namespace Sys2Proof.Machine

/-! ### The scratchpad (R66, R70) -/

/-- Declared bytes. -/
def scratchSize (x : Cell) : Nat := bwScr x.bind * 2 ^ 20

def scratchRead (x : Cell) (a : Nat) : Nat → Bytes
  | 0 => []
  | n + 1 => Tab.get 0 x.scratch a :: scratchRead x (a + 1) n

def scratchPut (l : List (Nat × Byte)) (a : Nat) : Bytes → List (Nat × Byte)
  | [] => l
  | b :: bs => scratchPut (Tab.set 0 l a b) (a + 1) bs

/-- An access to bytes from 1 MiB up is counted (CELL.SCR_DRAM). -/
def State.scratchCount (s : State) (c a len : Nat) : State :=
  if a + len > 2 ^ 20 then s.inc (pgCELL c) 0x058 else s

def State.scratchWrite (s : State) (c a : Nat) (d : Bytes) : State :=
  (s.modCell c (fun x => { x with scratch := scratchPut x.scratch a d })).scratchCount c a d.length

/-! ### Pool accesses -/

/-- Why an access does not go through now: a fault, a DEFER, snoops or a full table (it is made again), or a trap. -/
inductive Stop where
  | fault (fid : Nat) (tva : Nat)
  | defer (token : BitVec 16)
  | retry
  | trap (cause detail : Nat)
  deriving DecidableEq, Repr

/-- A part of an access that lies in one page: plot, entry, offset, length. -/
structure Piece where
  h   : BitVec 16
  e   : PlotEntry
  ofs : Nat
  len : Nat
  deriving DecidableEq, Repr

/-- A range cut at 64 KiB boundaries, `n` parts at most. -/
def splitRange : Nat → Nat → Nat → List (Nat × Nat)
  | 0, _, _ => []
  | n + 1, a, len =>
    if len == 0 then []
    else
      let c := 65536 - a % 65536
      if len ≤ c then [(a, len)] else (a, c) :: splitRange n (a + c) (len - c)

def splitAll (l : List (Nat × Nat)) : List (Nat × Nat) :=
  l.flatMap (fun x => splitRange (x.2 / 65536 + 2) x.1 x.2)

/-- A status of Table 02-3 or of the memory as a trap (R112, R219). -/
def statusStop (st : Nat) : Stop := if st == stUncorr then .trap 0x0A 0 else .trap 0x09 st

/-- Translate one part of an access and bring its data within reach. -/
def State.reachPiece (s : State) (q : XlReq) (w : Waiter) (need : BitVec 4) (store : Bool) (a len : Nat) :
    Except Stop Piece × State :=
  if a + len > 2 ^ 57 then (.error (.trap 0x08 1), s)
  else match s.xlate q a need with
    | (.status st, s1) => (.error (statusStop st), s1)
    | (.rights, s1) => (.error (.trap 0x08 3), s1)
    | (.unmapped, s1) => (.error (.trap 0x08 2), s1)
    | (.fault fid, s1) => (.error (.fault fid a), s1)
    | (.full, s1) => (.error .retry, s1)
    | (.ok h ofs, s1) =>
      let e := (s1.plot h).cur
      match s1.tierGate e ofs len store w with
      | (.defer t, s2) => (.error (.defer t), s2)
      | (.lost, s2) => (.error (.trap 0x0A 0), s2)
      | (.pass, s2) =>
        match s2.insideReady h e ofs len store with
        | (true, s3) => (.ok { h := h, e := e, ofs := ofs, len := len }, s3)
        | (false, s3) => (.error .retry, s3)

/-- Every part of an access; the first that does not go through decides. -/
def State.reach (s : State) (q : XlReq) (w : Waiter) (need : BitVec 4) (store : Bool) :
    List (Nat × Nat) → Except Stop (List Piece) × State
  | [] => (.ok [], s)
  | (a, len) :: l =>
    match s.reachPiece q w need store a len with
    | (.error x, s1) => (.error x, s1)
    | (.ok p, s1) =>
      match s1.reach q w need store l with
      | (.ok ps, s2) => (.ok (p :: ps), s2)
      | r => r

/-- Read the parts of an access, joined. -/
def State.readPieces (s : State) (ph : Bool) : List Piece → Except Nat Bytes × State
  | [] => (.ok [], s)
  | p :: l =>
    match s.readPlot p.h p.e p.ofs p.len (hintOf p.e ph) with
    | (.error st, s1) => (.error st, s1)
    | (.ok d, s1) =>
      match s1.readPieces ph l with
      | (.ok r, s2) => (.ok (d ++ r), s2)
      | r => r

/-- Write data over the parts of an access: 0, or the status of the part that failed. -/
def State.writePieces (s : State) (ph : Bool) : List Piece → Bytes → Nat × State
  | [], _ => (stOK, s)
  | p :: l, d =>
    match s.writePlot p.h p.e p.ofs (d.take p.len) (hintOf p.e ph) with
    | (0, s1) => s1.writePieces ph l (d.drop p.len)
    | r => r

/-- Accesses of a cell to its own bed's stack, counted by line: on the direct path, or through the home because the region bit
is set (R312). -/
def State.countPath (s : State) (w : Waiter) (ps : List Piece) : State :=
  match w with
  | .cell c _ =>
    ps.foldl (fun s p =>
      (linesOf p.h p.ofs p.len).foldl (fun s line =>
        if p.e.tiered || plotBed p.e (lineOfs line) != cellBed c then s
        else s.inc (pgBED (cellBed c)) (if Tab.has s.regionBits (regionOf p.e (lineOfs line)) then 0x068 else 0x064)) s) s
  | _ => s

/-- Read ranges of the pool for a thread. -/
def State.poolRead (s : State) (q : XlReq) (w : Waiter) (ph : Bool) (l : List (Nat × Nat)) : Except Stop Bytes × State :=
  match s.reach q w rightR false (splitAll l) with
  | (.error x, s1) => (.error x, s1)
  | (.ok ps, s1) =>
    match (s1.countPath w ps).readPieces ph ps with
    | (.ok d, s2) => (.ok d, s2)
    | (.error st, s2) => (.error (statusStop st), s2)

/-- Write ranges of the pool for a thread, in order. A store that fails has written nothing (R134). -/
def State.poolWrite (s : State) (q : XlReq) (w : Waiter) (ph : Bool) (l : List (Nat × Bytes)) : Option Stop × State :=
  match s.reach q w rightW true (splitAll (l.map (fun x => (x.1, x.2.length)))) with
  | (.error x, s1) => (some x, s1)
  | (.ok ps, s1) =>
    match (s1.countPath w ps).writePieces ph ps (l.flatMap (·.2)) with
    | (0, s2) => (none, s2)
    | (st, _) => (some (statusStop st), s1)

/-! ### Fields of MEM (Table 04-3) -/

def memB (k : Ctx) : Nat := fldOf k 43 5
def memR (k : Ctx) : Nat := fldOf k 38 5
def memVr (k : Ctx) : Nat := fldOf k 38 4
def memVi (k : Ctx) : Nat := fldOf k 34 4
def memMe (k : Ctx) : Bool := k.f.testBit 33
def memMk (k : Ctx) : Nat := fldOf k 30 3
def memSp (k : Ctx) : Bool := k.f.testBit 29
def memOrd (k : Ctx) : Nat := fldOf k 27 2
def memPh (k : Ctx) : Bool := k.f.testBit 26
def memAh (k : Ctx) : Nat := fldOf k 24 2

def mMemB : Nat := fm 43 5
def mMemR : Nat := fm 38 5
def mMemV : Nat := fm 38 4
def mMemVi : Nat := fm 34 4
def mMemMe : Nat := fm 30 4
/-- SP, ORD and PH. -/
def mMemSp : Nat := fm 26 4
def mMemAh : Nat := fm 24 2
def mMemOfs : Nat := fm 0 24

/-- The effective address (R109). -/
def memEa (k : Ctx) (bits : Nat) : W64 := k.th.getS (memB k) + BitVec.ofInt 64 (toSigned bits (fldOf k 0 bits))

/-- ORD of a load or a store, PH and AH on the scratchpad, Mk with ME 0 (R109). -/
def memBad (k : Ctx) (store : Bool) : Bool :=
  (memOrd k != 0 && memOrd k != (if store then 2 else 1)) || (memSp k && (memPh k || memAh k != 0)) ||
    (!memMe k && memMk k != 0)

/-- The thread waits, or traps at an address. -/
def stopRes (k : Ctx) (s : State) (ea : W64) : Stop → Res
  | .fault fid tva => .wait (s.modThread k.c k.t (fun y => { y with run := .fault fid (BitVec.ofNat 64 tva) }))
  | .defer t =>
    .wait (if t == noToken then s else s.modThread k.c k.t (fun y => { y with run := .defer t }))
  | .retry => .wait s
  | .trap cause detail => .trap s cause detail ea

/-- The packed bytes that a masked store shares with elements it leaves alone: every piece of the store is brought within
reach with both rights before the shared bytes are read. -/
def State.poolRmw (s : State) (q : XlReq) (k : Ctx) (runs : List (Nat × Nat)) (shared : List Nat) (ea : Nat) :
    Except Stop Bytes × State :=
  match s.reach q (.cell k.c k.t) rightW true (splitAll (runs.map (fun r => (ea + r.1, r.2)))) with
  | (.error x, s1) => (.error x, s1)
  | (.ok _, s1) =>
    match s1.poolRead q (.cell k.c k.t) (memPh k) (shared.map (fun b => (ea + b, 1))) with
    | (.error x, s2) => (.error x, s2)
    | (.ok d, s2) => (.ok ((List.range 192).map (fun b => match shared.findIdx? (· == b) with
        | some i => d.getD i 0
        | none => 0)), s2)

/-- A load of ranges into the thread: from the scratchpad or the pool (R109, R110). `aligned` is the result of the alignment
check, `g` what the bytes make of the thread. -/
def loadRes (k : Ctx) (s : State) (ea : W64) (aligned : Bool) (l : List (Nat × Nat)) (g : Thread → Bytes → Thread) : Res :=
  if !aligned then .trap s 0x04 0 ea
  else if memSp k then
    if l.any (fun x => x.1 + x.2 > scratchSize k.x) then .trap s 0x05 0 ea
    else
      let d := l.flatMap (fun x => scratchRead k.x x.1 x.2)
      let s1 := l.foldl (fun s x => s.scratchCount k.c x.1 x.2) s
      .done (s1.modThread k.c k.t (fun y => g y d))
  else if ea.toNat ≥ 2 ^ 57 then .trap s 0x08 1 ea
  else match s.cellReq k.c none with
    | none => .wait s
    | some q =>
      match s.poolRead q (.cell k.c k.t) (memPh k) l with
      | (.ok d, s1) => .done (s1.modThread k.c k.t (fun y => g y d))
      | (.error x, s1) => stopRes k s1 ea x

/-- A store of ranges. -/
def storeRes (k : Ctx) (s : State) (ea : W64) (aligned : Bool) (l : List (Nat × Bytes)) : Res :=
  if !aligned then .trap s 0x04 0 ea
  else if memSp k then
    if l.any (fun x => x.1 + x.2.length > scratchSize k.x) then .trap s 0x05 0 ea
    else .done (l.foldl (fun s x => s.scratchWrite k.c x.1 x.2) s)
  else if ea.toNat ≥ 2 ^ 57 then .trap s 0x08 1 ea
  else match s.cellReq k.c none with
    | none => .wait s
    | some q =>
      match s.poolWrite q (.cell k.c k.t) (memPh k) l with
      | (none, s1) => .done s1
      | (some x, s1) => stopRes k s1 ea x

/-! ### Scalar and vector accesses (Table 04-8) -/

/-- A scalar load of `n` bytes. -/
def State.loadRow (s : State) (c : BitVec 9) (t : BitVec 10) (f : BitVec 48) (n : Nat) (signed : Bool) : State :=
  s.issue c t f none (fun k => !onlyBits k (mMemB + mMemR + mMemSp + mMemOfs) || memBad k false) (fun k s =>
    let ea := memEa k 24
    loadRes k s ea (ea.toNat % n == 0) [(ea.toNat, n)] (fun y d =>
      y.setS (memR k) (if signed then BitVec.ofInt 64 (toSigned (8 * n) (leNat d)) else BitVec.ofNat 64 (leNat d))))

/-- A scalar store of the low `n` bytes. -/
def State.storeRow (s : State) (c : BitVec 9) (t : BitVec 10) (f : BitVec 48) (n : Nat) : State :=
  s.issue c t f none (fun k => !onlyBits k (mMemB + mMemR + mMemSp + mMemOfs) || memBad k true) (fun k s =>
    let ea := memEa k 24
    storeRes k s ea (ea.toNat % n == 0) [(ea.toNat, leBytes n (k.th.getS (memR k)).toNat)])

/-- Whether position i is active under the mask of a MEM instruction. -/
def memActive (k : Ctx) (i : Nat) : Bool := !memMe k || (k.th.getM (memMk k)).getLsbD i

/-- The runs of consecutive positions below `n` that satisfy `p`, as (start, length). -/
def runsOf (p : Nat → Bool) : Nat → Nat → List (Nat × Nat)
  | 0, _ => []
  | n + 1, i =>
    match p i, runsOf p n (i + 1) with
    | false, l => l
    | true, (a, len) :: l => if a == i + 1 then (i, len + 1) :: l else (i, 1) :: (a, len) :: l
    | true, [] => [(i, 1)]

/-- Bytes put over a register at the runs they belong to. -/
def overBytes (old : BitVec 2048) (l : List (Nat × Nat)) (d : Bytes) : BitVec 2048 :=
  let base := leBytes 256 old.toNat
  let put (acc : Bytes × Bytes) (r : Nat × Nat) : Bytes × Bytes :=
    (acc.1.take r.1 ++ acc.2.take r.2 ++ acc.1.drop (r.1 + r.2), acc.2.drop r.2)
  BitVec.ofNat 2048 (leNat (l.foldl put (base, d)).1)

/-- Fields of the vector accesses. -/
def vmemBad (k : Ctx) (store : Bool) (extra : Nat) : Bool :=
  !onlyBits k (mMemB + mMemV + mMemMe + mMemSp + mMemOfs + extra) || memBad k store

/-- Gather segments of g bytes, ascending: the address of an active segment i (R111). -/
def segAddr (k : Ctx) (g i : Nat) : Nat :=
  let idx := fieldOf (k.th.getV (memVi k)).toNat (32 * i) 32
  ((memEa k 24).toNat + idx * g) % 2 ^ 64

def segActive (k : Ctx) (g : Nat) : List Nat := (List.range (256 / g)).filter (memActive k)

def segAligned (k : Ctx) (g : Nat) : Bool :=
  (segActive k g).all (fun i => segAddr k g i % (if g < 64 then g else 64) == 0)

/-- A gather of segments of g bytes. -/
def State.gatherRow (s : State) (c : BitVec 9) (t : BitVec 10) (f : BitVec 48) (g : Nat) : State :=
  s.issue c t f none (fun k => vmemBad k false mMemVi) (fun k s =>
    let segs := segActive k g
    loadRes k s (memEa k 24) (segAligned k g) (segs.map (fun i => (segAddr k g i, g))) (fun y d =>
      y.setV (memVr k) (overBytes (y.getV (memVr k)) (segs.map (fun i => (g * i, g))) d)))

/-- A scatter of segments of g bytes, in ascending order. -/
def State.scatterRow (s : State) (c : BitVec 9) (t : BitVec 10) (f : BitVec 48) (g : Nat) : State :=
  s.issue c t f none (fun k => vmemBad k true mMemVi) (fun k s =>
    let d := leBytes 256 (k.th.getV (memVr k)).toNat
    storeRes k s (memEa k 24) (segAligned k g)
      ((segActive k g).map (fun i => (segAddr k g i, (d.drop (g * i)).take g))))

/-! ### Atomics (R113 to R115, R325, R326) -/

/-- Whether an atomic of a cell runs far: AH, or the predictor; never on an UNCACHED plot. -/
def State.cellFar (s : State) (e : PlotEntry) (line ah : Nat) : Bool :=
  !e.uncached && (ah == 2 || (ah == 0 && s.predAt line < s.fld pgHOME 0x048 0 3))

/-- A line made ready for an atomic of a bed's cell: true when it can be performed now. -/
def State.atomReady (s : State) (line bed : Nat) (e : PlotEntry) (far : Bool) : Bool × State :=
  if Tab.has s.txns line then (false, s)
  else
    let mine := s.rec_ line == some (.em (.bed (BitVec.ofNat 5 bed)))
    if mine then (true, s)
    else
      let busy := s.rec_ line != none
      let em := csOf (s.rec_ line) == 3
      if em && s.held line then (false, s.inc pgHOME 0x078)
      else
        let (bit, s1) := if busy || far then s.needRegion (regionOf e (lineOfs line)) else (true, s)
        if !bit then (false, s1)
        else
          let s2 := match s1.rec_ line with
            | some (.em (.bed b)) => (s1.predReturn line true).bedReturn line b.toNat (lineHandle line) e
            | _ => s1
          match s2.snoopsFor line .write none with
          | some (plan, after) =>
            let s3 := if em then s2.predReturn line true else s2
            let s4 := s3.startTxn line .inside plan after (lineHandle line) e
            (!Tab.has s4.txns line, s4)
          | none =>
            if far && (s2.recs.filter (fun kv => recSet kv.1 == recSet line)).length ≥ 16 then
              match s2.recVictim line with
              | some v =>
                let s3 := (s2.inc pgHOME 0x060).clearLine v .evict (lineHandle v) (s2.lineEntry v)
                (!Tab.has s3.txns v, s3)
              | none => (false, s2)
            else (true, s2)

/-- Put a line into a bed's atomic buffer of 64 lines; the least recently used one is written back (R325). -/
def State.bufferLine (s : State) (bed line : Nat) (d : Bytes) : State :=
  let buf := Tab.get [] s.atomBuf bed
  let s1 := if buf.length < 64 then s
    else match buf.foldl (fun (m : Option AtomLine) a => match m with
        | none => some a
        | some b => if a.lru < b.lru then some a else some b) none with
      | some v => (s.predReturn v.line false).bedReturn v.line bed (lineHandle v.line) (s.lineEntry v.line)
      | none => s
  let b1 := Tab.get [] s1.atomBuf bed
  { s1 with atomBuf := Tab.set [] s1.atomBuf bed (b1 ++ [{ line := line, data := d, lru := s1.lruClock }]),
            lruClock := s1.lruClock + 1 }

/-- The atomic of a cell on a pool word of n bytes: old value, or why it stops. -/
def State.poolAtomic (s : State) (q : XlReq) (c t : Nat) (kind : AtomKind) (n ea r sn ah : Nat) : Except Stop Nat × State :=
  match s.xlate q ea rightA with
  | (.status st, s1) => (.error (statusStop st), s1)
  | (.rights, s1) => (.error (.trap 0x08 3), s1)
  | (.unmapped, s1) => (.error (.trap 0x08 2), s1)
  | (.fault fid, s1) => (.error (.fault fid ea), s1)
  | (.full, s1) => (.error .retry, s1)
  | (.ok h ofs, s1) =>
    let e := (s1.plot h).cur
    let bed := cellBed c
    let line := lineOf h ofs
    match s1.tierGate e ofs n true (.cell c t) with
    | (.defer tk, s2) => (.error (.defer tk), s2)
    | (.lost, s2) => (.error (.trap 0x0A 0), s2)
    | (.pass, s2) =>
      let far := s2.cellFar e line ah
      match s2.atomReady line bed e far with
      | (false, s3) => (.error .retry, s3)
      | (true, s3) =>
        let buf := Tab.get [] s3.atomBuf bed
        match buf.find? (fun a => a.line == line) with
        | some a =>
          let o := ofs % 128
          let old := leNat ((a.data.drop o).take n)
          match atomicNew kind (8 * n) old r sn with
          | .error d => (.error (.trap 0x0B d), s3)
          | .ok v =>
            let a' := { a with data := a.data.take o ++ leBytes n v ++ a.data.drop (o + n), lru := s3.lruClock }
            let b1 := Tab.put s3.atomBuf bed (buf.map (fun x => if x.line == line then a' else x))
            (.ok old, { s3 with atomBuf := b1, lruClock := s3.lruClock + 1 }.markWritten h)
        | none =>
          match s3.readPlot h e ofs n false with
          | (.error st, s4) => (.error (statusStop st), s4)
          | (.ok d, s4) =>
            let s5 := if e.tiered then s4 else s4.drainWord (plotWord e ofs)
            match atomicNew kind (8 * n) (leNat d) r sn with
            | .error x => (.error (.trap 0x0B x), s5)
            | .ok v =>
              match s5.writePlot h e ofs (leBytes n v) false with
              | (0, s6) =>
                if far then
                  match s6.readPlot h e (lineOfs line) 128 false with
                  | (.ok ld, s7) =>
                    (.ok (leNat d), ((s7.bufferLine bed line ld).grantEm line (.bed (BitVec.ofNat 5 bed)) true).inc pgHOME 0x080)
                  | (.error _, s7) => (.ok (leNat d), s7.inc pgHOME 0x07C)
                else (.ok (leNat d), (s6.predNear line (8193 + c)).inc pgHOME 0x07C)
              | (st, _) => (.error (statusStop st), s5)

/-- An atomic row (Table 04-9). Sn is used by CAS alone; the 128-bit minors take register pairs. -/
def State.atomicRow (s : State) (c : BitVec 9) (t : BitVec 10) (wide : Bool) (f : BitVec 48) (kind : AtomKind) : State :=
  let n := if wide then 16 else 8
  let sn (k : Ctx) : Nat := fldOf k 19 5
  s.issue c t f none (fun k =>
    !onlyBits k (mMemB + mMemR + mMemSp + mMemAh + mMemOfs) || memAh k == 3 || (memSp k && (memPh k || memAh k != 0)) ||
      (kind != .cas && sn k != 0) || (wide && (memR k % 2 != 0 || sn k % 2 != 0))) (fun k s =>
    let ea := memEa k 19
    let val (y : Thread) (r : Nat) : Nat := if wide then y.getPair r else (y.getS r).toNat
    let put (y : Thread) (v : Nat) : Thread := if wide then y.setPair (memR k) v else y.setS (memR k) (BitVec.ofNat 64 v)
    let r := val k.th (memR k)
    let x := val k.th (sn k)
    if ea.toNat % n != 0 then .trap s 0x04 0 ea
    else if memSp k then
      if ea.toNat + n > scratchSize k.x then .trap s 0x05 0 ea
      else
        let old := leNat (scratchRead k.x ea.toNat n)
        match atomicNew kind (8 * n) old r x with
        | .error d => .trap s 0x0B d ea
        | .ok v => .done ((s.scratchWrite k.c ea.toNat (leBytes n v)).modThread k.c k.t (fun y => put y old))
    else if ea.toNat + n > 2 ^ 57 then .trap s 0x08 1 ea
    else match s.cellReq k.c none with
      | none => .wait s
      | some q =>
        match s.poolAtomic q k.c k.t kind n ea.toNat r x (memAh k) with
        | (.ok old, s1) => .done (s1.modThread k.c k.t (fun y => put y old))
        | (.error st, s1) => stopRes k s1 ea st)

end Sys2Proof.Machine

namespace Sys2Proof

open Machine

/-! ### Furrows (R116 to R118, R341) -/

/-- Furrow n of a thread. -/
def Thread.furrow (t : Thread) (n : Nat) : Furrow := if n == 0 then t.f0 else t.f1
def Thread.setFurrow (t : Thread) (n : Nat) (f : Furrow) : Thread := if n == 0 then { t with f0 := f } else { t with f1 := f }

end Sys2Proof

namespace Sys2Proof.Machine

def State.furrow (s : State) (c t n : Nat) : Furrow := (((s.cell c).thread? t).map (fun y => y.furrow n)).getD {}
def State.modFurrow (s : State) (c t n : Nat) (g : Furrow → Furrow) : State :=
  s.modThread c t (fun y => y.setFurrow n (g (y.furrow n)))

end Sys2Proof.Machine

namespace Sys2Proof

open Machine

/-- The copy instructions outstanding on a furrow. -/
def Furrow.ids (f : Furrow) : List Nat := f.copies.foldl (fun l x => insNat x.id l) []

/-- Copy instructions whose tiles are all done leave the list. -/
def Furrow.sweep (f : Furrow) : Furrow :=
  { f with copies := f.copies.filter (fun x => f.copies.any (fun y => y.id == x.id && !y.done)) }

/-- Change one tile of a furrow. -/
def Furrow.setTile (f : Furrow) (x : TileCopy) (g : TileCopy → TileCopy) : Furrow :=
  { f with copies := f.copies.map (fun y => if y.id == x.id && y.tile == x.tile then g y else y) }

end Sys2Proof

namespace Sys2Proof.Machine

/-- Try one tile of a copy instruction. -/
def State.runTile (s : State) (c t n : Nat) (x : TileCopy) : State :=
  let fw := s.furrow c t n
  let a := (fw.tileTva x.tile).toNat
  let len := fw.tile.toNat
  if !fw.copies.contains x then s
  else match s.cellReq c (some { cell := c, thread := t, furrow := n, id := x.id }) with
    | none => s
    | some q =>
      let res : Option Stop × State :=
        if x.put then s.poolWrite q (.cell c t) false [(a, scratchRead (s.cell c) x.scratch len)]
        else match s.poolRead q (.cell c t) false [(a, len)] with
          | (.ok d, s1) => (none, s1.scratchWrite c x.scratch d)
          | (.error e, s1) => (some e, s1)
      match res with
      | (none, s1) => s1.modFurrow c t n (fun f => f.setTile x (fun y => { y with done := true, wait := .go }))
      | (some (.fault fid _), s1) => s1.modFurrow c t n (fun f => f.setTile x (fun y => { y with wait := .fault fid }))
      | (some (.defer tk), s1) =>
        if tk == noToken then s1 else s1.modFurrow c t n (fun f => f.setTile x (fun y => { y with wait := .defer tk }))
      | (some .retry, s1) => s1
      | (some (.trap cause detail), s1) => s1.modFurrow c t n (fun f => f.failCopy x.id cause detail (f.tileTva x.tile))

/-- The pages that the tiles ahead touch are prefetched (R341). -/
def State.runAhead (s : State) (c t n : Nat) : State :=
  let fw := s.furrow c t n
  let ahead := s.fld pgXLT 0x064 0 7
  let tiles := (List.range ahead).filterMap (fun i => if fw.high + i < fw.count.toNat then some (fw.high + i) else none)
  match s.cellReq c none with
  | none => s
  | some q =>
    tiles.foldl (fun s k =>
      let a := (fw.tileTva k).toNat
      (splitRange (fw.tile.toNat / 65536 + 2) a fw.tile.toNat).foldl (fun s p =>
        if p.1 < 2 ^ 57 then s.prefetch q p.1 else s) s) s

end Sys2Proof.Machine
end

