-- ==== Sys2Proof/Machine/VecOps.lean ====
section
/-! DEFINITION. What the vector instructions of a cell share (04_jexkai_isa.md, R102 to R104 and R119 to R123): fields that
are checked, destinations under a mask, element-wise results, MX destinations, compares, conversions and reductions. -/

namespace Sys2Proof.Machine

/-! ### Checks -/

/-- Scale registers of the operands an instruction has: Va, Vb and Vd (R104). -/
def scalesOk (k : Ctx) (x y z : Bool) : Bool :=
  (!x || scaleRegOk (vvFmt k) (vvX k)) && (!y || scaleRegOk (vvFmt k) (vvY k)) && (!z || scaleRegOk (vvFmt k) (vvZ k))

/-- SAT is 0 for FP32, FP16 and BF16 (R119). -/
def satOk (k : Ctx) (code : Nat) : Bool := !(vvSat k && code ≤ 2)

/-- A mask as destination or source: the top bit of its field is 0. -/
def isMaskReg (n : Nat) : Bool := n < 8

/-- A VV instruction that only changes its thread: `mask` the fields it uses. -/
def State.vecRow (s : State) (c : BitVec 9) (t : BitVec 10) (f : BitVec 48) (mask : Nat) (bad : Ctx → Bool)
    (g : Ctx → Thread) : State :=
  s.issue c t f none (fun k => !onlyBits k mask || !maskOk k || bad k) (onThread g)

/-- ME, Mk and MZ with FMT. -/
def mGov : Nat := mMe + mMz + mFmt

/-! ### Destinations -/

/-- Element codes written into Vd under the mask; an MX destination by block (R103). Scales are not touched. -/
def writeCodes (k : Ctx) (code : Nat) (new : Nat → Nat) : BitVec 2048 :=
  let old := k.th.getV (vvD k)
  let act := vvActive k code
  fromElems code ((List.range (fmtCount code)).map (fun i =>
    let rest := if vvMz k then 0 else elemAt code old i
    if isMxFmt code then
      if act (i / 32 * 32) then (if act i then new i else 0) else rest
    else if act i then new i else rest))

/-- Block scales over a register or pair. -/
def putScales (t : Thread) (code n : Nat) (sc : Nat) : Thread :=
  if code == 9 then t.setPair n sc else t.setS n (BitVec.ofNat 64 sc)

/-- A byte of a number replaced. -/
def setByte (n i b : Nat) : Nat := n - fieldOf n (8 * i) 8 * 2 ^ (8 * i) + b * 2 ^ (8 * i)

/-- What becomes of one block of an MX destination: codes, scale and flags; `none` leaves it as it is. -/
def mxBlock (code : Nat) (rm : Nat) (sat mz : Bool) (vs : List (Option (Val × Fl))) : Option (List Nat × Nat × Fl) :=
  match vs with
  | none :: _ => if mz then some (vs.map (fun _ => 0), 0x7F, flNone) else none
  | _ =>
    let (sc, cs, fl) := mxQuantise code rm sat (vs.map (·.map (·.1)))
    some (cs, sc, fl ||| flAll ((vs.filterMap id).map (·.2)))

/-- Write MX blocks from element `first` on: element i of the destination part is `val i`, `none` where it is inactive
(R103, R120, R158). -/
def mxWrite (k : Ctx) (code first n : Nat) (val : Nat → Option (Val × Fl)) : Thread :=
  let old := k.th.getV (vvD k)
  let bs := (List.range (n / 32)).map (fun b =>
    (first / 32 + b, mxBlock code (vvRm k) (vvSat k) (vvMz k) ((List.range 32).map (fun i => val (32 * b + i)))))
  let new := (List.range (fmtCount code)).map (fun i =>
    match bs.find? (fun x => x.1 == i / 32) with
    | some (_, some (cs, _, _)) => cs.getD (i % 32) 0
    | _ => elemAt code old i)
  let sc := bs.foldl (fun sc x => match x.2 with
    | some (_, b, _) => setByte sc x.1 b
    | none => sc) ((if code == 9 then k.th.getPair (vvZ k) else (k.th.getS (vvZ k)).toNat))
  let fl := flAll (bs.map (fun x => match x.2 with
    | some (_, _, f) => f
    | none => flNone))
  (putScales (k.th.setV (vvD k) (fromElems code new)) code (vvZ k) sc).addFlags fl

/-! ### Element-wise arithmetic (major 0x20) -/

/-- An operation on exact values, and the same on integers. -/
structure EwOp where
  val : Nat → Val → Val → Val → Val × Fl
  int : Int → Int → Int → Int

/-- The value of element i of a source. -/
def srcVal (k : Ctx) (code : Nat) (v : BitVec 2048) (sx i : Nat) : Val :=
  decodeElem code (if isMxFmt code then scaleOf k.th sx (i / 32) else 0) (elemAt code v i)

/-- The thread after an element-wise instruction (R119, R120, R154). -/
def elementWise (op : EwOp) (k : Ctx) : Thread :=
  let code := vvFmt k
  let a := k.th.getV (vvA k)
  let b := k.th.getV (vvB k)
  let x := k.th.getV (vvC k)
  if isIntFmt code then
    let w := fmtBits code
    let sg (v : BitVec 2048) (i : Nat) : Int := toSigned w (elemAt code v i)
    k.th.setV (vvD k) (writeCodes k code (fun i => narrowInt w (vvSat k) (op.int (sg a i) (sg b i) (sg x i))))
  else
    let ex (i : Nat) : Val × Fl :=
      op.val (vvRm k) (srcVal k code a (vvX k) i) (srcVal k code b (vvY k) i) (srcVal k code x 0 i)
    if isMxFmt code then
      mxWrite k code 0 (fmtCount code) (fun i => if vvActive k code i then some (ex i) else none)
    else
      let rs := (List.range (fmtCount code)).map (fun i =>
        if vvActive k code i then
          let (v, f1) := ex i
          let (c, f2) := roundTo code (vvRm k) (vvSat k) v
          (c, f1 ||| f2)
        else (0, flNone))
      (k.th.setV (vvD k) (writeCodes k code (fun i => (rs.getD i (0, flNone)).1))).addFlags (flAll (rs.map (·.2)))

/-- An element-wise row with sources Va and Vb, and Vc with `three`. -/
def State.ewRow (s : State) (c : BitVec 9) (t : BitVec 10) (f : BitVec 48) (three : Bool) (op : EwOp) : State :=
  s.vecRow c t f (mVd + mVa + mVb + (if three then mVc else 0) + mGov + mVrm + mSat + mSx + mSy + mSz)
    (fun k => !validFmt (vvFmt k) || (three && isMxFmt (vvFmt k)) || !satOk k (vvFmt k) || !scalesOk k true true true)
    (elementWise op)

/-- VABS and VNEG: on a floating-point element a change of the sign bit, the canonical NaN for a NaN (R154). -/
def signOp (neg : Bool) (k : Ctx) : Thread :=
  let code := vvFmt k
  if isIntFmt code || isMxFmt code then
    elementWise { val := fun _ a _ _ => (if neg then vNeg a else vAbs a, flNone),
                  int := fun a _ _ => if neg then -a else a.natAbs } k
  else
    let v := k.th.getV (vvA k)
    let top := 2 ^ (fmtBits code - 1)
    k.th.setV (vvD k) (writeCodes k code (fun i =>
      let c := elemAt code v i
      if (decodeElem code 0 c).isNan then canonNan code
      else if neg then c ^^^ top else c % top))

/-- A row of VABS and VNEG. -/
def State.signRow (s : State) (c : BitVec 9) (t : BitVec 10) (f : BitVec 48) (neg : Bool) : State :=
  s.vecRow c t f (mVd + mVa + mGov + mVrm + mSat + mSx + mSz)
    (fun k => !validFmt (vvFmt k) || !satOk k (vvFmt k) || !scalesOk k true false true) (signOp neg)

/-- A row on the bit patterns of integer elements: width, a and b; `sat` says that it uses SAT. -/
def State.bitRow (s : State) (c : BitVec 9) (t : BitVec 10) (f : BitVec 48) (sat : Bool) (op : Ctx → Nat → Nat → Nat → Nat) :
    State :=
  s.vecRow c t f (mVd + mVa + mVb + mGov + (if sat then mSat else 0)) (fun k => !isIntFmt (vvFmt k)) (fun k =>
    let code := vvFmt k
    let a := k.th.getV (vvA k)
    let b := k.th.getV (vvB k)
    k.th.setV (vvD k) (writeCodes k code (fun i => op k (fmtBits code) (elemAt code a i) (elemAt code b i))))

/-! ### Compares (major 0x21, R155) -/

/-- A mask register rewritten at the elements of a format: bits beyond the element count stay. -/
def writeMask (k : Ctx) (code : Nat) (p : Nat → Bool) : Thread :=
  let d := vvD k
  let old := k.th.getM d
  let n := fmtCount code
  let bit (i : Nat) : Bool :=
    if i < n then (if vvActive k code i then p i else !vvMz k && old.getLsbD i) else old.getLsbD i
  k.th.setM d (BitVec.ofNat 256 (joinBits 1 ((List.range 256).map (fun i => ofBool (bit i)))))

/-- A compare row. `uns` restricts it to integers, whose patterns it compares. -/
def State.cmpRow (s : State) (c : BitVec 9) (t : BitVec 10) (f : BitVec 48) (uns : Bool) (op : Val → Val → Bool) : State :=
  s.vecRow c t f (mVd + mVa + mVb + mGov + mSx + mSy)
    (fun k => !validFmt (vvFmt k) || fmtBits (vvFmt k) == 4 || !isMaskReg (vvD k) || (uns && !isIntFmt (vvFmt k)) ||
      !scalesOk k true true false)
    (fun k =>
      let code := vvFmt k
      let a := k.th.getV (vvA k)
      let b := k.th.getV (vvB k)
      writeMask k code (fun i =>
        if uns then op (.fin false (elemAt code a i) 0) (.fin false (elemAt code b i) 0)
        else op (srcVal k code a (vvX k) i) (srcVal k code b (vvY k) i)))

/-- A comparison of values none of which is NaN. -/
def ordCmp (p : Ordering → Bool) (a b : Val) : Bool := !a.isNan && !b.isNan && p (vCmp a b)

/-! ### Conversion (major 0x22, R121, R156) -/

/-- One converted element that is not of an MX destination. -/
def cvtElem (k : Ctx) (src dst c : Nat) (v : Val) : Nat × Fl :=
  if isIntFmt src && isIntFmt dst then (narrowInt (fmtBits dst) (vvSat k) (toSigned (fmtBits src) c), flNone)
  else roundElem dst (vvRm k) (vvSat k) v

/-- How many elements VCVT converts, and the ratio of the counts. -/
def cvtCount (src dst : Nat) : Nat × Nat :=
  let a := fmtCount src
  let b := fmtCount dst
  if a ≤ b then (a, b / a) else (b, a / b)

/-- Whether the i-th converted element is active (R121, R103). -/
def cvtActive (k : Ctx) (n i : Nat) : Bool := !vvMe k || (vvMask k).getLsbD (if n == 512 then i / 2 else i)

def convert (k : Ctx) : Thread :=
  let src := vvFmt k
  let dst := vvDfmt k
  let n := (cvtCount src dst).1
  let p := vvC k
  let v := k.th.getV (vvA k)
  let so := if fmtCount src > fmtCount dst then n * p else 0
  let d0 := if fmtCount dst > fmtCount src then n * p else 0
  if isMxFmt dst then
    mxWrite k dst d0 n (fun i => if cvtActive k n i then some (srcVal k src v (vvX k) (so + i), flNone) else none)
  else
    let old := k.th.getV (vvD k)
    let rs := (List.range n).map (fun i =>
      if cvtActive k n i then cvtElem k src dst (elemAt src v (so + i)) (srcVal k src v (vvX k) (so + i))
      else (if vvMz k then 0 else elemAt dst old (d0 + i), flNone))
    let new := (List.range (fmtCount dst)).map (fun j =>
      if d0 ≤ j && j < d0 + n then (rs.getD (j - d0) (0, flNone)).1 else elemAt dst old j)
    (k.th.setV (vvD k) (fromElems dst new)).addFlags (flAll (rs.map (·.2)))

def cvtBad (k : Ctx) : Bool :=
  let src := vvFmt k
  let dst := vvDfmt k
  !validFmt src || !validFmt dst || src == dst || vvC k ≥ (cvtCount src dst).2 || !satOk k dst ||
    !scaleRegOk src (vvX k) || !scaleRegOk dst (vvZ k)

/-! ### Transcendentals (major 0x23) -/

/-- A row of the four correctly rounded functions: FP32 only. -/
def State.transRow (s : State) (c : BitVec 9) (t : BitVec 10) (f : BitVec 48) (fn : Trans) : State :=
  s.vecRow c t f (mVd + mVa + mMe + mMz + mVrm) (fun _ => false) (fun k =>
    let v := k.th.getV (vvA k)
    let rs := (List.range 64).map (fun i =>
      if vvActive k 0 i then
        let (r, f1) := transEval fn (decodeElem 0 0 (elemAt 0 v i))
        let (cd, f2) := roundTo 0 (vvRm k) false r
        (cd, f1 ||| f2)
      else (0, flNone))
    (k.th.setV (vvD k) (writeCodes k 0 (fun i => (rs.getD i (0, flNone)).1))).addFlags (flAll (rs.map (·.2))))

/-- Whether an FP32 code lies within two units in the last place of a value (R122). -/
def near2 (c : Nat) (v : Val) : Bool :=
  match decodeFloat (ffmt 0) c, v with
  | .fin n1 m1 e1, .fin n2 m2 e2 =>
    let e : Int := if m2 == 0 then -126 else (msb m2 : Int) + e2
    let q : Int := (if e < -126 then -126 else e) - 23
    let t := if e1 ≤ e2 then (if q < e1 then q else e1) else (if q < e2 then q else e2)
    decide ((alignInt n1 m1 e1 t - alignInt n2 m2 e2 t).natAbs ≤ 2 * 2 ^ (q - t).toNat)
  | _, _ => false

/-- EXP2.F of one element: some code within two units of the exact result, as a free value picks, with its flags. -/
def exp2Fast (free : Nat) (x : Val) : Nat × Fl :=
  if x.isNan then (canonNan 0, flNone)
  else
    let v := (transEval .exp2 x).1
    let c0 := (roundTo 0 0 false v).1
    let cs := (c0 :: [c0 - 2, c0 - 1, c0 + 1, c0 + 2, 2 ^ 31, 2 ^ 31 + 1, 2 ^ 31 + 2].filter (fun c => near2 c v))
    let c := cs.getD (free % cs.length) c0
    let r := decodeFloat (ffmt 0) c
    let isInf (y : Val) : Bool := match y with
      | .inf _ => true
      | _ => false
    let fl := if isInf v then flNone
      else if isInf r then flOF ||| flNX
      else if vCmp r v == .eq then flNone
      else flNX ||| flIf (!v.isZero && c % 2 ^ 31 < 2 ^ 23) flUF
    (c, fl)

/-! ### Reductions (major 0x24, R123, R155) -/

/-- The index of the first NaN, or else of the first largest (smallest) active element. -/
def reduceIdx (k : Ctx) (least : Bool) : Option Nat :=
  let code := vvFmt k
  let v := k.th.getV (vvA k)
  let vs := ((List.range (fmtCount code)).filter (vvActive k code)).map (fun i => (i, srcVal k code v (vvX k) i))
  match vs.find? (fun x => x.2.isNan) with
  | some x => some x.1
  | none => (vs.foldl (fun (m : Option (Nat × Val)) x => match m with
      | none => some x
      | some y => if vCmpZ x.2 y.2 == (if least then .lt else .gt) then some x else some y) none).map (·.1)

/-- What VRMAX and VRMIN give. -/
def reduceVal (k : Ctx) (least : Bool) : Nat :=
  let code := vvFmt k
  let nan := if isIntFmt code then 0 else if isMxFmt code then 0xFF00 else canonNan code
  match reduceIdx k least with
  | none => nan
  | some i =>
    let v := k.th.getV (vvA k)
    let c := elemAt code v i
    if (srcVal k code v (vvX k) i).isNan then nan
    else if isMxFmt code then c + 2 ^ 8 * scaleOf k.th (vvX k) (i / 32)
    else if code == 11 then ofSigned 8 (toSigned 4 c)
    else c

/-- A reduction row: what Sz receives. -/
def State.redRow (s : State) (c : BitVec 9) (t : BitVec 10) (f : BitVec 48) (g : Ctx → Nat) : State :=
  s.vecRow c t f (mVa + mMe + mFmt + mSx + mSz) (fun k => !validFmt (vvFmt k) || !scaleRegOk (vvFmt k) (vvX k))
    (fun k => k.th.setS (vvZ k) (BitVec.ofNat 64 (g k)))

/-! ### Mask operations (major 0x25) -/

/-- A row of mask logic on masks. -/
def State.maskRow (s : State) (c : BitVec 9) (t : BitVec 10) (f : BitVec 48) (mask : Nat)
    (op : BitVec 256 → BitVec 256 → BitVec 256) : State :=
  s.vecRow c t f mask (fun k => !isMaskReg (vvD k) || !isMaskReg (vvA k) || !isMaskReg (vvB k))
    (fun k => k.th.setM (vvD k) (op (k.th.getM (vvA k)) (k.th.getM (vvB k))))

/-- A row that reads one mask into Sz. -/
def State.maskRead (s : State) (c : BitVec 9) (t : BitVec 10) (f : BitVec 48) (mask : Nat) (bad : Ctx → Bool)
    (op : Ctx → BitVec 256 → Nat) : State :=
  s.vecRow c t f mask (fun k => !isMaskReg (vvA k) || bad k)
    (fun k => k.th.setS (vvZ k) (BitVec.ofNat 64 (op k (k.th.getM (vvA k)))))

/-- Set bits of a mask in rising order. -/
def setBits (m : BitVec 256) : List Nat := (List.range 256).filter (fun i => m.getLsbD i)

end Sys2Proof.Machine
end

