-- ==== Sys2Proof/Machine/AccRows.lean ====
section
/-! DEFINITION. Meanings of the accumulator instructions of a cell (04_jexkai_isa.md, R124 to R126; 05_arithmetic.md, R143 to
R153) and the accumulator bank (R71). -/

namespace Sys2Proof.Machine

/-! ### Groups and the bank (R71, R124) -/

/-- An accumulator of a group. -/
def accAt (x : Cell) (g i : Nat) : AccVal := Tab.get (.fin 0) x.accs (g * 16 + i)

/-- Set an accumulator. -/
def State.setAcc (s : State) (c g i : Nat) (v : AccVal) : State :=
  s.modCell c (fun x => { x with accs := Tab.set (.fin 0) x.accs (g * 16 + i) v })

/-- The group that leaves a full bank: the least recently used one of a thread that is not resident; when every thread is
resident, the least recently used one (R71 names none). -/
def bankVictim (x : Cell) : Option Nat :=
  let idle (g : Nat) : Bool := match Tab.find? x.accOwner g with
    | some t => !((x.thread? t).map (·.resident)).getD false
    | none => true
  match x.accBank.find? idle with
  | some g => some g
  | none => x.accBank.head?

/-- A group comes into the bank as the one used last; a full bank evicts another, which is counted. -/
def State.useGroup (s : State) (c g : Nat) : State :=
  let x := s.cell c
  if x.accBank.contains g || x.accBank.length < 16 then
    s.setCell c { x with accBank := x.accBank.filter (· != g) ++ [g] }
  else
    match bankVictim x with
    | some v => (s.setCell c { x with accBank := x.accBank.filter (· != v) ++ [g] }).inc (pgCELL c) 0x054
    | none => s

/-! ### Fields of VA (Table 04-3) -/

def vaA (k : Ctx) : Nat := fldOf k 44 4
def vaB (k : Ctx) : Nat := fldOf k 40 4
def vaG (k : Ctx) : Nat := fldOf k 35 5
def vaIdx (k : Ctx) : Nat := fldOf k 31 4
def vaMe (k : Ctx) : Bool := k.f.testBit 30
def vaMk (k : Ctx) : Nat := fldOf k 27 3
def vaFmt (k : Ctx) : Nat := fldOf k 23 4
def vaX (k : Ctx) : Nat := fldOf k 18 5
def vaY (k : Ctx) : Nat := fldOf k 13 5
def vaRm (k : Ctx) : Nat := fldOf k 11 2
def vaD (k : Ctx) : Nat := fldOf k 6 5
def vaSat (k : Ctx) : Bool := k.f.testBit 5

def mVaA : Nat := fm 44 4
def mVaB : Nat := fm 40 4
def mVaG : Nat := fm 35 5
def mVaIdx : Nat := fm 31 4
/-- ME and Mk. -/
def mVaMe : Nat := fm 27 4
def mVaFmt : Nat := fm 23 4
def mVaX : Nat := fm 18 5
def mVaY : Nat := fm 13 5
def mVaRm : Nat := fm 11 2
def mVaD : Nat := fm 6 5
def mVaSat : Nat := fm 5 1

/-- Whether element i is active. -/
def vaActive (k : Ctx) (i : Nat) : Bool := activeAt (vaMe k) (k.th.getM (vaMk k)) (vaFmt k) i

/-- The value of the handle register. -/
def vaHandle (k : Ctx) : Nat := (k.th.getS (vaG k)).toNat

/-- A handle that is allocated on the cell (R124). -/
def allocated (k : Ctx) (g : Nat) : Bool := Tab.has k.x.accOwner g

/-- An accumulator row: fields, a check of an address in Sd for ACCLD and ACCST, the handle, then its operation. -/
def State.accRow (s : State) (c : BitVec 9) (t : BitVec 10) (f : BitVec 48) (mask : Nat) (bad : Ctx → Bool)
    (image : Bool) (op : Ctx → State → Nat → Res) : State :=
  s.issue c t f none (fun k => !onlyBits k mask || (!vaMe k && vaMk k != 0) || bad k) (fun k s =>
    let a := k.th.getS (vaD k)
    if image && a.toNat % 16 != 0 then .trap s 0x04 0 a
    else if image && a.toNat + 80 > scratchSize k.x then .trap s 0x05 0 a
    else if !allocated k (vaHandle k) then .trap s 0x06 2 (if image then a else 0)
    else op k (s.useGroup k.c (vaHandle k)) (vaHandle k))

/-! ### Accumulation (R146 to R148) -/

/-- What one accumulator receives: its index, the contributions with their flags, and whether an input is NaN. -/
structure AccIn where
  idx  : Nat
  vals : List (Val × Fl)
  nan  : Bool

/-- Accumulate into a group: every accumulator or none (R126). -/
def State.accumulateAll (s : State) (k : Ctx) (g : Nat) (ins : List AccIn) : Res :=
  let rs := ins.map (fun a => (a, accumulate (accAt k.x g a.idx) (a.vals.map (fun v => accOf v.1)) a.nan))
  if rs.any (fun r => r.2.isNone) then .trap s 0x0C 0 0
  else
    let s1 := rs.foldl (fun s r => match r.2 with
      | some (v, _) => s.setAcc k.c g r.1.idx v
      | none => s) s
    let fl := flAll (rs.map (fun r => match r.2 with
      | some (_, f) => f ||| flAll (r.1.vals.map (·.2))
      | none => flNone))
    .done (s1.modThread k.c k.t (fun y => y.addFlags fl))

/-- The value of an element of a register with its scale register. -/
def vaVal (k : Ctx) (v : BitVec 2048) (sx i : Nat) : Val :=
  decodeElem (vaFmt k) (if isMxFmt (vaFmt k) then scaleOf k.th sx (i / 32) else 0) (elemAt (vaFmt k) v i)

/-- The products of the active elements from `lo` on. -/
def dotIn (k : Ctx) (idx lo n : Nat) : AccIn :=
  let a := k.th.getV (vaA k)
  let b := k.th.getV (vaB k)
  let ps := ((List.range n).map (lo + ·)).filter (vaActive k) |>.map (fun i => (vaVal k a (vaX k) i, vaVal k b (vaY k) i))
  { idx := idx, vals := ps.map (fun p => vMul p.1 p.2), nan := ps.any (fun p => p.1.isNan || p.2.isNan) }

/-- Format and scale registers of a dot product. -/
def dotBad (k : Ctx) : Bool :=
  !validFmt (vaFmt k) || !scaleRegOk (vaFmt k) (vaX k) || !scaleRegOk (vaFmt k) (vaY k)

def mDot : Nat := mVaA + mVaB + mVaG + mVaIdx + mVaMe + mVaFmt + mVaX + mVaY

/-- VDOT. -/
def execVdot (c : BitVec 9) (t : BitVec 10) (f : BitVec 48) (s : State) : Host.Outcome State Fault Refusal :=
  .next (s.accRow c t f mDot dotBad false (fun k s g =>
    s.accumulateAll k g [dotIn k (vaIdx k) 0 (fmtCount (vaFmt k))]))

/-- VDOTS: 2^IDX segments (R125). -/
def execVdots (c : BitVec 9) (t : BitVec 10) (f : BitVec 48) (s : State) : Host.Outcome State Fault Refusal :=
  .next (s.accRow c t f mDot (fun k => dotBad k || vaIdx k > 4) false (fun k s g =>
    let n := fmtCount (vaFmt k) / 2 ^ vaIdx k
    s.accumulateAll k g ((List.range (2 ^ vaIdx k)).map (fun i => dotIn k i (i * n) n))))

/-- VAXPY. -/
def execVaxpy (c : BitVec 9) (t : BitVec 10) (f : BitVec 48) (s : State) : Host.Outcome State Fault Refusal :=
  .next (s.accRow c t f (mVaA + mVaG + mVaIdx + mVaFmt + mVaX + mVaD)
    (fun k => !validFmt (vaFmt k) || vaFmt k == 11 || vaIdx k ≥ fmtCount (vaFmt k) / 16 || !scaleRegOk (vaFmt k) (vaX k))
    false (fun k s g =>
      let sv := if isIntFmt (vaFmt k) then intVal (k.th.getS (vaD k)).toInt else f32Of (k.th.getS (vaD k))
      let v := k.th.getV (vaA k)
      s.accumulateAll k g ((List.range 16).map (fun j =>
        let e := vaVal k v (vaX k) (16 * vaIdx k + j)
        { idx := j, vals := [vMul sv e], nan := sv.isNan || e.isNan }))))

/-- ACCADDS: FP32 or INT64. -/
def execAccadds (c : BitVec 9) (t : BitVec 10) (f : BitVec 48) (s : State) : Host.Outcome State Fault Refusal :=
  .next (s.accRow c t f (mVaG + mVaIdx + mVaFmt + mVaD) (fun k => vaFmt k != 0 && vaFmt k != 13) false (fun k s g =>
    let v := if vaFmt k == 0 then f32Of (k.th.getS (vaD k)) else intVal (k.th.getS (vaD k)).toInt
    s.accumulateAll k g [{ idx := vaIdx k, vals := [(v, flNone)], nan := v.isNan }]))

/-- ACCACC. -/
def execAccacc (c : BitVec 9) (t : BitVec 10) (f : BitVec 48) (s : State) : Host.Outcome State Fault Refusal :=
  .next (s.accRow c t f (mVaG + mVaIdx + mVaX + mVaY) (fun k => vaY k > 15) false (fun k s g =>
    let h := (k.th.getS (vaX k)).toNat
    if !allocated k h then .trap s 0x06 2 0
    else
      let v := accVal (accAt k.x h (vaY k))
      (s.useGroup k.c h).accumulateAll k g [{ idx := vaIdx k, vals := [(v, flNone)], nan := v.isNan }]))

/-- ACCNEG (R150). -/
def execAccneg (c : BitVec 9) (t : BitVec 10) (f : BitVec 48) (s : State) : Host.Outcome State Fault Refusal :=
  .next (s.accRow c t f (mVaG + mVaIdx) (fun _ => false) false (fun k s g =>
    match accNeg (accAt k.x g (vaIdx k)) with
    | some v => .done (s.setAcc k.c g (vaIdx k) v)
    | none => .trap s 0x0C 0 0))

/-- ACCCLR. -/
def execAccclr (c : BitVec 9) (t : BitVec 10) (f : BitVec 48) (s : State) : Host.Outcome State Fault Refusal :=
  .next (s.accRow c t f (mVaG + mVaIdx) (fun _ => false) false (fun k s g => .done (s.setAcc k.c g (vaIdx k) (.fin 0))))

/-- ACCCLRG. -/
def execAccclrg (c : BitVec 9) (t : BitVec 10) (f : BitVec 48) (s : State) : Host.Outcome State Fault Refusal :=
  .next (s.accRow c t f mVaG (fun _ => false) false (fun k s g =>
    .done ((List.range 16).foldl (fun s i => s.setAcc k.c g i (.fin 0)) s)))

/-! ### Rounding out (R151 to R153) -/

/-- Formats of ACCRND and ACCRNDV, with SAT 0 for FP32, FP16 and BF16. -/
def rndFmtOk (k : Ctx) : Bool :=
  (vaFmt k ≤ 4 || vaFmt k == 10 || vaFmt k == 12 || vaFmt k == 13) && !(vaSat k && vaFmt k ≤ 2)

/-- An accumulator rounded once. -/
def accRound (k : Ctx) (v : AccVal) : Nat × Fl := roundElem (vaFmt k) (vaRm k) (vaSat k) (accOut (vaRm k) v)

/-- ACCRND. -/
def execAccrnd (c : BitVec 9) (t : BitVec 10) (f : BitVec 48) (s : State) : Host.Outcome State Fault Refusal :=
  .next (s.accRow c t f (mVaG + mVaIdx + mVaFmt + mVaRm + mVaD + mVaSat) (fun k => !rndFmtOk k) false (fun k s g =>
    let (v, fl) := accRound k (accAt k.x g (vaIdx k))
    .done (s.modThread k.c k.t (fun y => (y.setS (vaD k) (BitVec.ofNat 64 v)).addFlags fl))))

/-- ACCRNDV. -/
def execAccrndv (c : BitVec 9) (t : BitVec 10) (f : BitVec 48) (s : State) : Host.Outcome State Fault Refusal :=
  .next (s.accRow c t f (mVaA + mVaG + mVaIdx + mVaMe + mVaFmt + mVaRm + mVaSat)
    (fun k => !rndFmtOk k || vaIdx k ≥ fmtCount (vaFmt k) / 16) false (fun k s g =>
      let code := vaFmt k
      let old := k.th.getV (vaA k)
      let lo := 16 * vaIdx k
      let rs := (List.range 16).map (fun j =>
        if vaActive k (lo + j) then accRound k (accAt k.x g j) else (elemAt code old (lo + j), flNone))
      let new := fromElems code ((List.range (fmtCount code)).map (fun i =>
        if lo ≤ i && i < lo + 16 then (rs.getD (i - lo) (0, flNone)).1 else elemAt code old i))
      .done (s.modThread k.c k.t (fun y => (y.setV (vaA k) new).addFlags (flAll (rs.map (·.2)))))))

/-! ### Images and handles -/

/-- ACCLD: a malformed image loads NaN and sets NV (R144, R145). -/
def execAccld (c : BitVec 9) (t : BitVec 10) (f : BitVec 48) (s : State) : Host.Outcome State Fault Refusal :=
  .next (s.accRow c t f (mVaG + mVaIdx + mVaD) (fun _ => false) true (fun k s g =>
    let a := (k.th.getS (vaD k)).toNat
    let s1 := s.scratchCount k.c a 80
    match accOfWord (leNat (scratchRead k.x a 80)) with
    | some v => .done (s1.setAcc k.c g (vaIdx k) v)
    | none => .done ((s1.setAcc k.c g (vaIdx k) .nan).modThread k.c k.t (fun y => y.addFlags flNV))))

/-- ACCST. -/
def execAccst (c : BitVec 9) (t : BitVec 10) (f : BitVec 48) (s : State) : Host.Outcome State Fault Refusal :=
  .next (s.accRow c t f (mVaG + mVaIdx + mVaD) (fun _ => false) true (fun k s g =>
    .done (s.scratchWrite k.c (k.th.getS (vaD k)).toNat (leBytes 80 (accWord (accAt k.x g (vaIdx k)))))))

/-- What the accumulators of a new group hold: free values; in replay mode they depend on nothing that varies (R87). -/
def newAccs (n g : Nat) : List (Nat × AccVal) :=
  (List.range 16).map (fun i => (g * 16 + i, (accOfWord (Config.accNew n (g * 16 + i) % 2 ^ 640)).getD .nan))

/-- ACCALLOC: the lowest handle that is not allocated. -/
def execAccalloc (c : BitVec 9) (t : BitVec 10) (f : BitVec 48) (s : State) : Host.Outcome State Fault Refusal :=
  .next (s.issue c t f none (fun k => !onlyBits k mVaD) (fun k s =>
    match (List.range (bwAcc k.x.bind)).find? (fun g => !allocated k g) with
    | none => .trap s 0x06 1 0
    | some g =>
      let n := if bwReplay k.x.bind then 0 else s.free + 1
      let s1 : State := { s with free := s.free + 1 }
      let s2 := s1.modCell k.c (fun x => { x with accOwner := Tab.put x.accOwner g k.t })
      let s3 := (newAccs n g).foldl (fun s a => s.setAcc k.c g (a.1 % 16) a.2) s2
      .done ((s3.useGroup k.c g).modThread k.c k.t (fun y => y.setS (vaD k) (BitVec.ofNat 64 g)))))

/-- ACCFREE: the accumulators are discarded. -/
def execAccfree (c : BitVec 9) (t : BitVec 10) (f : BitVec 48) (s : State) : Host.Outcome State Fault Refusal :=
  .next (s.accRow c t f mVaG (fun _ => false) false (fun k s g =>
    .done (s.modCell k.c (fun x =>
      { x with accOwner := Tab.del x.accOwner g, accBank := x.accBank.filter (· != g),
               accs := x.accs.filter (fun a => a.1 / 16 != g) }))))

end Sys2Proof.Machine
end

