-- ==== Sys2Proof/Machine/Ingress.lean ====
section
/-! DEFINITION. What the device does with a packet that arrives: forwarding (R293 to R298), validity (R291), authentication
(R356), the fence park (R299 to R301), the plot check of a request to memory (R41), probes (R306, R307), and the coherence
messages of an endpoint (R322, R323). -/

namespace Sys2Proof.Machine

/-! ### Receive buffers (R271) -/

/-- A packet leaves the receive buffer of its VC; XOFF is cleared when the free space has reached XON_AT. -/
def State.takeRx (s : State) (l : LinkNo) (p : Packet) : State :=
  let k := s.lnk l
  let v := p.vc.toNat
  let n := Tab.get 0 k.rx v
  let n' := n - (if p.flits < n then p.flits else n)
  let free := s.bufFlits l - n'
  let off := if free ≥ s.fld (linkPage l) (linkOff l 0x050) 16 12 then k.off &&& ~~~(1#4 <<< v) else k.off
  s.setLnk l { k with rx := Tab.set 0 k.rx v n', off := off }

/-! ### Requests for memory -/

/-- Alignment and length that a request must have (R313, R474), and the fields that Table 11-1 gives as zero
(log entry 36). -/
def reqFieldsOk (p : Packet) : Bool :=
  let o := p.opcode.toNat
  let zero := p.status == 0 && p.token == 0 && (p.f || p.fcount == 0) && (!p.rx || p.retPath.toNat < 2 ^ 48)
  let mem := o == 1 || o == 2 || o == 3 || (0x30 ≤ o && o ≤ 0x34)
  let place := !mem || fieldOf p.addr.toNat 44 4 == 0
  let shape := match o with
    | 0x03 =>
      match atomOfMinor p.mod.toNat with
      | some (k, wide) =>
        let n := if wide then 16 else 8
        p.addr.toNat % n == 0 && p.length.toNat == (if k == .cas then 2 * n else n) && p.ah != 3
      | none => false
    | 0x30 => p.addr.toNat % 128 == 0 && p.length == 0
    | 0x31 => p.addr.toNat % 128 == 0 && p.length == 0
    | 0x32 => p.addr.toNat % 128 == 0 && p.length == 0
    | 0x33 => p.addr.toNat % 128 == 0 && p.length == 0
    | 0x34 => p.addr.toNat % 128 == 0 && p.length == 128
    | _ => true
  zero && place && shape

/-- Rights that a request needs (R36, Table 12-1). -/
def reqRights (p : Packet) : BitVec 4 :=
  match p.opcode.toNat with
  | 0x01 => rightR
  | 0x30 => rightR
  | 0x31 => rightR ||| rightW
  | 0x02 => rightW
  | 0x32 => rightW
  | 0x34 => rightW
  | 0x03 => rightA
  | _ => 0

/-- What a request is to order 4 of the plot check (Table 14-4). -/
def reqNeed (p : Packet) : Need :=
  match p.opcode.toNat with
  | 0x01 => .read
  | 0x30 => .read
  | 0x02 => .write
  | 0x34 => .write
  | 0x33 => .write
  | _ => .exclusive

/-- A request that finds the device dormant: DEFER with the token of this wake, which starts or is recorded (R429). -/
def State.deferPower (s : State) (l : LinkNo) (p : Packet) : State :=
  let s1 := s.wakeEvent 1
  let w : LinkNo × Packet := (l, { p with data := [], gtag := [] })
  match s1.powerToken with
  | some t =>
    let known := s1.powerWait.any (fun x => x.2.srcEp == p.srcEp)
    { s1 with powerWait := if known then s1.powerWait else s1.powerWait ++ [w] }.answerDefer l p t
  | none =>
    match s1.newToken with
    | some (t, s2) => { s2 with powerToken := some t, powerWait := [w] }.answerDefer l p t
    | none => (s1.inc pgTIER 0x070).answerDefer l p noToken

/-- EVICT_CLEAN and WRITEBACK (Table 12-3, R323). A write-back that crosses a recall is its answer. -/
def State.dropCopy (s : State) (l : LinkNo) (p : Packet) : State :=
  let ofs := pktOfs p
  let line := lineOf (pktHandle p) ofs
  let back := p.opcode == 0x34
  let crossing : Option (Txn × Snoop) := match Tab.find? s.txns line with
    | some t => (t.snoops.find? (fun n => n.ep == p.srcEp && n.isRecall)).map (fun n => (t, n))
    | none => none
  match crossing with
  | some (t, n) =>
    let s1 := if back then s.recallData line t p.data else s
    let s2 : State := { s1 with crossed := s1.crossed ++ [(n.ep.toNat, n.tag.toNat)] }
    (s2.answerOk l p 0 []).settle line n.tag
  | none =>
    let (st, e, s1) := s.plotCheck (hubOfLink l.toNat) (pktHandle p) (.port p.srcEp p.job p.enc) (reqNeed p) (reqRights p)
      ofs (if back then 128 else 0)
    let owner := match s1.rec_ line with
      | some (.em (.ep o)) => o == p.srcEp
      | _ => false
    if st != stOK then s1.answer l p st
    else if !owner then s1.lateData.answer l p stRevoked
    else
      match (if back then s1.tierGate e ofs 128 true (.port l p) else (.pass, s1)) with
      | (.defer t, s2) => s2.answerDefer l p t
      | (.lost, s2) => s2.answer l p stUncorr
      | (.pass, s2) =>
        let s3 := if back then s2.homeStore (pktHandle p) e ofs p.data else s2
        (((s3.predReturn line false).setRec line none).answerOk l p 0 []).pump

/-- A load, store, atomic or coherence request at its ingress hub: plot check, tier, home. -/
def State.memRequest (s : State) (l : LinkNo) (p : Packet) : State :=
  let h := pktHandle p
  let ofs := pktOfs p
  if s.dormant then s.deferPower l p
  else if p.opcode == 0x33 || p.opcode == 0x34 then s.dropCopy l p
  else
    let (st, e, s1) :=
      s.plotCheck (hubOfLink l.toNat) h (.port p.srcEp p.job p.enc) (reqNeed p) (reqRights p) ofs (pktLen p)
    if st != stOK then s1.answer l p st
    else if (p.opcode == 0x30 || p.opcode == 0x31 || p.opcode == 0x32) && !s1.mayCache e p.srcEp then
      s1.answer l p stDenied
    else
      let store := p.opcode == 0x02 || p.opcode == 0x03
      match s1.tierGate e ofs (pktLen p) store (.port l p) with
      | (.defer t, s2) => s2.answerDefer l p t
      | (.lost, s2) => s2.answer l p stUncorr
      | (.pass, s2) => s2.homeArrive l p e

/-! ### Probes (R306, R307) -/

/-- The snapshot of the congestion counts into XBAR.CMAP0 to CMAP47, which clears them (R306). -/
def State.cmapSnap (s0 : State) : State :=
  let s := s0.links.foldl (fun s kv => s.xoffSettle (BitVec.ofNat 6 kv.1)) s0
  (List.range 48).foldl (fun s n =>
    s.wr pgXBAR (0x100 + 4 * n)
      (BitVec.ofNat 32 (Tab.get 0 s.marks n + 65536 * (if Tab.get 0 s.xoffUs n > 65535 then 65535 else Tab.get 0 s.xoffUs n))))
    s |> fun t => { t with marks := [], xoffUs := [] }

/-- The words of a snapshot as bytes. -/
def State.cmapBytes (s : State) : Bytes :=
  (List.range 48).flatMap (fun n => leBytes 4 (s.rd pgXBAR (0x100 + 4 * n)).toNat)

/-- XBAR.PROBE.FW_READY. -/
def State.fwReady (s : State) : Bool := s.bit pgXBAR 0x06C 0

/-- The mask of an epoch (R296). -/
def State.emask (s : State) (e : Bool) : Nat :=
  let o := if e then 0x050 else 0x048
  (s.rd pgXBAR o).toNat + (s.rd pgXBAR (o + 4)).toNat % 65536 * 2 ^ 32

/-- The port state byte of Table 11-5. -/
def State.portByte (s : State) (p : Nat) : Nat :=
  let k := s.lnk (BitVec.ofNat 6 p)
  k.state.toNat + 16 * (if k.isUp then k.width.toNat else 0)

/-- The 64 bytes of a PROBE_RSP (Table 11-5). -/
def State.probeBytes (s : State) (l : LinkNo) (p : Packet) : Bytes :=
  let r := s.fwReady
  leBytes 2 s.ep.toNat ++ leBytes 2 0x0B06 ++ leBytes 1 8 ++ leBytes 1 l.toNat ++ leBytes 2 0 ++
  (List.range 24).flatMap (fun i => leBytes 1 (s.portByte i)) ++ leBytes 6 (s.emask p.e) ++
  leBytes 1 (ofBool s.epoch + 2 * ofBool r) ++ leBytes 1 0 ++
  leBytes 4 (if r then s.freeGranules else 0) ++ leBytes 4 (if r then numGran else 0) ++ leBytes 16 0

/-- Answer a PROBE or a CMAP_READ: with its payload also while NOT_READY (R307). -/
def State.probe (s : State) (l : LinkNo) (p : Packet) : State :=
  let st : BitVec 8 := if s.fwReady then 0 else 0x24
  if p.opcode == 0x62 then
    let s1 := s.cmapSnap
    s1.sendRsp l p (fun r => { r with opcode := 0x61, status := st, mod := 1, data := s1.cmapBytes })
  else s.sendRsp l p (fun r => { r with opcode := 0x61, status := st, data := s.probeBytes l p })

/-! ### Answers of endpoints to snoops -/

/-- INV_ACK and RECALL_RSP (R313, R323). -/
def State.snoopAnswer (s : State) (p : Packet) : State :=
  let key := (p.srcEp.toNat, p.tag.toNat)
  match s.txnOf p.srcEp p.tag with
  | some (line, t, n) =>
    if n.isRecall != (p.opcode == 0x3F) then s.lateData
    else
      let s1 := if n.isRecall && p.mod.getLsbD 0 then s.recallData line t p.data else s
      s1.settle line n.tag
  | none =>
    if s.crossed.contains key then { s with crossed := s.crossed.erase key } else s.lateData

/-! ### Fences (R299 to R301) -/

/-- The two counters of a source endpoint. -/
def State.fence (s : State) (ep : BitVec 13) (fp : Bool) : Nat :=
  let c := Tab.get (0, 0) s.fences ep.toNat
  if fp then c.2 else c.1

def State.setFence (s : State) (ep : BitVec 13) (fp : Bool) (n : Nat) : State :=
  let c := Tab.get (0, 0) s.fences ep.toNat
  { s with fences := Tab.set (0, 0) s.fences ep.toNat (if fp then (c.1, n) else (n, c.2)) }

/-- Entries of a link's fence park (R301). -/
def State.parkSize (s : State) (l : LinkNo) : Nat := if s.isSplit (portOf l.toNat) then 128 else 256

/-- A request is performed: plot check and home, a channel, or a probe. -/
def State.performReq (s : State) (l : LinkNo) (p : Packet) : State :=
  if p.opcode == 0x04 then s.chanWrite l p
  else s.memRequest l p

/-- Parked packets of a flow whose count has been reached are released, at most `n` (R300). -/
def State.release (s : State) (ep : BitVec 13) (fp : Bool) : Nat → State
  | 0 => s
  | n + 1 =>
    match s.park.find? (fun k => k.pkt.srcEp == ep && k.pkt.fp == fp && k.pkt.fcount.toNat == s.fence ep fp) with
    | none => s
    | some k =>
      let s1 : State := { s with park := s.park.erase k }
      ((s1.setFence ep fp 0).performReq k.link k.pkt).release ep fp n

/-- A request of a flow addressed to the device (R300, R301). -/
def State.flow (s : State) (l : LinkNo) (p : Packet) : State :=
  let c := s.fence p.srcEp p.fp
  if !p.f then
    let s1 := (s.setFence p.srcEp p.fp ((c + 1) % 1024)).performReq l p
    s1.release p.srcEp p.fp s1.park.length
  else if c == p.fcount.toNat then (s.setFence p.srcEp p.fp 0).performReq l p
  else if c > p.fcount.toNat then ((s.setFence p.srcEp p.fp 0).inc pgXBAR 0x07C).performReq l p
  else if (s.park.filter (fun k => k.link == l)).length ≥ s.parkSize l then (s.inc pgXBAR 0x074).answer l p 0x21
  else { s with park := s.park ++ [{ link := l, pkt := p }] }

/-- A parked packet is removed and answered FENCE_TIMEOUT; its flow's counter is cleared (R301). -/
def State.fenceOut (s : State) (k : Parked) : State :=
  let s1 : State := { s with park := s.park.erase k }
  (((s1.setFence k.pkt.srcEp k.pkt.fp 0).inc pgXBAR 0x078).raise pgXBAR 0).answer k.link k.pkt 0x22

/-! ### Delivery and forwarding -/

/-- A packet discarded at its destination under R291. -/
def State.badPkt (s : State) : State := (s.inc pgXBAR 0x08C).raise pgXBAR 3

/-- A packet that fails authentication (R356). -/
def State.authFail (s : State) : State := (s.inc pgSEC 0x07C).raise pgSEC 2

/-- A packet for this device, valid and opened: requests go to their flow, probes to the responder, answers to snoops to the
home. What answers the device's own requests is handled by the rows of those answers. -/
def State.deliverPkt (s : State) (l : LinkNo) (p : Packet) : State :=
  let o := p.opcode.toNat
  if o == 0x60 || o == 0x62 then s.probe l p
  else if o == 0x3E || o == 0x3F then s.snoopAnswer p
  else if (rspOpcode o).isSome then s.flow l p
  else s

/-- Whether a packet that the device receives for itself passes R291. -/
def pktValid (p : Packet) : Bool :=
  validOpcode p.opcode.toNat && !p.rsv && p.length.toNat ≤ 4096 && ((rspOpcode p.opcode.toNat).isNone || reqFieldsOk p)

/-- The packet is for this device (R293). -/
def State.forMe (s : State) (p : Packet) : Bool :=
  p.dstEp == s.ep || (p.dstEp == 0x1FFF && (p.hop == 0 || pathEntry p.path p.hop.toNat == 0x3F))

/-- NO_ROUTE: answered to a request, counted either way (R295). -/
def State.pktNoRoute (s : State) (l : LinkNo) (p : Packet) : State :=
  let s1 := s.noRoute
  if (rspOpcode p.opcode.toNat).isSome then s1.answer l p 0x23 else s1

/-- Forward a transit packet (R293, R298). -/
def State.forward (s : State) (a : LinkNo) (p : Packet) : State :=
  let h := p.hop.toNat
  let out := pathEntry p.path h
  if h == 0 || out == 0x3F then s.pktNoRoute a p
  else if s.dormant then
    let s1 := s.wakeEvent 1
    if (rspOpcode p.opcode.toNat).isSome then s1.answer a p 0x24 else s1
  else if out > 47 || out == a.toNat || !(s.emask p.e).testBit out || !s.linkUp (BitVec.ofNat 6 out) then
    s.pktNoRoute a p
  else
    let p1 := { p with path := pathOf (fun i => if i == h then a.toNat else pathEntry p.path i),
                       hop := BitVec.ofNat 3 (h + 1) }
    let (p2, s1) := s.markCe (BitVec.ofNat 6 out) p1
    s1.enqueue (BitVec.ofNat 6 out) p2

/-- Take a packet that arrives on a link. `inside` handles what is for the device. -/
def State.receive (s : State) (l : LinkNo) (p : Packet) (inside : State → Packet → State) : State :=
  if !s.linkUp l then s
  else
    let s1 := s.takeRx l p
    if !s1.forMe p then s1.forward l p
    else if !pktValid p then
      if (rspOpcode p.opcode.toNat).isSome then s1.answer l p stInvalid else s1.badPkt
    else if p.enc then
      match s1.openPkt p with
      | some q => inside s1 q
      | none => s1.authFail
    else inside s1 p

/-- What READ brings with it: symbols of stored words that the surroundings have put in error (R213). -/
def State.hitSymbols (s : State) (l : List SymErr) : State :=
  l.foldl (fun s x =>
    if s.valid x.word || Tab.has s.wmeta x.word then s.setWm x.word { s.wm x.word with err := (s.wm x.word).err + x.syms }
    else s) s

end Sys2Proof.Machine
end

