-- ==== Sys2Proof/Machine/Engine.lean ====
section
/-! DEFINITION. Accesses of engine commands to the pool (R162, R163): through the page tables of the job's tenant, with the
checks of a cell access, waiting for tier fills, wakes and snoops. -/

namespace Sys2Proof.Machine

/-- Why an access of an engine command does not go through now: it waits, it waits for a fault at a TVA, or the command ends
with a status at a TVA. -/
inductive EngStop where
  | wait
  | fault (fid tva : Nat)
  | fail (status tva : Nat)
  deriving DecidableEq, Repr

/-- A part of an access that lies in one page. -/
structure EngPiece where
  h   : BitVec 16
  e   : PlotEntry
  ofs : Nat
  len : Nat
  deriving DecidableEq, Repr

/-- A range cut at 64 KiB boundaries, `n` parts at most. -/
def cutRange : Nat → Nat → Nat → List (Nat × Nat)
  | 0, _, _ => []
  | n + 1, a, len =>
    if len == 0 then []
    else
      let c := 65536 - a % 65536
      if len ≤ c then [(a, len)] else (a, c) :: cutRange n (a + c) (len - c)

def cutAll (l : List (Nat × Nat)) : List (Nat × Nat) :=
  l.flatMap (fun x => cutRange (x.2 / 65536 + 2) x.1 x.2)

/-- Translate a part of an access and bring its data within reach. A device in PS2 is waited for. -/
def State.engPiece (s : State) (q : XlReq) (need : BitVec 4) (store : Bool) (a len : Nat) : Except EngStop EngPiece × State :=
  if a + len > 2 ^ 57 then (.error (.fail stInvalid a), s)
  else if s.dormant then (.error .wait, s)
  else match s.xlate q a need with
    | (.status st, s1) => (.error (.fail st a), s1)
    | (.rights, s1) => (.error (.fail cstTranslation a), s1)
    | (.unmapped, s1) => (.error (.fail cstTranslation a), s1)
    | (.fault fid, s1) => (.error (.fault fid a), s1)
    | (.full, s1) => (.error .wait, s1)
    | (.ok h ofs, s1) =>
      let e := (s1.plot h).cur
      match s1.resident? e ofs len store with
      | none => (.error (.fail stUncorr a), s1)
      | some s2 =>
        match s2.insideReady h e ofs len store with
        | (true, s3) => (.ok { h := h, e := e, ofs := ofs, len := len }, s3)
        | (false, s3) => (.error .wait, s3)

/-- Every part of an access; the first that does not go through decides. -/
def State.engReach (s : State) (q : XlReq) (need : BitVec 4) (store : Bool) :
    List (Nat × Nat) → Except EngStop (List EngPiece) × State
  | [] => (.ok [], s)
  | (a, len) :: l =>
    match s.engPiece q need store a len with
    | (.error x, s1) => (.error x, s1)
    | (.ok p, s1) =>
      match s1.engReach q need store l with
      | (.ok ps, s2) => (.ok (p :: ps), s2)
      | r => r

/-- Read parts, joined. -/
def State.engReadPieces (s : State) (a : Nat) : List EngPiece → Except EngStop Bytes × State
  | [] => (.ok [], s)
  | p :: l =>
    match s.readPlot p.h p.e p.ofs p.len false with
    | (.error st, s1) => (.error (.fail st a), s1)
    | (.ok d, s1) =>
      match s1.engReadPieces a l with
      | (.ok r, s2) => (.ok (d ++ r), s2)
      | r => r

/-- Write parts. -/
def State.engWritePieces (s : State) (a : Nat) : List EngPiece → Bytes → Option EngStop × State
  | [], _ => (none, s)
  | p :: l, d =>
    match s.writePlot p.h p.e p.ofs (d.take p.len) false with
    | (0, s1) => s1.engWritePieces a l (d.drop p.len)
    | (st, s1) => (some (.fail st a), s1)

/-- The plots that a command reads enter its version vector with the version of the first read (R384). -/
def State.noteReads (s : State) (id : Nat) (ps : List EngPiece) : State :=
  match s.cmd? id with
  | none => s
  | some c =>
    let rs := ps.foldl (fun rs p => if Tab.has rs p.h.toNat then rs else Tab.put rs p.h.toNat p.e.version.toNat) c.reads
    s.putCmd id { c with reads := rs }

/-- Read ranges for a command. -/
def State.engRead (s : State) (id : Nat) (q : XlReq) (l : List (Nat × Nat)) : Except EngStop Bytes × State :=
  match s.engReach q rightR false (cutAll l) with
  | (.error x, s1) => (.error x, s1)
  | (.ok ps, s1) => (s1.noteReads id ps).engReadPieces ((l.head?.map (·.1)).getD 0) ps

/-- Bring ranges that are to be written within reach. -/
def State.engReady (s : State) (q : XlReq) (l : List (Nat × Nat)) : Option EngStop × State :=
  match s.engReach q rightW true (cutAll l) with
  | (.error x, s1) => (some x, s1)
  | (.ok _, s1) => (none, s1)

/-- Write ranges for a command, in order; nothing is written unless every part can be. -/
def State.engWrite (s : State) (q : XlReq) (l : List (Nat × Bytes)) : Option EngStop × State :=
  match s.engReach q rightW true (cutAll (l.map (fun x => (x.1, x.2.length)))) with
  | (.error x, s1) => (some x, s1)
  | (.ok ps, s1) => s1.engWritePieces ((l.head?.map (·.1)).getD 0) ps (l.flatMap (·.2))

/-! ### The course of an operation -/

/-- What a run of an operation comes to: it waits (with the state as it then is), or it ends with a status, RESULT, the bytes
it moved and its output bytes for the journal. -/
inductive OpRes where
  | stop (x : EngStop)
  | done (status : Nat) (result : Bytes) (moved : Nat) (out : Bytes)
  deriving DecidableEq, Repr

/-- A command waits for a fault at a TVA. -/
def State.cmdFault (s : State) (id fid tva : Nat) : State :=
  match s.cmd? id with
  | some c => s.putCmd id { c with fault := some fid, tva := tva }
  | none => s

/-- A bulk operation that a plot under a revoking command stops at an access counts there (R54, OPS_ABORTED). -/
def State.countAborted (s : State) (id tva : Nat) : State :=
  match s.cmd? id with
  | none => s
  | some c =>
    match s.leafAt c.tenant tva with
    | none => s
    | some l =>
      let p := s.plot l.handle
      s.setPlot l.handle { p with rev := p.rev.map (fun r => { r with aborted := r.aborted + 1 }) }

/-- A command's outcome takes effect. -/
def State.opEnd (s : State) (id : Nat) : OpRes → State
  | .stop .wait => s
  | .stop (.fault fid tva) => s.cmdFault id fid tva
  | .stop (.fail st tva) => (if st == stRevoked then s.countAborted id tva else s).finish id st
      (if st == stInvalid then [] else failResult tva 0) 0
  | .done st r moved out =>
    match s.cmd? id with
    | some c => (s.putCmd id { c with out := out }).finish id st r moved
    | none => s

/-- Run an operation of an opcode: the command is in execution, its parts have cells, and it waits for no fault. -/
def State.runOp (s : State) (id op : Nat) (f : State → Cmd → OpRes × State) : State :=
  match s.cmd? id with
  | none => s
  | some c =>
    if c.phase != .running || c.opcode != op || c.fault.isSome || !c.beds.isEmpty || s.phase != .running then s
    else
      let (r, s1) := f s c
      s1.opEnd id r

end Sys2Proof.Machine
end

