-- ==== Sys2Proof/Machine/Trellis.lean ====
section
/-! DEFINITION. The trellis (03_cells_and_threads.md): lending cells to the parts of pool operations (R79), stopping jobs (R88),
cells that fail and their spares (R28, R83 to R85), and the commands that wait for cells. -/

namespace Sys2Proof.Machine

/-! ### Parts of an operation (R79) -/

/-- The range of a command's leading operand. -/
def leadRange (c : Cmd) : Nat × Nat :=
  match c.opcode with
  | 0x03 => (c.field 0x20 8, c.field 0x28 8)
  | 0x04 => (c.field 0x20 8, c.field 0x28 4 * c.field 0x30 4)
  | 0x05 => (c.field 0x20 8, c.field 0x28 8)
  | 0x10 => (c.field 0x20 8, c.field 0x28 4 * c.field 0x2C 4)
  | 0x11 => (c.field 0x20 8, c.field 0x28 2 * 64)
  | _ => (c.field 0x30 8, 4 * c.field 0x28 4)

/-- The beds that hold the data of the parts: those of the first 24 interleave units of the leading operand (DESIGN CHOICE, log
entry 41); bed 0 where its page is not mapped here. -/
def State.partBeds (s : State) (c : Cmd) : List Nat :=
  let (a, len) := leadRange c
  match s.leafAt c.tenant a with
  | none => [0]
  | some l =>
    let e := (s.plot l.handle).cur
    let ofs := l.offset.toNat * 65536 + (a - l.tva.toNat)
    let n := if len / 4096 + 1 < 24 then len / 4096 + 1 else 24
    (List.range n).foldl (fun bs i => insNat (plotBed e (ofs + 4096 * i) % 24) bs) []

/-- Whether the operation of a command runs on cells from the library (Table 06-2). -/
def onCells (c : Cmd) : Bool := libraryOp c.opcode || c.opcode == 0x12

/-- The cells of a bed, a hub or the device in a state that a test admits. -/
def State.cellsWhere (s : State) (p : Nat → Cell → Bool) : List Nat :=
  (s.cells.filter (fun kv => p kv.1 kv.2)).map (·.1)

/-- The cell of a part, by the five choices of R79; `true` when it is to be lent. -/
def State.cellForPart (s : State) (job : BitVec 20) (bed : Nat) : Option (Nat × Bool) :=
  let mine (x : Cell) : Bool := x.state == .bound && x.job == some job
  let free (x : Cell) : Bool := x.state == .free
  let hub := hubOfBed bed
  let first (p : Nat → Cell → Bool) (lend : Bool) : Option (Nat × Bool) := (s.cellsWhere p).head?.map (fun c => (c, lend))
  match first (fun c x => mine x && cellBed c == bed) false with
  | some r => some r
  | none => match first (fun c x => free x && cellBed c == bed) true with
    | some r => some r
    | none => match first (fun c x => mine x && hubOfCell c == hub) false with
      | some r => some r
      | none => match first (fun c x => free x && hubOfCell c == hub) true with
        | some r => some r
        | none => (s.cellsWhere (fun c x => hubOfCell c != hub && (mine x || free x))).head?.map
            (fun c => (c, free (s.cell c)))

/-- A FREE cell becomes LENT to a job for one part (R79). -/
def State.lend (s : State) (c : Nat) (job : BitVec 20) (tenant : BitVec 12) (id idx n : Nat) : State :=
  let w := bindWord job tenant 0 16 16 64 true (s.tenantConf tenant) true
  s.modCell c (fun x =>
    { x.purged .lent with cause := x.cause, bind := w, bindC := ~~~w, cmd := some id, part := (idx, n) })

/-- The parts of a command that wait are given cells where there are any. -/
def State.lendParts (s : State) (id : Nat) : State :=
  match s.cmd? id with
  | none => s
  | some c =>
    let n := c.beds.length + c.cells.length
    c.beds.foldl (fun s bed =>
      match s.cellForPart c.job bed, s.cmd? id with
      | some (cell, lent), some k =>
        let s1 := if lent then s.lend cell k.job k.tenant id k.cells.length n else s
        let i := (k.beds.findIdx? (· == bed)).getD k.beds.length
        s1.putCmd id { k with beds := k.beds.eraseIdx i, cells := k.cells ++ [cell] }
      | _, _ => s) s

/-- A cell has become FREE: the parts that wait take it in the order of dispatch. -/
def State.lendWaiting (s : State) : State :=
  let ids := s.cmds.filter (fun kv => (kv.2.phase == .running || kv.2.phase == .ranked) && !kv.2.beds.isEmpty)
  let sorted := ids.foldl (fun l kv => insNat kv.2.order l) ([] : List Nat)
  sorted.foldl (fun s o => match s.cmds.find? (fun kv => kv.2.order == o && !kv.2.beds.isEmpty) with
    | some kv => s.lendParts kv.1
    | none => s) s

/-! ### Positions of a job (R77, R78, R93) -/

/-- What holds a position of a job: a BOUND cell, a spare in its quick self-test that will take the position, or nothing since
R85 lost it. -/
inductive Holder where
  | cell (c : Nat)
  | coming (spare : Nat)
  | lost
  deriving DecidableEq, Repr

/-- The positions that a job holds: position, bed, holder. -/
def State.positions (s : State) (job : BitVec 20) : List (Nat × Nat × Holder) :=
  (s.boundCells job).map (fun c => (bwPos (s.cell c).bind, cellBed c, .cell c)) ++
  (s.substs.filter (fun r => r.toBound && bwJob r.bind == job)).map (fun r => (bwPos r.bind, cellBed r.spare, .coming r.spare)) ++
  ((Tab.find? s.jobs job.toNat).map (fun j => j.lost.map (fun p => (p.1, p.2, Holder.lost)))).getD []

/-- Every bed that occurs occurs as often as any other. -/
def evenBeds (l : List Nat) : Bool :=
  let ns := ((List.range 24).map (fun b => l.count b)).filter (· != 0)
  ns.all (fun n => n == ns.headD 0)

/-- The cells lent to a job. -/
def State.lentTo (s : State) (job : BitVec 20) : List Nat :=
  s.cellsWhere (fun _ x => x.state == .lent && x.job == some job)

/-- A job holds a cell or a kernel slot (Table 03-7). -/
def State.jobHolds (s : State) (job : BitVec 20) : Bool :=
  !(s.positions job).isEmpty || !(s.lentTo job).isEmpty || s.kslots.any (fun kv => kv.2.job == job)

/-- A command of the job runs. -/
def State.jobRuns (s : State) (job : BitVec 20) : Bool :=
  s.cmds.any (fun kv => kv.2.job == job && (kv.2.phase == .running || kv.2.phase == .ranked))

/-- The kernel slots of a job are freed (R82). -/
def State.freeSlots (s : State) (job : BitVec 20) : State := { s with kslots := s.kslots.filter (fun kv => kv.2.job != job) }

/-- A tenant that exists and is not being removed. -/
def State.tenantOpen (s : State) (t : BitVec 12) : Bool :=
  ((Tab.find? s.tenants t.toNat).map (fun x => !x.removing)).getD false

/-! ### Commands that wait for cells -/

def trlArg (s : State) (n : Nat) : Nat := s.arg pgTRL n

/-- A TRL command completes with a RESULT. -/
def State.trlDone (s : State) (status result : Nat) : State :=
  (s.setFld pgTRL 0x054 16 16 (result % 65536)).complete pgTRL status

/-- A TRL command goes on waiting with BUSY at 1. -/
def State.trlWait (s : State) (op : BitVec 4) : State :=
  { s with wait := Tab.put s.wait pgTRL { op := op, auto := false, h := 0 } }

/-- BIND (R77, R78, R93): new cells take the positions above the highest that the job holds, so that positions count from 0 (R62;
DEDUCED, log entry 42). -/
def State.trlBind (s : State) (rsv : Nat) : State :=
  let a0 := trlArg s 0
  let a1 := trlArg s 1
  let a2 := trlArg s 2
  let job := BitVec.ofNat 20 (fieldOf a0 0 20)
  let t := BitVec.ofNat 12 (fieldOf a0 20 12)
  let beds := (List.range 24).filter (fun b => bitOf a1 b)
  let n := fieldOf a1 24 5
  let replay := bitOf a1 29
  let groups := fieldOf a2 0 5
  let scr := fieldOf a2 8 5
  let acc := fieldOf a2 16 7
  let held := s.positions job
  let decl (j : Job) : Bool :=
    j.groups == groups && j.scrMib == scr && j.accGroups == acc && j.replay == replay
  let freeOn (b : Nat) : List Nat := s.cellsWhere (fun c x => x.state == .free && cellBed c == b)
  let soon (b : Nat) : Nat := (s.cellsWhere (fun c x => x.state == .purging && cellBed c == b)).length +
    (s.substs.filter (fun r => !r.toBound && cellBed r.spare == b)).length
  if s.argsBad pgTRL rsv [0xFFFFFFFF, 0x3FFFFFFF, 0x007F1F1F, 0] || beds.isEmpty || n == 0 || n > 16 || groups == 0 ||
      groups > 16 || scr == 0 || scr > 16 || acc == 0 || acc > 64 then s.trlDone 0x01 0
  else if !s.tenantOpen t then s.trlDone 0x02 0
  else if s.jobTenant job != none && s.jobTenant job != some t then s.trlDone 0x04 0
  else if !held.isEmpty && !((Tab.find? s.jobs job.toNat).map decl).getD false then s.trlDone 0x04 0
  else if !evenBeds (held.map (·.2.1) ++ beds.flatMap (fun b => List.replicate n b)) then s.trlDone 0x04 0
  else if beds.any (fun b => (freeOn b).length < n) then
    if beds.all (fun b => (freeOn b).length + soon b ≥ n) then s.trlWait 1 else s.trlDone 0x03 0
  else
    let s1 := s.takeJob job t
    let j := (Tab.find? s1.jobs job.toNat).getD { tenant := t }
    let first := held.foldl (fun m p => if m < p.1 + 1 then p.1 + 1 else m) 0
    let cells := beds.flatMap (fun b => (freeOn b).take n)
    let j1 : Job := { j with groups := groups, scrMib := scr, accGroups := acc, replay := replay }
    let s2 : State := { s1 with jobs := Tab.put s1.jobs job.toNat j1 }
    let s3 := cells.zipIdx.foldl (fun s (c, i) =>
      let w := bindWord job t (first + i) groups scr acc replay (s.tenantConf t) false
      s.modCell c (fun x => { x.purged .bound with cause := x.cause, bind := w, bindC := ~~~w })) s2
    s3.trlDone 0x00 cells.length

/-- The RESET_JOB that waits completes when no cell of the job is being purged any more (R88). -/
def State.trlResetDone (s : State) (n : Nat) : State :=
  let job := BitVec.ofNat 20 (fieldOf (trlArg s 0) 0 20)
  if (s.cellsWhere (fun _ x => x.state == .purging && bwJob x.bind == job)).isEmpty then s.trlDone 0x00 n else s.trlWait 3

/-- The TRL command that waits is looked at again. -/
def State.trlAgain (s : State) : State :=
  match Tab.find? s.wait pgTRL with
  | none => s
  | some w =>
    let s1 : State := { s with wait := Tab.del s.wait pgTRL }
    if w.op == 1 then s1.trlBind 0 else s1.trlResetDone (s.fld pgTRL 0x054 16 16)

/-- Cells have come free. -/
def State.cellsFreed (s : State) : State := s.trlAgain.lendWaiting

/-! ### Resetting a job (R88) -/

/-- Requests of a command that have not been sent are dropped. -/
def State.cancelOwn (s : State) (id : Nat) : State :=
  { s with own := s.own.filter (fun o => o.sent.isSome || !(match o.kind with
    | .copyRead k _ => k == id
    | .copyWrite k _ => k == id
    | .returnPage k _ => k == id
    | .migrate _ _ => false)) }

/-- A command of a job that is reset ends JOB_RESET; a PUBLISH that the PLM has begun runs to its end. -/
def State.resetCmd (s : State) (id : Nat) : State :=
  if s.publishing.any (fun p => p.cmd == id) then s
  else
    let s1 : State := { s with heldPublish := s.heldPublish.filter (· != id) }
    ((s1.endKernel id).cancelOwn id).finish id cstJobReset [] 0

/-- Stop and purge everything of a job: the number of cells released. -/
def State.resetJob (s : State) (job : BitVec 20) : Nat × State :=
  let ids := (s.cmds.filter (fun kv => kv.2.job == job &&
    (kv.2.phase == .running || kv.2.phase == .ranked || kv.2.phase == .held || kv.2.phase == .staging))).map (·.1)
  let s1 := ids.foldl (fun s id => s.resetCmd id) s
  let cells := s1.cellsWhere (fun _ x => (x.state == .bound || x.state == .lent) && x.job == some job)
  let s2 := cells.foldl (fun s c => (s.modCell c Cell.startPurge).dropCellTlb c) s1
  let s3 : State := { s2 with
    substs := s2.substs.map (fun r => if bwJob r.bind == job then { r with toBound := false } else r)
    jobs := s2.jobs.map (fun kv => if kv.1 == job.toNat then (kv.1, { kv.2 with lost := [], kernel := none }) else kv)
    kload := match s2.kload with
      | some k => if k.job == job then none else some k
      | none => none }
  let s4 := if s2.kload.isSome && s3.kload.isNone then s3.trlDone 0x06 0 else s3
  (cells.length, ((s4.freeSlots job).dropJobTlb job).dropJob job)

/-! ### Cells that fail (R28, R83 to R85) -/

/-- The operation of a command is given to cells again from its descriptor (R28). -/
def State.redispatch (s : State) (id : Nat) : State :=
  match s.cmd? id with
  | none => s
  | some c =>
    let s1 := c.cells.foldl (fun s n =>
      let x := s.cell n
      if x.state == .lent && x.cmd == some id then (s.setCell n x.startPurge).dropCellTlb n else s) s
    s1.putCmd id { c with cells := [], beds := s.partBeds c, fault := none }

/-- A cell becomes FAILED with a cause: what ran on it is lost (R28), and it is cleared. -/
def State.failCell (s : State) (c : Nat) (cause : BitVec 8) : State :=
  let x := s.cell c
  let s1 := match x.state, x.cmd with
    | .bound, some id => (s.endKernel id).finish id 0x10 (leBytes 2 (bwPos x.bind)) 0
    | _, _ => s
  let s2 := s1.setCell c { x.purged .failed with cause := cause }
  let ops := (s2.cmds.filter (fun kv => (kv.2.phase == .running || kv.2.phase == .ranked) && kv.2.cells.contains c)).map (·.1)
  (ops.foldl (fun s id => s.redispatch id) s2).dropCellTlb c

/-- A bit of a bed in a register of TRL. -/
def State.bedBit (s : State) (o bed : Nat) : State := s.setFld pgTRL o bed 1 1

/-- A bed is left with fewer than 16 enabled cells; a job loses the position (R85). -/
def State.loseCell (s : State) (bed : Nat) (bind : Option W64) : State :=
  let s1 := (s.bedBit 0x064 bed).raise pgTRL 2
  match bind with
  | none => s1
  | some w =>
    { s1 with jobs := s1.jobs.map (fun kv =>
        if kv.1 == (bwJob w).toNat then (kv.1, { kv.2 with lost := kv.2.lost ++ [(bwPos w, bed)] }) else kv) }

/-- The spare cell of a bed. -/
def spareOf (bed : Nat) : Nat := 17 * bed + 16

/-- A cell that has failed is replaced by the spare of its bed, which first runs its quick self-test; with no spare left the bed
is reduced (R83, R85). -/
def State.replaceCell (s : State) (c : Nat) (cause : BitVec 8) (byCmd : Bool) : State :=
  let x := s.cell c
  let bed := cellBed c
  let bound := x.state == .bound && bwValid x.bind
  let s1 := s.failCell c cause
  let sp := s1.cell (spareOf bed)
  if sp.state == .spare then
    { s1.setCell (spareOf bed) { sp with state := .selftest } with
      substs := s1.substs ++ [{ failed := c, spare := spareOf bed, toBound := bound, bind := x.bind, byCmd := byCmd }] }
  else (s1.loseCell bed (if bound then some x.bind else none)).lendWaiting

/-- Bit of HW_FAULT and cause of a hard fault (Table 03-5). -/
def State.noteFault (s : State) (c bit : Nat) : State := (s.setFld (pgCELL c) 0x060 bit 1 1).raise (pgCELL c) 0

/-- The spare of a bed is enabled or FAILED (TRL.SPARE_USED). -/
def State.spareUsed (s : State) (bed : Nat) : State := s.bedBit 0x060 bed

/-- The quick self-test of a bed's spare ends (R83). -/
def State.substDone (s : State) (bed : Nat) (pass : Bool) : State :=
  match s.substs.find? (fun r => cellBed r.spare == bed) with
  | none => s
  | some r =>
    let s1 : State := { s with substs := s.substs.filter (fun y => y.spare != r.spare) }
    let sp := s1.cell r.spare
    if pass then
      let sp1 : Cell := if r.toBound then { sp.purged .bound with bind := r.bind, bindC := ~~~r.bind } else sp.purged .free
      let s2 := (s1.setCell r.spare sp1).spareUsed bed
      let s3 := s2.wr pgTRL 0x068 (BitVec.ofNat 32 (r.failed + 2 ^ 16 * r.spare + 2 ^ 31))
      let s4 := (((s3.count pgTRL 0x06C 0 8 1).raise pgTRL 1).raise (pgCELL r.failed) 2).raise (pgCELL r.spare) 2
      (if r.byCmd then s4.trlDone 0x00 0 else s4).cellsFreed
    else
      let s2 := ((s1.setCell r.spare { sp.purged .failed with cause := 1 }).noteFault r.spare 5).spareUsed bed
      let s3 := s2.loseCell bed (if r.toBound then some r.bind else none)
      (if r.byCmd then s3.trlDone 0x09 0 else s3).cellsFreed

/-- A hard fault of a cell with its cause and its bit of HW_FAULT (R84, R85). -/
def State.hardFault (s : State) (c : Nat) (cause : BitVec 8) (bit : Nat) : State :=
  let x := s.cell c
  let bed := cellBed c
  match x.state with
  | .failed => s
  | .selftest =>
    if s.substs.any (fun r => r.spare == c) then s.substDone bed false
    else (s.setCell c { x with state := .failed, cause := cause }).noteFault c bit
  | .spare => ((s.noteFault c bit).failCell c cause).spareUsed bed
  | _ => (s.noteFault c bit).replaceCell c cause false

end Sys2Proof.Machine
end

