-- ==== Sys2Proof/Machine/Desc.lean ====
section
/-! DEFINITION. Descriptors of pool operations (06_pool_operations.md): the fields of each opcode and the checks of R162. -/

namespace Sys2Proof.Machine

/-- A tenant virtual address: 57 bits (R163). -/
def tvaBits : Nat := 2 ^ 57 - 1

/-- The bits that a descriptor's fields use: byte offset and bits (Tables 06-1, 06-8 to 06-11, 06-14 to 06-17); none for an
opcode that is not in Table 06-2. -/
def descFields (op : Nat) : Option (List (Nat × Nat)) :=
  let tva (l : List Nat) : List (Nat × Nat) := l.map (fun o => (o, tvaBits))
  match op with
  | 0x01 => some [(0x20, tvaBits), (0x28, 2 ^ 64 - 1), (0x30, 2 ^ 128 - 1)]
  | 0x02 => some ((0x28, 2 ^ 64 - 1) :: tva [0x20, 0x30])
  | 0x03 => some ((0x28, 2 ^ 64 - 1) :: tva [0x20, 0x30])
  | 0x04 => some ([(0x28, 2 ^ 96 - 1), (0x34, 0xF), (0x35, 0xF), (0x36, 7), (0x37, 3)] ++ tva [0x20, 0x38])
  | 0x05 => some ((0x28, 2 ^ 64 - 1) :: tva [0x20, 0x30])
  | 0x10 => some ([(0x28, 2 ^ 80 - 1), (0x32, 0xF), (0x33, 7), (0x34, 0xF), (0x35, 3), (0x38, 2 ^ 32 - 1), (0x60, 2 ^ 32 - 1)] ++
      tva [0x20, 0x40, 0x48, 0x50, 0x58])
  | 0x11 => some [(0x20, tvaBits), (0x28, 2 ^ 48 - 1), (0x2E, 3), (0x2F, 0xF), (0x30, 0xF), (0x31, 0xF), (0x32, 7),
      (0x34, 2 ^ 64 - 1)]
  | 0x12 => some ([(0x20, 0x3FF), (0x24, 2 ^ 64 - 1), (0x2C, 0xF), (0x2D, 0xF), (0x2E, 0xF), (0x2F, 3), (0x40, 2 ^ 32 - 1)] ++
      tva [0x30, 0x38])
  | 0x20 => some [(0x20, 0x1FFF), (0x22, 0x1FFF), (0x24, 1), (0x28, 2 ^ 192 - 1)]
  | 0x30 => some [(0x20, 0x3FF), (0x24, 2 ^ 24 - 1), (0x28, 2 ^ 512 - 1), (0x68, 2 ^ 32 - 1)]
  | 0x40 => some [(0x20, 2 ^ 32 - 1), (0x28, 2 ^ 64 - 1)]
  | 0x41 => some [(0x20, tvaBits), (0x28, 2 ^ 64 - 1)]
  | 0x50 => some [(0x20, 2 ^ 512 - 1)]
  | _ => none

/-- The fields of the common part (Table 06-1). -/
def commonFields : List (Nat × Nat) :=
  [(0, 0xFF), (1, 7), (2, 0xFFFF), (4, 0xFFFFF), (8, 0xFFF), (0x10, 2 ^ 64 - 1)]

/-- Bits in their place in the 128 bytes. -/
def fieldMask (l : List (Nat × Nat)) : Nat := l.foldl (fun n x => n + x.2 * 2 ^ (8 * x.1)) 0

/-- Bytes of `n` elements of a format in memory: packed codes, then the block scales of an MX format (R102, R109, R172). -/
def codeBytes (fmt n : Nat) : Nat := (n * fmtBits fmt + 7) / 8
def rowBytes (fmt n : Nat) : Nat := codeBytes fmt n + (if isMxFmt fmt then n / 32 else 0)

/-- A count of elements that a format admits. -/
def countOk (fmt n : Nat) : Bool := (!isMxFmt fmt || n % 32 == 0) && (fmtBits fmt != 4 || n % 2 == 0)

/-- SAT with a format that does not take it (R119, R172). -/
def satBad (sat : Bool) (ofmt : Nat) : Bool := sat && ofmt ≤ 2

/-- Output formats of REDUCE and COLLECT, and of GATHER_POOL. -/
def outFmt (f : Nat) : Bool := f ≤ 4 || f == 0xA || f == 0xC || f == 0xD
def gatherFmt (f : Nat) : Bool := f ≤ 2 || f == 0xC || f == 0xD

end Sys2Proof.Machine

namespace Sys2Proof

open Machine

/-- A field holds a value that its table does not allow; `own` is the device's endpoint. -/
def Cmd.valueBad (c : Cmd) (own : Nat) : Bool :=
  let f (ofs len : Nat) : Nat := c.field ofs len
  let within (n lo hi : Nat) : Bool := decide (lo ≤ n) && decide (n ≤ hi)
  match c.opcode with
  | 0x01 => !within (f 0x28 8) 1 (2 ^ 44)
  | 0x02 => !within (f 0x28 8) 1 (2 ^ 44)
  | 0x03 => !within (f 0x28 8) 1 (2 ^ 44)
  | 0x04 =>
    let ifmt := f 0x34 1
    let cols := f 0x2C 4
    f 0x20 8 % 64 != 0 || f 0x28 4 == 0 || !within cols 1 65536 || !validFmt ifmt || !countOk ifmt cols ||
      f 0x30 4 % 64 != 0 || f 0x30 4 < rowBytes ifmt cols || !outFmt (f 0x35 1) || f 0x36 1 % 4 == 3 ||
      satBad ((f 0x36 1).testBit 2) (f 0x35 1) || f 0x38 8 % 64 != 0
  | 0x05 => !within (f 0x28 8) 0 (2 ^ 44) || f 0x30 8 % 64 != 0
  | 0x10 =>
    let tfmt := f 0x32 1
    let d := f 0x30 2
    f 0x20 8 % 64 != 0 || f 0x28 4 == 0 || !within d 1 16384 || !validFmt tfmt || !countOk tfmt d || f 0x2C 4 % 64 != 0 ||
      f 0x2C 4 < rowBytes tfmt d || f 0x33 1 % 4 == 3 || !gatherFmt (f 0x34 1) || !within (f 0x38 4) 1 0x1000000 ||
      f 0x40 8 % 4 != 0 || f 0x48 8 % 4 != 0 || f 0x50 8 % 4 != 0 || (!(f 0x33 1).testBit 2 && f 0x50 8 != 0) ||
      f 0x58 8 % 64 != 0 || f 0x60 4 % 64 != 0 || f 0x60 4 < codeBytes (f 0x34 1) d
  | 0x11 =>
    let hq := f 0x2A 1
    let g := f 0x2B 1
    let d := f 0x2C 2
    let sc := f 0x38 4
    f 0x20 8 % 64 != 0 || !within (f 0x28 2) 1 4096 || !within hq 1 128 || !within g 1 hq || hq % g != 0 ||
      !(d == 64 || d == 128 || d == 256) || f 0x2E 1 == 3 || !within (f 0x2F 1) 3 9 ||
      !(f 0x30 1 == 0 || f 0x30 1 == 2) || !(f 0x31 1 == 0 || f 0x31 1 == 2) ||
      fieldOf sc 23 8 == 255 || fieldOf sc 0 31 == 0
  | 0x12 =>
    let n := f 0x24 2
    let e := f 0x28 4
    let ifmt := f 0x2C 1
    !within n 1 8192 || f 0x26 2 ≥ n || !within e 1 0x10000000 || ((f 0x2E 1).testBit 2 && e % n != 0) || !countOk ifmt e ||
      !(ifmt ≤ 6 || ifmt == 0xC || ifmt == 0xD) || !outFmt (f 0x2D 1) || f 0x2E 1 % 4 == 3 ||
      satBad ((f 0x2E 1).testBit 3) (f 0x2D 1) || f 0x30 8 % 64 != 0 || f 0x38 8 % 64 != 0
  | 0x20 => f 0x20 2 == own || f 0x22 2 == own || !within (f 0x38 8) 1 (2 ^ 40)
  | 0x30 => f 0x24 4 % 8 != 0
  | 0x41 => f 0x20 8 % 65536 != 0 || f 0x28 8 % 65536 != 0 || f 0x28 8 == 0
  | _ => false

/-- A descriptor that completes with INVALID_FIELD at the checks of R162. -/
def Cmd.descBad (c : Cmd) (own : Nat) : Bool :=
  match descFields c.opcode with
  | none => true
  | some l =>
    let m := fieldMask (commonFields ++ l)
    let d := leNat c.desc
    (d &&& m) != d || c.valueBad own

end Sys2Proof
end

