-- ==== Sys2Proof/Machine/PoolMath.lean ====
section
/-! DEFINITION. The arithmetic of pool operations on bytes (06_pool_operations.md): rows of elements, REDUCE and COLLECT, bags of
GATHER_POOL, and the encodings, pages and rows of ATTEND. -/

namespace Sys2Proof.Machine

/-! ### Rows (R102, R109, R172) -/

/-- Element i of packed codes. -/
def packedCode (fmt : Nat) (d : Bytes) (i : Nat) : Nat :=
  let b := fmtBits fmt * i
  fieldOf (leNat ((d.drop (b / 8)).take (fmtBits fmt / 8 + 2))) (b % 8) (fmtBits fmt)

/-- The value of element i of a row of n elements, with its block scale for an MX format. -/
def rowVal (fmt n : Nat) (row : Bytes) (i : Nat) : Val :=
  let sc := ((row.drop (codeBytes fmt n + i / 32)).headD 0).toNat
  decodeElem fmt (if isMxFmt fmt then sc else 0) (packedCode fmt row i)

/-- Codes joined, lowest first, `w` bits each. -/
def joinCodes (w : Nat) : List Nat → Nat
  | [] => 0
  | c :: l => c + 2 ^ w * joinCodes w l

/-- Codes packed as a row. -/
def packCodes (fmt : Nat) (l : List Nat) : Bytes := leBytes (codeBytes fmt l.length) (joinCodes (fmtBits fmt) l)

/-- An exact sum as an accumulator holds it (R147). -/
def accSum (l : List Val) : AccVal := l.foldl (fun a v => accJoin a (accOf v)) (.fin 0)

/-- The exact quotient of an accumulator's value by a count (R173). -/
def quotVal (rm : Rm) (a : AccVal) (c : Nat) : Val :=
  match a with
  | .fin n =>
    if n == 0 then accOut rm a
    else
      let m := n.natAbs * 2 ^ 128
      sticky (decide (n < 0)) (m / c) (m % c == 0) (-448)
  | _ => accVal a

/-- The exact quotient of two FP32 values. -/
def divVal (a b : Val) : Val :=
  match a, b with
  | .nan, _ => .nan
  | _, .nan => .nan
  | .inf _, .inf _ => .nan
  | .inf n, y => .inf (n != y.neg)
  | x, .inf n => .fin (x.neg != n) 0 0
  | .fin n1 m1 e1, .fin n2 m2 e2 =>
    if m2 == 0 then (if m1 == 0 then .nan else .inf (n1 != n2))
    else if m1 == 0 then .fin (n1 != n2) 0 0
    else
      let m := m1 * 2 ^ 128
      sticky (n1 != n2) (m / m2) (m % m2 == 0) (e1 - e2 - 128)

/-- Reduce values by SUM, MAX or MIN (codes 0, 1, 2) to a code of a format (R172, R155, R156). -/
def reduceVals (op ofmt rm : Nat) (sat : Bool) (l : List Val) : Nat :=
  let v := match op, l with
    | 0, _ => accOut rm (accSum l)
    | _, [] => Val.nan
    | 1, x :: r => r.foldl vMax x
    | _, x :: r => r.foldl vMin x
  (roundElem ofmt rm sat v).1

/-- The packed result of a reduction of rows of n elements. -/
def reduceRows (ifmt ofmt op rm : Nat) (sat : Bool) (n : Nat) (rows : List Bytes) : Bytes :=
  packCodes ofmt ((List.range n).map (fun i => reduceVals op ofmt rm sat (rows.map (fun r => rowVal ifmt n r i))))

/-! ### GATHER_POOL (R173) -/

/-- The parameters of a bag's arithmetic. -/
structure BagFmt where
  d    : Nat
  tfmt : Nat
  mode : Nat
  ofmt : Nat
  rm   : Nat
  deriving DecidableEq, Repr

/-- One output row: rows of the table with their weights, in index order; none for a bag in error. -/
def bagRow (f : BagFmt) (bag : Option (List (Val × Bytes))) : Bytes :=
  let round (v : Val) : Nat := (roundElem f.ofmt f.rm (isIntFmt f.ofmt) v).1
  let elem (l : List (Val × Bytes)) (e : Nat) : Nat :=
    let xs := l.map (fun x => (vMul x.1 (rowVal f.tfmt f.d x.2 e)).1)
    match xs with
    | [] => 0
    | x :: r =>
      match f.mode with
      | 0 => round (accOut f.rm (accSum xs))
      | 1 => round (quotVal f.rm (accSum xs) xs.length)
      | _ => round (r.foldl vMax x)
  match bag with
  | none => packCodes f.ofmt (List.replicate f.d (if isIntFmt f.ofmt then 0 else canonNan f.ofmt))
  | some l => packCodes f.ofmt ((List.range f.d).map (elem l))

/-! ### ATTEND (R174 to R178) -/

/-- A value rounded once to FP32 in RNE. -/
def r32 (v : Val) : Val := decodeElem 0 0 (roundTo 0 0 false v).1

/-- q8 of values: codes and the scales of their blocks of 32 (none for a format that is not MX). -/
def q8 (fmt : Nat) : Nat → List Val → List Nat × List Nat
  | 0, _ => ([], [])
  | fuel + 1, l =>
    if l.isEmpty then ([], [])
    else if isMxFmt fmt then
      let (sc, cs, _) := mxQuantise fmt 0 true ((l.take 32).map some)
      let (cs', ss') := q8 fmt fuel (l.drop 32)
      (cs ++ cs', sc :: ss')
    else (l.map (fun v => (roundTo fmt 0 true v).1), [])

/-- Codes with their block scales as values. -/
def q8Vals (fmt : Nat) (q : List Nat × List Nat) : List Val :=
  q.1.zipIdx.map (fun (c, i) => decodeElem fmt ((q.2[i / 32]?).getD 0) c)

/-- The shape of an ATTEND. -/
structure AttShape where
  hq   : Nat
  g    : Nat
  d    : Nat
  p    : Nat
  kv   : Nat
  qfmt : Nat
  ofmt : Nat
  causal : Bool
  append : Bool
  lse  : Bool
  window : Nat
  scale : Nat
  deriving DecidableEq, Repr

/-- The parts of a group block (Table 13 of the chapter, R175): offsets of key scales, value codes, value scales and the size of a block. -/
def AttShape.mxS (a : AttShape) (n : Nat) : Nat := if isMxFmt a.kv then n / 32 else 0
def AttShape.keyScale (a : AttShape) : Nat := codeBytes a.kv (a.p * a.d)
def AttShape.valCode (a : AttShape) : Nat := a.keyScale + a.p * a.mxS a.d
def AttShape.valScale (a : AttShape) : Nat := a.valCode + codeBytes a.kv (a.p * a.d)
def AttShape.block (a : AttShape) : Nat := (a.valScale + a.d * a.mxS a.p + 63) / 64 * 64

/-- A sequence entry (Table 06-12). -/
structure SeqEnt where
  pages : Nat
  len   : Nat
  t     : Nat
  q     : Nat
  out   : Nat
  newkv : Nat
  lse   : Nat
  deriving DecidableEq, Repr

def seqEnt (d : Bytes) : SeqEnt :=
  let f (o n : Nat) : Nat := leNat ((d.drop o).take n)
  { pages := f 0 8, len := f 8 4, t := f 0x0C 1, q := f 0x10 8, out := f 0x18 8, newkv := f 0x20 8, lse := f 0x28 8 }

/-- A sequence entry that fails its check (R174, Table 06-12). -/
def seqBad (a : AttShape) (d : Bytes) : Bool :=
  let e := seqEnt d
  let bits : Nat := fieldMask [(0, tvaBits), (8, 0xFFFFFF), (0x0C, 0x1F), (0x10, tvaBits), (0x18, tvaBits), (0x20, tvaBits),
    (0x28, tvaBits)]
  (leNat d &&& bits) != leNat d || e.pages % 8 != 0 || e.t == 0 || e.t > 16 || (!a.append && e.len < e.t) ||
    (!a.append && e.newkv != 0) || (!a.lse && e.lse != 0)

/-- Positions that a sequence attends over, and its pages. -/
def AttShape.ltot (a : AttShape) (e : SeqEnt) : Nat := if a.append then e.len + e.t else e.len
def AttShape.pages (a : AttShape) (e : SeqEnt) : Nat := (a.ltot e + a.p - 1) / a.p

/-- A page-list entry that fails its check. -/
def pageBad (v : Nat) : Bool := v == 0 || v % 64 != 0 || v ≥ 2 ^ 57

/-- A position that query position `pos` attends to (R177). -/
def AttShape.live (a : AttShape) (lt pos j : Nat) : Bool :=
  decide (j < lt) && (!a.causal || decide (j ≤ pos)) && (a.window == 0 || decide (pos < j + a.window))

/-- The page partials so far: M, L and O. -/
structure AttAcc where
  m : Val
  l : Val
  o : List Val
  deriving DecidableEq, Repr

/-- One live page of a row: query values, scale, live places, keys and values of its places by dimension. -/
def attPage (a : AttShape) (qc : List Val) (live : Nat → Bool) (key val : Nat → Nat → Val) (x : AttAcc) : AttAcc :=
  let places := List.range a.p
  let sc (i : Nat) : Val :=
    let dot := accSum (qc.zipIdx.map (fun (q, e) => (vMul q (key i e)).1))
    r32 (vMul (r32 (accOut 0 dot)) (decodeElem 0 0 a.scale)).1
  let liveP := places.filter live
  if liveP.isEmpty then x
  else
    let m := liveP.foldl (fun m i => vMax m (sc i)) (.inf true)
    let exp2 (v : Val) : Val := r32 (transEval .exp2 v).1
    let sub (u v : Val) : Val := r32 (vAdd 0 u (vNeg v)).1
    let w := places.map (fun i => if live i then exp2 (sub (sc i) m) else .fin false 0 0)
    let wc := q8Vals a.kv (q8 a.kv (a.p + 1) w)
    let l := r32 (accOut 0 (accSum wc))
    let m2 := vMax x.m m
    let fa := exp2 (sub x.m m2)
    let fb := exp2 (sub m m2)
    let mix (u v : Val) : Val := r32 (accOut 0 (accSum [(vMul fa u).1, (vMul fb v).1]))
    { m := m2, l := mix x.l l,
      o := x.o.zipIdx.map (fun (u, e) => mix u (r32 (accOut 0 (accSum (wc.zipIdx.map (fun (c, i) => (vMul c (val e i)).1)))))) }

/-- A row of outputs: codes of OFMT and the log-sum-exp value as an FP32 code. -/
def attOut (a : AttShape) (x : AttAcc) : List Nat × Nat :=
  if x.l.isZero then (x.o.map (fun _ => 0), (roundTo 0 0 false (.inf true)).1)
  else
    let lg := r32 (transEval .log2 x.l).1
    (x.o.map (fun o => (roundTo a.ofmt 0 false (divVal o x.l)).1), (roundTo 0 0 false (vAdd 0 x.m lg).1).1)

/-- The bytes of a page that hold group `g`. -/
def groupOf (a : AttShape) (page : Bytes) (g : Nat) : Bytes := (page.drop (g * a.block)).take a.block

/-- A key element and a value element of a group block. -/
def blkKey (a : AttShape) (b : Bytes) (i e : Nat) : Val :=
  let sc := ((b.drop (a.keyScale + i * a.mxS a.d + e / 32)).headD 0).toNat
  decodeElem a.kv sc (packedCode a.kv b (i * a.d + e))

def blkVal (a : AttShape) (b : Bytes) (e i : Nat) : Val :=
  let sc := ((b.drop (a.valScale + e * a.mxS a.p + i / 32)).headD 0).toNat
  decodeElem a.kv sc (packedCode a.kv (b.drop a.valCode) (e * a.p + i))

/-- attend_row (R177): token `t`, head `h` of a sequence whose pages (by page number) are given. -/
def attendRow (a : AttShape) (e : SeqEnt) (q : List Val) (page : Nat → Bytes) (t h : Nat) : List Nat × Nat :=
  let lt := a.ltot e
  let pos := lt - e.t + t
  let g := h / (a.hq / a.g)
  let qc := q8Vals a.kv (q8 a.kv (a.d + 1) q)
  let start : AttAcc := { m := .inf true, l := .fin false 0 0, o := List.replicate a.d (.fin false 0 0) }
  let acc := (List.range (a.pages e)).foldl (fun x k =>
    let b := groupOf a (page k) g
    attPage a qc (fun i => a.live lt pos (k * a.p + i)) (blkKey a b) (blkVal a b) x) start
  attOut a acc

end Sys2Proof.Machine
end

