-- ==== Sys2Proof/Machine/Queues.lean ====
section
/-! DEFINITION. The command-queue engine (07_queues_and_admission.md): queues and their errors, policing, charges, rate caps
and the calendar, dispatch, journal places at dispatch (R390, R391), and completion entries. -/

namespace Sys2Proof.Machine

/-! ### Clearing plot bytes (R171) -/

/-- A code word that a fill with zeros covers loses its valid bit. -/
def State.zeroWord (s : State) (w : Nat) : State :=
  let s1 := s.dropEntry w
  if s1.summary w then
    let s2 := s1.vbAccess w
    s2.setWm w { s2.wm w with valid := false }
  else s1

/-- Zero a range of a PINNED plot word by word, `n` pieces at most: whole words by their valid bits, partial words written. -/
def State.zeroPieces (s : State) (h : BitVec 16) (e : PlotEntry) : Nat → Nat → Nat → Nat × State
  | 0, _, _ => (stOK, s)
  | n + 1, ofs, len =>
    if len == 0 then (stOK, s)
    else
      let room := 64 - ofs % 64
      let c := if len < room then len else room
      if c == 64 then (s.zeroWord (plotWord e ofs)).zeroPieces h e n (ofs + c) (len - c)
      else match s.writePlotWord h e ofs (List.replicate c 0) false with
        | (0, s1) => s1.zeroPieces h e n (ofs + c) (len - c)
        | r => r

/-- Fill a range of a plot with zeros. -/
def State.zeroPlot (s : State) (h : BitVec 16) (e : PlotEntry) (ofs len : Nat) : Nat × State :=
  if e.tiered then s.writePlot h e ofs (List.replicate len 0) false
  else match s.zeroPieces h e (spanWords ofs len) ofs len with
    | (0, s1) => (0, s1.markWritten h)
    | r => r

/-- The device zeroes a range with its own rights. -/
def State.devZero (s : State) (h : BitVec 16) (ofs len : Nat) : DevRes × State :=
  let (st, e, s1) := s.plotCheck 0 h .device .write rightW ofs len
  if st != stOK then (.fail st, s1)
  else match s1.insideReady h e ofs len true with
    | (false, s2) => (.wait, s2)
    | (true, s2) =>
      match s2.zeroPlot h e ofs len with
      | (0, s3) => (.ok [], s3)
      | (st, s3) => (.fail st, s3)

/-! ### Queues -/

def State.sq? (s : State) (q : BitVec 14) : Option Sq := Tab.find? s.sqs q.toNat
def State.cq? (s : State) (q : BitVec 14) : Option Cq := Tab.find? s.cqs q.toNat
def State.putSq (s : State) (q : BitVec 14) (x : Sq) : State := { s with sqs := Tab.put s.sqs q.toNat x }
def State.putCq (s : State) (q : BitVec 14) (x : Cq) : State := { s with cqs := Tab.put s.cqs q.toNat x }

/-- Entries of a queue of a size code (R188). -/
def qSize (code : BitVec 4) : Nat := 2 ^ (code.toNat + 4)

/-- A CQ is full when advancing its tail would meet its head (R192). -/
def cqFull (c : Cq) : Bool := (c.tail + 1) % qSize c.code == c.head

/-- Record a queue that has entered ERROR (R204). -/
def State.qErr (s : State) (q kind : Nat) : State :=
  (s.wr pgCQE 0x078 (BitVec.ofNat 32 (q + 2 ^ 14 * kind + 2 ^ 31))).raise pgCQE 1

def State.sqErr (s : State) (q : BitVec 14) : State :=
  match s.sq? q with
  | some x => if x.err then s else (s.putSq q { x with err := true }).qErr q.toNat 0
  | none => s

/-- A CQ enters ERROR, and with it every SQ that posts to it. -/
def State.cqErr (s : State) (q : BitVec 14) : State :=
  match s.cq? q with
  | some x =>
    if x.err then s
    else
      let s1 := (s.putCq q { x with err := true }).qErr q.toNat 1
      s1.sqs.foldl (fun s kv => if kv.2.cq == q then s.sqErr (BitVec.ofNat 14 kv.1) else s) s1
  | none => s

/-! ### Tenants' shares -/

def State.share (s : State) (t : BitVec 12) : Share := Tab.get {} s.shares t.toNat
def State.setShare (s : State) (t : BitVec 12) (k : Share) : State := { s with shares := Tab.set {} s.shares t.toNat k }

/-- Units of a token in a bucket (an accrual of 256 ns of a rate per ms is a whole number of units). -/
def tokUnit : Nat := 15625
def mib : Nat := 1048576

/-- One accrual of 256 ns (R197). -/
def accrue (k : Share) : Share :=
  let c := satAdd k.cmdTok (4 * k.cmdRate) (k.cmdBurst * tokUnit)
  let b := k.byteTok + 4 * k.byteRate * mib
  let top : Int := k.byteBurst * mib * tokUnit
  { k with cmdTok := if k.cmdRate == 0 then k.cmdTok else c,
           byteTok := if k.byteRate == 0 then k.byteTok else if b > top then top else b }

/-- The policer admits a descriptor (R197). -/
def admits (k : Share) : Bool :=
  (k.cmdRate == 0 || decide (tokUnit ≤ k.cmdTok)) && (k.byteRate == 0 || decide (0 < k.byteTok))

/-- Admission takes a command token. -/
def takeToken (k : Share) : Share := if k.cmdRate == 0 then k else { k with cmdTok := k.cmdTok - tokUnit }

/-- The byte bucket is charged, down to its floor (R197). -/
def chargeBytes (k : Share) (n : Nat) : Share :=
  if k.byteRate == 0 then k
  else
    let low : Int := -((2 ^ 40 * tokUnit : Nat) : Int)
    let b := k.byteTok - (n * tokUnit : Nat)
    { k with byteTok := if b < low then low else b }

/-- The charge of one credit on a start tag (R200). -/
def creditTag (w : Nat) : Nat := (65536 + w - 1) / w

/-! ### The calendar (R202, R203) -/

/-- The slot of 256 ns that the calendar stands at. -/
def State.calSlot (s : State) : Nat := if s.calNow < s.time / 256 then s.time / 256 else s.calNow

/-- The calendar or the overflow list holds a tenant. -/
def State.calHeld (s : State) (t : BitVec 12) : Bool := Tab.has s.calendar t.toNat || s.overflow.contains t.toNat

/-- The calendar lets a tenant go. -/
def State.unhold (s : State) (t : BitVec 12) : State :=
  { s with calendar := Tab.del s.calendar t.toNat, overflow := s.overflow.filter (· != t.toNat) }

/-- A tenant whose E lies in the future is held at its slot, or in the overflow list. -/
def State.hold (s : State) (t : BitVec 12) (e : Nat) : State :=
  let s1 := s.unhold t
  let slot := (e + 255) / 256
  if slot < s.calSlot + 4096 then { s1 with calendar := Tab.put s1.calendar t.toNat slot }
  else { s1 with overflow := insNat t.toNat s1.overflow }

/-- Charge credits to a tenant: start tag and time E (R200, R202). -/
def State.charge (s : State) (t : BitVec 12) (n : Nat) : State :=
  let k := s.share t
  let k1 := { k with tag := k.tag + n * creditTag k.weight }
  if k.cap == 0 || n == 0 then s.setShare t k1
  else
    let e := k.elig + n * (100000 / k.cap)
    let s1 := s.setShare t { k1 with elig := e }
    if e > s.time then s1.hold t e else s1

/-- A command or an instance of a tenant has moved bytes (R197, R200). -/
def State.chargeMoved (s : State) (t : BitVec 12) (n : Nat) : State :=
  (s.setShare t (chargeBytes (s.share t) n)).charge t (n / 65536)

/-! ### Execution slots and eligibility (R199) -/

/-- The tenant that a collective instance counts for. -/
def State.instTenant (s : State) (c : CollSlot) : BitVec 12 := (s.jobTenant c.job).getD 0

/-- Execution slots held by a tenant, and by all. -/
def State.inExec (s : State) (t : BitVec 12) : Nat :=
  (s.cmds.filter (fun kv => kv.2.slot && kv.2.tenant == t)).length +
    (s.coll.filter (fun kv => kv.2.hasSlot && s.instTenant kv.2 == t)).length

def State.slotsHeld (s : State) : Nat :=
  (s.cmds.filter (fun kv => kv.2.slot)).length + (s.coll.filter (fun kv => kv.2.hasSlot)).length

/-- What a queue has to dispatch: a command, or the instance whose N-th rank came from it. -/
inductive Candidate where
  | cmd (id : Nat)
  | inst (slot : Nat)
  deriving DecidableEq, Repr

/-- The candidate of a queue, if it can start. -/
def State.candidate (s : State) (q : Nat) : Option Candidate :=
  match s.coll.find? (fun kv => kv.2.phase == .reducing && !kv.2.hasSlot && kv.2.lastSq.toNat == q) with
  | some (n, _) => some (.inst n)
  | none =>
    match s.cmds.find? (fun kv => kv.2.sq.toNat == q && kv.2.phase == .admitted) with
    | some (id, c) =>
      if c.flag 2 && s.cmds.any (fun kv => kv.1 < id && kv.2.sq == c.sq) then none else some (.cmd id)
    | none => none

/-- The eligible queues of a tenant. -/
def State.eligQueues (s : State) (t : BitVec 12) : List Nat :=
  (s.sqs.filter (fun kv => kv.2.tenant == t && (s.candidate kv.1).isSome)).map (·.1)

/-- A tenant that may be served. -/
def State.eligTenant (s : State) (t : BitVec 12) : Bool :=
  !(s.eligQueues t).isEmpty && decide (s.inExec t < (s.share t).maxInflight) && !s.calHeld t

/-- The tenant served next: the lowest start tag, then the lowest number. -/
def State.nextTenant (s : State) : Option (BitVec 12) :=
  let ts := s.sqs.foldl (fun l kv => insNat kv.2.tenant.toNat l) ([] : List Nat)
  (ts.filter (fun t => s.eligTenant (BitVec.ofNat 12 t))).foldl (fun best t =>
    match best with
    | none => some (BitVec.ofNat 12 t)
    | some b => if (s.share (BitVec.ofNat 12 t)).tag < (s.share b).tag then some (BitVec.ofNat 12 t) else some b) none

/-- A tenant has an admitted command that waits for dispatch. -/
def State.backlogged (s : State) (t : BitVec 12) : Bool :=
  s.cmds.any (fun kv => kv.2.phase == .admitted && kv.2.tenant == t) ||
    s.coll.any (fun kv => kv.2.phase == .reducing && !kv.2.hasSlot && s.instTenant kv.2 == t)

/-- A tenant that wakes from idle starts at the virtual time (R200). -/
def State.onBacklogged (s : State) (t : BitVec 12) : State :=
  if s.backlogged t then s
  else
    let k := s.share t
    if k.tag < s.vt then s.setShare t { k with tag := s.vt } else s

/-! ### Places in the journal (R390, R391) -/

/-- Records that a tenant's journal has promised a place and has not staged. -/
def State.places (s : State) (t : BitVec 12) : Nat :=
  let staged (id : Nat) : Bool := ((Tab.find? s.journals t.toNat).map (fun j => j.staged.any (fun r => r.cmd == some id))).getD false
  (s.cmds.filter (fun kv => kv.2.place && kv.2.tenant == t && !staged kv.1)).length

/-- The tenant's journal is open and has room for a record and one checkpoint. -/
def State.journalTakes (s : State) (t : BitVec 12) : Bool :=
  match Tab.find? s.journals t.toNat with
  | none => false
  | some j => !j.closing && decide (320 * (j.next + s.places t + 2) ≤ plotBytes (s.plot j.plot).cur)

/-- Bytes in the staging region, and whether it has room for a record (Table 08-2). -/
def State.stagedBytes (s : State) : Nat := 320 * s.journals.foldl (fun n kv => n + kv.2.staged.length) 0
def State.stagingRoom (s : State) : Bool :=
  decide (s.stagedBytes + 320 * s.journals.foldl (fun n kv => n + s.places (BitVec.ofNat 12 kv.1)) 0 + 320 ≤ 2 ^ 30)

/-! ### Dispatch -/

/-- A command begins to be carried out: its parts ask for cells (R79). -/
def State.startCmd (s : State) (id : Nat) : State :=
  match s.cmd? id with
  | none => s
  | some c =>
    let beds := if libraryOp c.opcode && c.opcode != 0x11 then s.partBeds c else []
    (s.putCmd id { c with phase := .running, ran := true, place := c.marked, beds := beds }).lendParts id

/-- A command has its execution slot; one that is to have a record first needs its place in the journal. -/
def State.dispatchCmd (s : State) (id : Nat) : State :=
  match s.cmd? id with
  | none => s
  | some c =>
    let s1 : State := { s.putCmd id { c with phase := .staging, slot := true, order := s.nextOrder } with
                        nextOrder := s.nextOrder + 1 }
    if !c.marked then s1.startCmd id
    else if !s1.journalTakes c.tenant then s1.finish id cstJournal [] 0
    else if !s1.stagingRoom then s1
    else s1.startCmd id

/-- Staging space has come free: the commands that wait for it go on in the order of dispatch. -/
def State.startStaging (s : State) : State :=
  let ids := s.cmds.filter (fun kv => kv.2.phase == .staging)
  let orders := ids.foldl (fun l kv => insNat kv.2.order l) ([] : List Nat)
  orders.foldl (fun s o =>
    match s.cmds.find? (fun kv => kv.2.phase == .staging && kv.2.order == o) with
    | some (id, c) =>
      if !s.journalTakes c.tenant then s.finish id cstJournal [] 0
      else if s.stagingRoom then s.startCmd id else s
    | none => s) s

/-- An instance has its execution slot; the cells of its first rank carry it out. -/
def State.dispatchInst (s : State) (n : Nat) : State :=
  match Tab.find? s.coll n with
  | none => s
  | some c =>
    let s1 : State := { s with coll := Tab.put s.coll n { c with hasSlot := true } }
    match c.ranks with
    | [] => s1
    | r :: _ =>
      match s1.cmd? r.2 with
      | some k => (s1.putCmd r.2 { k with beds := s1.partBeds k }).lendParts r.2
      | none => s1

/-- dispatch_one (R200). -/
def State.dispatchOne (s : State) : State :=
  if s.phase != .running || s.dormant || s.storesStopped || s.slotsHeld ≥ 4096 then s
  else match s.nextTenant with
    | none => s
    | some t =>
      let qs := s.eligQueues t
      let k := s.share t
      match (match qs.find? (fun q => k.nextQ ≤ q) with
             | some q => some q
             | none => qs.head?) with
      | none => s
      | some q =>
        let s1 : State := { s with vt := if s.vt < k.tag then k.tag else s.vt }
        let s2 := (s1.setShare t { k with nextQ := q + 1 }).charge t 1
        match s.candidate q with
        | some (.cmd id) => s2.dispatchCmd id
        | some (.inst n) => s2.dispatchInst n
        | none => s

/-! ### Completion entries (R165, R191, R192) -/

/-- A completion entry (Table 06-3). -/
def entryBytes (c : Cmd) (status : Nat) (result : Bytes) (phase jnl : Bool) : Bytes :=
  leBytes 2 (c.field 2 2) ++ leBytes 1 status ++ leBytes 1 (ofBool phase + 2 * ofBool jnl) ++ leBytes 2 c.sq.toNat ++
    leBytes 1 c.opcode ++ [0] ++ (result ++ List.replicate 24 0).take 24

/-- Write an entry at the tail of a CQ that has room. -/
def State.writeEntry (s : State) (q : BitVec 14) (k : Cq) (e : Bytes) : DevRes × State :=
  match s.devWrite k.plot (k.ofs + 32 * k.tail) e with
  | (.ok _, s1) =>
    let t := (k.tail + 1) % qSize k.code
    (.ok [], s1.putCq q { k with tail := t, phase := if t == 0 then !k.phase else k.phase })
  | r => r

/-- The notification of a command that has run (R164, Table 16-2). -/
def State.notifyEnd (s : State) (c : Cmd) : State :=
  if !c.flag 1 || !c.ran then s
  else match s.sendWord (c.field 8 2) (BitVec.ofNat 64 (c.field 0x10 8)) (s.ownStamp c.job) true with
    | (.taken, s1) => s1
    | (_, s1) => s1.reject.inc pgCQE 0x06C

/-- A command's entry has been posted or discarded: its slot is free, its tenant is charged, and a collective slot whose last
rank it was is freed (R180, R199). -/
def State.endCmd (s : State) (id : Nat) : State :=
  match s.cmd? id with
  | none => s
  | some c =>
    let inst := s.slotOfRank id
    let s1 := ({ s with cmds := Tab.del s.cmds id }.chargeMoved c.tenant c.moved)
    let s2 := match inst with
      | some (n, k) =>
        let rest : List (Nat × Nat) := k.ranks.filter (fun r => r.2 != id)
        if rest.isEmpty then
          { s1 with coll := Tab.del s1.coll n }.chargeMoved (s1.instTenant k) k.moved
        else { s1 with coll := Tab.put s1.coll n { k with ranks := rest } }
      | none => s1
    s2.dropJob c.job

/-- A JOURNAL_MARK waits for the records of the marked commands before it on its queue (R185). -/
def State.markWaits (s : State) (id : Nat) (c : Cmd) : Bool :=
  c.opcode == 0x50 && s.cmds.any (fun kv => kv.1 < id && kv.2.sq == c.sq && kv.2.marked && kv.2.phase != .posting)

/-- Post the entry of a command that is due. -/
def State.postCmd (s : State) (id : Nat) : State :=
  match s.cmd? id with
  | none => s
  | some c =>
    if c.phase != .posting || s.phase != .running || s.dormant || s.markWaits id c then s
    else match s.sq? c.sq with
      | none => s.endCmd id
      | some q =>
        match s.cq? q.cq with
        | none => s.endCmd id
        | some k =>
          if k.err then (s.inc pgCQE 0x074).endCmd id
          else if cqFull k then
            if c.stall then s else ((s.inc pgCQE 0x070).raise pgCQE 3).putCmd id { c with stall := true }
          else match s.writeEntry q.cq k (entryBytes c c.status.toNat c.result k.phase c.jnl) with
            | (.ok _, s1) => (s1.notifyEnd c).endCmd id
            | (.wait, s1) => s1
            | (.fail _, s1) => ((s1.cqErr q.cq).inc pgCQE 0x074).endCmd id

/-! ### Fetch (R196 to R198) -/

/-- A dropped descriptor: an entry if its CQ has room now, and the counts (R198). -/
def State.dropDesc (s : State) (q : Sq) (c : Cmd) : State :=
  let k := s.share c.tenant
  let s1 := (s.setShare c.tenant { k with drops := satAdd k.drops 1 0xFFFFFFFF }).inc pgCQE 0x068
  match s1.cq? q.cq with
  | none => s1
  | some x =>
    if x.err || cqFull x then s1
    else match s1.writeEntry q.cq x (entryBytes c 0x1E [] x.phase false) with
      | (.ok _, s2) => s2
      | (.wait, s2) => s2
      | (.fail _, s2) => (s2.cqErr q.cq).inc pgCQE 0x074

/-- A descriptor that the checks turn away is not run; marked, it takes a record if its journal can (R162, R382). -/
def State.turnAway (s : State) (id status : Nat) : State :=
  match s.cmd? id with
  | none => s
  | some c =>
    if !c.marked then s.finish id status [] 0
    else if s.journalTakes c.tenant && s.stagingRoom then (s.putCmd id { c with place := true }).finish id status [] 0
    else s.finish id cstJournal [] 0

/-- A fetched descriptor: policer, then checks, then it waits for dispatch. -/
def State.takeDesc (s : State) (n : BitVec 14) (q : Sq) (d : Bytes) : State :=
  let c : Cmd := { desc := d, sq := n, tenant := q.tenant }
  let k := s.share q.tenant
  if !admits k then s.dropDesc q c
  else
    let id := s.nextCmd
    let s1 : State := { s.setShare q.tenant (takeToken k) with nextCmd := id + 1 }
    if c.descBad s.ep.toNat then (s1.putCmd id c).turnAway id stInvalid
    else if s.jobTenant c.job != none && s.jobTenant c.job != some q.tenant then (s1.putCmd id c).turnAway id stDenied
    else ((s1.onBacklogged q.tenant).putCmd id c).takeJob c.job q.tenant

/-- Fetch the next descriptor of a queue: the slot is copied, the head record written, and the descriptor taken. -/
def State.fetchDesc (s : State) (n : BitVec 14) : State :=
  match s.sq? n with
  | none => s
  | some q =>
    if q.err || q.deleting || q.head == q.tail || s.phase != .running || s.dormant || s.storesStopped then s
    else match s.devRead q.plot (q.ofs + 128 * q.head) 128 with
      | (.wait, s1) => s1
      | (.fail _, s1) => s1.sqErr n
      | (.ok d, s1) =>
        let h := (q.head + 1) % qSize q.code
        match s1.devWrite q.plot (q.ofs + 128 * qSize q.code) (leBytes 64 h) with
        | (.wait, s2) => s2
        | (.ok _, s2) => (s2.putSq n { q with head := h }).takeDesc n q d
        | (.fail _, s2) => ((s2.putSq n { q with head := h }).sqErr n).takeDesc n q d

end Sys2Proof.Machine
end

