-- ==== Sys2Proof/Machine/PoolOps.lean ====
section
/-! DEFINITION. The pool operations (06_pool_operations.md): what each opcode reads and writes, collective slots, remote copies
and kernels. -/

namespace Sys2Proof.Machine

/-! ### Byte ranges (R171) -/

/-- Total length of ranges. -/
def lenOf (l : List (Nat × Nat)) : Nat := l.foldl (fun n x => n + x.2) 0

end Sys2Proof.Machine

namespace Sys2Proof

open Machine

/-- The output bytes kept for the journal: those of a marked command. -/
def Cmd.outBytes (c : Cmd) (d : Bytes) : Bytes := if c.marked then d else []

end Sys2Proof

namespace Sys2Proof.Machine

/-- An operation ends OK. -/
def opOk (c : Cmd) (result : Bytes) (moved : Nat) (out : Bytes) : OpRes := .done stOK result moved (c.outBytes out)

/-- Write the results of an operation and end it. -/
def State.opWrite (s : State) (c : Cmd) (l : List (Nat × Bytes)) (result : Bytes) (read : Nat) : OpRes × State :=
  let n := l.foldl (fun n x => n + x.2.length) 0
  match s.engWrite c.xreq l with
  | (some x, s1) => (.stop x, s1)
  | (none, s1) => (opOk c result (read + n) (l.flatMap (·.2)), s1)

/-- Zero the parts of an access. -/
def State.engZero (s : State) (a : Nat) : List EngPiece → Option EngStop × State
  | [] => (none, s)
  | p :: l =>
    match s.zeroPlot p.h p.e p.ofs p.len with
    | (0, s1) => s1.engZero a l
    | (st, s1) => (some (.fail st a), s1)

/-- FILL. -/
def State.fillOp (s : State) (c : Cmd) : OpRes × State :=
  let dst := c.field 0x20 8
  let len := c.field 0x28 8
  let pat := (c.desc.drop 0x30).take 16
  let bytes : Bytes := (List.range len).map (fun i => (pat[i % 16]?).getD 0)
  if pat.all (· == 0) then
    match s.engReach c.xreq rightW true (cutAll [(dst, len)]) with
    | (.error x, s1) => (.stop x, s1)
    | (.ok ps, s1) =>
      match s1.engZero dst ps with
      | (some x, s2) => (.stop x, s2)
      | (none, s2) => (opOk c (leBytes 8 len) len bytes, s2)
  else s.opWrite c [(dst, bytes)] (leBytes 8 len) 0

/-- COPY: every byte is read before any is written. -/
def State.copyOp (s : State) (id : Nat) (c : Cmd) : OpRes × State :=
  let len := c.field 0x28 8
  match s.engRead id c.xreq [(c.field 0x30 8, len)] with
  | (.error x, s1) => (.stop x, s1)
  | (.ok d, s1) => s1.opWrite c [(c.field 0x20 8, d)] (leBytes 8 len) len

/-- COMPARE. -/
def State.compareOp (s : State) (id : Nat) (c : Cmd) : OpRes × State :=
  let len := c.field 0x28 8
  match s.engRead id c.xreq [(c.field 0x20 8, len), (c.field 0x30 8, len)] with
  | (.error x, s1) => (.stop x, s1)
  | (.ok d, s1) =>
    let r := match ((d.take len).zip (d.drop len)).findIdx? (fun x => x.1 != x.2) with
      | some i => leBytes 8 i
      | none => leBytes 8 len ++ [1]
    (opOk c r (2 * len) [], s1)

/-- HASH. -/
def State.hashOp (s : State) (id : Nat) (c : Cmd) : OpRes × State :=
  let len := c.field 0x28 8
  match s.engRead id c.xreq [(c.field 0x20 8, len)] with
  | (.error x, s1) => (.stop x, s1)
  | (.ok d, s1) => s1.opWrite c [(c.field 0x30 8, sha512 d)] [] len

/-- Bytes cut into pieces of given lengths. -/
def cutBytes : List Nat → Bytes → List Bytes
  | [], _ => []
  | n :: l, d => d.take n :: cutBytes l (d.drop n)

/-- REDUCE (R172). -/
def State.reduceOp (s : State) (id : Nat) (c : Cmd) : OpRes × State :=
  let rows := c.field 0x28 4
  let cols := c.field 0x2C 4
  let ifmt := c.field 0x34 1
  let rb := rowBytes ifmt cols
  let ranges := (List.range rows).map (fun r => (c.field 0x20 8 + r * c.field 0x30 4, rb))
  match s.engRead id c.xreq ranges with
  | (.error x, s1) => (.stop x, s1)
  | (.ok d, s1) =>
    let o := c.field 0x36 1
    let out := reduceRows ifmt (c.field 0x35 1) (o % 4) (c.field 0x37 1) (o.testBit 2) cols (cutBytes (ranges.map (·.2)) d)
    s1.opWrite c [(c.field 0x38 8, out)] [] (lenOf ranges)

/-! ### GATHER_POOL (R173) -/

/-- 32-bit values of a byte string. -/
def words32 (d : Bytes) : List Nat := (List.range (d.length / 4)).map (fun i => leNat ((d.drop (4 * i)).take 4))

/-- GATHER_POOL: offsets, indices, weights and rows are read, then every output row is written. -/
def State.gatherOp (s : State) (id : Nat) (c : Cmd) : OpRes × State :=
  let n := c.field 0x38 4
  let d := c.field 0x30 2
  let m := c.field 0x33 1
  let weighted := m.testBit 2
  let f : BagFmt := { d := d, tfmt := c.field 0x32 1, mode := m % 4, ofmt := c.field 0x34 1, rm := c.field 0x35 1 }
  let rb := rowBytes f.tfmt d
  let r0 : List (Nat × Nat) := [(c.field 0x40 8, 4 * (n + 1))]
  match s.engRead id c.xreq r0 with
  | (.error x, s1) => (.stop x, s1)
  | (.ok d0, s1) =>
    let offs := words32 d0
    let bags := offs.zip offs.tail
    let r1 := bags.map (fun b => (c.field 0x48 8 + 4 * b.1, if b.2 < b.1 then 0 else 4 * (b.2 - b.1)))
    match s1.engRead id c.xreq r1 with
    | (.error x, s2) => (.stop x, s2)
    | (.ok d1, s2) =>
      let idx : List (List Nat) := (cutBytes (r1.map (·.2)) d1).map words32
      let good : List Bool := (bags.zip idx).map (fun x => decide (x.1.1 ≤ x.1.2) && x.2.all (fun i => decide (i < c.field 0x28 4)))
      let ok := (bags.zip idx).zip good
      let r2 : List (Nat × Nat) :=
        if weighted then ok.map (fun x => (c.field 0x50 8 + 4 * x.1.1.1, if x.2 then 4 * x.1.2.length else 0)) else []
      match s2.engRead id c.xreq r2 with
      | (.error x, s3) => (.stop x, s3)
      | (.ok d2, s3) =>
        let ws : List (List Val) :=
          if weighted then (cutBytes (r2.map (·.2)) d2).map (fun b => (words32 b).map (decodeElem 0 0))
          else idx.map (fun l => l.map (fun _ => Val.fin false 1 0))
        let r3 := ok.flatMap (fun x => if x.2 then x.1.2.map (fun i => (c.field 0x20 8 + i * c.field 0x2C 4, rb)) else [])
        match s3.engRead id c.xreq r3 with
        | (.error x, s4) => (.stop x, s4)
        | (.ok d3, s4) =>
          let counts := ok.map (fun x => if x.2 then rb * x.1.2.length else 0)
          let rows : List (List Bytes) := (cutBytes counts d3).map (fun b => cutBytes (List.replicate (b.length / rb) rb) b)
          let outs := (good.zip (ws.zip rows)).map (fun x => bagRow f (if x.1 then some (x.2.1.zip x.2.2) else none))
          let l := outs.zipIdx.map (fun (o, b) => (c.field 0x58 8 + b * c.field 0x60 4, o))
          let bad := (good.filter (fun g => !g)).length
          let read := lenOf r0 + lenOf r1 + lenOf r2 + lenOf r3
          match s4.opWrite c l [] read with
          | (.done st r mv out, s5) =>
            if bad == 0 then (.done st r mv out, s5)
            else (.done 0x12 (leBytes 4 bad ++ leBytes 4 ((good.findIdx? (fun g => !g)).getD 0)) mv out, s5)
          | r => r

/-! ### ATTEND (R174 to R178) -/

/-- The shape of an ATTEND descriptor. -/
def attShape (c : Cmd) : AttShape :=
  let f := c.field 0x32 1
  { hq := c.field 0x2A 1, g := c.field 0x2B 1, d := c.field 0x2C 2, p := 64 * 2 ^ c.field 0x2E 1, kv := c.field 0x2F 1,
    qfmt := c.field 0x30 1, ofmt := c.field 0x31 1, causal := f.testBit 0, append := f.testBit 1, lse := f.testBit 2,
    window := c.field 0x34 4, scale := c.field 0x38 4 }

/-- The sequence entries and the page lists of an ATTEND: entries with the pages of each; `bytes` read. -/
structure AttSeqs where
  ents  : List (SeqEnt × List Nat)
  bytes : Nat
  deriving DecidableEq, Repr

/-- Read and check the sequence table and the page lists; the first failure in the order of R176 decides. -/
def State.attSeqs (s : State) (id : Nat) (c : Cmd) : Except OpRes AttSeqs × State :=
  let a := attShape c
  let n := c.field 0x28 2
  match s.engRead id c.xreq [(c.field 0x20 8, 64 * n)] with
  | (.error x, s1) => (.error (.stop x), s1)
  | (.ok d, s1) =>
    let raw := cutBytes (List.replicate n 64) d
    let good := raw.takeWhile (fun e => !seqBad a e)
    let ents := good.map seqEnt
    let r := ents.map (fun e => (e.pages, 8 * a.pages e))
    match s1.engRead id c.xreq r with
    | (.error x, s2) => (.error (.stop x), s2)
    | (.ok d1, s2) =>
      let lists := (cutBytes (r.map (·.2)) d1).map (fun b => (cutBytes (List.replicate (b.length / 8) 8) b).map leNat)
      let badPage := lists.zipIdx.findSome? (fun (l, i) => (l.findIdx? pageBad).map (fun k => (i, k)))
      match badPage with
      | some (i, k) => (.error (.done 0x13 (leBytes 4 i ++ leBytes 4 k) 0 []), s2)
      | none =>
        if good.length < n then (.error (.done stInvalid (leBytes 4 good.length ++ leBytes 4 0xFFFFFFFF) 0 []), s2)
        else (.ok { ents := ents.zip lists, bytes := 64 * n + lenOf r }, s2)

/-- The new keys and values of a token and group (Table 06-12). -/
def newVals (a : AttShape) (d : Bytes) (t g v : Nat) : List Val :=
  (List.range a.d).map (fun e => decodeElem 0 0 (leNat ((d.drop (4 * (((t * a.g + g) * 2 + v) * a.d + e))).take 4)))

/-- The value blocks of 32 positions, by first position, that an append touches. -/
def blocksOf (e : SeqEnt) : List Nat := (List.range ((e.len + e.t - 1) / 32 - e.len / 32 + 1)).map (fun i => (e.len / 32 + i) * 32)

/-- The address in a page of a group's value codes and scale for dimension `dim` of a block of 32 places. -/
def valBlock (a : AttShape) (page g dim place : Nat) : (Nat × Nat) × (Nat × Nat) :=
  let base := page + g * a.block
  ((base + a.valCode + dim * codeBytes a.kv a.p + codeBytes a.kv place, codeBytes a.kv 32),
   (base + a.valScale + dim * a.mxS a.p + place / 32, 1))

/-- The ranges of an MX value block: codes and scales of every dimension. -/
def blockRanges (a : AttShape) (page g place : Nat) : List (Nat × Nat) :=
  (List.range a.d).flatMap (fun e => let (x, y) := valBlock a page g e place; [x, y])

/-- The writes that append a sequence's keys for group g. -/
def appendKeys (a : AttShape) (e : SeqEnt) (pages : List Nat) (kv : Bytes) (g : Nat) : List (Nat × Bytes) :=
  (List.range e.t).flatMap (fun t =>
    let j := e.len + t
    let base := (pages[j / a.p]?).getD 0 + g * a.block
    let q := q8 a.kv (a.d + 1) (newVals a kv t g 0)
    let codes := (base + codeBytes a.kv ((j % a.p) * a.d), packCodes a.kv q.1)
    if isMxFmt a.kv then [codes, (base + a.keyScale + (j % a.p) * a.mxS a.d, q.2.map (BitVec.ofNat 8))] else [codes])

/-- The writes that append a sequence's values for group g; `old` gives the stored bytes of a block (codes and scale of each
dimension in turn). -/
def appendVals (a : AttShape) (e : SeqEnt) (pages : List Nat) (kv : Bytes) (old : Nat → Bytes) (g : Nat) : List (Nat × Bytes) :=
  if isMxFmt a.kv then
    (blocksOf e).flatMap (fun j0 =>
      let page := (pages[j0 / a.p]?).getD 0
      let n := codeBytes a.kv 32
      (List.range a.d).flatMap (fun dim =>
        let st := ((old j0).drop (dim * (n + 1))).take (n + 1)
        let vals := (List.range 32).map (fun i =>
          let j := j0 + i
          if j < e.len then decodeElem a.kv ((st.drop n).headD 0).toNat (packedCode a.kv st i)
          else if j < e.len + e.t then ((newVals a kv (j - e.len) g 1)[dim]?).getD (.fin false 0 0)
          else .fin false 0 0)
        let q := q8 a.kv 2 vals
        let (x, y) := valBlock a page g dim (j0 % a.p)
        [(x.1, packCodes a.kv q.1), (y.1, q.2.map (BitVec.ofNat 8))]))
  else
    (List.range e.t).flatMap (fun t =>
      let j := e.len + t
      let base := (pages[j / a.p]?).getD 0 + g * a.block
      let q := q8 a.kv (a.d + 1) (newVals a kv t g 1)
      q.1.zipIdx.map (fun (code, dim) => (base + a.valCode + dim * a.p + j % a.p, [BitVec.ofNat 8 code])))

/-- The stored value blocks that an append reads: those with a position below LEN. -/
def oldBlocks (a : AttShape) (x : SeqEnt × List Nat) : List (Nat × Nat × List (Nat × Nat)) :=
  if !isMxFmt a.kv then []
  else (blocksOf x.1).flatMap (fun j0 =>
    if j0 < x.1.len then
      (List.range a.g).map (fun g => (j0, g, blockRanges a ((x.2[j0 / a.p]?).getD 0) g (j0 % a.p)))
    else [])

/-- The first phase (R176). -/
def State.attAppend (s : State) (id : Nat) (c : Cmd) : OpRes × State :=
  let a := attShape c
  match s.attSeqs id c with
  | (.error x, s1) => (x, s1)
  | (.ok q, s1) =>
    if !a.append then (.done stOK [] q.bytes [], s1)
    else
      let r1 := q.ents.map (fun x => (x.1.newkv, 8 * x.1.t * a.g * a.d))
      match s1.engRead id c.xreq r1 with
      | (.error x, s2) => (.stop x, s2)
      | (.ok d1, s2) =>
        let old := q.ents.map (oldBlocks a)
        let r2 := old.flatMap (fun l => l.flatMap (fun b => b.2.2))
        match s2.engRead id c.xreq r2 with
        | (.error x, s3) => (.stop x, s3)
        | (.ok d2, s3) =>
          let kvs := cutBytes (r1.map (·.2)) d1
          let olds := cutBytes (old.map (fun l => lenOf (l.flatMap (fun b => b.2.2)))) d2
          let l := (q.ents.zip (kvs.zip (old.zip olds))).flatMap (fun (x, kv, bl, od) =>
            let parts := bl.zip (cutBytes (bl.map (fun b => lenOf b.2.2)) od)
            let look (g j0 : Nat) : Bytes :=
              ((parts.find? (fun p => p.1.1 == j0 && p.1.2.1 == g)).map (·.2)).getD []
            (List.range a.g).flatMap (fun g => appendKeys a x.1 x.2 kv g ++ appendVals a x.1 x.2 kv (look g) g))
          let n := l.foldl (fun n x => n + x.2.length) 0
          match s3.engWrite c.xreq l with
          | (some x, s4) => (.stop x, s4)
          | (none, s4) => (.done stOK [] (q.bytes + lenOf r1 + lenOf r2 + n) [], s4)

/-- ATTEND: the first phase, after which the parts of the second ask for cells. -/
def State.attend (s : State) (id : Nat) : State :=
  match s.cmd? id with
  | none => s
  | some c =>
    if c.appended then s
    else s.runOp id 0x11 (fun s c =>
      match s.attAppend id c with
      | (.done 0 _ mv _, s1) =>
        match s1.cmd? id with
        | some k =>
          let s2 := s1.putCmd id { k with appended := true, moved := k.moved + mv, beds := s1.partBeds k }
          (.stop .wait, s2.lendParts id)
        | none => (.stop .wait, s1)
      | r => r)

/-- The ranges of a page that rows read: for each group the keys of the places below the end of the sequence and the values. -/
def pageRanges (a : AttShape) (lt k page : Nat) : List (Nat × Nat) :=
  let n := if lt < (k + 1) * a.p then lt - k * a.p else a.p
  (List.range a.g).flatMap (fun g =>
    let b := page + g * a.block
    [(b, codeBytes a.kv (n * a.d)), (b + a.keyScale, n * a.mxS a.d), (b + a.valCode, a.block - a.valCode)])

/-- A page's bytes from what `pageRanges` read: what was not read is not looked at. -/
def pageFrom (a : AttShape) (r : List (Nat × Nat)) (page : Nat) (d : Bytes) : Bytes :=
  let parts := r.zip (cutBytes (r.map (·.2)) d)
  let (bytes, _) := parts.foldl (fun (acc : Bytes × Nat) (x : (Nat × Nat) × Bytes) =>
    (acc.1 ++ List.replicate (x.1.1 - page - acc.2) 0 ++ x.2, x.1.1 - page + x.2.length)) ([], 0)
  bytes ++ List.replicate (a.g * a.block - bytes.length) 0

/-- The pages of a sequence from what was read of them. -/
def pagesFrom (a : AttShape) (l : List (Nat × Nat × List (Nat × Nat))) (d : Bytes) (k : Nat) : Bytes :=
  let parts := cutBytes (l.map (fun y => lenOf y.2.2)) d
  ((l.zip parts).findSome? (fun z => if z.1.1 == k then some (pageFrom a z.1.2.2 z.1.2.1 z.2) else none)).getD []

/-- Pages of a sequence that hold a position to which some query token attends. -/
def livePages (a : AttShape) (e : SeqEnt) : List Nat :=
  let lt := a.ltot e
  (List.range (a.pages e)).filter (fun k => (List.range e.t).any (fun t =>
    (List.range a.p).any (fun i => a.live lt (lt - e.t + t) (k * a.p + i))))

/-- The outputs of a sequence: OUT and LSEOUT. -/
def seqOutputs (a : AttShape) (x : SeqEnt × List Nat) (q : Bytes) (page : Nat → Bytes) : Bytes × Bytes :=
  let rows := (List.range x.1.t).flatMap (fun t => (List.range a.hq).map (fun h =>
    let qv := (List.range a.d).map (fun e => decodeElem a.qfmt 0 (packedCode a.qfmt q ((t * a.hq + h) * a.d + e)))
    attendRow a x.1 qv page t h))
  (packCodes a.ofmt (rows.flatMap (·.1)), packCodes 0 (rows.map (·.2)))

/-- The second phase (R177): every input is read, then every output is written. -/
def State.attSecond (s : State) (id : Nat) (c : Cmd) : OpRes × State :=
  let a := attShape c
  match s.attSeqs id c with
  | (.error x, s1) => (x, s1)
  | (.ok qs, s1) =>
    let rq := qs.ents.map (fun x => (x.1.q, codeBytes a.qfmt (x.1.t * a.hq * a.d)))
    match s1.engRead id c.xreq rq with
    | (.error x, s2) => (.stop x, s2)
    | (.ok dq, s2) =>
      let pr : List (List (Nat × Nat × List (Nat × Nat))) := qs.ents.map (fun x => (livePages a x.1).map (fun k =>
        let p := (x.2[k]?).getD 0
        (k, p, pageRanges a (a.ltot x.1) k p)))
      let rk := pr.flatMap (fun l => l.flatMap (fun y => y.2.2))
      match s2.engRead id c.xreq rk with
      | (.error x, s3) => (.stop x, s3)
      | (.ok dk, s3) =>
        let dks := cutBytes (pr.map (fun l => lenOf (l.flatMap (fun y => y.2.2)))) dk
        let outs := (qs.ents.zip ((cutBytes (rq.map (·.2)) dq).zip (pr.zip dks))).map (fun z =>
          (z.1.1, seqOutputs a z.1 z.2.1 (pagesFrom a z.2.2.1 z.2.2.2)))
        let w := outs.flatMap (fun (e, o, l) => (e.out, o) :: (if a.lse then [(e.lse, l)] else []))
        s3.opWrite c w [] (qs.bytes + lenOf rq + lenOf rk)

/-- ATTEND_SECOND_PHASE. -/
def State.attendSecond (s : State) (id : Nat) : State :=
  match s.cmd? id with
  | some c => if c.appended then s.runOp id 0x11 (fun s c => s.attSecond id c) else s
  | none => s

/-! ### COLLECT (R179 to R181) -/

/-- Registrations in all slots. -/
def State.registered (s : State) : Nat := s.coll.foldl (fun n kv => n + kv.2.ranks.length) 0

end Sys2Proof.Machine

namespace Sys2Proof

open Machine

/-- Two instances differ in what a slot records of them. -/
def CollSlot.differs (i j : CollSlot) : Bool :=
  i.job != j.job || i.n != j.n || i.e != j.e || i.ifmt != j.ifmt || i.ofmt != j.ofmt || i.cop != j.cop || i.rm != j.rm ||
    i.timeout != j.timeout

end Sys2Proof

namespace Sys2Proof.Machine

/-- The instance that a COLLECT would open. -/
def instOf (c : Cmd) : CollSlot :=
  { phase := .open_, job := c.job, n := c.field 0x24 2, e := c.field 0x28 4, ifmt := BitVec.ofNat 4 (c.field 0x2C 1),
    ofmt := BitVec.ofNat 4 (c.field 0x2D 1), cop := BitVec.ofNat 4 (c.field 0x2E 1), rm := BitVec.ofNat 2 (c.field 0x2F 1),
    timeout := c.field 0x40 4, ranks := [], lastSq := c.sq, hasSlot := false }

/-- A rank registers in an instance; the last one makes the instance REDUCING. -/
def State.register (s : State) (id n : Nat) (c : Cmd) (i : CollSlot) : State :=
  let ranks := (c.field 0x26 2, id) :: i.ranks
  let full := decide (ranks.length == i.n)
  let s1 := s.putCmd id { c with phase := .ranked, slot := false }
  let s2 := if full then s1.onBacklogged c.tenant else s1
  let i1 : CollSlot := { i with ranks := ranks, phase := if full then .reducing else .open_, lastSq := c.sq }
  { s2 with coll := Tab.put s2.coll n i1 }

/-- A COLLECT reaches its slot. -/
def State.collect (s : State) (id : Nat) : State :=
  match s.cmd? id with
  | none => s
  | some c =>
    let n := c.field 0x20 2
    let mine := instOf c
    if c.phase != .running || c.opcode != 0x12 || s.phase != .running then s
    else match Tab.find? s.coll n with
      | none => if s.registered ≥ 65536 then s.finish id 0x17 [] 0 else s.register id n c mine
      | some i =>
        if i.phase != .open_ then s
        else if i.differs mine then s.finish id 0x14 [] 0
        else if i.ranks.any (fun r => r.1 == c.field 0x26 2) then s.finish id 0x15 [] 0
        else if s.registered ≥ 65536 then s.finish id 0x17 [] 0
        else s.register id n c i

/-- The result of an instance: what each rank receives (R180). -/
def collectOut (i : CollSlot) (srcs : List Bytes) (rank : Nat) : Bytes :=
  let cop := i.cop.toNat
  let vals (e : Nat) : Nat :=
    reduceVals (cop % 4) i.ofmt.toNat i.rm.toNat (cop.testBit 3) (srcs.map (fun d => rowVal i.ifmt.toNat i.e d e))
  if cop.testBit 2 then
    let m := i.e / i.n
    packCodes i.ofmt.toNat ((List.range m).map (fun e => vals (rank * m + e)))
  else packCodes i.ofmt.toNat ((List.range i.e).map vals)

/-- A rank ends with its instance: its output bytes, and the input versions of the whole instance. -/
def State.endRank (s : State) (id : Nat) (out : Bytes) (reads : List (Nat × Nat)) : State :=
  match s.cmd? id with
  | some c => (s.putCmd id { c with out := c.outBytes out, reads := reads }).finish1 id stOK [] 0
  | none => s

/-- The work of an instance, carried out for the rank that registered last. -/
def State.reduceInst (s : State) (n lead : Nat) (i : CollSlot) (c : Cmd) : State :=
  let ks := i.ranks.filterMap (fun r => (s.cmd? r.2).map (fun k => (r.1, r.2, k)))
  let src := ks.map (fun k => (k.2.2.field 0x30 8, rowBytes i.ifmt.toNat i.e))
  match s.engRead lead c.xreq src with
  | (.error x, s1) => s1.opEnd lead (.stop x)
  | (.ok d, s1) =>
    let srcs := cutBytes (src.map (·.2)) d
    let outs := ks.map (fun k => (k.2.1, k.2.2.field 0x38 8, collectOut i srcs k.1))
    match s1.engWrite c.xreq (outs.map (fun o => (o.2.1, o.2.2))) with
    | (some x, s2) => s2.opEnd lead (.stop x)
    | (none, s2) =>
      let reads := ((s2.cmd? lead).map (·.reads)).getD []
      let moved := lenOf src + outs.foldl (fun m o => m + o.2.2.length) 0
      let s3 : State := { s2 with coll := Tab.put s2.coll n { i with phase := .finishing, moved := moved } }
      outs.foldl (fun s o => s.endRank o.1 o.2.2 reads) s3

/-- COLLECT_REDUCE: an instance that holds its execution slot. -/
def State.collectReduce (s : State) (n : Nat) : State :=
  match Tab.find? s.coll n with
  | none => s
  | some i =>
    match i.ranks with
    | [] => s
    | r :: _ =>
      match s.cmd? r.2 with
      | none => s
      | some c =>
        if i.phase != .reducing || !i.hasSlot || !c.beds.isEmpty || c.fault.isSome || s.phase != .running then s
        else s.reduceInst n r.2 i c

/-- COLLECT_TIMEOUT. -/
def State.collectTimeout (s : State) (n : Nat) : State :=
  match Tab.find? s.coll n with
  | some i =>
    match i.ranks with
    | r :: _ => if i.phase == .open_ && i.timeout != 0 then s.finish r.2 0x16 (leBytes 2 i.ranks.length) 0 else s
    | [] => s
  | none => s

/-! ### REMOTE_COPY (R182, R333) -/

/-- The end of a REMOTE_COPY. -/
def State.endCopy (s : State) (id status : Nat) (result : Bytes) : State :=
  let n := (s.xfer id).ok
  (s.cancelOwn id).finish id status result (2 * n)

/-- Result bytes of a copy that failed (Table 06-5). -/
def copyFail (st addr remote ok : Nat) : Bytes :=
  if st == cstRemoteError then leBytes 8 addr ++ leBytes 8 remote ++ leBytes 8 ok
  else if st == cstUnknown then leBytes 16 0 ++ leBytes 8 ok
  else failResult addr ok

/-- Requests of a copy that have not been answered. -/
def State.copyOut (s : State) (id : Nat) : Nat :=
  (s.own.filter (fun o => match o.kind with
    | .copyRead n _ => n == id
    | .copyWrite n _ => n == id
    | _ => false)).length

/-- Ask for further parts of at most 4,096 bytes while the window of the source has room. -/
def State.copyAsk (s : State) (id : Nat) (c : Cmd) : Nat → State
  | 0 => s
  | fuel + 1 =>
    let x := s.xfer id
    let len := c.field 0x38 8
    let src := BitVec.ofNat 13 (c.field 0x20 2)
    if x.next ≥ len || s.copyOut id ≥ (s.win src).w then s
    else
      let n := if len - x.next < 4096 then len - x.next else 4096
      let enc := (c.field 0x24 1).testBit 0 || s.tenantConf c.tenant
      let s1 := s.setXfer id { x with next := x.next + n }
      (s1.addOwn (.copyRead id x.next) false src c.job enc (BitVec.ofNat 64 (c.field 0x28 8 + x.next)) n []).copyAsk id c fuel

/-- What a REMOTE_COPY does next. -/
def State.copyStep (s : State) (id : Nat) : State :=
  match s.cmd? id with
  | none => s
  | some c =>
    let x := s.xfer id
    match x.failed with
    | some (st, addr, remote) => s.endCopy id st (copyFail st addr remote x.ok)
    | none =>
      if x.ok ≥ c.field 0x38 8 then s.endCopy id stOK (leBytes 8 x.ok)
      else
        let s1 := (s.copyAsk id c 1024).pumpOwn
        match (s1.xfer id).failed with
        | some (st, addr, remote) => s1.endCopy id st (copyFail st addr remote (s1.xfer id).ok)
        | none => s1

/-- REMOTE_COPY begins. -/
def State.remoteCopy (s : State) (id : Nat) : State :=
  s.runOp id 0x20 (fun s _ =>
    if Tab.has s.xfers id then (.stop .wait, s)
    else (.stop .wait, (s.setXfer id {}).copyStep id))

/-! ### KERNEL (R183) -/

/-- An earlier KERNEL of the same job has been dispatched and has not ended. -/
def State.kernelBefore (s : State) (id : Nat) (c : Cmd) : Bool :=
  s.cmds.any (fun kv => kv.1 != id && kv.2.opcode == 0x30 && kv.2.job == c.job && kv.2.order < c.order &&
    (kv.2.phase == .running || kv.2.phase == .staging))

/-- A KERNEL begins: ARGS in every BOUND cell, and its threads. -/
def State.startKernel (s : State) (id : Nat) (c : Cmd) (entry : Nat) : State :=
  let args := (c.desc.drop 0x28).take 64
  let s1 := (s.boundCells c.job).foldl (fun s n => s.modCell n (fun x =>
    { x with cmd := some id, scratch := putBytes x.scratch 0 args,
             threads := startThreads (bwGroups x.bind) entry s.nextOrder })) s
  { s1 with nextOrder := s1.nextOrder + 1,
            jobs := s1.jobs.map (fun kv => if kv.1 == c.job.toNat then (kv.1, { kv.2 with kernel := some id }) else kv) }

/-- KERNEL: the checks that come before any thread starts, in the order slot, entry, cells, positions. -/
def State.kernelOp (s : State) (id : Nat) (c : Cmd) : OpRes × State :=
  let entry := c.field 0x24 4
  let job := (Tab.find? s.jobs c.job.toNat).getD { tenant := c.tenant }
  if s.kernelBefore id c || job.kernel.isSome || s.substs.any (fun r => r.toBound && bwJob r.bind == c.job) then (.stop .wait, s)
  else match Tab.find? s.kslots (c.field 0x20 2) with
    | none => (.done 0x0D [] 0 [], s)
    | some k =>
      if k.job != c.job then (.done 0x0D [] 0 [], s)
      else if entry ≥ k.image.length then (.done stInvalid [] 0 [], s)
      else if (s.boundCells c.job).isEmpty then (.done cstNoCells [] 0 [], s)
      else if job.replay && !job.lost.isEmpty then (.done 0x0C [] 0 [], s)
      else (.stop .wait, s.startKernel id c entry)

/-- KERNEL_TIMEOUT. -/
def State.kernelTimeout (s : State) (id : Nat) : State :=
  match s.cmd? id with
  | none => s
  | some c =>
    let runs := ((Tab.find? s.jobs c.job.toNat).map (fun j => j.kernel == some id)).getD false
    if !runs || c.field 0x68 4 == 0 then s else (s.endKernel id).finish id 0x0F [] 0

/-! ### RETURN_PAGES (R346) -/

/-- RETURN_PAGES begins: the RESIDENT REMOTE pages of its range in ascending order. -/
def State.returnPages (s : State) (id : Nat) : State :=
  s.runOp id 0x41 (fun s c =>
    let lo := c.field 0x20 8
    let hi := lo + c.field 0x28 8
    if Tab.has s.xfers id then (.stop .wait, s)
    else if hi > 2 ^ 57 then (.done stInvalid [] 0 [], s)
    else
      let ps := ((s.tree c.tenant).filter (fun l => l.remote && l.resident && lo ≤ l.tva.toNat && l.tva.toNat < hi)).map (·.tva)
      (.stop .wait, (s.setXfer id { pages := ps }).returnStep id))

end Sys2Proof.Machine
end

