-- ==== Sys2Proof/Machine/Critical.lean ====
section
/-! DEFINITION. Critical registers with their complement twins (R450, R451), and who may write them (R373). -/

namespace Sys2Proof.Machine

/-- The critical registers of the pages that hold them, and the bits that a commit writes. The offset of one in RSTC is that of
the platform reset command (R443), which commits by its own row. -/
def critMask (pg off : Nat) : Option Nat :=
  if pg == pgPLM then
    match off with
    | 0x078 => some 0x1FFFF
    | 0x07C => some 0x3FFF
    | 0x080 => some 0xFFFFFF
    | 0x084 => some 0x1FF
    | _ => none
  else if pg == pgSEC then
    match off with
    | 0x040 => some 1
    | 0x044 => some 0x7FFF
    | 0x048 => some 3
    | 0x04C => some 0xFFFFFFFF
    | 0x050 => some 0xFFFFFFFF
    | _ => none
  else none

/-- The value is in range for its register (R46, Table 14-8). -/
def critOk (pg off v : Nat) : Bool :=
  if pg == pgPLM && off == 0x084 then decide (1 ≤ fieldOf v 0 9) && decide (fieldOf v 0 9 ≤ 256)
  else if pg == pgSEC && off == 0x044 then decide (1 ≤ fieldOf v 0 13) && decide (fieldOf v 0 13 ≤ 4096)
  else true

/-- The protection set-up (R373), which only boot code writes: SEC.ISO, KROOT, FW_RECONF and the PLM limits. -/
def protSet (pg off : Nat) : Bool := (critMask pg off).isSome && !(pg == pgSEC && off == 0x040)

/-- A write that R373 refuses: after the lock, or to the protection set-up over PCIe or I3C. -/
def State.protRefused (s : State) (p : Path) (pg off : Nat) : Bool :=
  (critMask pg off).isSome && (s.locked || (p != .fw && protSet pg off))

/-- Bits that a written 0 leaves as they are (Table 14-8). -/
def stickyBits (pg off : Nat) : Nat := if pg == pgSEC && (off == 0x040 || off == 0x048) then 1 else 0

/-- A value is committed. -/
def State.commitCrit (s : State) (pg off v : Nat) : State :=
  let m := (critMask pg off).getD 0
  s.wr pg off (BitVec.ofNat 32 ((v &&& m) ||| ((s.rd pg off).toNat &&& stickyBits pg off)))

/-- Pending latches are keyed as registers are. -/
def latchKey (pg off : Nat) : Nat := pg * 4096 + off
def State.latched (s : State) (pg off : Nat) : Option W32 := Tab.find? s.latch (latchKey pg off)
def State.setLatch (s : State) (pg off : Nat) (v : W32) : State := { s with latch := Tab.put s.latch (latchKey pg off) v }
def State.dropLatch (s : State) (pg off : Nat) : State := { s with latch := Tab.del s.latch (latchKey pg off) }

/-- A critical write is rejected: the latch is emptied and the page records code 0x01. -/
def State.rejectCrit (s : State) (pg off : Nat) : State := (s.dropLatch pg off).logErr pg 0x01 (BitVec.ofNat 32 off)

/-- A half of the critical pair FW_RECONF: low or high. -/
def recLo (pg off : Nat) : Bool := pg == pgSEC && off == 0x04C
def recHi (pg off : Nat) : Bool := pg == pgSEC && off == 0x050

/-- Both halves are rejected (R451). -/
def State.rejectPair (s : State) (off : Nat) : State :=
  (((s.dropLatch pgSEC 0x04C).dropLatch pgSEC 0x84C).dropLatch pgSEC 0x050).logErr pgSEC 0x01 (BitVec.ofNat 32 off)

/-- A write to a critical register places the value in its latch (R450). -/
def State.critWrite (s : State) (p : Path) (pg off : Nat) (v : W32) : State :=
  s.writeAt p pg off (fun s => if s.protRefused p pg off then s.lockReject pg off 0x02 else s.setLatch pg off v)

/-- What a write of a twin does with the latch (R450); the low twin of FW_RECONF keeps its half until the high twin commits
both (R451). -/
def State.twinCommit (s : State) (pg off : Nat) (v : W32) : State :=
  match s.latched pg off with
  | none => if recLo pg off || recHi pg off then s.rejectPair off else s.rejectCrit pg off
  | some x =>
    let ok := v == ~~~x && critOk pg off x.toNat
    if recLo pg off then (if ok then s.setLatch pgSEC 0x84C x else s.rejectPair off)
    else if recHi pg off then
      match ok, s.latched pgSEC 0x84C with
      | true, some lo =>
        (((((s.commitCrit pgSEC 0x04C lo.toNat).commitCrit pgSEC 0x050 x.toNat).dropLatch pgSEC 0x04C).dropLatch pgSEC 0x84C).dropLatch
          pgSEC 0x050)
      | _, _ => s.rejectPair off
    else if ok then (s.commitCrit pg off x.toNat).dropLatch pg off
    else s.rejectCrit pg off

/-- A write of the twin of a critical register at `off`. -/
def State.twinWrite (s : State) (p : Path) (pg off : Nat) (v : W32) : State :=
  s.writeAt p pg (off + 0x800) (fun s => if s.protRefused p pg off then s.lockReject pg off 0x02 else s.twinCommit pg off v)

end Sys2Proof.Machine
end

