-- ==== Sys2Proof/Machine/Horore.lean ====
section
/-! DEFINITION. The host queue and the Horore command set (R411 to R414): words that the active complex takes, the checks every
message meets, and responses. -/

namespace Sys2Proof.Machine

/-! ### Statuses (Table 16-6) -/

def hoOK : Nat := 0x00
def hoInvalid : Nat := 0x01
def hoNoTenant : Nat := 0x02
def hoNotLocked : Nat := 0x03
def hoLimit : Nat := 0x04
def hoExists : Nat := 0x05
def hoSlotInUse : Nat := 0x06
def hoNoSlot : Nat := 0x07
def hoNoKey : Nat := 0x08
def hoUnwrap : Nat := 0x09
def hoNoPlot : Nat := 0x0A
def hoNotSealed : Nat := 0x0B
def hoDenied : Nat := 0x0C
def hoKeyBusy : Nat := 0x0D
def hoNoSpare : Nat := 0x0E
def hoUnready : Nat := 0x0F
def hoFwInvalid : Nat := 0x10
def hoNotStaged : Nat := 0x11
def hoNotOpen : Nat := 0x12

/-! ### The control pair's roles (R395) -/

/-- CC.ROLE fields of a complex. -/
def State.ccRole (s : State) (i : Nat) : Nat := s.fld (pgCC i) 0x040 0 2
def State.ccHold (s : State) (i : Nat) : Bool := s.bit (pgCC i) 0x040 2
def State.standbyOk (s : State) (i : Nat) : Bool := s.bit (pgCC i) 0x040 3

/-- Roles of Table 16-9. -/
def ccBooting : Nat := 0
def ccActive : Nat := 1
def ccStandby : Nat := 2
def ccFailed : Nat := 3

/-- Set role, ACTIVE_HOLD and STANDBY_OK of a complex. -/
def State.setRole (s : State) (i role : Nat) (hold ok : Bool) : State :=
  s.wr (pgCC i) 0x040 (BitVec.ofNat 32 (role + (if hold then 4 else 0) + (if ok then 8 else 0)))

/-- The active complex. -/
def State.activeCc (s : State) : Option Nat := [0, 1].find? (fun i => s.ccHold i && s.ccRole i == ccActive)

/-- Host download: the boot ROM of a complex serves the host queue (R417). -/
def State.download (s : State) : Bool := [0, 1].any (fun i => s.fld (pgCC i) 0x068 4 4 == 3)

/-- Someone serves the host queue. -/
def State.hqServed (s : State) : Bool := s.activeCc.isSome || s.download

/-! ### Messages -/

/-- Fields of a header (Table 16-4). -/
def hoCode (h : W64) : Nat := fieldOf h.toNat 0 8
def hoLen (h : W64) : Nat := fieldOf h.toNat 8 4 + 1
def hoTag (h : W64) : Nat := fieldOf h.toNat 16 16
def hoIn (h : W64) : Nat := 64 * fieldOf h.toNat 32 10
def hoOut (h : W64) : Nat := 64 * fieldOf h.toNat 42 10

/-- Header and parameter words of a message that has been taken. -/
def hoHdr (m : HororeMsg) : W64 := m.words.headD 0
def hoWord (m : HororeMsg) (n : Nat) : Nat := ((m.words[n]?).getD 0).toNat

/-- What Table 16-5 gives a message: masks of its words from word 1 on, and the bytes of its PBUF input. None for a code or
KIND that does not exist. -/
def hoForm (m : HororeMsg) : Option (List Nat × Nat) :=
  let w := hoWord m 1
  match hoCode (hoHdr m) with
  | 0x01 => some ([0x1FFFF], 32)
  | 0x02 => some ([2 ^ 49 - 1], if w.testBit 48 then 40 else 32)
  | 0x03 => some ([2 ^ 49 - 1, 0x1FFFF0000FFFF], 176)
  | 0x04 => if w.testBit 63 then some ([0x8000FFFF0000FFFF], 0) else some ([0x0000FFFF000FFFFF], 40)
  | 0x05 => some ([0x3FFF], if w.testBit 13 then 133 else 0)
  | 0x06 => some ([0xFFF], 0)
  | 0x07 => some ([], 0)
  | 0x08 => some ([2 ^ 42 - 1], fieldOf w 24 16)
  | 0x09 => some ([1], 0)
  | 0x0A => some ([0xFFF], 0)
  | 0x0B => some ([0xFFF], 0)
  | 0x0C =>
    match fieldOf w 0 4 with
    | 0 => some ([0x1FF000F], 0)
    | 1 => some ([0x1F1F000F], 0)
    | 2 => some ([0x3FFFF1F1F1F000F], 0)
    | 3 => some ([0xF1F000F], 0)
    | _ => none
  | _ => none

/-- PBUF is 64 KiB (Table 16-1). -/
def pbufSize : Nat := 65536

/-- A message that completes INVALID_FIELD whatever its command: words missing after 1 ms, a reserved bit, a code that does not
exist, another number of words than its row lists, input past the end of PBUF (R412 to R414). -/
def hoBad (m : HororeMsg) : Bool :=
  let h := hoHdr m
  match hoForm m with
  | none => true
  | some (masks, n) =>
    m.timedOut || fieldOf h.toNat 12 4 != 0 || fieldOf h.toNat 52 12 != 0 || hoLen h != masks.length + 1 ||
      (List.range masks.length).any (fun i => hoWord m (i + 1) &&& (masks[i]?).getD 0 != hoWord m (i + 1)) ||
      (n != 0 && decide (pbufSize < hoIn h + n))

/-- Bytes of PBUF. -/
def State.pbufRead (s : State) (o n : Nat) : Bytes := (List.range n).map (fun i => Tab.get 0 s.pbuf (o + i))

def State.pbufWrite (s : State) (o : Nat) (d : Bytes) : State :=
  { s with pbuf := (List.range d.length).foldl (fun l i => Tab.set 0 l (o + i) ((d[i]?).getD 0)) s.pbuf }

/-! ### Responses -/

/-- A response: its header and words join the response direction, which shows 16 words at a time (R411); the others wait at the
complex. -/
def State.hoRespond (s : State) (h : W64) (status : Nat) (ws : List W64) : State :=
  let hdr : W64 := BitVec.ofNat 64 (hoCode h + ws.length * 2 ^ 8 + hoTag h * 2 ^ 16 + status * 2 ^ 32)
  { s with rxq := s.rxq ++ (hdr :: ws) }.raise pgMBX 0

/-- The messages in front that complete without being run. -/
def State.hoSkip (s : State) : List HororeMsg → State
  | [] => { s with taken := [] }
  | m :: rest =>
    let h := hoHdr m
    if s.download && !(hoCode h == 0x08 || hoCode h == 0x09) then (s.hoRespond h hoNotStaged []).hoSkip rest
    else if hoBad m then (s.hoRespond h hoInvalid []).hoSkip rest
    else { s with taken := m :: rest }

/-- The complex goes on with what it has taken. -/
def State.hoNext (s : State) : State := if s.running.isSome || !s.hqServed then s else s.hoSkip s.taken

/-- The whole messages in front of the request direction (R412). -/
def takeMsgs : Nat → List W64 → List HororeMsg × List W64
  | 0, l => ([], l)
  | _, [] => ([], [])
  | n + 1, h :: l =>
    if l.length + 1 < hoLen h then ([], h :: l)
    else
      let r := takeMsgs n (l.drop (hoLen h - 1))
      ({ words := h :: l.take (hoLen h - 1), timedOut := false } :: r.1, r.2)

/-- The active complex takes the messages whose words are all present. -/
def State.hoTake (s : State) : State :=
  if !s.hqServed then s
  else
    let r := takeMsgs s.txq.length s.txq
    let s1 : State := { s with taken := s.taken ++ r.1, txq := r.2 }
    (if s.txq.length == 16 && decide (r.2.length < 16) then s1.raise pgMBX 3 else s1).hoNext

/-- A command's response, and the next command. -/
def State.hoEnd (s : State) (h : W64) (status : Nat) (ws : List W64) : State :=
  ({ s.hoRespond h status ws with running := none }).hoNext

/-- Run the message in front when it is one of a command: a code and what else its row asks for. -/
def State.horore (s : State) (code : Nat) (sel : HororeMsg → Bool) (f : State → HororeMsg → State) : State :=
  if s.running.isSome || !s.hqServed || s.phase != .running then s
  else match s.taken with
    | m :: rest => if hoCode (hoHdr m) == code && sel m then f { s with taken := rest } m else s
    | [] => s

/-- A command that goes on after its row. -/
def State.hoHold (s : State) (m : HororeMsg) : State := { s with running := some { hdr := hoHdr m, words := m.words } }

end Sys2Proof.Machine
end

