-- ==== Sys2Proof/Machine/Reset.lean ====
section
/-! DEFINITION. Platform reset (R433, R435), the reset log (R436, R437), boot stops (Table 17-11), and the reading of the
superblocks at start-up (R239). -/

namespace Sys2Proof.Machine

/-- Write an entry of the reset log (R436, R437). -/
def State.logReset (s : State) (cause : Nat) (flushed : Bool) (detail : Nat) : State :=
  let b := s.backup
  let e : LogEntry := { cause := BitVec.ofNat 8 cause, flushed := flushed, valid := true, detail := BitVec.ofNat 16 detail,
                        count := b.resets }
  { s with backup := { b with log := Tab.put b.log b.head.toNat e, head := b.head + 1 } }

/-- RSTC.BOOT_STOP.CAUSE. -/
def State.bootStopCause (s : State) : Nat := s.fld pgRSTC 0x064 0 8

/-- Boot has stopped for good or until an event that lets it go on; XTAL_FAIL goes on checking (R422). -/
def State.bootHeld (s : State) : Bool := s.bootStopCause != 0 && s.bootStopCause != 0x20

/-- A boot stop: logged, and the lanes hold electrical idle (R437). -/
def State.bootStop (s : State) (cause detail : Nat) : State :=
  let s1 := (s.logReset cause false detail).setFld pgRSTC 0x064 0 8 cause
  { s1 with links := (List.range 48).map (fun l => (l, { state := 7 })), lanes := [] }

/-- Boot goes on after a stop. -/
def State.bootGoesOn (s : State) : State := s.setFld pgRSTC 0x064 0 8 0

/-- A platform reset: the state of reset but for what Table 17-10 keeps, the levels of the input pins and, of the model's own,
the queue of commands and the record of what has left the device. Leaving PS3 first sends OPERATION on to the rails (R464). The hold
of R432 is in force after the reset while THERM_ALERT_N is asserted. -/
def State.platformReset (s : State) (cause detail : Nat) : State :=
  let s0 := if s.phase == .ps3 then s.emit (.rails true) else s
  let s1 : State := { s0 with backup := { s0.backup with resets := s0.backup.resets + 1 } }
  let s2 := s1.logReset cause false detail
  let s3 : State := { State.reset with
    pending := s2.pending
    out := s2.out
    free := s2.free
    backup := s2.backup
    pins := { s2.pins with platRstOutN := false, stkPwrEn := false }
    drives := s2.drives
    tags := s2.tagsFlash
    tagsFlash := s2.tagsFlash
    plotRecs := s2.plotRecs
    flash := s2.flash
    repairFlash := s2.repairFlash
    fwFlash := s2.fwFlash }
  if s.pins.thermAlertN then s3 else (s3.setFld pgCLK 0x04C 17 1 1).setFld pgCLK 0x050 17 1 1

/-- Each tier engine has read the superblocks of its drives (R237, R239). -/
def State.readSuperblocks (s : State) : State :=
  let present := s.drives.foldl (fun n kv => if kv.2.present then n + 2 ^ kv.1 else n) 0
  let s1 := s.setFld pgTIER 0x050 0 16 present
  match s1.tierRef with
  | none => s1
  | some b => ((s1.setFld pgTIER 0x054 0 5 b.w).setFld pgTIER 0x054 5 1 1).setFld pgTIER 0x058 0 24 b.slots

end Sys2Proof.Machine
end

