-- ==== Sys2Proof/Machine/Links.lean ====
section
/-! DEFINITION. The link layer (10_lanes_and_link.md): lanes and their roles, training, flit headers, acknowledgement and
replay, substitution of the spare, sleep, and the loss of a link with what it does to requests in flight (R284, R329,
R330). -/

namespace Sys2Proof.Machine

/-! ### Lanes -/

/-- Physical lane n of a port; the LANE page and register index that show it (R289). -/
def State.lane (s : State) (port n : Nat) : Lane := Tab.get {} s.lanes (9 * port + n)

def State.setLane (s : State) (port n : Nat) (x : Lane) : State :=
  { s with lanes := Tab.set {} s.lanes (9 * port + n) x }

def lanePage (port : Nat) : Nat := pgLANE (port / 4)
def laneIdx (port n : Nat) : Nat := port % 4 * 9 + n

/-- Port and physical lane of lane n of a die (R289). -/
def diePort (die : BitVec 3) (n : BitVec 6) : Nat := 4 * die.toNat + n.toNat / 9
def diePhys (n : BitVec 6) : Nat := n.toNat % 9

/-- Lane n of a port serves an unsplit link, the half that owns it, or (lane 8 of a split port) the half that has taken it. -/
def State.laneLink (s : State) (port n : Nat) : Option LinkNo :=
  let x := s.lane port n
  if !s.isSplit port then some (BitVec.ofNat 6 port)
  else if n < 4 then some (BitVec.ofNat 6 port)
  else if n < 8 then some (BitVec.ofNat 6 (port + 24))
  else if x.rxRole == 1 || x.rxRole == 3 || x.txRole == 1 || x.txRole == 3 then
    some (BitVec.ofNat 6 (if x.halfB then port + 24 else port))
  else none

/-- The physical lanes of a link. -/
def State.linkLanes (s : State) (l : LinkNo) : List Nat :=
  (List.range 9).filter (fun n => s.laneLink (portOf l.toNat) n == some l)

/-- The lanes of a link that goes down: no roles, no lock; failed lanes stay failed until they lock again. -/
def State.idleLanes (s : State) (l : LinkNo) : State :=
  let port := portOf l.toNat
  (s.linkLanes l).foldl (fun s n =>
    let x := s.lane port n
    s.setLane port n { bad := x.bad, rxRole := if x.bad then 4 else 0 }) s

/-! ### Training (R281) -/

/-- Fields of CFG and TIMERS of a link. -/
def State.linkFld (s : State) (l : LinkNo) (o lo len : Nat) : Nat := s.fld (linkPage l) (linkOff l o) lo len
def State.linkBit (s : State) (l : LinkNo) (o b : Nat) : Bool := s.bit (linkPage l) (linkOff l o) b

/-- A port that is not held down begins to train (Table 10-5); a boot stop keeps the lanes in electrical idle (R437). -/
def State.startTraining (s : State) (l : LinkNo) : State :=
  let st : BitVec 4 := if s.linkBit l 0x044 1 then 0 else if s.bootHeld then 7 else if s.linkBit l 0x044 4 then 8 else 1
  (s.idleLanes l).setLnk l { state := st, lost := (s.lnk l).lost }

/-- Payload of a TRAIN flit (Table 10-6). -/
def State.trainPayload (s : State) (l : LinkNo) (kind tag : Nat) : Bytes :=
  leBytes 1 kind ++ leBytes 2 s.ep.toNat ++ leBytes 1 l.toNat ++ leBytes 1 (s.lnk l).width.toNat ++
  leBytes 2 (s.bufFlits l) ++ leBytes 1 tag ++ List.replicate 232 0

def State.sendTrain (s : State) (l : LinkNo) (kind tag : Nat) : State :=
  s.sendCtl l { type := 3, payload := s.trainPayload l kind tag }

/-- Lanes that a marker set shows to work: locked, not disabled, with a good marker (R262, R281). -/
def State.workingLane (s : State) (port : Nat) (ms : MarkerSet) (n : Nat) : Bool :=
  (s.lane port n).lock && !s.bit (lanePage port) (0x100 + 0x10 * laneIdx port n) 5 &&
  ms.markers.any (fun m => m.lane.toNat == n && m.badBits ≤ 4)

/-- Lane 8 of a split port is not in use by the other half. -/
def State.lane8Free (s : State) (l : LinkNo) : Bool :=
  match s.laneLink (portOf l.toNat) 8 with
  | some k => k == l
  | none => true

/-- The lanes that a link may use and the number it needs, in order (R281). -/
def State.candidates (s : State) (l : LinkNo) : List Nat :=
  if !s.isSplit (portOf l.toNat) then List.range 9
  else (if isHalfB l.toNat then [4, 5, 6, 7] else [0, 1, 2, 3]) ++ (if s.lane8Free l then [8] else [])

/-- The active lanes, and the spare if there is one. -/
def State.pickLanes (s : State) (l : LinkNo) (ms : MarkerSet) : List Nat × List Nat :=
  let g := (s.candidates l).filter (s.workingLane (portOf l.toNat) ms)
  if !s.isSplit (portOf l.toNat) then
    if g.length ≥ 8 then (g.take 8, g.drop 8) else (g.take 4, [])
  else (g.take 4, g.drop 4)

/-- The logical number received on the i-th active lane: its marker's, where the markers number the lanes (R257). -/
def rxLogical (ms : MarkerSet) (act : List Nat) (i n : Nat) : BitVec 4 :=
  let num (n : Nat) : BitVec 4 := ((ms.markers.find? (fun m => m.lane.toNat == n)).map (·.logical)).getD 0xF
  let perm := (List.range act.length).all (fun j => act.any (fun n => (num n).toNat == j))
  if perm then num n else BitVec.ofNat 4 i

/-- The lanes take their roles. -/
def State.assignLanes (s : State) (l : LinkNo) (ms : MarkerSet) (act spare : List Nat) : State :=
  let port := portOf l.toNat
  let half := isHalfB l.toNat
  (s.candidates l).foldl (fun s n =>
    let x := s.lane port n
    let y : Lane := { lock := x.lock, lostMk := 0, bad := x.bad, halfB := half }
    s.setLane port n (
      if act.contains n then
        { y with rxRole := 1, txRole := 1, rxLog := rxLogical ms act (act.idxOf n) n, txLog := BitVec.ofNat 4 (act.idxOf n) }
      else if spare.contains n then { y with rxRole := 2, txRole := 2 }
      else if s.workingLane port ms n then y
      else { y with bad := true, rxRole := 4, txRole := 4 })) s

/-- A marker set in ADAPT: the lanes are deskewed (R262) and the port exchanges TRAIN flits; with fewer than four working
lanes it is FAILED. -/
def State.trainLanes (s : State) (l : LinkNo) (ms : MarkerSet) : State :=
  let (act, spare) := s.pickLanes l ms
  if ms.skew > 64 then s
  else if act.length < 4 then (s.assignLanes l ms [] []).modLnk l (fun k => { k with state := 9 })
  else
    let s1 := s.assignLanes l ms act spare
    let s2 := s1.setLnk l { state := 4, width := BitVec.ofNat 4 act.length, lost := (s.lnk l).lost, echoSent := true }
    let s3 := if act.length < 8 && !s.isSplit (portOf l.toNat) then s2.raiseLink l 4 else s2
    (s3.sendTrain l 0 0).sendTrain l 1 0

/-- The round trip is not covered by the headroom (R273); a flit period is 1.2096 ns at x8 and 2.4192 ns at x4. -/
def State.rttLong (s : State) (l : LinkNo) : Bool :=
  let k := s.lnk l
  let period := if k.width == 8 then 12096 else 24192
  decide (s.linkFld l 0x050 0 12 < (k.rtt.toNat * 10000 + period - 1) / period + 8)

/-- READY is sent once the partner is known and the round trip measured; the port is UP when it has both sent and received
READY (R282). -/
def State.initStep (s : State) (l : LinkNo) : State :=
  let k := s.lnk l
  if k.state != 4 then s
  else
    let s1 := if !k.readySent && !k.echoSent && k.partner.isSome then
        (s.modLnk l (fun k => { k with readySent := true })).sendTrain l 3 0
      else s
    let k1 := s1.lnk l
    if k1.readySent && k1.readyRecv then
      ((s1.setLnk l { k1 with state := 5 }).raiseLink l 0).flush l |>.deliverAll
    else s1

/-! ### Loss (R284, R329, R330) -/

/-- What a request of the device's own lets its command do next. -/
def State.ownNext (s : State) (k : OwnKind) : State :=
  match k with
  | .copyRead id _ => (s.copyStep id).pumpOwn
  | .copyWrite id _ => (s.copyStep id).pumpOwn
  | .returnPage id _ => (s.returnStep id).pumpOwn
  | .migrate _ _ => s.pumpOwn

/-- A snoop whose egress port has lost its link is sent once more, on the alternate path (R329). -/
def State.resendSnoop (s : State) (line : Nat) (n : Snoop) : Snoop × State :=
  match s.altRoute n.ep with
  | none => (n, s)
  | some (path, out) =>
    let (_, s1) := (s.inc pgHOME 0x090).sendOwn path out false (fun p =>
      { p with opcode := if n.isRecall then 0x3D else 0x3C, dstEp := n.ep, tag := n.tag, mod := if n.keep then 1 else 0,
               addr := BitVec.ofNat 64 ((lineHandle line).toNat * 2 ^ 48 + lineOfs line) })
    ({ n with link := some out, resent := true }, s1)

/-- The snoops of one line, in order. -/
def State.resendSnoops (s : State) (line : Nat) (l : LinkNo) : List Snoop → List Snoop × State
  | [] => ([], s)
  | n :: ns =>
    let (m, s1) := if n.link == some l && !n.resent then s.resendSnoop line n else (n, s)
    let (ms, s2) := s1.resendSnoops line l ns
    (m :: ms, s2)

/-- Every line's snoops that left on a link. -/
def State.snoopsLost (s : State) (l : LinkNo) : State :=
  s.txns.foldl (fun s kv =>
    if kv.2.snoops.any (fun n => n.link == some l && !n.resent) then
      let (ns, s1) := s.resendSnoops kv.1 l kv.2.snoops
      { s1 with txns := Tab.put s1.txns kv.1 { kv.2 with snoops := ns } }
    else s) s

/-- The requests of the device's own that left on a link (Table 12-4). -/
def State.ownSentLost (s : State) (l : LinkNo) : State :=
  (s.own.filter (fun o => o.sent == some l)).foldl (fun s o =>
    match s.own.find? (fun x => x.tag == o.tag && x.sent == some l) with
    | some x => (s.ownLost x).ownNext x.kind
    | none => s) s

/-- The link is lost (R283, R284): buffers are discarded, packets parked at the port are answered FENCE_TIMEOUT (R301), snoops
and requests that left on it meet R329 and R330, and words bound for it R410. -/
def State.linkLost (s : State) (l : LinkNo) (cause : BitVec 4) : State :=
  let s1 := ((s.xoffSettle l).idleLanes l).setLnk l { state := 7, lost := cause }
  let s2 := (s1.countLink l 0x078 16 1).raiseLink l 1
  let s3 := (s2.park.filter (fun k => k.link == l)).foldl (fun s k => s.fenceOut k) s2
  (((s3.snoopsLost l).ownSentLost l).pumpOwn).deliverAll

/-! ### Substitution (R275 to R277) -/

/-- The idle spare of a port in each direction. -/
def State.spareRxLane (s : State) (port : Nat) : Option Nat := (List.range 9).find? (fun n => (s.lane port n).rxRole == 2)
def State.spareTxLane (s : State) (port : Nat) : Option Nat := (List.range 9).find? (fun n => (s.lane port n).txRole == 2)

/-- A spare that this link can ask for: idle, and not asked for by the other half. -/
def State.spareOpen (s : State) (l : LinkNo) : Bool :=
  let other : LinkNo := if isHalfB l.toNat then BitVec.ofNat 6 (portOf l.toNat) else BitVec.ofNat 6 (l.toNat + 24)
  (s.spareRxLane (portOf l.toNat)).isSome && (s.lnk l).spareRx.isNone && (s.lnk l).sreq.isNone &&
  !(s.isSplit (portOf l.toNat) && (s.lnk other).sreq.isSome)

/-- Ask the partner for the substitution of a logical lane: the request goes out in every header. -/
def State.askSubst (s : State) (l : LinkNo) (lane : BitVec 3) : State :=
  let s1 := s.modLnk l (fun k => { k with sreq := some lane, state := 6 })
  if (s1.lnk l).txAsleep then s1 else s1.sendCtl l { type := 0 }

/-- A receiving lane has failed (R275, R277). -/
def State.laneFails (s : State) (port n : Nat) : State :=
  let x := s.lane port n
  let s1 := s.setLane port n { x with bad := true }
  match s.laneLink port n with
  | none => if x.rxRole == 2 then s1.setLane port n { x with bad := true, rxRole := 4 } else s1
  | some l =>
    let k := s.lnk l
    if !k.isUp then s1
    else if x.rxRole == 2 || x.rxRole == 3 then s1.linkLost l 3
    else if x.rxRole == 1 then
      if k.sreq.isSome && (k.sreq.map (·.setWidth 4)) == some x.rxLog then s1
      else if k.spareRx.isSome || k.sreq.isSome then s1.linkLost l 3
      else if !s.linkBit l 0x044 2 then s1
      else if s1.spareOpen l then s1.askSubst l (x.rxLog.setWidth 3)
      else s1.linkLost l 3
    else s1

/-- The partner asks for a substitution in this port's transmit direction: the spare takes the lane's place from a marker set
that is sent at once, and the ack timer is held until 5 µs after it (R275, R276). -/
def State.substTx (s : State) (l : LinkNo) (lane : BitVec 3) : State :=
  let port := portOf l.toNat
  let k := s.lnk l
  let bad? := (s.linkLanes l).find? (fun n => (s.lane port n).txRole == 1 && (s.lane port n).txLog == lane.setWidth 4)
  match s.spareTxLane port, bad? with
  | some sp, some n =>
    if k.spareTx.isSome || !k.isUp then s
    else
      let s1 := s.setLane port n { s.lane port n with txRole := 4, txLog := 0xF }
      let s2 := s1.setLane port sp { s1.lane port sp with txRole := 3, txLog := lane.setWidth 4, halfB := isHalfB l.toNat }
      let s3 := (s2.modLnk l (fun k => { k with spareTx := some lane, ackHold := s.time + 5000 })).emit (.markers l (some lane))
      (s3.countLink l 0x07C 8 1).raiseLink l 2
  | _, _ => s

/-- A marker set in which the spare carries the number asked for completes a substitution. -/
def State.substRx (s : State) (l : LinkNo) (ms : MarkerSet) : State :=
  let port := portOf l.toNat
  match (s.lnk l).sreq with
  | none => s
  | some lane =>
    match ms.markers.find? (fun m => m.standsIn && m.badBits ≤ 4 && m.logical == lane.setWidth 4 &&
        (s.lane port m.lane.toNat).rxRole == 2) with
    | none => s
    | some m =>
      if ms.skew > 64 then s
      else
        let s1 := (s.linkLanes l).foldl (fun s n =>
          let x := s.lane port n
          if x.rxRole == 1 && x.rxLog == lane.setWidth 4 then s.setLane port n { x with rxRole := 4, rxLog := 0xF } else s) s
        let y := s1.lane port m.lane.toNat
        let s2 := s1.setLane port m.lane.toNat { y with rxRole := 3, rxLog := lane.setWidth 4, halfB := isHalfB l.toNat }
        let s3 := s2.modLnk l (fun k =>
          { k with sreq := none, spareRx := some lane, state := 5, rxHold := s.time + 5000 })
        (s3.countLink l 0x07C 8 1).raiseLink l 2

/-- A marker that is lost: two in a row fail the lane (R262). -/
def State.markerSeen (s : State) (port : Nat) (m : Marker) : State :=
  let x := s.lane port m.lane.toNat
  if m.badBits ≤ 4 then s.setLane port m.lane.toNat { x with lostMk := 0 }
  else if x.lostMk == 0 then s.setLane port m.lane.toNat { x with lostMk := 1 }
  else (s.setLane port m.lane.toNat { x with lostMk := 0 }).laneFails port m.lane.toNat

/-! ### Flits -/

/-- The codewords that end with a flit (R264). -/
def State.codewords (s : State) (l : LinkNo) (cws : List (List (BitVec 4 × Nat))) : State :=
  cws.foldl (fun s cw =>
    let n := cw.foldl (fun n x => n + x.2) 0
    let port := portOf l.toNat
    if n == 0 then s
    else if n > 15 then s.countLink l 0x070 32 1
    else
      let s1 := s.countLink l 0x06C 32 1
      cw.foldl (fun s x => s.count (lanePage port) (0x108 + 0x10 * laneIdx port x.1.toNat) 0 32 x.2) s1) s

/-- A flit passes its CRC and R266; its type is one of Table 10-4. -/
def flitOk (f : Flit) : Bool :=
  f.crcOk && !f.rsv && f.type.toNat ≤ 4 && f.cws.all (fun cw => cw.foldl (fun n x => n + x.2) 0 ≤ 15)

end Sys2Proof.Machine

namespace Sys2Proof

open Machine

/-- An acknowledgement (R269). -/
def Link.ackIn (k : Link) (f : Flit) : Link :=
  let n := (f.ack - k.acked).toNat
  if f.ackv && n ≤ k.out.length && 0 < n then
    { k with out := k.out.drop n, acked := f.ack, tries := 0, moved := true }
  else k

/-- The XOFF bits of a header (R272, R306). -/
def Link.xoffIn (k : Link) (f : Flit) (now : Nat) : Link :=
  { k with
    xoff := f.xoff
    xoffAt := (List.range 4).filterMap (fun v =>
      if !f.xoff.getLsbD v then none
      else some (v, ((k.xoffAt.find? (fun x => x.1 == v)).map (·.2)).getD now)) }

end Sys2Proof

namespace Sys2Proof.Machine

/-- The header of a flit that is accepted: acknowledgement, XOFF, a substitution asked for; a direction that woke is awake. -/
def State.flitHeader (s0 : State) (l : LinkNo) (f : Flit) : State :=
  let s := s0.xoffSettle l
  let k := s.lnk l
  let k1 := (k.ackIn f).xoffIn f s.time
  let k2 : Link := if f.type == 4 then k1 else { k1 with rxAsleep := false, rxQuiet := false, waking := false }
  let s1 := s.setLnk l k2
  let tgt : LinkNo :=
    if s.isSplit (portOf l.toNat) && f.shalf then BitVec.ofNat 6 (portOf l.toNat + 24) else BitVec.ofNat 6 (portOf l.toNat)
  let s2 := if f.sreq then s1.substTx tgt f.slane else s1
  let s3 := s2.flush l
  if (k.xoff &&& ~~~f.xoff) != 0 then s3.deliverAll else s3

/-- A flit arrives on a link that is up: `f` handles one that is accepted. -/
def State.flitIn (s : State) (l : LinkNo) (fl : Flit) (f : State → State) : State :=
  if !s.linkUp l then s
  else
    let s1 := s.codewords l fl.cws
    if flitOk fl then f (s1.flitHeader l fl) else s1.countLink l 0x068 32 1

/-- Retransmit every unacknowledged flit in order (R270). -/
def State.replay (s : State) (l : LinkNo) : State :=
  let k := s.lnk l
  if k.out.isEmpty then s
  else
    let s1 := (s.setLnk l { k with ackOwed := false }).countLink l 0x064 32 1
    k.out.foldl (fun s f => s.emit (.flit l { k.stamp (isHalfB l.toNat) f with replay := true })) s1

/-- A timeout or a NAK: counted when A has not advanced since the last, except while a substitution holds the count; at
REPLAY_MAX the link is lost, otherwise the replay starts (R270, R276). -/
def State.noProgress (s : State) (l : LinkNo) : State :=
  let k := s.lnk l
  if k.moved then (s.setLnk l { k with moved := false }).replay l
  else if s.time < k.ackHold then s.replay l
  else if k.tries + 1 ≥ s.linkFld l 0x048 8 6 then s.linkLost l 2
  else (s.setLnk l { k with tries := k.tries + 1 }).replay l

/-- A DATA flit (R268, R271, R273). -/
def State.dataFlit (s : State) (l : LinkNo) (f : Flit) : State :=
  let k := s.lnk l
  let d := (f.seq - k.expect).toNat
  let n := Tab.get 0 k.rx f.vc.toNat
  if d == 0 then
    let free := s.bufFlits l - (n + 1)
    let off := if free ≤ s.linkFld l 0x050 0 12 then k.off ||| (1#4 <<< f.vc.toNat) else k.off
    let s1 := (s.setLnk l { k with expect := k.expect + 1, ackv := true, nakAt := none, ackOwed := true, off := off,
                                   rx := Tab.set 0 k.rx f.vc.toNat (n + 1) }).countLink l 0x084 32 1
    if k.txAsleep then s1 else s1.sendCtl l { type := 0 }
  else if d ≤ 2047 then
    let may := match k.nakAt with
      | none => true
      | some t => decide (t + 2 * s.linkFld l 0x048 0 8 * 100 ≤ s.time)
    if may && !k.txAsleep then ((s.setLnk l { k with nakAt := some s.time }).countLink l 0x074 32 1).sendCtl l { type := 2 }
    else s
  else s

/-! ### Registers that links and lanes show (Tables 10-8, 10-9) -/

/-- PORT.STATE. -/
def State.portState (s : State) (l : LinkNo) : Nat :=
  let k := s.lnk l
  let sp (o : Option (BitVec 3)) : Nat := match o with
    | some n => 1 + 2 * n.toNat
    | none => 0
  k.state.toNat + 16 * (if k.isUp then k.width.toNat else 0) + 2 ^ 8 * sp k.spareRx + 2 ^ 12 * sp k.spareTx +
  2 ^ 16 * ofBool k.txAsleep + 2 ^ 17 * ofBool k.rxAsleep + 2 ^ 20 * k.lost.toNat

/-- PORT.PARTNER. -/
def State.portPartner (s : State) (l : LinkNo) : Nat :=
  match (s.lnk l).partner with
  | some (ep, p) => ep.toNat + 2 ^ 16 * p.toNat + 2 ^ 31
  | none => 0

/-- LANE.Ln_STATUS. -/
def State.laneStatus (s : State) (port n : Nat) : Nat :=
  let x := s.lane port n
  x.rxRole.toNat + 16 * x.txRole.toNat + 128 * ofBool x.lock + 2 ^ 16 * x.rxLog.toNat + 2 ^ 20 * x.txLog.toNat

end Sys2Proof.Machine
end

