-- ==== Sys2Proof/Machine/LinkRows.lean ====
section
/-! DEFINITION. Meanings of the commands of 10_lanes_and_link.md and of the answers to the device's own requests
(11_fabric_paths.md, 12_coherence_and_remote_access.md). -/

namespace Sys2Proof.Machine

/-! ### Flits that arrive -/

/-- IDLE: its header carries ACK and XOFF (R265). -/
def execIdle (l : LinkNo) (fl : Flit) (s : State) : Host.Outcome State Fault Refusal :=
  .next (s.flitIn l { fl with type := 0 } (fun s => s))

/-- DATA (R268). One that finds its VC's buffer full is discarded as if its CRC had failed (R273). -/
def execData (l : LinkNo) (fl : Flit) (s : State) : Host.Outcome State Fault Refusal :=
  let f : Flit := { fl with type := 1 }
  if s.linkUp l && flitOk f && f.seq == (s.lnk l).expect && Tab.get 0 (s.lnk l).rx f.vc.toNat ≥ s.bufFlits l then
    .next ((s.codewords l f.cws).countLink l 0x080 32 1)
  else .next (s.flitIn l f (fun s => s.dataFlit l f))

/-- NAK: replay from A + 1 (R270). -/
def execNak (l : LinkNo) (fl : Flit) (s : State) : Host.Outcome State Fault Refusal :=
  .next (s.flitIn l { fl with type := 2 } (fun s => s.noProgress l))

/-- SLEEP: the partner's transmit direction is about to sleep; the no-flit timer does not run (R278, R279). -/
def execSleep (l : LinkNo) (fl : Flit) (s : State) : Host.Outcome State Fault Refusal :=
  .next (s.flitIn l { fl with type := 4 } (fun s => s.modLnk l (fun k => { k with rxAsleep := true, rxQuiet := false, waking := false })))

/-- TRAIN in INIT (R282): `rtt` is the round trip that an ECHO_RSP closes. -/
def execTrain (l : LinkNo) (fl : Flit) (rtt : BitVec 12) (s : State) : Host.Outcome State Fault Refusal :=
  let f : Flit := { fl with type := 3 }
  let b (i n : Nat) : Nat := leNat ((f.payload.drop i).take n)
  if !s.linkExists l || (s.lnk l).state != 4 then .next s
  else
    let s1 := s.codewords l f.cws
    if !flitOk f then .next (s1.countLink l 0x068 32 1)
    else match b 0 1 with
      | 0 => .next ((s1.modLnk l (fun k =>
          { k with partner := some (BitVec.ofNat 13 (b 1 2), BitVec.ofNat 6 (b 3 1)) })).initStep l)
      | 1 => .next (s1.sendTrain l 2 (b 7 1))
      | 2 =>
        if (s1.lnk l).echoSent && b 7 1 == 0 then
          let s2 := s1.modLnk l (fun k => { k with rtt := rtt, echoSent := false })
          .next ((if s2.rttLong l then s2.raiseLink l 5 else s2).initStep l)
        else .next s1
      | 3 => .next ((s1.modLnk l (fun k => { k with readyRecv := true })).initStep l)
      | _ => .next s1

/-! ### Timers -/

/-- ACK_TIMEOUT: the ack timer of the oldest unacknowledged flit has run out (R270); a substitution holds it (R276). -/
def execAckTimeout (l : LinkNo) (s : State) : Host.Outcome State Fault Refusal :=
  let k := s.lnk l
  .next (if s.linkUp l && !k.out.isEmpty && k.ackHold ≤ s.time then s.noProgress l else s)

/-- NOFLIT_TIMEOUT: an awake receive direction has had no flit for NOFLIT_TMO (R283); a substitution holds the timer (R276). -/
def execNoflitTimeout (l : LinkNo) (s : State) : Host.Outcome State Fault Refusal :=
  let k := s.lnk l
  .next (if s.linkUp l && !k.rxAsleep && !k.waking && k.sreq.isNone && k.rxHold ≤ s.time then s.linkLost l 1 else s)

/-- SUBST_TIMEOUT: the marker set of a substitution has not been accepted within 20 µs of the request (R277). -/
def execSubstTimeout (l : LinkNo) (s : State) : Host.Outcome State Fault Refusal :=
  .next (if s.linkUp l && (s.lnk l).sreq.isSome then s.linkLost l 3 else s)

/-- WAKE_TIMEOUT: a woken receive direction has accepted no flit within 100 µs (R280). -/
def execWakeTimeout (l : LinkNo) (s : State) : Host.Outcome State Fault Refusal :=
  .next (if s.linkUp l && (s.lnk l).waking then s.linkLost l 4 else s)

/-- TX_SLEEP (R278): four SLEEP flits and a marker set, then electrical idle. -/
def execTxSleep (l : LinkNo) (s : State) : Host.Outcome State Fault Refusal :=
  let k := s.lnk l
  if s.linkUp l && !k.txAsleep && s.linkBit l 0x044 3 && k.out.isEmpty && !k.ackOwed then
    let s1 := (List.range 4).foldl (fun s _ => s.sendCtl l { type := 4 }) s
    .next ((s1.modLnk l (fun k => { k with txAsleep := true })).emit (.markers l (s.lnk l).spareTx))
  else .next s

/-- TX_WAKE (R279): a flit to send, an ACK owed, a substitution to ask for, or a receive direction that starts to wake. -/
def execTxWake (l : LinkNo) (s : State) : Host.Outcome State Fault Refusal :=
  let k := s.lnk l
  let want := k.ackOwed || k.waking || k.sreq.isSome || k.held.any (fun p => !k.xoff.getLsbD p.vc.toNat)
  if s.linkUp l && k.txAsleep && want then
    let s1 := (s.setLnk l { k with txAsleep := false }).emit (.markers l k.spareTx)
    .next ((s1.sendCtl l { type := 0 }).flush l)
  else .next s

/-! ### Training -/

/-- RETRAIN_START: electrical idle has been held for 10 µs after a loss (R284). -/
def execRetrainStart (l : LinkNo) (s : State) : Host.Outcome State Fault Refusal :=
  .next (if s.linkExists l && (s.lnk l).state == 7 then s.startTraining l else s)

/-- PARTNER_SIGNAL_DETECT: DETECT gives way to ADAPT (Table 10-5). -/
def execPartnerSignalDetect (l : LinkNo) (s : State) : Host.Outcome State Fault Refusal :=
  .next (if s.linkExists l && (s.lnk l).state == 1 then s.modLnk l (fun k => { k with state := 2 }) else s)

/-- LANE_POWER_GOOD: the ports of a lane die that are not held down start to train (R281). -/
def execLanePowerGood (die : BitVec 3) (s : State) : Host.Outcome State Fault Refusal :=
  let links := (List.range 4).flatMap (fun i => [4 * die.toNat + i, 4 * die.toNat + i + 24])
  .next (if die.toNat < 6 then links.foldl (fun s n =>
      let l : LinkNo := BitVec.ofNat 6 n
      if s.linkExists l && !s.linkUp l then s.startTraining l else s) s
    else s)

/-- BLOCK_LOCK: 64 valid headers in a row (R263). -/
def execBlockLock (die : BitVec 3) (n : BitVec 6) (s : State) : Host.Outcome State Fault Refusal :=
  if die.toNat < 6 && n.toNat < 36 then
    let x := s.lane (diePort die n) (diePhys n)
    .next (s.setLane (diePort die n) (diePhys n) { x with lock := true, bad := false, lostMk := 0 })
  else .next s

/-- LOCK_LOSS: 16 invalid headers within a window of 1,024 blocks (R263). -/
def execLockLoss (die : BitVec 3) (n : BitVec 6) (s : State) : Host.Outcome State Fault Refusal :=
  let x := s.lane (diePort die n) (diePhys n)
  if die.toNat < 6 && n.toNat < 36 && x.lock then
    let s1 := s.setLane (diePort die n) (diePhys n) { x with lock := false }
    let s2 := (s1.count (pgLANE die.toNat) (0x10C + 0x10 * n.toNat) 0 32 16).raise (pgLANE die.toNat) 0
    .next (s2.laneFails (diePort die n) (diePhys n))
  else .next s

/-- MARKER_SET (R262): in ADAPT it deskews the lanes; on a link that is up it may complete a substitution (R275), fail a lane
by lost markers, close a SLEEP or begin a wake (R278, R279). -/
def execMarkerSet (l : LinkNo) (m : MarkerSet) (s : State) : Host.Outcome State Fault Refusal :=
  if !s.linkExists l then .next s
  else if (s.lnk l).state == 2 then .next (s.trainLanes l m)
  else if !s.linkUp l then .next s
  else
    let s1 := (s.substRx l m).modLnk l (fun k =>
      if !k.rxAsleep then k
      else if k.rxQuiet then { k with rxAsleep := false, rxQuiet := false, waking := true }
      else { k with rxQuiet := true })
    let mine := m.markers.filter (fun x => s1.laneLink (portOf l.toNat) x.lane.toNat == some l)
    .next (mine.foldl (fun s x => if s.linkUp l then s.markerSeen (portOf l.toNat) x else s) s1)

/-- SER_WINDOW: the symbol error ratio of a lane over 100 ms, in units of 2^−16 (R275, R277). -/
def execSerWindow (die : BitVec 3) (n : BitVec 6) (ratio : BitVec 16) (s : State) : Host.Outcome State Fault Refusal :=
  let port := diePort die n
  let x := s.lane port (diePhys n)
  if 6 ≤ die.toNat || 36 ≤ n.toNat then .next s
  else match s.laneLink port (diePhys n) with
    | none => .next s
    | some l =>
      let k := s.lnk l
      let lim := s.linkFld l 0x054 0 16
      if !s.linkUp l || x.rxRole != 1 && x.rxRole != 3 || lim == 0 || ratio.toNat ≤ lim then .next s
      else
        let s1 := s.raise (pgLANE die.toNat) 1
        if k.spareRx.isSome then .next (s1.raiseLink l 3)
        else if !s.linkBit l 0x044 2 || k.sreq.isSome then .next s1
        else if s1.spareOpen l then .next (s1.askSubst l (x.rxLog.setWidth 3))
        else .next (s1.raiseLink l 3)

/-! ### Commands of the PORT page -/

/-- PORT.CMD.SUBST for a link, ignored while the direction's spare stands in or there is none (R275, R277). -/
def State.portSubst (s : State) (l : LinkNo) (lane : BitVec 3) : State :=
  if s.linkUp l && lane.toNat < (s.lnk l).width.toNat && s.spareOpen l then s.askSubst l lane else s

/-- SUBST (R275). -/
def execSubst (p : Path) (l : LinkNo) (lane : BitVec 3) (s : State) : Host.Outcome State Fault Refusal :=
  .next (if l.toNat < 48 then s.writeAt p (linkPage l) (linkOff l 0x040) (fun s => s.portSubst l lane) else s)

/-- RETRAIN: a link that is up is lost with cause 0x5; a port in another state, held down or idle after a loss apart, begins
to train again (R281, R283). -/
def State.portRetrain (s : State) (l : LinkNo) : State :=
  let k := s.lnk l
  if !s.linkExists l || k.state == 0 || k.state == 7 then s
  else if k.isUp then s.linkLost l 5
  else s.startTraining l

def execRetrain (p : Path) (l : LinkNo) (s : State) : Host.Outcome State Fault Refusal :=
  .next (if l.toNat < 48 then s.writeAt p (linkPage l) (linkOff l 0x040) (fun s => s.portRetrain l) else s)

/-- INJ_CRC (R286). -/
def execInjCrc (p : Path) (l : LinkNo) (s : State) : Host.Outcome State Fault Refusal :=
  .next (if l.toNat < 48 then
      s.writeAt p (linkPage l) (linkOff l 0x040) (fun s =>
        if s.linkExists l then s.modLnk l (fun k => { k with injCrc := true }) else s)
    else s)

/-- The links of a port whose SPLIT has changed (R258, R287): FC takes the defaults of the new form, half B trains or is gone. -/
def State.splitChanged (s : State) (port : Nat) (on : Bool) : State :=
  let b : LinkNo := BitVec.ofNat 6 (port + 24)
  let lanes0 := (List.range 9).foldl (fun s n =>
    s.setLane port n { bad := (s.lane port n).bad, lock := (s.lane port n).lock }) s
  if on then
    ((lanes0.wr (pgPORT port) 0x050 0x02800200).wr (pgPORT port) 0x450 0x02800200).startTraining b
  else (lanes0.wr (pgPORT port) 0x050 0x05000400).setLnk b {}

/-- HOLD_DOWN as written: it loses the link with cause 0x5; when it falls the port trains (R281, R283). -/
def State.holdChanged (s : State) (l : LinkNo) : State :=
  let k := s.lnk l
  if s.linkBit l 0x044 1 then
    if k.isUp then (s.linkLost l 5).modLnk l (fun k => { k with state := 0 })
    else (s.idleLanes l).setLnk l { state := 0, lost := k.lost }
  else if k.state == 0 then s.startTraining l
  else s

/-- A write of PORT.CFG (R258, R259, R287). -/
def State.portCfg (s : State) (l : LinkNo) (v : BitVec 32) : State :=
  let pg := linkPage l
  let port := portOf l.toNat
  let was := s.isSplit port
  if isHalfB l.toNat then
    let s1 := s.wr pg 0x444 (v &&& 0x1E)
    if was then s1.holdChanged l else s1
  else
    let down := (s.lnk l).state == 0 && (!was || (s.lnk (BitVec.ofNat 6 (port + 24))).state == 0)
    let now := if down then v.getLsbD 0 else was
    let s1 := s.wr pg 0x044 ((v &&& 0x1E) ||| (if now then 1 else 0))
    let s2 := if now != was then s1.splitChanged port now else s1
    s2.holdChanged l

/-- PORT_CFG. -/
def execPortCfg (p : Path) (l : LinkNo) (v : BitVec 32) (s : State) : Host.Outcome State Fault Refusal :=
  .next (if l.toNat < 48 then s.writeAt p (linkPage l) (linkOff l 0x044) (fun s => s.portCfg l v) else s)

/-! ### Answers to the device's own requests (R303, R305, R328, R330, R333, R343, R346) -/

/-- The data of a READ has come: it goes to the page's place, or on to the destination of a REMOTE_COPY. -/
def State.ownData (s : State) (o : OwnReq) (d : Bytes) : State :=
  match o.kind with
  | .copyRead id place =>
    match s.cmd? id with
    | none => s.dropOwn o
    | some c =>
      ((s.dropOwn o).addOwn (.copyWrite id place) true (BitVec.ofNat 13 (c.field 0x22 2)) c.job o.enc
        (BitVec.ofNat 64 (c.field 0x30 8 + place)) d.length d).pumpOwn
  | .migrate fid part =>
    match Tab.find? s.faults fid with
    | none => s.dropOwn o
    | some f =>
      match f.mig, s.leafAt f.tenant f.region.toNat with
      | some m, some lf =>
        match s.devWrite lf.handle (lf.offset.toNat * 65536 + 4096 * part) d with
        | (.ok _, s1) =>
          { s1.dropOwn o with faults := Tab.put s1.faults fid { f with mig := some { m with got := insNat part m.got } } }
        | (.fail st, s1) =>
          { s1.dropOwn o with
            faults := Tab.put s1.faults fid { f with mig := some { m with failed := some (m.failed.getD st) } } }
        | (.wait, s1) => s1.setOwn { o with data := d }
      | _, _ => s.dropOwn o
  | _ => s.dropOwn o

/-- A WRITE is confirmed. -/
def State.ownDone (s : State) (o : OwnReq) : State :=
  let s1 := s.dropOwn o
  match o.kind with
  | .copyWrite id _ =>
    let x := s1.xfer id
    s1.setXfer id { x with ok := x.ok + o.data.length }
  | .returnPage id part =>
    let x := s1.xfer id
    s1.setXfer id { x with got := insNat part x.got }
  | _ => s1

/-- A request has been answered NO_ROUTE: once more on the alternate path, or it fails (R328). -/
def State.ownNoRoute (s : State) (o : OwnReq) : State :=
  match s.sendAgain o with
  | some s1 => s1
  | none => (s.dropOwn o).ownFail o.kind o.addr 0x23

/-- A response to a request of the device's own. -/
def State.ownAnswer (s : State) (p : Packet) (write : Bool) : State :=
  match s.own.find? (fun o => o.tag == p.tag && o.dest == p.srcEp && o.write == write && o.sent.isSome && o.token.isNone &&
      (write || o.data.isEmpty)) with
  | none => s
  | some o =>
    let s1 := s.winResponse p.srcEp (p.ece || p.ce)
    let s2 := match p.status.toNat with
      | 0x00 => if write then s1.ownDone o else if p.data.length == o.len then s1.ownData o p.data else s1.badPkt
      | 0x20 => s1.setOwn { o with token := some p.token }
      | 0x23 => s1.ownNoRoute o
      | st => (s1.dropOwn o).ownFail o.kind o.addr st
    s2.ownNext o.kind

/-- READ_RSP (R333). -/
def execReadRsp (l : LinkNo) (pkt : Packet) (s : State) : Host.Outcome State Fault Refusal :=
  .next (s.receive l { pkt with opcode := 0x11 } (fun s p => s.ownAnswer p false))

/-- WRITE_RSP (R333). -/
def execWriteRsp (l : LinkNo) (pkt : Packet) (s : State) : Host.Outcome State Fault Refusal :=
  .next (s.receive l { pkt with opcode := 0x12 } (fun s p => s.ownAnswer p true))

/-- A deferred request of the device's own is issued again. -/
def State.reissueOwn (s : State) (o : OwnReq) : State :=
  match s.route o.dest with
  | some (path, out, alt) => s.launch o path out alt o.again
  | none => (s.dropOwn o).ownFail o.kind o.addr 0x23

/-- READY: the requests that wait for its token at that endpoint are issued again (R112, R303). -/
def execReady (l : LinkNo) (pkt : Packet) (s : State) : Host.Outcome State Fault Refusal :=
  .next (s.receive l { pkt with opcode := 0x20 } (fun s p =>
    (s.own.filter (fun o => o.dest == p.srcEp && o.token == some p.token)).foldl
      (fun s o => (s.reissueOwn o).ownNext o.kind) s))

/-- REQ_TMO: a request has had no first response within REQ_TMO (R303), or its DEFER has no READY to come (R247). -/
def execReqTmo (tag : BitVec 16) (s : State) : Host.Outcome State Fault Refusal :=
  match s.own.find? (fun o => o.tag == tag && o.sent.isSome) with
  | none => .next s
  | some o =>
    if o.token == some noToken then .next ((s.reissueOwn o).ownNext o.kind)
    else if o.token.isSome then .next s
    else .next ((s.ownLost o).ownNext o.kind)

end Sys2Proof.Machine
end

