-- ==== Sys2Proof/Machine/Identity.lean ====
section
/-! DEFINITION. The device's identity (R370), the measurement blocks with the transport keys (R372) and the SPDM responder (R371).
The layout of SPDM 1.2 messages is that of the DMTF standard that R371 names (PRESUMED, log entry 30). -/

namespace Sys2Proof.Machine

/-! ### Keys (Table 14-5) -/

/-- Text as bytes. -/
def ascii (t : String) : Bytes := t.toList.map (fun c => BitVec.ofNat 8 c.toNat)

/-- The UDS of the fuses. -/
def udsBytes : Bytes := (List.range 64).map Config.uds

/-- The digest of the firmware image that runs. -/
def State.fwDigest (s : State) : Bytes := (s.fw.map (·.digest)).getD []

/-- CDI, and the private scalars derived from it and from the UDS. -/
def cdiOf (digest : Bytes) : Bytes := hmac512 udsBytes digest
def aliasOf (digest : Bytes) : Nat := deriveScalar (cdiOf digest) (ascii "KBY6 ALIAS")
def journalOf (digest : Bytes) : Bytes := beBytes 66 (deriveScalar (cdiOf digest) (ascii "KBY6 JOURNAL"))

/-- The public key of a private scalar, 133 bytes. -/
def publicKey (d : Nat) : Bytes := ecEncode (ecMul ecG 521 d)

/-- An ECDSA signature; its nonce scalar is left open. -/
def State.sign (s : State) (d : Nat) (m : Bytes) : Bytes × State :=
  let (n, s1) := s.fresh
  (ecdsaSign d (Config.nonce (beNat (sha512 m)) n) m, s1)

/-! ### Transport keys (R365, R372) -/

/-- A transport key created for a report; a seventeenth replaces the oldest. -/
def State.newTransport (s : State) (h : Option (BitVec 16)) (nonce : Bytes) : TransportKey × State :=
  let (n, s1) := s.fresh
  let d := beNat ((List.range 72).map (Config.drbg n)) % (n521 - 1) + 1
  let k : TransportKey := { id := BitVec.ofNat 16 s1.nextKid, handle := h, nonce := nonce, priv := d }
  (k, { s1 with transport := (if s1.transport.length < 16 then s1.transport else s1.transport.drop 1) ++ [k],
                nextKid := s1.nextKid + 1 })

/-- A transport key by its ID. -/
def State.transport? (s : State) (kid : BitVec 16) : Option TransportKey := s.transport.find? (fun k => k.id == kid)

def State.dropTransport (s : State) (kid : BitVec 16) : State :=
  { s with transport := s.transport.filter (fun k => k.id != kid) }

/-- The key that wraps a blob (R365): from a transport key, a sender's public key, the job and the handle. -/
def kekOf (k : TransportKey) (sender : Bytes) (job : BitVec 20) (h : BitVec 16) : Option Bytes :=
  match ecDecode sender with
  | none => none
  | some q =>
    match ecMul (some q) 521 k.priv with
    | none => none
    | some (x, _) =>
      let ctx := k.nonce ++ leBytes 4 job.toNat ++ leBytes 2 h.toNat ++ [0, 0]
      some ((sha512 ([0, 0, 0, 1] ++ beBytes 66 x ++ ascii "KBY6WRAP" ++ ctx)).take 32)

/-- Unwrap a 40-byte blob. -/
def unwrapKey (k : TransportKey) (sender : Bytes) (job : BitVec 20) (h : BitVec 16) (blob : Bytes) : Option Bytes :=
  match kekOf k sender job h with
  | some kek => kwUnwrap kek blob
  | none => none

/-! ### Measurements (Table 14-6) -/

/-- Register words as 4 bytes each. -/
def State.words (s : State) (l : List (Nat × Nat)) : Bytes := l.flatMap (fun x => leBytes 4 (s.rd x.1 x.2).toNat)

/-- The identity of a library routine, 64 bytes. -/
def routineBytes (op : Nat) : Bytes := (List.range 64).map (Config.routineId op)

/-- Enabled cells of a bed: those in FREE, BOUND, LENT, PURGING or SELFTEST. -/
def State.enabledCells (s : State) (b : Nat) : Nat :=
  ((List.range 17).filter (fun i =>
    let x : Cell := Tab.get {} s.cells (17 * b + i)
    !(x.state == .spare || x.state == .failed))).length

/-- The list that a check under R367 uses for a plot: that bound to an ATTESTED pair, else its own. -/
def State.checkList (s : State) (h : BitVec 16) : Option (BitVec 10) :=
  let k : KeyPair := Tab.get {} s.pairs h.toNat
  if k.attested then k.list else (Tab.get ({} : Plot) s.plots h.toNat).cur.allow

/-- The values of block 0x80 for a handle. -/
def State.plotMeas (s : State) (h : BitVec 16) : List Nat :=
  let e := (Tab.get ({} : Plot) s.plots h.toNat).cur
  let k : KeyPair := Tab.get {} s.pairs h.toNat
  let n := s.checkList h
  let l := n.bind (fun i => Tab.find? s.allow i.toNat)
  [h.toNat, e.owner.toNat, ofBool e.conf + 2 * ofBool e.sealed + 4 * ofBool k.attested, (n.map BitVec.toNat).getD 0,
    ofBool ((l.map (·.frozen)).getD false), (l.map (fun x => x.ids.length)).getD 0] ++
    ((l.map (·.ids)).getD []).map BitVec.toNat

/-- The contents of a block; `h` is the handle of block 0x80, `kid` the transport key of block 0xF0. -/
def State.measure (s : State) (h : Option (BitVec 16)) (k : TransportKey) (i : Nat) : Bytes :=
  match i with
  | 0x01 => (List.range 64).map Config.bootRom
  | 0x02 => s.fwDigest
  | 0x03 => s.words [(pgSEC, 0x040), (pgSEC, 0x044), (pgSEC, 0x048), (pgSEC, 0x04C), (pgSEC, 0x050), (pgPLM, 0x078),
      (pgPLM, 0x07C), (pgPLM, 0x080), (pgPLM, 0x084)]
  | 0x04 => [0x10, 0x11, 0x04, 0x03, 0x05].flatMap routineBytes
  | 0x05 => Config.measRaw 0x05 ([0x8, (s.rd pgRSTC 0x05C).toNat] ++ (List.range 24).map s.enabledCells)
  | 0x80 => Config.measRaw 0x80 (match h with
      | some h => s.plotMeas h
      | none => [0])
  | _ => leBytes 2 k.id.toNat ++ publicKey k.priv

/-- The indices of the blocks. -/
def measIndices : List Nat := [0x01, 0x02, 0x03, 0x04, 0x05, 0x80, 0xF0]

/-- One block as SPDM carries it. -/
def measBlock (i : Nat) (d : Bytes) : Bytes :=
  let kind := (Config.measType i).toNat + (if i ≤ 2 then 0 else 128)
  leBytes 1 i ++ [0x01] ++ leBytes 2 (d.length + 3) ++ leBytes 1 kind ++ leBytes 2 d.length ++ d

/-- A MEASUREMENTS response up to its signature. -/
def measMessage (total : Nat) (blocks : List Bytes) (nonce : Bytes) : Bytes :=
  let rec_ := blocks.flatten
  [0x12, 0x60] ++ leBytes 1 total ++ [0] ++ leBytes 1 blocks.length ++ leBytes 3 rec_.length ++ rec_ ++ nonce ++ [0, 0]

/-- The message that a signature of SPDM 1.2 covers: the prefix of its context, then the digest of the transcript. -/
def spdmSigned (context : String) (transcript : Bytes) : Bytes :=
  let c := ascii context
  (ascii "dmtf-spdm-v1.2.*dmtf-spdm-v1.2.*dmtf-spdm-v1.2.*dmtf-spdm-v1.2.*") ++ List.replicate (36 - c.length) 0 ++ c ++
    sha512 transcript

def measContext : String := "responder-measurements signing"
def authContext : String := "responder-challenge_auth signing"

/-- The plot shown in block 0x80 (SEC.ATT_SEL). -/
def State.attSel (s : State) : Option (BitVec 16) :=
  if s.bit pgSEC 0x06C 16 then some (BitVec.ofNat 16 (s.fld pgSEC 0x06C 0 16)) else none

/-- A report over some blocks: its bytes up to the signature. One that carries block 0xF0 creates a transport key. -/
def State.report (s : State) (h : Option (BitVec 16)) (nonce : Bytes) (total : Nat) (is : List Nat) : Bytes × State :=
  let (k, s1) := if is.contains 0xF0 then s.newTransport h nonce else ({ id := 0, handle := none, nonce := [], priv := 0 }, s)
  (measMessage total (is.map (fun i => measBlock i (s.measure h k i))) nonce, s1)

/-! ### The SPDM responder (R371) -/

/-- An SPDM message leaves: on DOE, or as one packet of opcode 0x68 to the requester. -/
def State.spdmSend (s : State) (ep : Option (BitVec 13)) (m : Bytes) : State :=
  match ep with
  | none => s.emit (.doe m)
  | some e =>
    match s.route e with
    | none => s
    | some (path, out, _) =>
      (s.sendOwn path out false (fun p => { p with opcode := 0x68, dstEp := e, length := BitVec.ofNat 13 m.length, data := m })).2

/-- ERROR responses of SPDM. -/
def spdmError (code : Nat) : Bytes := [0x12, 0x7F] ++ leBytes 1 code ++ [0]

/-- The connection of a requester. -/
def State.spdmConn? (s : State) (ep : Option (BitVec 13)) : Option SpdmConn := s.spdm.find? (fun c => c.ep == ep)

def State.putConn (s : State) (c : SpdmConn) : State :=
  { s with spdm := s.spdm.filter (fun x => x.ep != c.ep) ++ [c] }

/-- A seventeenth requester over Iccel. -/
def State.spdmFull (s : State) (ep : Option (BitVec 13)) : Bool :=
  ep.isSome && (s.spdmConn? ep).isNone && decide (16 ≤ (s.spdm.filter (fun c => c.ep.isSome)).length)

/-- A request of a connection that has reached at least a stage; an earlier one is unexpected. -/
def State.spdmAt (s : State) (ep : Option (BitVec 13)) (stage : Nat) (f : SpdmConn → State) : State :=
  if s.phase != .running then s
  else if s.spdmFull ep then s.spdmSend ep (spdmError 0x03)
  else match s.spdmConn? ep with
    | some c => if c.stage < stage then s.spdmSend ep (spdmError 0x04) else f c
    | none => s.spdmSend ep (spdmError 0x04)

/-- GET_VERSION starts the connection afresh and offers 1.2 only. -/
def State.spdmVersion (s : State) (ep : Option (BitVec 13)) (rq : SpdmRequest) : State :=
  if s.phase != .running then s
  else if s.spdmFull ep then s.spdmSend ep (spdmError 0x03)
  else
    let m : Bytes := [0x10, 0x04, 0, 0, 0, 1, 0x00, 0x12]
    (s.putConn { ep := ep, stage := 1, vca := rq.raw ++ m }).spdmSend ep m

/-- GET_CAPABILITIES: CERT_CAP, CHAL_CAP and MEAS_CAP of 0b10. -/
def State.spdmCapabilities (s : State) (ep : Option (BitVec 13)) (rq : SpdmRequest) : State :=
  s.spdmAt ep 1 (fun c =>
    let caps : Bytes := (List.range 10).map Config.spdmCaps
    let m : Bytes := [0x12, 0x61, 0, 0, 0] ++ caps.take 1 ++ [0, 0] ++ leBytes 4 0x16 ++ (caps.drop 1).take 8
    (s.putConn { c with stage := 2, vca := c.vca ++ rq.raw ++ m, certs := [], meas := [] }).spdmSend ep m)

/-- NEGOTIATE_ALGORITHMS: ECDSA P-521 and SHA-512 only. -/
def State.spdmAlgorithms (s : State) (ep : Option (BitVec 13)) (rq : SpdmRequest) : State :=
  s.spdmAt ep 2 (fun c =>
    let m : Bytes := [0x12, 0x63, 0, 0] ++ leBytes 2 36 ++ [0x01, 0] ++ leBytes 4 8 ++ leBytes 4 0x100 ++ leBytes 4 4 ++
      List.replicate 16 0
    (s.putConn { c with stage := 3, vca := c.vca ++ rq.raw ++ m }).spdmSend ep m)

/-- The certificate chain of slot 0: that of the maker, and the Alias certificate with the firmware digest. -/
def State.certChain (s : State) : Bytes :=
  let body := Config.certChain ++ Config.certDer 0 (publicKey (aliasOf s.fwDigest) ++ s.fwDigest)
  leBytes 2 (body.length + 68) ++ [0, 0] ++ sha512 Config.certChain ++ body

/-- GET_DIGESTS. -/
def State.spdmDigests (s : State) (ep : Option (BitVec 13)) (rq : SpdmRequest) : State :=
  s.spdmAt ep 3 (fun c =>
    let m : Bytes := [0x12, 0x01, 0, 0x01] ++ sha512 s.certChain
    (s.putConn { c with certs := c.certs ++ rq.raw ++ m }).spdmSend ep m)

/-- GET_CERTIFICATE, of slot 0 only. -/
def State.spdmCertificate (s : State) (ep : Option (BitVec 13)) (rq : SpdmRequest) : State :=
  s.spdmAt ep 3 (fun c =>
    let all := s.certChain
    if rq.slot != 0 || decide (all.length ≤ rq.offset.toNat) then s.spdmSend ep (spdmError 0x01)
    else
      let part := (all.drop rq.offset.toNat).take rq.length.toNat
      let m : Bytes := [0x12, 0x02, 0, 0] ++ leBytes 2 part.length ++ leBytes 2 (all.length - rq.offset.toNat - part.length) ++ part
      (s.putConn { c with certs := c.certs ++ rq.raw ++ m }).spdmSend ep m)

/-- 32 bytes of the DRBG for the responder's nonce. -/
def State.spdmNonce (s : State) : Bytes × State :=
  let (n, s1) := s.fresh
  ((List.range 32).map (Config.drbg n), s1)

/-- CHALLENGE, signed by the Alias key. -/
def State.spdmChallenge (s : State) (ep : Option (BitVec 13)) (rq : SpdmRequest) : State :=
  s.spdmAt ep 3 (fun c =>
    if rq.slot != 0 then s.spdmSend ep (spdmError 0x01)
    else
      let (nonce, s1) := s.spdmNonce
      let m : Bytes := [0x12, 0x03, 0, 0x01] ++ sha512 s.certChain ++ nonce ++ [0, 0]
      let (sig, s2) := s1.sign (aliasOf s.fwDigest) (spdmSigned authContext (c.vca ++ c.certs ++ rq.raw ++ m))
      (s2.putConn { c with certs := [], meas := [] }).spdmSend ep (m ++ sig))

/-- GET_MEASUREMENTS: the number of blocks, one block or all. -/
def State.spdmMeasurements (s : State) (ep : Option (BitVec 13)) (rq : SpdmRequest) : State :=
  s.spdmAt ep 3 (fun c =>
    let i := rq.index.toNat
    let is := if i == 0xFF then measIndices else if i == 0 then [] else [i]
    if rq.slot != 0 || is.any (fun x => !measIndices.contains x) then s.spdmSend ep (spdmError 0x01)
    else
      let (nonce, s1) := s.spdmNonce
      let own := if rq.sign then rq.nonce else nonce
      let (m, s2) := s1.report s.attSel own (if i == 0 then measIndices.length else 0) is
      let body := (m.take (m.length - own.length - 2)) ++ nonce ++ [0, 0]
      let l := c.meas ++ rq.raw ++ body
      if rq.sign then
        let (sig, s3) := s2.sign (aliasOf s.fwDigest) (spdmSigned measContext (c.vca ++ l))
        (s3.putConn { c with meas := [] }).spdmSend ep (body ++ sig)
      else (s2.putConn { c with meas := l }).spdmSend ep body)

end Sys2Proof.Machine
end

