-- ==== Sys2Proof/Machine/Journals.lean ====
section
/-! DEFINITION. Closing a journal (R379, R391), which plot commands, engine commands and failures share. -/

namespace Sys2Proof.Machine

/-- A command whose outputs are written ends JOURNAL_UNAVAILABLE instead of receiving its record (R391). -/
def State.noRecord (s : State) (id : Nat) : State :=
  match s.cmd? id with
  | none => s
  | some c =>
    let s1 := (s.inc pgJNL 0x068).raise pgJNL 1
    s1.putCmd id { c with phase := .posting, status := BitVec.ofNat 8 cstJournal, result := [], place := false }

/-- A JNL command that waits for a tenant's journal: an OPEN whose record is not committed, a CLOSE whose checkpoint is not. -/
def State.endJnlWait (s : State) (t : Nat) : State :=
  match Tab.find? s.wait pgJNL with
  | some w =>
    if w.h.toNat == t && !w.auto then
      ({ s with wait := Tab.del s.wait pgJNL }).complete pgJNL (if w.op == 2 then 0x00 else 0x05)
    else s
  | none => s

/-- A JOURNAL_SIGN_NOW whose checkpoint will not be committed. -/
def State.endSignNow (s : State) (t : Nat) : State :=
  match s.running with
  | some r =>
    if hoCode r.hdr == 0x0A && fieldOf ((r.words[1]?).getD 0).toNat 0 12 == t then s.hoEnd r.hdr hoNotOpen [] else s
  | none => s

/-- A journal closes: commands that wait for their record end without it, and the places of the others are gone. -/
def State.closeJournal (s : State) (t : Nat) : State :=
  if !Tab.has s.journals t then s
  else
    let s1 := { s with journals := Tab.del s.journals t }.raise pgJNL 2
    let mine := s1.cmds.filter (fun kv => kv.2.place && kv.2.tenant.toNat == t)
    let s2 := mine.foldl (fun s kv =>
      if kv.2.phase == .record then s.noRecord kv.1
      else match s.cmd? kv.1 with
        | some c => s.putCmd kv.1 { c with place := false }
        | none => s) s1
    (s2.endJnlWait t).endSignNow t

/-- The journals on a plot close. -/
def State.closeJournalOn (s : State) (h : BitVec 16) : State :=
  match s.journals.find? (fun kv => kv.2.plot == h) with
  | some (t, _) => s.closeJournal t
  | none => s

end Sys2Proof.Machine
end

