-- ==== Sys2Proof/Machine/TierRows.lean ====
section
/-! DEFINITION. Meanings of the commands of 09_dense_tier.md: format and cache size, drives, fills and write-backs, the tier
tags on flash and the re-key sweep of a TIERED plot. -/

namespace Sys2Proof.Machine

/-- A TIERED plot exists (R238, R243). -/
def State.tieredExists (s : State) : Bool :=
  s.plots.any (fun kv => kv.2.cur.tiered && kv.2.cur.state != .unused && kv.2.cur.state != .released)

/-- TIER.IRQ_STATUS.CFG_REJECT. -/
def State.cfgReject (s : State) : State := s.raise pgTIER 2

/-- Blocks per slot area per drive (R238). -/
def areaOf (w : Nat) : Nat := (4096 + w - 1) / w

/-- Capacity in slots of drives of `c` LBAs (R238). -/
def slotsFor (c w : Nat) : Nat :=
  let n := (c - 37120) / (16 * areaOf w)
  if n > 8388608 then 8388608 else n

/-- FORMAT of every drive that is present and not failed (R238, R239). -/
def State.formatTier (s : State) : State :=
  let good := s.drives.filter (fun kv => kv.2.present && !s.driveFailed kv.1)
  let w := good.length
  if s.tieredExists || w == 0 then s.cfgReject
  else
    let c := good.foldl (fun m kv => if kv.2.lbas < m then kv.2.lbas else m) ((good.head?.map (fun kv => kv.2.lbas)).getD 0)
    let gen := 1 + good.foldl (fun g kv => match kv.2.sb with
      | some b => if b.gen > g then b.gen else g
      | none => g) 0
    let (n, s1) := s.fresh
    let tid := BitVec.ofNat 128 (leNat ((List.range 16).map (Config.drbg n)))
    let serials := good.map (fun kv => kv.2.serial)
    let mk (pos : Nat) : TierSb :=
      { gen := gen, w := w, pos := pos, area := areaOf w, slots := slotsFor c w, tierId := tid, serials := serials }
    let placed := good.map (fun kv => kv.1)
    let s2 : State := { s1 with
      drives := s1.drives.map (fun kv =>
        match placed.findIdx? (· == kv.1) with
        | some pos => (kv.1, { kv.2 with sb := some (mk pos) })
        | none => kv)
      tags := [], tagsFlash := [], tagPages := [], plotRecs := [], flash := [], cmem := [], cache := [], fills := [],
      dealloc := [] }
    (((s2.setFld pgTIER 0x054 0 5 w).setFld pgTIER 0x054 5 1 1).setFld pgTIER 0x058 0 24 (slotsFor c w)).raise pgTIER 3

/-- FORMAT: a write of 1 to TIER.CTRL.FORMAT (R238). -/
def execFormat (p : Path) (s : State) : Host.Outcome State Fault Refusal :=
  .next (s.writeAt p pgTIER 0x008 State.formatTier)

/-- Set the size of the tier cache (R243). -/
def State.setCacheSize (s : State) (n : Nat) : State :=
  let s0 : State := { s with cacheGrans := [] }
  let per := n / 24
  let got := (List.range 24).map (fun st => (s0.freeOn st).take per)
  if n % 24 != 0 || n > 8184 || s.tieredExists || got.any (fun l => l.length < per) then s.cfgReject
  else
    { s0 with cacheGrans := got.flatten, cache := [], fills := [] }.setFld pgTIER 0x040 0 14 n

/-- CACHE_SIZE (R243). -/
def execCacheSize (p : Path) (v : BitVec 32) (s : State) : Host.Outcome State Fault Refusal :=
  .next (s.writeAt p pgTIER 0x040 (fun s => s.setCacheSize (v.toNat % 2 ^ 14)))

/-! ### Fills -/

/-- A fill fails: its waiters receive READY, and their reissue UNCORRECTABLE (R250). -/
def State.failFill (s : State) (tb : Nat) : State :=
  match Tab.find? s.fills tb with
  | some f =>
    if f.failed then s
    else ({ s with fills := Tab.put s.fills tb { f with failed := true } }).readyAll f.token f.waiters
  | none => s

/-- The number of a block. -/
def BlockId.num (b : BlockId) : Nat := b.slot.toNat * 4096 + b.blk.toNat

/-- TIER_FILL_COMPLETE: a fill's drive read is done; the block is resident and READY goes to every waiter (R244, R246). -/
def execTierFillComplete (tb : BlockId) (s : State) : Host.Outcome State Fault Refusal :=
  let n := BlockId.num tb
  match Tab.find? s.fills n with
  | none => .next s
  | some f =>
    if f.failed then .next s
    else if s.blockFailed n || (!f.issued && s.setStuck (s.tierSet n)) then .next (s.failFill n).pumpFills
    else if !f.issued then .next s.pumpFills
    else
      let us := (s.time - f.since) / 1000
      let s1 : State := { s with fills := Tab.del s.fills n }
      let s2 := s1.installBlock n (!f.waiters.isEmpty) f.waiters
      let s3 := if us > s2.fld pgTIER 0x07C 0 16 then s2.setFld pgTIER 0x07C 0 16 (if us > 65535 then 65535 else us) else s2
      .next (s3.readyAll f.token f.waiters).pumpFills

/-- KEEP_TIME_EXPIRY: 100 µs after READY a filled block may be evicted again (R246). -/
def execKeepTimeExpiry (tb : BlockId) (s : State) : Host.Outcome State Fault Refusal :=
  let n := BlockId.num tb
  match Tab.find? s.cache n with
  | some b => .next ({ s with cache := Tab.put s.cache n { b with keep := false, waiters := [] } }).pumpFills
  | none => .next s

/-! ### Write-back -/

/-- TIER_WRITEBACK: the oldest dirty block is written back (R248, R251); its time or the dirty count calls for it. -/
def execTierWriteback (s : State) : Host.Outcome State Fault Refusal :=
  match s.oldestDirty with
  | some (tb, b) => .next (s.startWriteback tb b)
  | none => .next s

/-- WRITEBACK_ACK: the drive has written a block (R245). -/
def execWritebackAck (tb : BlockId) (s : State) : Host.Outcome State Fault Refusal :=
  .next (s.ackWriteback (BlockId.num tb)).pumpFills

/-- DEALLOCATE_COMPLETE: every drive has deallocated a slot's range; ZERO is cleared (R240). -/
def execDeallocateComplete (slot : BitVec 23) (s : State) : Host.Outcome State Fault Refusal :=
  let n := slot.toNat
  if !s.dealloc.contains n then .next s
  else
    let s1 := s.setTag n { s.tag n with zero := false }
    .next ({ s1 with dealloc := s1.dealloc.filter (· != n), flash := s1.flash.filter (fun kv => kv.1 / unitBytes != n) }).pumpFills

/-- Storage of plot keys on flash (R362). -/
def State.storageEn (s : State) : Bool := s.bit pgSEC 0x048 1

/-- The plot records as the engine keeps them (R242, R362). -/
def State.plotRecords (s : State) : List (Nat × PlotRecFlash) :=
  if !s.storageEn then []
  else s.plots.filterMap (fun kv =>
    let e := kv.2.cur
    if e.tiered && e.conf && e.state != .unused && e.state != .released then
      let k := s.pair (BitVec.ofNat 16 kv.1)
      some (kv.1, { cur := k.cur, prev := k.prev, parity := k.parity, attested := k.attested, list := k.list,
                    sweep := k.sweep, ptr := k.ptr })
    else none)

/-- Write one tag page to flash (R241). -/
def State.writeTagPage (s : State) (pg : Nat) : State :=
  let inPg (k : Nat) : Bool := k / 256 == pg
  { s with tagPages := s.tagPages.filter (· != pg)
           tagsFlash := s.tagsFlash.filter (fun kv => decide (kv.1 / 256 < pg)) ++ s.tags.filter (fun kv => inPg kv.1) ++
             s.tagsFlash.filter (fun kv => decide (pg < kv.1 / 256)) }

/-- TAG_PAGE_WRITE: a changed tag page, and the plot records, are written with FUA (R241, R242). -/
def execTagPageWrite (s : State) : Host.Outcome State Fault Refusal :=
  let s1 : State := { s with plotRecs := s.plotRecords }
  match s1.tagPages with
  | pg :: _ => .next (s1.writeTagPage pg)
  | [] => .next s1

/-- Steps 3 and 4 of Table 09-2 with no deadline: every dirty block that a good drive can take, oldest first, and every
changed tag page. -/
def State.flushTier (s : State) : State :=
  let s1 := s.cache.foldl (fun s _ =>
    match s.oldestDirty with
    | some (tb, _) => s.writebackNow tb
    | none => s) s
  let s2 := s1.tagPages.foldl (fun s pg => s.writeTagPage pg) s1
  { s2 with plotRecs := s2.plotRecords }

/-! ### Drives -/

/-- A drive fails (R237, R250): write-backs to it end with their blocks still dirty, fills from it fail. -/
def State.driveFail (s : State) (d : Nat) : State :=
  let s1 := (s.setFld pgTIER 0x050 (16 + d) 1 1).raise pgTIER 0
  let s2 : State := { s1 with cache := s1.cache.map (fun kv =>
    if kv.2.wb && s1.blockFailed kv.1 then (kv.1, { kv.2 with wb := false }) else kv) }
  (s2.fills.foldl (fun s kv => if kv.2.issued && s.blockFailed kv.1 then s.failFill kv.1 else s) s2).pumpFills

/-- DRIVE_FAIL (R237). -/
def execDriveFail (d : BitVec 4) (s : State) : Host.Outcome State Fault Refusal :=
  .next (if s.driveFailed d.toNat then s else s.driveFail d.toNat)

/-- DRIVE_COMMAND_TIMEOUT: an I/O command has no answer within FILL_TMO; the third time fails the drive (R237). -/
def execDriveCommandTimeout (d : BitVec 4) (s : State) : Host.Outcome State Fault Refusal :=
  let n := Tab.get 0 s.driveTries d.toNat + 1
  if s.driveFailed d.toNat then .next s
  else if n ≥ 3 then .next (({ s with driveTries := Tab.del s.driveTries d.toNat }).driveFail d.toNat)
  else .next { s with driveTries := Tab.put s.driveTries d.toNat n }

/-! ### Re-key of a TIERED plot (R363, R364) -/

/-- The blocks of a plot, in ascending order of unit and block, from the re-key pointer on that are not marked ZERO. -/
def State.rekeyNext (s : State) (e : PlotEntry) (ptr : Nat) : Option Nat :=
  firstFrom (fun i => match e.slots[i / 4096]? with
    | some slot => !(s.tag slot).zero
    | none => false) (e.slots.length * 4096 - ptr) ptr

/-- TIER_REKEY_BLOCK: the tier engine brings the next block of a sweep to the current key and writes it back. -/
def execTierRekeyBlock (h : BitVec 16) (s : State) : Host.Outcome State Fault Refusal :=
  let k := s.pair h
  let e := (s.plot h).cur
  if !k.sweep || !e.tiered || s.dormant then .next s
  else match s.rekeyNext e k.ptr with
    | none => .next (s.setPair h { k with ptr := e.slots.length * 4096 })
    | some i =>
      let tb := ((e.slots[i / 4096]?).getD 0) * 4096 + i % 4096
      let s1 := match s.bulkBlock tb true with
        | some s1 => { s1 with wmeta := setBlockKg s1.wmeta tb k.parity }.writebackNow tb
        | none => s
      .next (s1.setPair h { k with ptr := i + 1 })

end Sys2Proof.Machine
end

