-- ==== Sys2Proof/Machine/Plots.lean ====
section
/-! DEFINITION. The PLM (02_plots.md): the attribute word, capacity and limits, the PLM commands, revoking commands from their
acceptance to their completion, and PUBLISH. -/

namespace Sys2Proof.Machine

/-! ### Statuses of Table 02-5 -/

def plInvalid : Nat := 0x01
def plNoPlot : Nat := 0x02
def plInUse : Nat := 0x03
def plNoHandle : Nat := 0x04
def plNoCapacity : Nat := 0x05
def plLimit : Nat := 0x06
def plGrantFull : Nat := 0x07
def plNoGrant : Nat := 0x08
def plBusy : Nat := 0x09
def plNoTenant : Nat := 0x0A
def plComplement : Nat := 0x0B
def plLoss : Nat := 0x0C
def plRevoked : Nat := 0x0D

/-- A PLM command completes on a handle, with OPS_ABORTED, LINES_LOST, DRAIN_TIME and ABORTED_XFER (Table 02-4). -/
def State.plmEnd (s : State) (st : Nat) (h : BitVec 16) (lo hi : Nat) : State :=
  (((s.setFld pgPLM 0x054 16 16 h.toNat).wr pgPLM 0x058 (BitVec.ofNat 32 lo)).wr pgPLM 0x05C (BitVec.ofNat 32 hi)).complete pgPLM st

/-- A command with no revocation point leaves the four results at zero (DEDUCED, log entry 70). -/
def State.plmDone (s : State) (st : Nat) (h : BitVec 16) : State := s.plmEnd st h 0 0

/-- The command waits with BUSY at 1 (R54, R55). -/
def State.plmWait (s : State) (op : BitVec 4) (auto : Bool) (h : BitVec 16) : State :=
  { s with wait := Tab.put s.wait pgPLM { op := op, auto := auto, h := h } }

/-! ### Attributes (Tables 02-1, 02-7) -/

/-- A handle that is free for CREATE. -/
def freeState (e : PlotEntry) : Bool := e.state == .unused || e.state == .released

/-- The entry that ARG0 to ARG2 describe. -/
def attrEntry (a0 a1 a2 : Nat) : PlotEntry :=
  { state := .active
    owner := BitVec.ofNat 12 (fieldOf a0 0 12)
    tiered := a0.testBit 12
    uncached := a0.testBit 13
    conf := a0.testBit 14
    ilv := BitVec.ofNat 3 (fieldOf a0 16 3)
    set := BitVec.ofNat 5 (fieldOf a2 0 5)
    pgsz := BitVec.ofNat 2 (fieldOf a0 20 2)
    size := fieldOf a1 0 17
    maxSize := fieldOf a1 0 17 }

/-- A size that R32, R33 or R35 does not allow. -/
def sizeBad (e : PlotEntry) (n : Nat) : Bool :=
  n == 0 || (e.pgsz == 2 && n % 4 != 0) || (if e.tiered then decide (65536 < n) else n % ilvSize e.ilv != 0)

/-- Attributes against R31, R33 and Table 02-7. -/
def attrBad (e : PlotEntry) : Bool :=
  e.pgsz == 3 || sizeBad e e.size || decide (24 / ilvSize e.ilv ≤ e.set.toNat) || (e.tiered && !(e.ilv == 7 && e.set == 0))

/-- The attribute word that QUERY writes, with the sealed flag in bit 15. -/
def attrWord (e : PlotEntry) : Nat :=
  let b (x : Bool) (n : Nat) : Nat := if x then 2 ^ n else 0
  e.owner.toNat + b e.tiered 12 + b e.uncached 13 + b e.conf 14 + b e.sealed 15 + e.ilv.toNat * 2 ^ 16 + e.pgsz.toNat * 2 ^ 20

/-- The code of a state (Table 02-2). -/
def plotCode : PlotState → Nat
  | .unused => 0
  | .active => 1
  | .draining => 2
  | .revoked => 3
  | .released => 4
  | .publishing => 5
  | .cplErr => 6

/-- The state of a handle as reported: DRAINING until the drain completes (R53). -/
def reportedState (p : Plot) : PlotState := if p.rev.isSome then .draining else p.cur.state

/-! ### Limits and capacity -/

/-- The plots of a tenant but one handle. -/
def State.plotsOf (s : State) (t : BitVec 12) (but : BitVec 16) : List PlotEntry :=
  (s.plots.filter (fun kv => kv.1 != but.toNat && kv.2.cur.owner == t && !freeState kv.2.cur)).map (·.2.cur)

/-- Whether a limit of the owner tenant would be exceeded by a plot of this entry at this handle (PLM.LIMIT_PLOTS,
LIMIT_GRANULES, LIMIT_TIERED). -/
def State.overLimit (s : State) (h : BitVec 16) (e : PlotEntry) : Bool :=
  let mine := s.plotsOf e.owner h
  let total (tiered : Bool) : Nat := mine.foldl (fun n x => if x.tiered == tiered then n + x.size else n) 0
  decide (s.fld pgPLM 0x078 0 17 < mine.length + 1) ||
    (if e.tiered then decide (s.fld pgPLM 0x080 0 24 < total true + e.size)
     else decide (s.fld pgPLM 0x07C 0 14 < total false + e.size))

/-- What the device has for a plot: granules and slots, granules that are still being cleared, or not enough. -/
inductive Room where
  | ok (grans slots : List Nat) | wait | none
  deriving DecidableEq, Repr

/-- The stacks of an interleave set (R31). -/
def setStacks (e : PlotEntry) : List Nat := (List.range (ilvSize e.ilv)).map (ilvSize e.ilv * e.set.toNat + ·)

/-- Rows of k granules for a PINNED plot, lowest free first on each stack (R32). -/
def State.granRoom (s : State) (e : PlotEntry) (rows : Nat) : Room :=
  let cols := (setStacks e).map (fun st => (s.freeOn st).take rows)
  if cols.all (fun c => c.length == rows) then
    .ok ((List.range rows).flatMap (fun i => cols.map (fun l => (l[i]?).getD 0))) []
  else
    let soon (st : Nat) : Nat :=
      (s.freeOn st).length + (s.clearing.filter (fun g => granStack g == st && !s.granRetired g)).length
    if (setStacks e).all (fun st => decide (rows ≤ soon st)) then .wait else .none

/-- The lowest slots that no plot owns (R240). -/
def State.lowSlots (s : State) (n : Nat) : List Nat :=
  let cap := s.fld pgTIER 0x058 0 24
  let m := s.tags.length + n
  ((List.range (if m < cap then m else cap)).filter (fun k => !(s.tag k).valid)).take n

/-- A tier that can hold plots: formatted, with a cache (R239, R243). -/
def State.tierUp (s : State) : Bool := s.bit pgTIER 0x054 5 && s.fld pgTIER 0x040 0 14 != 0

def State.slotRoom (s : State) (n : Nat) : Room :=
  let l := s.lowSlots n
  if s.tierUp && l.length == n then .ok [] l else .none

/-- Room for n more units of a plot. -/
def State.room (s : State) (e : PlotEntry) (n : Nat) : Room :=
  if e.tiered then s.slotRoom n else s.granRoom e (n / ilvSize e.ilv)

/-- Number a list from 0. -/
def numbered (l : List Nat) : List (Nat × Nat) := (List.range l.length).zip l

/-- The granule map and the tier tags name a plot's granules and slots (R40, R240). -/
def State.ownPlaces (s : State) (h : BitVec 16) (e : PlotEntry) : State :=
  let s1 : State := { s with granules := (numbered e.grans).foldl (fun l (x : Nat × Nat) =>
    Tab.put l x.2 { owner := h, pos := x.1, sealed := e.sealed }) s.granules }
  (numbered e.slots).foldl (fun s (x : Nat × Nat) =>
    s.setTag x.2 { owner := h, unit := BitVec.ofNat 16 x.1, valid := true, zero := (s.tag x.2).zero }) s1

/-- Granules given up: out of the granule map, and being cleared until they join FREE_GRANULES (R48, R55). -/
def State.giveUpGrans (s : State) (l : List Nat) : State :=
  { s with granules := s.granules.filter (fun kv => !l.contains kv.1)
           clearing := l.foldl (fun c g => insNat g c) s.clearing }

/-- A slot given up: its blocks leave the cache unwritten, what waited for them asks again, and it reads as zero
(R56, R240). -/
def State.giveUpSlot (s : State) (slot : Nat) : State :=
  let inSlot (tb : Nat) : Bool := tb / 4096 == slot
  let waits := s.fills.filter (fun kv => inSlot kv.1)
  let s1 : State := { s with fills := s.fills.filter (fun kv => !inSlot kv.1) }
  let s2 := waits.foldl (fun s kv => s.readyAll kv.2.token kv.2.waiters) s1
  let s3 := (s2.cache.filter (fun kv => inSlot kv.1)).foldl (fun s kv => s.dropBlock kv.1) s2
  let s4 := s3.setTag slot { owner := 0, unit := 0, valid := false, zero := true }
  s4.freeHolds

/-! ### Lines of requesters that lose access (Table 02-9) -/

/-- Whose cached lines a new entry takes back: every line, those from an offset on, those of endpoints that lose R or W. -/
inductive Losing where
  | nobody | all | above (ofs : Nat) | eps (l : List (BitVec 13))
  deriving DecidableEq, Repr

/-- R and W that an entry had and has no longer. -/
def lostRights (old new : List Grant) (g : Grant) : BitVec 4 :=
  let now := (new.find? (fun x => x.job == g.job && x.id == g.id)).map (·.live)
  let _ := old
  g.live &&& ~~~(now.getD 0) &&& (rightR ||| rightW)

/-- Who loses access between two entries. A line's record names endpoints only: when a job loses a right every line is
taken back (DEDUCED, log entry 70). -/
def losing (cur new : PlotEntry) : Losing :=
  let gs := cur.grants.filter (fun g => lostRights cur.grants new.grants g != 0)
  if new.state == .revoked || new.state == .released || (new.sealed && !cur.sealed) || new.allow != cur.allow then .all
  else if new.size < cur.size then .above (plotBytes new)
  else if gs.isEmpty then .nobody
  else if gs.any (·.job) then .all
  else .eps (gs.map (fun g => g.id.setWidth 13))

/-- A record names one of some endpoints. -/
def recNames (l : List (BitVec 13)) : Option LineRec → Bool
  | some (.s ps) => ps.any (fun p => l.contains p)
  | some (.sc v) => l.any (fun e => v.getLsbD (e.toNat / 64))
  | some (.em (.ep o)) => l.contains o
  | _ => false

/-- Whether a line is one that must be taken back: by its record, or by the record that its transaction leads to. -/
def State.lineLoses (s : State) (x : Losing) (line : Nat) : Bool :=
  match x with
  | .nobody => false
  | .all => true
  | .above o => decide (o < lineOfs line + 128)
  | .eps l => recNames l (s.rec_ line) || recNames l ((Tab.find? s.txns line).bind (·.after_))

/-- Lines of a plot with a record or a transaction. -/
def State.linesAt (s : State) (h : BitVec 16) : List Nat :=
  let ls := (s.recs.map (·.1)).filter (fun l => lineHandle l == h)
  ls ++ ((s.txns.map (·.1)).filter (fun l => lineHandle l == h && !ls.contains l))

/-- Take back one line: from the endpoints that lose it where its record names each, else altogether. -/
def State.takeLine (s : State) (h : BitVec 16) (e : PlotEntry) (x : Losing) (line : Nat) : State :=
  match x, s.rec_ line, Tab.find? s.txns line with
  | .eps l, some (.s ps), none =>
    let rest := ps.filter (fun p => !l.contains p)
    s.startTxn line (.plot h) ((ps.filter (fun p => l.contains p)).map (fun p => (p, false, false)))
      (if rest.isEmpty then none else some (.s rest)) h e
  | _, _, _ => s.clearLine line (.plot h) h e

/-- Take back every line that a new entry takes back. -/
def State.takeLines (s : State) (h : BitVec 16) (cur new : PlotEntry) : State :=
  let x := losing cur new
  ((s.linesAt h).filter (s.lineLoses x)).foldl (fun s l => s.takeLine h cur x l) s

/-! ### Bulk operations that a new entry denies (R186) -/

/-- Operations of steps 1 to 3 of Table 06-18. -/
def bulkOp (op : Nat) : Bool := libraryOp op || op == 0x01 || op == 0x02 || op == 0x03 || op == 0x04 || op == 0x05 || op == 0x12

/-- Commands that have read the plot and whose further reads the new entry denies. -/
def State.deniedCmds (s : State) (h : BitVec 16) (new : PlotEntry) : List Nat :=
  (s.cmds.filter (fun kv =>
    let c := kv.2
    (c.phase == .running || c.phase == .ranked) && bulkOp c.opcode && c.reads.any (fun r => r.1 == h.toNat) &&
      s.checkEntry h new (.inside c.job (if libraryOp c.opcode then some (routineIdent c.opcode) else none)) .read rightR 0 0
        != stOK)).map (·.1)

/-- They stop with REVOKED. Where the failure was met without an access, its TVA is left open. -/
def State.stopDenied (s : State) (h : BitVec 16) (new : PlotEntry) : Nat × State :=
  let ids := s.deniedCmds h new
  (ids.length, ids.foldl (fun s id =>
    let (n, s1) := s.fresh
    s1.finish id stRevoked (failResult ((Config.value n).toNat % 2 ^ 57) 0) 0) s)

/-! ### Revoking commands (R53, R54) -/

/-- A revoking command places the plot in DRAINING. -/
def State.startRevoke (s : State) (h : BitVec 16) (new : PlotEntry) (final : PlotState) (freed freedSlots : List Nat)
    (byCmd : Bool) : State :=
  let p := s.plot h
  let cur := if p.cur.state == .active then { p.cur with state := .draining } else p.cur
  let r : Revoking :=
    { entry := { new with state := if final == .active then .draining else final }, at0 := false, at1 := false,
      final := final, freed := freed, freedSlots := freedSlots, byCmd := byCmd, since := 0, aborted := 0, lost := 0,
      xfer := false, mark := 0 }
  s.setPlot h { p with cur := cur, rev := some r }

/-- The state a command leaves a plot in: CPL_ERR stays (R39). -/
def finalState (e : PlotEntry) : PlotState := if e.state == .cplErr then .cplErr else .active

/-- REVOKE_ALL: every grant becomes a tombstone. -/
def revokedEntry (e : PlotEntry) : PlotEntry :=
  { e with state := .revoked, grants := e.grants.map (fun g => { g with live := 0, removed := g.removed ||| g.live }) }

def State.startRevokeAll (s : State) (h : BitVec 16) (byCmd : Bool) : State :=
  s.startRevoke h (revokedEntry (s.plot h).cur) .revoked [] [] byCmd

def State.startRelease (s : State) (h : BitVec 16) (byCmd : Bool) : State :=
  let e := (s.plot h).cur
  s.startRevoke h { e with state := .released } .released e.grans e.slots byCmd

/-- A plot is the target or the shadow of a PUBLISH in progress. -/
def State.pubTarget (s : State) (h : BitVec 16) : Bool := s.publishing.any (fun p => p.target == h)
def State.pubShadow (s : State) (h : BitVec 16) : Bool := s.publishing.any (fun p => p.shadow == h)

/-- A plot of a tenant that is being removed reaches REVOKE_ALL when nothing else holds it (Table 14-7, step 2). -/
def State.removalRevoke (s : State) (h : BitVec 16) : State :=
  let p := s.plot h
  let gone := ((Tab.find? s.tenants p.cur.owner.toNat).map (·.removing)).getD false
  if !gone || freeState p.cur || p.cur.state == .revoked || p.rev.isSome || s.pubTarget h || s.pubShadow h then s
  else s.startRevokeAll h false

/-- A hub applies the new entry; with the second, the recalls, the shootdown and the stops begin (Table 02-8). -/
def State.revokePoint (s : State) (hub : Hub) (h : BitVec 16) : State :=
  let p := s.plot h
  match p.rev with
  | none => s
  | some r =>
    let r1 : Revoking := { r with
      at0 := r.at0 || hub == .h0, at1 := r.at1 || hub == .h1, since := if r.at0 || r.at1 then r.since else s.time }
    if (r.at0 && r.at1) || !(r1.at0 && r1.at1) then s.setPlot h { p with rev := some r1 }
    else
      let s1 := s.setPlot h { p with rev := some { r1 with mark := s.nextRq } }
      let s2 := s1.takeLines h p.cur r1.entry
      let s3 := s2.startShoot { by_ := .revoke h, tenant := none, lo := 0, hi := 0, plots := [h] }
      let (n, s4) := s3.stopDenied h r1.entry
      let q := s4.plot h
      let s5 := s4.setPlot h { q with rev := q.rev.map (fun x => { x with aborted := x.aborted + n }) }
      if r1.final == .released || r1.final == .revoked then s5.closeJournalOn h else s5

/-- What a revoking command leaves when its drain is complete. -/
def State.applyRevoke (s : State) (h : BitVec 16) (p : Plot) (r : Revoking) : State :=
  let s1 := r.freedSlots.foldl (fun s k => s.giveUpSlot k) (s.giveUpGrans r.freed)
  if r.final == .released then
    (s1.setPlot h { p with cur := { state := .released }, rev := none, cplBad := false }).setPair h {}
  else
    let e : PlotEntry := { r.entry with state := r.final }
    let s2 := s1.setPlot h { p with cur := e, rev := none }
    if e.sealed != p.cur.sealed then s2.ownPlaces h e else s2

/-- Requests accepted before a point that a home still holds: those of a plot numbered below the mark. -/
def State.oldReqs (s : State) (h : BitVec 16) (mark : Nat) : Bool :=
  s.homeq.any (fun q => decide (q.rq < mark) && pktHandle q.pkt == h)

/-- A shootdown that some event started is in progress. -/
def State.shooting (s : State) (b : ShootBy) : Bool := s.shoots.any (fun d => d.2.by_ == b)

/-- The results of a revoking command (Table 02-4). -/
def State.revokeLo (_s : State) (r : Revoking) : Nat := satAdd 0 r.aborted 65535 + satAdd 0 r.lost 65535 * 65536
def State.revokeHi (s : State) (r : Revoking) : Nat :=
  satAdd 0 ((s.time - r.since) / 100) 65535 + (if r.xfer then 65536 else 0)

/-- A removal adds up what its revocations aborted and lost (Table 14-7). -/
def State.addRemoval (s : State) (t : BitVec 12) (r : Revoking) : State :=
  match Tab.find? s.tenants t.toNat with
  | some k => { s with tenants := Tab.put s.tenants t.toNat { k with aborted := k.aborted + r.aborted, lost := k.lost + r.lost } }
  | none => s

/-! ### The commands of Table 02-6 -/

/-- What stands in the way of a command on a handle. -/
inductive PlmGate where
  | stop (st : Nat) | wait | go (p : Plot)
  deriving DecidableEq, Repr

/-- Handles in UNUSED and RELEASED, CPL_ERR and REVOKED; then PUBLISHING and DRAINING, for which a command waits (R54), but
one with no revocation point on a shadow. -/
def State.plmGate (s : State) (h : BitVec 16) (release : Bool) (revoking : PlotEntry → Bool) : PlmGate :=
  let p := s.plot h
  if freeState p.cur then .stop plNoPlot
  else if p.cur.state == .cplErr && !release then .stop plComplement
  else if p.cur.state == .revoked && !release then .stop plRevoked
  else if s.pubShadow h && !revoking p.cur then .stop plBusy
  else if p.rev.isSome || s.pubShadow h || s.pubTarget h then .wait
  else .go p

/-- Run a command on a handle past its gate. -/
def State.plmOn (s : State) (op : BitVec 4) (h : BitVec 16) (release : Bool) (revoking : PlotEntry → Bool)
    (f : Plot → State) : State :=
  match s.plmGate h release revoking with
  | .stop st => s.plmDone st h
  | .wait => s.plmWait op false h
  | .go p => f p

/-- The lowest handle in UNUSED or RELEASED. -/
def State.freeHandle (s : State) : Option (BitVec 16) :=
  let used (n : Nat) : Bool := !freeState (Tab.get {} s.plots n).cur
  let m := s.plots.length + 1
  ((List.range (if m < 65536 then m else 65536)).find? (fun n => !used n)).map (BitVec.ofNat 16)

/-- A fresh key pair for a confidential plot (R358). -/
def State.newPair (s : State) (h : BitVec 16) (conf : Bool) : State :=
  if !conf then s.setPair h {}
  else
    let (n, s1) := s.fresh
    s1.setPair h { cur := some (BitVec.ofNat 512 (leNat ((List.range 64).map (Config.drbg n)))) }

/-- CREATE (R471). -/
def State.plmCreate (s : State) (auto : Bool) (h0 : BitVec 16) : State :=
  let e := attrEntry (s.arg pgPLM 0) (s.arg pgPLM 1) (s.arg pgPLM 2)
  let target : Option (BitVec 16) := if auto then s.freeHandle else some h0
  let bad := s.argsBad pgPLM 0 [0x377FFF, 0x1FFFF, 0x1F, 0] || attrBad e
  match bad, target with
  | true, _ => s.plmDone plInvalid (if auto then 0 else h0)
  | false, none => s.plmDone plNoHandle 0
  | false, some h =>
    let p := s.plot h
    if p.cur.state == .cplErr then s.plmDone plComplement h
    else if !freeState p.cur then s.plmDone plInUse h
    else if !s.tenantOpen e.owner then s.plmDone plNoTenant h
    else if !e.conf && s.tenantConf e.owner then s.plmDone plInvalid h
    else if s.overLimit h e then s.plmDone plLimit h
    else match s.room e e.size with
      | .none => s.plmDone plNoCapacity h
      | .wait => s.plmWait 1 auto h0
      | .ok g k =>
        let e1 : PlotEntry := { e with grans := g, slots := k }
        (((s.setPlot h { cur := e1 }).newPair h e.conf).ownPlaces h e1).plmDone stOK h

/-- Granules that the map records for a handle, in the order of their positions; none when they are not those of the entry's
set and size (R40). -/
def State.recordedGrans (s : State) (h : BitVec 16) (e : PlotEntry) : Option (List Nat) :=
  let mine := s.granules.filter (fun kv => kv.2.owner == h)
  let at_ (i : Nat) : Nat := ((mine.find? (fun kv => kv.2.pos == i)).map (·.1)).getD numGran
  let l := (List.range e.size).map at_
  let right (x : Nat × Nat) : Bool := decide (x.2 < numGran) && (setStacks e)[x.1 % ilvSize e.ilv]? == some (granStack x.2)
  if mine.length == e.size && (numbered l).all right then some l else none

/-- Slots that the tags record for a handle, as (unit, slot). -/
def State.recordedSlots (s : State) (h : BitVec 16) : List (Nat × Nat) :=
  (s.tags.filter (fun kv => kv.2.valid && kv.2.owner == h)).map (fun kv => (kv.2.unit.toNat, kv.1))

/-- What a RESTORE finds recorded: granules or slots with the number of units that need a new slot; none when it disagrees
with the arguments (R40, R241). -/
def State.recorded (s : State) (h : BitVec 16) (e : PlotEntry) : Option (List Nat × List (Nat × Nat)) :=
  let slots := s.recordedSlots h
  let held := s.granules.any (fun kv => kv.2.owner == h)
  if e.tiered then
    if held || slots.any (fun x => decide (e.size ≤ x.1)) then none else some ([], slots)
  else if !slots.isEmpty then none
  else (s.recordedGrans h e).map (fun l => (l, []))

/-- The extent list of a restored TIERED plot: recorded slots at their units, new ones at the others. -/
def fillUnits (have_ : List (Nat × Nat)) (new : List Nat) (n : Nat) : List Nat :=
  ((List.range n).foldl (fun (a : List Nat × List Nat) i =>
    match have_.find? (fun x => x.1 == i) with
    | some x => (a.1 ++ [x.2], a.2)
    | none => (a.1 ++ [a.2.headD 0], a.2.drop 1)) ([], new)).1

/-- The key pair of a restored plot: as held, else as the tier tags keep it (R362). -/
def State.restorePair (s : State) (h : BitVec 16) (e : PlotEntry) : State :=
  let k := s.pair h
  if !e.conf || k.cur.isSome || !e.tiered || !s.storageEn then s
  else match Tab.find? s.plotRecs h.toNat with
    | some r => s.setPair h { cur := r.cur, prev := r.prev, parity := r.parity, attested := r.attested, list := r.list,
                              sweep := r.sweep, ptr := r.ptr }
    | none => s

/-- RESTORE (R40, R471). -/
def State.plmRestore (s : State) (h : BitVec 16) : State :=
  let e := attrEntry (s.arg pgPLM 0) (s.arg pgPLM 1) (s.arg pgPLM 2)
  let p := s.plot h
  if s.argsBad pgPLM 0 [0x377FFF, 0x1FFFF, 0x1F, 0] || attrBad e then s.plmDone plInvalid h
  else if p.rev.isSome || !(freeState p.cur || p.cur.state == .cplErr) then s.plmDone plInUse h
  else if !s.tenantOpen e.owner then s.plmDone plNoTenant h
  else if !e.conf && s.tenantConf e.owner then s.plmDone plInvalid h
  else match s.recorded h e with
    | none => s.plmDone plInvalid h
    | some (g, have_) =>
      if s.overLimit h e then s.plmDone plLimit h
      else match (if e.tiered then s.slotRoom (e.size - have_.length) else Room.ok [] []) with
        | .ok _ new =>
          let sealed := s.granules.any (fun kv => kv.2.owner == h && kv.2.sealed)
          let v : BitVec 64 := BitVec.ofNat 64 ((s.rd pgPLM 0x060).toNat + (s.rd pgPLM 0x064).toNat * 2 ^ 32)
          let e1 : PlotEntry := { e with grans := g, slots := if e.tiered then fillUnits have_ new e.size else [],
                                         sealed := sealed, allow := none, version := v }
          (((s.setPlot h { p with cur := e1, cplBad := false }).restorePair h e1).ownPlaces h e1).plmDone stOK h
        | _ => s.plmDone plNoCapacity h

/-- A grant entry for a kind and ID. -/
def findGrant (e : PlotEntry) (job : Bool) (id : BitVec 20) : Option Grant :=
  e.grants.find? (fun g => g.job == job && g.id == id)

/-- Replace or append a grant entry. -/
def putGrant (l : List Grant) (g : Grant) : List Grant :=
  if l.any (fun x => x.job == g.job && x.id == g.id) then l.map (fun x => if x.job == g.job && x.id == g.id then g else x)
  else l ++ [g]

/-- UNGRANT, and a GRANT that names no right (R37). -/
def State.ungrantOn (s : State) (h : BitVec 16) (p : Plot) (job : Bool) (id : BitVec 20) : State :=
  match findGrant p.cur job id with
  | some g =>
    if g.live == 0 then s.plmDone plNoGrant h
    else
      let g1 : Grant := { g with live := 0, removed := g.removed ||| g.live }
      s.startRevoke h { p.cur with grants := putGrant p.cur.grants g1 } .active [] [] true
  | none => s.plmDone plNoGrant h

/-- ID and kind of a grant in ARG0; an endpoint ID has 13 bits. -/
def State.grantArg (s : State) : Bool × BitVec 20 × BitVec 4 :=
  let a := s.arg pgPLM 0
  (a.testBit 20, BitVec.ofNat 20 (fieldOf a 0 20), BitVec.ofNat 4 (fieldOf a 24 4))

def State.grantBad (s : State) (mask : Nat) : Bool :=
  s.argsBad pgPLM 0 [mask, 0, 0, 0] || (!s.grantArg.1 && decide (8191 < s.grantArg.2.1.toNat))

/-- A GRANT removes rights that were live. -/
def grantRemoves (e : PlotEntry) (job : Bool) (id : BitVec 20) (r : BitVec 4) : Bool :=
  match findGrant e job id with
  | some g => g.live &&& ~~~r != 0
  | none => false

/-- GRANT (R37). -/
def State.plmGrant (s : State) (h : BitVec 16) : State :=
  let (job, id, r) := s.grantArg
  if s.grantBad 0x0F1FFFFF then s.plmDone plInvalid h
  else s.plmOn 2 h false (fun e => grantRemoves e job id r) (fun p =>
    if r == 0 then s.ungrantOn h p job id
    else
      let was := ((findGrant p.cur job id).map (·.live)).getD 0
      let g : Grant := { job := job, id := id, live := r, removed := was &&& ~~~r }
      let new : PlotEntry := { p.cur with grants := putGrant p.cur.grants g }
      if (findGrant p.cur job id).isNone && decide (s.fld pgPLM 0x084 0 9 ≤ p.cur.grants.length) then s.plmDone plGrantFull h
      else if was &&& ~~~r != 0 then s.startRevoke h new .active [] [] true
      else (s.setPlot h { p with cur := new }).plmDone stOK h)

/-- UNGRANT (R37). -/
def State.plmUngrant (s : State) (h : BitVec 16) : State :=
  let (job, id, _) := s.grantArg
  if s.grantBad 0x1FFFFF then s.plmDone plInvalid h
  else s.plmOn 3 h false (fun _ => true) (fun p => s.ungrantOn h p job id)

/-- RESIZE (R48). -/
def State.plmResize (s : State) (h : BitVec 16) : State :=
  let n := s.arg pgPLM 1
  if s.argsBad pgPLM 0 [0, 0x1FFFF, 0, 0] || n == 0 then s.plmDone plInvalid h
  else s.plmOn 4 h false (fun e => decide (n < e.size)) (fun p =>
    let e := p.cur
    if sizeBad e n then s.plmDone plInvalid h
    else if n == e.size then s.plmDone stOK h
    else if n < e.size then
      let new : PlotEntry := { e with size := n, grans := e.grans.take n, slots := e.slots.take n }
      s.startRevoke h new .active (e.grans.drop n) (e.slots.drop n) true
    else
      let big : PlotEntry := { e with size := n, maxSize := if e.maxSize < n then n else e.maxSize }
      if s.overLimit h big then s.plmDone plLimit h
      else match s.room e (n - e.size) with
        | .none => s.plmDone plNoCapacity h
        | .wait => s.plmWait 4 false h
        | .ok g k =>
          let new : PlotEntry := { big with grans := e.grans ++ g, slots := e.slots ++ k }
          ((s.setPlot h { p with cur := new }).ownPlaces h new).plmDone stOK h)

/-- RELEASE: also of a plot in CPL_ERR or REVOKED (R39, R48). -/
def State.plmRelease (s : State) (h : BitVec 16) : State :=
  if s.argsBad pgPLM 0 [0, 0, 0, 0] then s.plmDone plInvalid h
  else s.plmOn 5 h true (fun _ => true) (fun _ => s.startRelease h true)

/-- SEAL (R40, R367): the list must be frozen. -/
def State.plmSeal (s : State) (h : BitVec 16) : State :=
  let n := s.arg pgPLM 0
  let frozen := ((Tab.find? s.allow n).map (·.frozen)).getD false
  if s.argsBad pgPLM 0 [0xFFFF, 0, 0, 0] || decide (1023 < n) || !frozen then s.plmDone plInvalid h
  else s.plmOn 6 h false (fun _ => true) (fun p =>
    if p.cur.sealed && p.cur.allow.isSome then s.plmDone plBusy h
    else s.startRevoke h { p.cur with sealed := true, allow := some (BitVec.ofNat 10 n) } .active [] [] true)

/-- QUERY: it never waits (R54). -/
def State.plmQuery (s : State) (h : BitVec 16) : State :=
  let p := s.plot h
  let e := p.cur
  if s.argsBad pgPLM 0 [0xFFFFFFFF, 0xFFFFFFFF, 0xFFFFFFFF, 0xFFFFFFFF] then s.plmDone plInvalid h
  else if freeState e then s.plmDone plNoPlot h
  else if e.state == .cplErr then s.plmDone plComplement h
  else
    let s1 := (s.setArg pgPLM 0 (attrWord e)).setArg pgPLM 1 e.size
    let s2 := (s1.setArg pgPLM 2 (e.set.toNat + plotCode (reportedState p) * 2 ^ 8 + e.grants.length * 2 ^ 16)).setArg pgPLM 3 0
    ((s2.wr pgPLM 0x060 (e.version.setWidth 32)).wr pgPLM 0x064 (e.version.extractLsb' 32 32)).plmDone stOK h

/-- The cell page size of a plot (Table 02-7). -/
def pageSize (e : PlotEntry) : Nat := if e.pgsz == 0 then 65536 else if e.pgsz == 1 then 2097152 else 1073741824

/-- MAP_WINDOW (R44). -/
def State.plmWindow (s : State) (h : BitVec 16) : State :=
  let t := s.arg pgPLM 0
  let base := s.arg pgPLM 1 + s.arg pgPLM 2 * 2 ^ 32
  let valid := (s.arg pgPLM 3).testBit 0
  if s.argsBad pgPLM 0 [0xFFF, 0xFFFFFFFF, 0x1FFFFFF, 1] then s.plmDone plInvalid h
  else s.plmOn 8 h false (fun _ => false) (fun p =>
    if !s.tenantKnown t then s.plmDone plNoTenant h
    else if valid && base % pageSize p.cur != 0 then s.plmDone plInvalid h
    else
      let w : Window := { valid := valid, base := BitVec.ofNat 57 base }
      ({ s with windows := Tab.set {} s.windows (t * 65536 + h.toNat) w }).plmDone stOK h)

/-- REVOKE_ALL. -/
def State.plmRevokeAll (s : State) (h : BitVec 16) : State :=
  if s.argsBad pgPLM 0 [0, 0, 0, 0] then s.plmDone plInvalid h
  else s.plmOn 0xA h false (fun _ => true) (fun _ => s.startRevokeAll h true)

/-- A PLM command by its code; codes 0x0 and 0xB to 0xF complete with INVALID_FIELD. -/
def State.plmRun (s : State) (op : BitVec 4) (auto : Bool) (h : BitVec 16) : State :=
  match op.toNat with
  | 0x1 => s.plmCreate auto h
  | 0x2 => s.plmGrant h
  | 0x3 => s.plmUngrant h
  | 0x4 => s.plmResize h
  | 0x5 => s.plmRelease h
  | 0x6 => s.plmSeal h
  | 0x7 => s.plmQuery h
  | 0x8 => s.plmWindow h
  | 0x9 => s.plmRestore h
  | 0xA => s.plmRevokeAll h
  | _ => s.plmDone plInvalid h

/-- A PLM.CMD write (R46, R7): AUTO with a code other than CREATE and reserved bits are invalid fields. -/
def State.plmCmd (s : State) (p : Path) (op : BitVec 4) (auto : Bool) (rsv : BitVec 11) (h : BitVec 16) : State :=
  s.command p pgPLM (fun s =>
    if rsv != 0 || (auto && op != 1) then s.plmDone plInvalid h else s.plmRun op auto h)

/-- A command that waits is tried again. -/
def State.plmAgain (s : State) : State :=
  match Tab.find? s.wait pgPLM with
  | some w => ({ s with wait := Tab.del s.wait pgPLM }).plmRun w.op w.auto w.h
  | none => s

/-! ### Completion of a revoking command, and granules -/

/-- Steps 4 to 6 of Table 02-8 are done: the plot leaves DRAINING and the command completes (R54). Lines that requests accepted
before the point have been granted since are taken back first. -/
def State.revokeComplete (s : State) (h : BitVec 16) : State :=
  let p := s.plot h
  match p.rev with
  | none => s
  | some r =>
    if !(r.at0 && r.at1) || s.oldReqs h r.mark || s.shooting (.revoke h) then s
    else
      let s1 := s.takeLines h p.cur r.entry
      if (s1.linesAt h).any (s1.lineLoses (losing p.cur r.entry)) || s1.txns.any (fun kv => kv.2.cause == .plot h) then s1
      else
        let q := s1.plot h
        match q.rev with
        | none => s1
        | some r1 =>
          let s2 := s1.applyRevoke h q r1
          if r1.byCmd then
            (s2.plmEnd (if r1.lost == 0 then stOK else plLoss) h (s2.revokeLo r1) (s2.revokeHi r1)).removalRevoke h
          else (s2.addRemoval q.cur.owner r1).plmAgain

/-- A granule that is being cleared has every summary clear and joins FREE_GRANULES (R55). -/
def State.granuleDone (s : State) (g : Nat) : State :=
  if !s.clearing.contains g then s
  else
    let st := granStack g
    let k := s.stk st
    let s1 := s.setStk st { k with mb := k.mb.filter (fun x => x.word / 4194304 != g) }
    (s1.clearGranule g).plmAgain

/-! ### PUBLISH (R49 to R52) -/

/-- Target, shadow and expected version of a PUBLISH descriptor. -/
def pubFields (c : Cmd) : BitVec 16 × BitVec 16 × BitVec 64 :=
  (BitVec.ofNat 16 (c.field 0x20 2), BitVec.ofNat 16 (c.field 0x22 2), BitVec.ofNat 64 (c.field 0x28 8))

/-- Attributes that target and shadow must share. -/
def pubAlike (a b : PlotEntry) : Bool :=
  a.size == b.size && a.tiered == b.tiered && a.uncached == b.uncached && a.ilv == b.ilv && a.conf == b.conf && a.pgsz == b.pgsz

def State.pubBusy (s : State) (h : BitVec 16) : Bool :=
  let p := s.plot h
  p.rev.isSome || p.cur.state == .revoked || p.cur.state == .cplErr

/-- The checks of R50: the status. -/
def State.pubCheck (s : State) (c : Cmd) : Nat :=
  let (h, t, v) := pubFields c
  let a := (s.plot h).cur
  let b := (s.plot t).cur
  let owns (e : PlotEntry) : Bool := !freeState e && e.owner == c.tenant
  if !owns a || !owns b || h == t then stDenied
  else if !pubAlike a b then 0x18
  else if s.pubBusy h || s.pubBusy t || s.pubTarget t || s.pubShadow t || s.pubShadow h then 0x19
  else if a.version != v then 0x1A
  else stOK

/-- A plot enters PUBLISHING. -/
def State.setState (s : State) (h : BitVec 16) (st : PlotState) : State :=
  let p := s.plot h
  s.setPlot h { p with cur := { p.cur with state := st } }

/-- PUBLISH reaches the PLM: held behind one for the same target, else checked and begun. -/
def State.publish (s : State) (id : Nat) : State :=
  match s.cmd? id with
  | none => s
  | some c =>
    let (h, t, _) := pubFields c
    if c.phase != .running || c.opcode != 0x40 || s.publishing.any (fun p => p.cmd == id) then s
    else if s.pubTarget h then
      { s.putCmd id { c with phase := .held } with heldPublish := s.heldPublish ++ [id] }
    else
      match s.pubCheck c with
      | 0 =>
        let s1 := (s.setState h .publishing).setState t .publishing
        { s1 with publishing := s1.publishing ++ [{ cmd := id, target := h, shadow := t, point := false }] }
      | 0x1A => s.finish id 0x1A (leBytes 8 (s.plot h).cur.version.toNat) 0
      | st => s.finish id st (if st == stDenied then failResult 0 0 else []) 0

/-- A handle after an exchange of two. -/
def swapH (h t x : BitVec 16) : BitVec 16 := if x == h then t else if x == t then h else x

/-- Every record of two plots is taken back, and the summaries of the words that hold it cleared (R52). -/
def State.sweepLines (s : State) (h : BitVec 16) : State :=
  let e := (s.plot h).cur
  (s.linesAt h).foldl (fun s l =>
    let s1 := s.clearLine l (.plot h) h e
    let o := lineOfs l
    if o + 128 ≤ plotBytes e then (s1.setCs (plotWord e o) 0).setCs (plotWord e (o + 64)) 0 else s1) s

/-- The exchange (R51): granule and extent lists with their maps and tags, key pairs, versions, and the written bits (R384). -/
def State.exchange (s : State) (h t : BitVec 16) : State :=
  let p := s.plot h
  let q := s.plot t
  let v := p.cur.version
  let a : PlotEntry := { p.cur with grans := q.cur.grans, slots := q.cur.slots, version := v + 1 }
  let b : PlotEntry := { q.cur with grans := p.cur.grans, slots := p.cur.slots, version := v }
  let s1 := (s.setPlot h { p with cur := a, written := false }).setPlot t { q with cur := b, written := true }
  let s2 := (s1.setPair h (s.pair t)).setPair t (s.pair h)
  let s3 := (s2.ownPlaces h a).ownPlaces t b
  { s3 with
    cache := s3.cache.map (fun kv => (kv.1, { kv.2 with owner := swapH h t kv.2.owner }))
    txns := s3.txns.map (fun kv => (kv.1, { kv.2 with kh := swapH h t kv.2.kh }))
    homeq := s3.homeq.map (fun r => { r with kh := swapH h t r.kh }) }

/-- The publish point in both hubs' plot checks (R51). -/
def State.publishPoint (s : State) (h : BitVec 16) : State :=
  match s.publishing.find? (fun p => p.target == h) with
  | none => s
  | some p =>
    if p.point then s
    else
      let t := p.shadow
      let s1 := ((s.sweepLines h).sweepLines t).exchange h t
      let passed (c : Cmd) : Cmd := if c.phase == .admitted then c else { c with pubs := c.pubs ++ [h.toNat, t.toNat] }
      let s2 : State := { s1 with
        cmds := s1.cmds.map (fun kv => (kv.1, passed kv.2))
        publishing := s1.publishing.map (fun x => if x.target == h then { x with point := true, mark := s1.nextRq } else x) }
      let s3 := s2.startShoot { by_ := .publish h t, tenant := none, lo := 0, hi := 0, plots := [h, t] }
      (s3.closeJournalOn h).closeJournalOn t

/-- The PUBLISH descriptors held for a target are checked in turn. -/
def State.publishHeld (s : State) (h : BitVec 16) : State :=
  let mine := s.heldPublish.filter (fun id => ((s.cmd? id).map (fun c => (pubFields c).1 == h)).getD true)
  let s1 : State := { s with heldPublish := s.heldPublish.filter (fun id => !mine.contains id) }
  mine.foldl (fun s id =>
    match s.cmd? id with
    | some c => (s.putCmd id { c with phase := .running }).publish id
    | none => s) s1

/-- A plot of the exchange returns to ACTIVE; a removal that waited for it goes on. -/
def State.endPublishing (s : State) (h : BitVec 16) : State :=
  if (s.plot h).cur.state == .publishing then s.setState h .active else s

/-- PUBLISH completes when drain, recalls and shootdown are done (R52). -/
def State.publishComplete (s : State) (h : BitVec 16) : State :=
  match s.publishing.find? (fun p => p.target == h) with
  | none => s
  | some p =>
    let t := p.shadow
    let busy (s : State) : Bool := s.txns.any (fun kv => kv.2.cause == .plot h || kv.2.cause == .plot t)
    if !p.point || s.oldReqs h p.mark || s.oldReqs t p.mark || s.shooting (.publish h t) then s
    else
      let s1 : State := if p.swept then s
        else { (s.sweepLines h).sweepLines t with
               publishing := s.publishing.map (fun x => if x.target == h then { x with swept := true } else x) }
      if busy s1 then s1
      else
        let s2 : State := { s1 with publishing := s1.publishing.filter (fun x => x.target != h) }
        let s3 := (s2.endPublishing h).endPublishing t
        let s4 := s3.finish p.cmd stOK (leBytes 8 (s3.plot h).cur.version.toNat) 0
        (((s4.removalRevoke h).removalRevoke t).publishHeld h).plmAgain

end Sys2Proof.Machine
end

