-- ==== Sys2Proof/Machine/QueueRows.lean ====
section
/-! DEFINITION. Meanings of the commands of 07_queues_and_admission.md: doorbells, fetch, policing, scheduling, the calendar,
completion posts and the CQE commands. -/

namespace Sys2Proof.Machine

/-! ### The engine's course -/

/-- Whether the engine discards a doorbell word (R194; Table 14-7, step 1); `INDEX`, `QID` and `KIND` are its fields. -/
def State.doorbellBad (s : State) (ch : Nat) (w : Nat) (st : Stamp) : Bool :=
  let idx := fieldOf w 0 16
  let qid := fieldOf w 16 14
  let foreign (t : BitVec 12) : Bool := (st.path == 2 && s.jobTenant st.job != some t) || !s.tenantOpen t
  if w.testBit 30 || w / 2 ^ 32 != 0 then true
  else if w.testBit 31 then
    match Tab.find? s.cqs qid with
    | none => true
    | some c =>
      let n := qSize c.code
      c.chan.toNat != ch || c.err || c.deleting || decide (n ≤ idx) || foreign c.tenant ||
        decide ((c.tail + n - c.head) % n < (idx + n - c.head) % n)
  else
    match Tab.find? s.sqs qid with
    | none => true
    | some q => q.chan.toNat != ch || q.err || q.deleting || decide (qSize q.code ≤ idx) || foreign q.tenant

/-- The engine takes a doorbell word. -/
def State.takeDoorbell (s : State) (ch : Nat) : State :=
  let c := s.chan ch
  match c.word with
  | none => s
  | some (w, st) =>
    if c.recv != 3 || s.phase != .running || s.dormant then s
    else
      let s1 := s.emptyChan ch
      let n := w.toNat
      let idx := fieldOf n 0 16
      let q := BitVec.ofNat 14 (fieldOf n 16 14)
      if s.doorbellBad ch n st then s1.inc pgCQE 0x064
      else if n.testBit 31 then
        match s1.cq? q with
        | some k => s1.putCq q { k with head := idx }
        | none => s1
      else
        match s1.sq? q with
        | some k => s1.putSq q { k with tail := idx }
        | none => s1

/-- DOORBELL. -/
def execDoorbell (ch : BitVec 12) (s : State) : Host.Outcome State Fault Refusal := .next (s.takeDoorbell ch.toNat)

/-- DESCRIPTOR_FETCH: the next descriptor of a queue. -/
def execDescriptorFetch (q : BitVec 14) (s : State) : Host.Outcome State Fault Refusal := .next (s.fetchDesc q)

/-- TOKEN_ACCRUAL: every tenant's buckets gain what 256 ns give (R197). -/
def execTokenAccrual (s : State) : Host.Outcome State Fault Refusal :=
  if s.phase != .running then .next s
  else .next { s with shares := s.shares.map (fun kv => (kv.1, accrue kv.2)) }

/-- DISPATCH_ONE. -/
def execDispatchOne (s : State) : Host.Outcome State Fault Refusal := .next s.dispatchOne

/-- CALENDAR_RELEASE: the calendar reaches the slot of a tenant that it holds. -/
def execCalendarRelease (t : BitVec 12) (s : State) : Host.Outcome State Fault Refusal :=
  match Tab.find? s.calendar t.toNat with
  | none => .next s
  | some slot => .next { s.unhold t with calNow := if s.calNow < slot then slot else s.calNow }

/-- CALENDAR_REVOLUTION: tenants of the overflow list whose E falls within the span move into the calendar. -/
def execCalendarRevolution (s : State) : Host.Outcome State Fault Refusal :=
  .next (s.overflow.foldl (fun s t => s.hold (BitVec.ofNat 12 t) (s.share (BitVec.ofNat 12 t)).elig) s)

/-- COMPLETION_POST. -/
def execCompletionPost (id : Nat) (s : State) : Host.Outcome State Fault Refusal := .next (s.postCmd id)

/-! ### CQE commands (R187, R205, R472) -/

def cqeArg (s : State) (n : Nat) : Nat := s.arg pgCQE n

/-- The end of a CQE command. -/
def State.cqeDone (s : State) (status : Nat) : State := s.complete pgCQE status

/-- A channel that queues no longer name has no receiver; a word that it still held is discarded. -/
def State.releaseDoorbell (s : State) (ch : BitVec 12) : State :=
  if s.sqs.any (fun kv => kv.2.chan == ch) || s.cqs.any (fun kv => kv.2.chan == ch) then s
  else
    let c := s.chan ch.toNat
    let s1 := if c.word.isSome then s.inc pgCQE 0x064 else s
    s1.setChan ch.toNat { c with recv := 0, word := none }

/-- A queue number is free again. -/
def State.deleteSq (s : State) (q : BitVec 14) : State :=
  match s.sq? q with
  | some x => { s with sqs := Tab.del s.sqs q.toNat }.releaseDoorbell x.chan
  | none => s

def State.deleteCq (s : State) (q : BitVec 14) : State :=
  match s.cq? q with
  | some x => { s with cqs := Tab.del s.cqs q.toNat }.releaseDoorbell x.chan
  | none => s

/-- A plot that cannot hold a queue of `bytes` at an offset. -/
def State.queuePlotBad (s : State) (t : BitVec 12) (h : BitVec 16) (ofs bytes : Nat) : Bool :=
  let e := (s.plot h).cur
  e.tiered || e.owner != t || e.state != .active || decide (plotBytes e < ofs + bytes)

/-- A channel that cannot be a doorbell of a tenant (R193). -/
def State.doorbellChanBad (s : State) (t ch : BitVec 12) : Bool :=
  let c := s.chan ch.toNat
  !c.granted || c.tenant != t || !(c.recv == 0 || c.recv == 3)

/-- The engine becomes a channel's receiver. -/
def State.bindDoorbell (s : State) (ch : BitVec 12) : State := s.setChan ch.toNat { s.chan ch.toNat with recv := 3 }

/-- SQ_CREATE. -/
def State.cqeSqCreate (s : State) (rsv : Nat) : State :=
  let n := BitVec.ofNat 14 (cqeArg s 0)
  let t := BitVec.ofNat 12 (cqeArg s 0 / 65536)
  let h := BitVec.ofNat 16 (cqeArg s 1)
  let code := fieldOf (cqeArg s 1) 16 4
  let ofs := 4096 * cqeArg s 2
  let cq := BitVec.ofNat 14 (cqeArg s 3)
  let ch := BitVec.ofNat 12 (cqeArg s 3 / 65536)
  let ours := ((s.cq? cq).map (fun k => k.tenant == t)).getD false
  if s.argsBad pgCQE rsv [0x0FFF3FFF, 0x000FFFFF, 0xFFFFFFFF, 0x0FFF3FFF] || code > 12 then s.cqeDone 0x01
  else if !s.tenantKnown t.toNat then s.cqeDone 0x02
  else if (s.sq? n).isSome then s.cqeDone 0x03
  else if !ours then s.cqeDone 0x05
  else if s.queuePlotBad t h ofs (128 * 2 ^ (code + 4) + 64) then s.cqeDone 0x06
  else if s.doorbellChanBad t ch then s.cqeDone 0x07
  else
    let x : Sq := { tenant := t, plot := h, ofs := ofs, code := BitVec.ofNat 4 code, cq := cq, chan := ch }
    ((s.putSq n x).bindDoorbell ch).cqeDone 0x00

def execSqCreate (p : Path) (rsv : BitVec 28) (s : State) : Host.Outcome State Fault Refusal :=
  .next (s.command p pgCQE (fun s => s.cqeSqCreate rsv.toNat))

/-- CQ_CREATE (R191): every slot is cleared. While a line of the ring is snooped it waits at its page; a ring that cannot be
cleared puts the queue in ERROR (R204). -/
def State.cqeCqCreate (s : State) (rsv : Nat) : State :=
  let n := BitVec.ofNat 14 (cqeArg s 0)
  let t := BitVec.ofNat 12 (cqeArg s 0 / 65536)
  let h := BitVec.ofNat 16 (cqeArg s 1)
  let code := fieldOf (cqeArg s 1) 16 4
  let ofs := 4096 * cqeArg s 2
  let ch := BitVec.ofNat 12 (cqeArg s 3 / 65536)
  let bytes := 32 * 2 ^ (code + 4)
  if s.argsBad pgCQE rsv [0x0FFF3FFF, 0x000FFFFF, 0xFFFFFFFF, 0x0FFF0000] || code > 12 then s.cqeDone 0x01
  else if !s.tenantKnown t.toNat then s.cqeDone 0x02
  else if (s.cq? n).isSome then s.cqeDone 0x03
  else if s.queuePlotBad t h ofs bytes then s.cqeDone 0x06
  else if s.doorbellChanBad t ch then s.cqeDone 0x07
  else
    let x : Cq := { tenant := t, plot := h, ofs := ofs, code := BitVec.ofNat 4 code, chan := ch }
    match s.devZero h ofs bytes with
    | (.wait, s1) => { s1 with wait := Tab.put s1.wait pgCQE { op := 2, auto := false, h := 0 } }
    | (.ok _, s1) => ((s1.putCq n x).bindDoorbell ch).cqeDone 0x00
    | (.fail _, s1) => (((s1.putCq n x).bindDoorbell ch).cqErr n).cqeDone 0x00

def execCqCreate (p : Path) (rsv : BitVec 28) (s : State) : Host.Outcome State Fault Refusal :=
  .next (s.command p pgCQE (fun s => s.cqeCqCreate rsv.toNat))

/-- SQ_DELETE: fetch stops; it completes when every command fetched has posted or discarded its completion (R205). -/
def State.cqeSqDelete (s : State) (rsv : Nat) : State :=
  let n := BitVec.ofNat 14 (cqeArg s 0)
  if s.argsBad pgCQE rsv [0x3FFF, 0, 0, 0] then s.cqeDone 0x01
  else match s.sq? n with
    | none => s.cqeDone 0x04
    | some q =>
      { s.putSq n { q with deleting := true } with
        wait := Tab.put s.wait pgCQE { op := 3, auto := false, h := n.setWidth 16 } }

def execSqDelete (p : Path) (rsv : BitVec 28) (s : State) : Host.Outcome State Fault Refusal :=
  .next (s.command p pgCQE (fun s => s.cqeSqDelete rsv.toNat))

/-- SQ_DELETE_COMPLETE. -/
def execSqDeleteComplete (q : BitVec 14) (s : State) : Host.Outcome State Fault Refusal :=
  match Tab.find? s.wait pgCQE with
  | some w =>
    if w.op != 3 || w.h != q.setWidth 16 || s.cmds.any (fun kv => kv.2.sq == q) then .next s
    else .next (({ s with wait := Tab.del s.wait pgCQE }.deleteSq q).cqeDone 0x00)
  | none => .next s

/-- CQ_DELETE. -/
def State.cqeCqDelete (s : State) (rsv : Nat) : State :=
  let n := BitVec.ofNat 14 (cqeArg s 0)
  if s.argsBad pgCQE rsv [0x3FFF, 0, 0, 0] then s.cqeDone 0x01
  else if (s.cq? n).isNone then s.cqeDone 0x04
  else if s.sqs.any (fun kv => kv.2.cq == n) then s.cqeDone 0x08
  else (s.deleteCq n).cqeDone 0x00

def execCqDelete (p : Path) (rsv : BitVec 28) (s : State) : Host.Outcome State Fault Refusal :=
  .next (s.command p pgCQE (fun s => s.cqeCqDelete rsv.toNat))

/-- What TENANT_SET makes of a share (R197, R202). -/
def setShareTo (k : Share) (now a0 a1 a2 a3 : Nat) : Share :=
  let cr := fieldOf a1 0 16
  let cb := fieldOf a1 16 16
  let br := fieldOf a2 0 16
  let bb := fieldOf a2 16 16
  let cap := fieldOf a3 0 16
  let ctop := cb * tokUnit
  let btop : Int := bb * mib * tokUnit
  { k with
    weight := fieldOf a0 16 16
    cmdRate := cr, cmdBurst := cb, byteRate := br, byteBurst := bb, cap := cap
    maxInflight := fieldOf a3 16 13
    cmdTok := if k.cmdRate == 0 then ctop else if ctop < k.cmdTok then ctop else k.cmdTok
    byteTok := if k.byteRate == 0 then btop else if btop < k.byteTok then btop else k.byteTok
    elig := if k.cap == 0 && cap != 0 then now else k.elig }

/-- TENANT_SET. -/
def State.cqeTenantSet (s : State) (rsv : Nat) : State :=
  let a0 := cqeArg s 0
  let a3 := cqeArg s 3
  let t := BitVec.ofNat 12 a0
  let mi := fieldOf a3 16 13
  if s.argsBad pgCQE rsv [0xFFFF0FFF, 0xFFFFFFFF, 0xFFFFFFFF, 0x1FFFFFFF] || fieldOf a0 16 16 == 0 ||
      fieldOf (cqeArg s 1) 16 16 == 0 || fieldOf (cqeArg s 2) 16 16 == 0 || mi == 0 || mi > 4096 then s.cqeDone 0x01
  else if !s.tenantKnown t.toNat then s.cqeDone 0x02
  else
    let s1 := s.setShare t (setShareTo (s.share t) s.time a0 (cqeArg s 1) (cqeArg s 2) a3)
    (if fieldOf a3 0 16 == 0 then s1.unhold t else s1).cqeDone 0x00

def execTenantSet (p : Path) (rsv : BitVec 28) (s : State) : Host.Outcome State Fault Refusal :=
  .next (s.command p pgCQE (fun s => s.cqeTenantSet rsv.toNat))

/-- TENANT_QUERY. -/
def State.cqeTenantQuery (s : State) (rsv : Nat) : State :=
  let t := BitVec.ofNat 12 (cqeArg s 0)
  if s.argsBad pgCQE rsv [0xFFFF0FFF] then s.cqeDone 0x01
  else if !s.tenantKnown t.toNat then s.cqeDone 0x02
  else
    let k := s.share t
    ((((s.setArg pgCQE 0 (t.toNat + 65536 * k.weight)).setArg pgCQE 1 k.drops).setArg pgCQE 2 (s.inExec t)).setArg pgCQE 3
      (s.sqs.filter (fun kv => kv.2.tenant == t)).length).cqeDone 0x00

def execTenantQuery (p : Path) (rsv : BitVec 28) (s : State) : Host.Outcome State Fault Refusal :=
  .next (s.command p pgCQE (fun s => s.cqeTenantQuery rsv.toNat))

/-- SQ_QUERY. -/
def State.cqeSqQuery (s : State) (rsv : Nat) : State :=
  let n := BitVec.ofNat 14 (cqeArg s 0)
  if s.argsBad pgCQE rsv [0x33FFF] then s.cqeDone 0x01
  else match s.sq? n with
    | none => s.cqeDone 0x04
    | some q =>
      ((((s.setArg pgCQE 0 (n.toNat + 65536 * ofBool q.err)).setArg pgCQE 1 (q.head + 65536 * q.tail)).setArg pgCQE 2
        q.cq.toNat).setArg pgCQE 3
        (s.cmds.filter (fun kv => kv.2.sq == n && kv.2.phase == .admitted)).length).cqeDone 0x00

def execSqQuery (p : Path) (rsv : BitVec 28) (s : State) : Host.Outcome State Fault Refusal :=
  .next (s.command p pgCQE (fun s => s.cqeSqQuery rsv.toNat))

end Sys2Proof.Machine
end

