-- ==== Sys2Proof/Machine/Security.lean ====
section
/-! DEFINITION. Tenants, keys and allow lists (14_tenants_keys_attestation.md): what the security commands of Horore and of the SEC
page do. -/

namespace Sys2Proof.Machine

/-! ### Tenants (R351) -/

/-- TENANT_CREATE: statuses in the order of R351. -/
def State.tenantCreate (s : State) (m : HororeMsg) : State :=
  let h := hoHdr m
  let w := hoWord m 1
  let t := fieldOf w 0 12
  let conf := w.testBit 12
  let key := if w.testBit 13 then some (s.pbufRead (hoIn h) 133) else none
  if conf && !s.bit pgSEC 0x044 13 then s.hoEnd h hoInvalid []
  else if !s.locked then s.hoEnd h hoNotLocked []
  else if s.tenantKnown t then s.hoEnd h hoExists []
  else if s.fld pgSEC 0x044 0 13 ≤ s.tenants.length then s.hoEnd h hoLimit []
  else
    let (n, s1) := s.fresh
    let spill : Option (BitVec 512) :=
      if conf then some (BitVec.ofNat 512 (leNat ((List.range 64).map (Config.drbg n)))) else none
    let k : Tenant := { conf := conf, pubKey := key, spill := spill, removing := false, aborted := 0, lost := 0 }
    ({ s1 with tenants := Tab.put s1.tenants t k }).hoEnd h hoOK []

/-- Handles of a tenant's plots. -/
def State.tenantPlots (s : State) (t : BitVec 12) : List (BitVec 16) :=
  (s.plots.filter (fun kv => kv.2.cur.owner == t && !freeState kv.2.cur)).map (fun kv => BitVec.ofNat 16 kv.1)

/-- TENANT_REMOVE, steps 1 and 2 of Table 14-7: the tenant is marked, and every plot that is free to meets REVOKE_ALL. -/
def State.tenantRemove (s : State) (m : HororeMsg) : State :=
  let t := BitVec.ofNat 12 (hoWord m 1)
  match Tab.find? s.tenants t.toNat with
  | some k =>
    if k.removing then s.hoEnd (hoHdr m) hoNoTenant []
    else
      let s1 : State := { s with tenants := Tab.put s.tenants t.toNat { k with removing := true, aborted := 0, lost := 0 } }
      (s1.tenantPlots t).foldl (fun s h => s.removalRevoke h) (s1.hoHold m)
  | none => s.hoEnd (hoHdr m) hoNoTenant []

/-- The drain of step 2 is done: every plot of the tenant is revoked and no revoking command or PUBLISH runs on one. -/
def State.removalDrained (s : State) (t : BitVec 12) : Bool :=
  (s.tenantPlots t).all (fun h =>
    let p := s.plot h
    p.rev.isNone && p.cur.state == .revoked && !s.pubTarget h && !s.pubShadow h)

/-- The jobs of a tenant. -/
def State.tenantJobs (s : State) (t : BitVec 12) : List (BitVec 20) :=
  (s.jobs.filter (fun kv => kv.2.tenant == t)).map (fun kv => BitVec.ofNat 20 kv.1)

/-- RELEASE of a plot within a removal: its revocation point has been passed. -/
def State.releaseNow (s : State) (h : BitVec 16) : State :=
  let p := s.plot h
  let s1 := p.cur.slots.foldl (fun s k => s.giveUpSlot k) (s.giveUpGrans p.cur.grans)
  (s1.setPlot h { p with cur := { state := .released }, rev := none, cplBad := false }).setPair h {}

/-- Commands of a tenant's queues that are left go with the queues. -/
def State.dropTenantCmds (s : State) (t : BitVec 12) : State :=
  (s.cmds.filter (fun kv => kv.2.tenant == t)).foldl (fun s kv => s.endCmd kv.1) s

/-- Steps 3 to 5 of Table 14-7. -/
def State.tenantDrained (s : State) (t : BitVec 12) : State :=
  match s.running with
  | none => s
  | some r =>
    let k := Tab.find? s.tenants t.toNat
    if hoCode r.hdr != 0x06 || fieldOf ((r.words[1]?).getD 0).toNat 0 12 != t.toNat || !s.hqServed || !s.removalDrained t then s
    else
      let jobs := s.tenantJobs t
      -- step 3
      let s1 := jobs.foldl (fun s j => (s.resetJob j).2) s
      -- step 4
      let plots := s1.tenantPlots t
      let s2 : State := plots.foldl (fun s h => s.setPair h {}) { s1 with slots := s1.slots.filter (fun kv => kv.2.tenant != t) }
      -- step 5
      let s3 := plots.foldl (fun s h => s.releaseNow h) s2
      let s4 := (s3.dropTenantCmds t).closeJournal t.toNat
      let s5 := (s4.sqs.filter (fun kv => kv.2.tenant == t)).foldl (fun s kv => s.deleteSq (BitVec.ofNat 14 kv.1)) s4
      let s6 := (s5.cqs.filter (fun kv => kv.2.tenant == t)).foldl (fun s kv => s.deleteCq (BitVec.ofNat 14 kv.1)) s5
      let s7 := (s6.unhold t).setTree t []
      let s8 : State := { s7 with
        faultQs := Tab.del s7.faultQs t.toNat
        faults := s7.faults.filter (fun kv => kv.2.tenant != t)
        tlb := s7.tlb.filter (fun x => !jobs.contains x.job)
        kslots := s7.kslots.filter (fun kv => !jobs.contains kv.2.job)
        jobs := s7.jobs.filter (fun kv => kv.2.tenant != t)
        shares := Tab.del s7.shares t.toNat
        windows := s7.windows.filter (fun kv => kv.1 / 65536 != t.toNat)
        tenants := Tab.del s7.tenants t.toNat }
      let ops := satAdd 0 ((k.map (·.aborted)).getD 0) 0xFFFFFFFF
      let lost := satAdd 0 ((k.map (·.lost)).getD 0) 0xFFFFFFFF
      (s8.plmAgain).hoEnd r.hdr hoOK [BitVec.ofNat 64 (ops + lost * 2 ^ 32)]

/-! ### Job keys (R353, R357, R365, R369) -/

/-- A tenant that takes key commands. -/
def State.keyTenant (s : State) (t : BitVec 12) : Option Tenant :=
  (Tab.find? s.tenants t.toNat).bind (fun k => if k.removing then none else some k)

/-- The lowest free job-key slot (DESIGN CHOICE, log entry 12). -/
def State.freeKeySlot (s : State) : Option Nat :=
  let m := s.slots.length + 1
  (List.range (if m < 16384 then m else 16384)).find? (fun n => !Tab.has s.slots n)

/-- The job belongs to another tenant (R78). -/
def State.foreignJob (s : State) (job : BitVec 20) (t : BitVec 12) : Bool :=
  match s.jobTenant job with
  | some x => x != t
  | none => false

/-- A key is installed in a free slot; the job is taken up. -/
def State.installKey (s : State) (job : BitVec 20) (t : BitVec 12) (key : Bytes) (bound : Option (BitVec 16)) (life : Nat) : State :=
  match s.freeKeySlot with
  | none => s
  | some n =>
    let k : JobSlot :=
      { job := job, tenant := t, cur := BitVec.ofNat 256 (leNat key), prev := none, parity := false,
        attested := bound.isSome, bound := bound.getD 0, lifetime := if bound.isSome then s.time / 1000000000 + life else 0,
        ctr0 := 0, ctr1 := 0 }
    ({ s with slots := Tab.put s.slots n k }).takeJob job t

/-- Fields of w1 of the key commands. -/
def keyJob (m : HororeMsg) : BitVec 20 := BitVec.ofNat 20 (fieldOf (hoWord m 1) 0 20)
def keyTen (m : HororeMsg) : BitVec 12 := BitVec.ofNat 12 (fieldOf (hoWord m 1) 20 12)
def keyKid (m : HororeMsg) : BitVec 16 := BitVec.ofNat 16 (fieldOf (hoWord m 1) 32 16)

/-- A transport key that serves a command: known, and bound to the handle that the command names or to none. -/
def State.usableKey (s : State) (kid : BitVec 16) (h : Option (BitVec 16)) : Option TransportKey :=
  (s.transport? kid).bind (fun k => if k.handle == h then some k else none)

/-- KEY_INSTALL: statuses in the order of Table 14-3. -/
def State.keyInstall (s : State) (m : HororeMsg) : State :=
  let h := hoHdr m
  let job := keyJob m
  let t := keyTen m
  let wrapped := (hoWord m 1).testBit 48
  match s.keyTenant t with
  | none => s.hoEnd h hoNoTenant []
  | some k =>
    if (k.conf && !wrapped) || s.foreignJob job t then s.hoEnd h hoInvalid []
    else if (s.slotOf job).isSome then s.hoEnd h hoSlotInUse []
    else if s.freeKeySlot.isNone then s.hoEnd h hoNoSlot []
    else if !wrapped then (s.installKey job t (s.pbufRead (hoIn h) 32) none 0).hoEnd h hoOK []
    else match s.usableKey (keyKid m) none, k.pubKey with
      | some tk, some pub =>
        let s1 := s.dropTransport tk.id
        match unwrapKey tk pub job 0 (s.pbufRead (hoIn h) 40) with
        | some key => (s1.installKey job t key none 0).hoEnd h hoOK []
        | none => s1.hoEnd h hoUnwrap []
      | _, _ => s.hoEnd h hoNoKey []

/-- KEY_WRAP_RELEASE (R369). -/
def State.keyWrapRelease (s : State) (m : HororeMsg) : State :=
  let h := hoHdr m
  let job := keyJob m
  let t := keyTen m
  let hd := BitVec.ofNat 16 (fieldOf (hoWord m 2) 0 16)
  let life := fieldOf (hoWord m 2) 32 17
  let i := s.pbufRead (hoIn h) 176
  let e := (s.plot hd).cur
  let zero := ((i.drop 133).take 3).all (· == 0)
  if !(hoWord m 1).testBit 48 || life == 0 || decide (86400 < life) || !zero then s.hoEnd h hoInvalid []
  else match s.keyTenant t with
  | none => s.hoEnd h hoNoTenant []
  | some _ =>
    if s.foreignJob job t then s.hoEnd h hoInvalid []
    else if (s.slotOf job).isSome then s.hoEnd h hoSlotInUse []
    else if s.freeKeySlot.isNone then s.hoEnd h hoNoSlot []
    else if freeState e then s.hoEnd h hoNoPlot []
    else if e.owner != t || !e.conf || e.state != .active then s.hoEnd h hoDenied []
    else if (s.sealList hd e).isNone then s.hoEnd h hoNotSealed []
    else match s.usableKey (keyKid m) (some hd) with
      | none => s.hoEnd h hoNoKey []
      | some tk =>
        let s1 := s.dropTransport tk.id
        match unwrapKey tk (i.take 133) job hd ((i.drop 136).take 40) with
        | none => s1.hoEnd h hoUnwrap []
        | some key =>
          let p := s1.pair hd
          let s2 := s1.setPair hd { p with attested := true, list := s1.checkList hd }
          (s2.installKey job t key (some hd) life).hoEnd h hoOK []

/-- KEY_ROTATE of a job (R357); for a tenant that is being removed it completes NO_TENANT (Table 14-7). -/
def State.keyRotateJob (s : State) (m : HororeMsg) : State :=
  let h := hoHdr m
  let job := keyJob m
  match s.slotOf job with
  | none => s.hoEnd h hoNoSlot []
  | some (n, k) =>
    if (s.keyTenant k.tenant).isNone then s.hoEnd h hoNoTenant []
    else if k.prev.isSome then s.hoEnd h hoKeyBusy []
    else match s.usableKey (keyKid m) none, (s.keyTenant k.tenant).bind (·.pubKey) with
      | some tk, some pub =>
        let s1 := s.dropTransport tk.id
        match unwrapKey tk pub job 0 (s.pbufRead (hoIn h) 40) with
        | some key =>
          let k1 : JobSlot := { k with prev := some k.cur, cur := BitVec.ofNat 256 (leNat key), parity := !k.parity, ctr0 := 0, ctr1 := 0 }
          ({ s1 with slots := Tab.put s1.slots n k1 }).hoEnd h hoOK []
        | none => s1.hoEnd h hoUnwrap []
      | _, _ => s.hoEnd h hoNoKey []

/-- A slot is changed or zeroised. -/
def State.endSlot (s : State) (n : Nat) (job : BitVec 20) : State := ({ s with slots := Tab.del s.slots n }).dropJob job

/-! ### Plot keys (R363) -/

/-- KEY_ROTATE of a plot; for a tenant that is being removed it completes NO_TENANT (Table 14-7). -/
def State.keyRotatePlot (s : State) (m : HororeMsg) : State :=
  let h := hoHdr m
  let hd := BitVec.ofNat 16 (fieldOf (hoWord m 1) 0 16)
  let e := (s.plot hd).cur
  let k := s.pair hd
  if freeState e then s.hoEnd h hoNoPlot []
  else if (s.keyTenant e.owner).isNone then s.hoEnd h hoNoTenant []
  else if k.prev.isSome || k.sweep then s.hoEnd h hoKeyBusy []
  else if !e.conf then s.hoEnd h hoNoKey []
  else
    let (n, s1) := s.fresh
    let new : BitVec 512 := BitVec.ofNat 512 (leNat ((List.range 64).map (Config.drbg n)))
    (s1.setPair hd { k with prev := k.cur, cur := some new, parity := !k.parity, sweep := true, ptr := 0 }).hoEnd h hoOK []

/-- Words of a granule that are still under the previous key. -/
def State.oldWords (s : State) (parity : Bool) (g : Nat) : List Nat :=
  (s.wmeta.filter (fun kv => kv.1 / 4194304 == g && kv.1 < tierBase && s.valid kv.1 && kv.2.kg != parity && decide (kv.2.err < 4))).map (·.1)

/-- Blocks of a TIERED plot from the re-key pointer on, in slots that are not marked ZERO. -/
def State.oldBlocks (s : State) (e : PlotEntry) (ptr : Nat) : Nat :=
  ((numbered e.slots).filter (fun x => !(s.tag x.2).zero)).foldl (fun n x =>
    n + (if (x.1 + 1) * 4096 ≤ ptr then 0 else if ptr ≤ x.1 * 4096 then 4096 else (x.1 + 1) * 4096 - ptr)) 0

/-- 64 KiB regions or tier blocks left to re-key (KEY_QUERY). -/
def State.rekeyLeft (s : State) (h : BitVec 16) : Nat :=
  let e := (s.plot h).cur
  let k := s.pair h
  if !k.sweep then 0
  else if e.tiered then s.oldBlocks e k.ptr
  else (e.grans.flatMap (fun g => (s.oldWords k.parity g).map (· / 1024))).eraseDups.length

/-- REKEY_DONE: every stack and engine has finished; the previous key is zeroised. -/
def State.rekeyDone (s : State) (h : BitVec 16) : State :=
  let k := s.pair h
  if !k.sweep || s.rekeyLeft h != 0 then s
  else (s.setPair h { k with prev := none, sweep := false, ptr := 0 }).raise pgSEC 1

/-! ### Allow lists (R366) and the SEC commands (Table 14-10) -/

def seNoList : Nat := 0x02
def seNoSpace : Nat := 0x03
def seFull : Nat := 0x04
def seFrozen : Nat := 0x05
def seInUse : Nat := 0x06
def seNoPlot : Nat := 0x07
def seNoSlot : Nat := 0x08

/-- Plots and key pairs that name a list. -/
def State.listNames (s : State) (n : Nat) : Nat :=
  (s.plots.filter (fun kv => kv.2.cur.allow.map BitVec.toNat == some n ||
    (kv.2.rev.map (fun r => r.entry.allow.map BitVec.toNat == some n)).getD false)).length +
  (s.pairs.filter (fun kv => kv.2.attested && kv.2.list.map BitVec.toNat == some n)).length

/-- HASH0 to HASH15 as one value. -/
def State.hashRegs (s : State) : BitVec 512 :=
  BitVec.ofNat 512 ((List.range 16).foldl (fun n i => n + (s.rd pgSEC (0x0C0 + 4 * i)).toNat * 2 ^ (32 * i)) 0)

def State.setHash (s : State) (d : BitVec 512) : State :=
  (List.range 16).foldl (fun s i => s.wr pgSEC (0x0C0 + 4 * i) (d.extractLsb' (32 * i) 32)) s

/-- A command on a list that is allocated. -/
def State.onList (s : State) (rsv : Nat) (masks : List Nat) (f : Nat → AllowList → State) : State :=
  let n := s.arg pgSEC 0
  if s.argsBad pgSEC rsv masks then s.complete pgSEC 0x01
  else match Tab.find? s.allow n with
    | some l => f n l
    | none => s.complete pgSEC seNoList

def allBits : Nat := 0xFFFFFFFF

/-- ALLOW_NEW: the lowest free list. -/
def State.allowNew (s : State) (rsv : Nat) : State :=
  let m := s.allow.length + 1
  if s.argsBad pgSEC rsv [allBits, 0, 0, 0] then s.complete pgSEC 0x01
  else match (List.range (if m < 1024 then m else 1024)).find? (fun n => !Tab.has s.allow n) with
    | some n => (({ s with allow := Tab.put s.allow n { frozen := false, ids := [] } }).setArg pgSEC 0 n).complete pgSEC 0x00
    | none => s.complete pgSEC seNoSpace

/-- ALLOW_ADD. -/
def State.allowAdd (s : State) (rsv : Nat) : State :=
  s.onList rsv [0x3FF, 0, 0, 0] (fun n l =>
    if l.frozen then s.complete pgSEC seFrozen
    else if 64 ≤ l.ids.length then s.complete pgSEC seFull
    else ({ s with allow := Tab.put s.allow n { l with ids := l.ids ++ [s.hashRegs] } }).complete pgSEC 0x00)

/-- ALLOW_FREEZE. -/
def State.allowFreeze (s : State) (rsv : Nat) : State :=
  s.onList rsv [0x3FF, 0, 0, 0] (fun n l =>
    ({ s with allow := Tab.put s.allow n { l with frozen := true } }).complete pgSEC 0x00)

/-- ALLOW_FREE. -/
def State.allowFree (s : State) (rsv : Nat) : State :=
  s.onList rsv [0x3FF, 0, 0, 0] (fun n _ =>
    if s.listNames n != 0 then s.complete pgSEC seInUse
    else ({ s with allow := Tab.del s.allow n }).complete pgSEC 0x00)

/-- ALLOW_QUERY. -/
def State.allowQuery (s : State) (rsv : Nat) : State :=
  s.onList rsv [0x3FF, 0x3F, allBits, 0] (fun n l =>
    let s1 := s.setArg pgSEC 2 (l.ids.length + 2 ^ 8 * ofBool l.frozen + 2 ^ 16 * satAdd 0 (s.listNames n) 65535)
    (s1.setHash ((l.ids[s.arg pgSEC 1]?).getD 0)).complete pgSEC 0x00)

/-- KEY_QUERY. -/
def State.keyQuery (s : State) (rsv : Nat) : State :=
  let h := BitVec.ofNat 16 (s.arg pgSEC 0)
  let e := (s.plot h).cur
  let k := s.pair h
  if s.argsBad pgSEC rsv [0xFFFF, allBits, allBits, 0] then s.complete pgSEC 0x01
  else if freeState e then s.complete pgSEC seNoPlot
  else
    let a := ofBool e.conf + 2 * ofBool k.prev.isSome + 4 * ofBool k.parity + 8 * ofBool k.attested +
      16 * (k.list.map BitVec.toNat).getD 0 + 2 ^ 16 * ofBool k.sweep
    ((s.setArg pgSEC 1 a).setArg pgSEC 2 (s.rekeyLeft h)).complete pgSEC 0x00

/-- SLOT_QUERY. -/
def State.slotQuery (s : State) (rsv : Nat) : State :=
  let job := BitVec.ofNat 20 (s.arg pgSEC 0)
  if s.argsBad pgSEC rsv [0xFFFFF, allBits, allBits, allBits] then s.complete pgSEC 0x01
  else match s.slotOf job with
    | none => s.complete pgSEC seNoSlot
    | some (n, k) =>
      let a := n + 2 ^ 14 * ofBool k.prev.isSome + 2 ^ 15 * ofBool k.parity + 2 ^ 16 * ofBool k.attested
      (((s.setArg pgSEC 1 a).setArg pgSEC 2 k.bound.toNat).setArg pgSEC 3
        (if k.attested then k.lifetime - s.time / 1000000000 else 0)).complete pgSEC 0x00

end Sys2Proof.Machine
end

