-- ==== Sys2Proof/Machine/JournalOps.lean ====
section
/-! DEFINITION. The journal engine (15_replay_journal.md): records with their chain, checkpoints, staging and commit, and the JNL
commands. -/

namespace Sys2Proof.Machine

/-! ### Records (Tables 15-1 to 15-3) -/

/-- Bytes of a record. -/
def recLen : Nat := 320

/-- Kinds of records. -/
def recOp : Nat := 1
def recCkpt : Nat := 2
def recOpen : Nat := 3

/-- The 32-byte header. -/
def State.recHeader (s : State) (kind flags opcode tenant sqid seq job cid status : Nat) : Bytes :=
  leBytes 1 kind ++ [0x01] ++ leBytes 1 (flags + 8 * ofBool s.backup.vbatLost) ++ leBytes 1 opcode ++ leBytes 2 tenant ++
    leBytes 2 sqid ++ leBytes 8 seq ++ leBytes 4 job ++ leBytes 2 cid ++ leBytes 1 status ++ [0] ++
    leBytes 8 (s.time / 1000 % 2 ^ 48)

/-- A record with its chain (R386): the chain after it. -/
def chained (chain body : Bytes) : Bytes × Bytes :=
  let b := (body ++ List.replicate 256 0).take 256
  let c := sha512 (chain ++ b)
  (b ++ c, c)

/-- The chain before record 0. -/
def noChain : Bytes := List.replicate 64 0

/-- The identity that DESC_HASH takes in (Table 15-2). -/
def State.cmdIdentity (s : State) (c : Cmd) : Bytes :=
  if c.opcode == 0x30 then ((Tab.find? s.kslots (c.field 0x20 2)).map (fun k => leBytes 64 k.hash.toNat)).getD noChain
  else if c.opcode == 0x03 || c.opcode == 0x04 || c.opcode == 0x05 || c.opcode == 0x10 || c.opcode == 0x11 then routineBytes c.opcode
  else noChain

/-- Entries of the input version vector, by ascending handle (R384). -/
def versionVector (c : Cmd) : Bytes :=
  let hs := c.reads.foldl (fun l r => insNat r.1 l) ([] : List Nat)
  hs.flatMap (fun h =>
    let v := ((c.reads.find? (fun r => r.1 == h)).map (·.2)).getD 0
    leBytes 2 h ++ List.replicate 6 0 ++ leBytes 8 v)

/-- UNSTABLE (R384). -/
def State.unstable (s : State) (c : Cmd) : Bool :=
  c.reads.any (fun r => (s.plot (BitVec.ofNat 16 r.1)).written || c.pubs.contains r.1)

/-- REPLAYABLE (R383). -/
def State.replayable (s : State) (c : Cmd) (unstable : Bool) : Bool :=
  c.status == 0 && !unstable &&
    ([0x01, 0x02, 0x03, 0x04, 0x05, 0x10, 0x11, 0x12, 0x40].contains c.opcode ||
      (c.opcode == 0x30 && ((Tab.find? s.jobs c.job.toNat).map (·.replay)).getD false))

/-- The body of an operation record. -/
def State.opRecord (s : State) (c : Cmd) (seq : Nat) : Bytes :=
  let u := s.unstable c
  let flags := ofBool u + 2 * ofBool (s.replayable c u)
  let result := (c.result ++ List.replicate 24 0).take 24
  let job := (Tab.find? s.jobs c.job.toNat).getD { tenant := c.tenant }
  let kernel : Bytes :=
    if c.opcode == 0x30 then
      leBytes 2 (s.boundCells c.job).length ++ leBytes 1 job.groups ++ leBytes 1 job.scrMib ++ leBytes 1 job.accGroups ++
        leBytes 1 (ofBool job.replay)
    else List.replicate 6 0
  s.recHeader recOp flags c.opcode c.tenant.toNat c.sq.toNat seq c.job.toNat (c.field 2 2) c.status.toNat ++
    sha512 (c.desc ++ s.cmdIdentity c) ++ sha512 (versionVector c) ++
    sha512 (leBytes 1 c.status.toNat ++ leBytes 1 c.opcode ++ result ++ c.out) ++ kernel ++ [0x08]

/-! ### Staging -/

/-- A record joins those staged. -/
def State.stageRec (s : State) (t : Nat) (j : Journal) (body : Bytes) (cmd : Option Nat) : Journal × State :=
  let (r, c) := chained j.chain body
  let j1 : Journal := { j with next := j.next + 1, chain := c, staged := j.staged ++ [{ seq := j.next, bytes := r, cmd := cmd }] }
  (j1, { s with journals := Tab.put s.journals t j1 })

/-- A checkpoint or an OPEN record, with the next value of the backup counter, signed by the journal's key (R387, R388). -/
def State.stageSigned (s : State) (t : Nat) (j : Journal) (kind : Nat) (raised : Bool) : Journal × State :=
  let n : BitVec 64 := s.backup.counter + 1
  let s1 : State := { s with backup := { s.backup with counter := n } }
  let head := s1.recHeader kind (4 * ofBool raised) 0 t 0 j.next 0 0 0 ++ leBytes 8 n.toNat ++
    leBytes 4 s1.backup.resets.toNat ++ List.replicate 4 0 ++ leBytes 8 j.sinceCkpt ++ j.chain
  let (sig, s2) := s1.sign (beNat j.key) head
  s2.stageRec t { j with sinceCkpt := 0 } (head ++ sig) none

/-- RECORD_STAGE: a marked command has finished hashing (R385). -/
def State.recordStage (s : State) (id : Nat) : State :=
  match s.cmd? id with
  | none => s
  | some c =>
    if c.phase != .record then s
    else match Tab.find? s.journals c.tenant.toNat with
      | none => s.noRecord id
      | some j =>
        if !c.place || j.closing then s.noRecord id
        else if j.staged.any (fun r => r.cmd == some id) then s
        else
          let c1 : Cmd := if c.opcode == 0x50 && c.status == 0 then { c with result := leBytes 8 j.next } else c
          let s1 := s.putCmd id c1
          let t := c.tenant.toNat
          let (j1, s2) := s1.stageRec t { j with sinceCkpt := j.sinceCkpt + 1 } (s1.opRecord c1 j.next) (some id)
          if j1.sinceCkpt ≥ 4096 then (s2.stageSigned t j1 recCkpt false).2 else s2

/-! ### Commit (R380, R390) -/

/-- Write bytes of a journal's plot with FUA, through the tier cache, leaving no block dirty: false when a drive that holds them
has failed or a key is absent. -/
def State.journalWrite (s : State) (h : BitVec 16) (ofs : Nat) (d : Bytes) : Bool × State :=
  let e := (s.plot h).cur
  let blocks := plotBlocks e ofs d.length
  if plotBytes e < ofs + d.length || blocks.any s.blockFailed then (false, s)
  else match s.bulkBlocks true blocks with
    | none => (false, s)
    | some s1 =>
      match s1.writePlot h e ofs d false with
      | (0, s2) => (true, blocks.foldl (fun s tb => s.writebackNow tb) s2)
      | (_, s2) => (false, s2)

/-- What a record that has been committed completes: the command of its own, an OPEN, a JOURNAL_SIGN_NOW. -/
def State.committed (s : State) (t : Nat) (r : StagedRec) : State :=
  let s1 := match r.cmd with
    | some id =>
      match s.cmd? id with
      | some c => s.putCmd id { c with phase := .posting, jnl := true, place := false }
      | none => s
    | none => s
  let s2 := match Tab.find? s1.wait pgJNL with
    | some w =>
      if w.op == 1 && !w.auto && w.h.toNat == t then ({ s1 with wait := Tab.del s1.wait pgJNL }).complete pgJNL 0x00 else s1
    | none => s1
  match s2.running with
  | some x =>
    if hoCode x.hdr == 0x0A && fieldOf ((x.words[1]?).getD 0).toNat 0 12 == t && ((x.words[3]?).getD 0).toNat == r.seq then
      s2.hoEnd x.hdr hoOK [(x.words[2]?).getD 0, (x.words[3]?).getD 0]
    else s2
  | none => s2

/-- The first record staged is committed, or its write has failed and the journal closes (R391). -/
def State.commitHead (s : State) (t : Nat) (ok : Bool) : State :=
  match Tab.find? s.journals t with
  | none => s
  | some j =>
    match j.staged with
    | [] => s
    | r :: rest =>
      let (done, s1) := if ok then s.journalWrite j.plot (recLen * r.seq) r.bytes else (false, s)
      if !done then s1.closeJournal t
      else
        let signed := (r.bytes.headD 0).toNat != recOp
        let j1 : Journal := { j with staged := rest, lastSigned := if signed then r.bytes else j.lastSigned }
        let s2 := ({ s1 with journals := Tab.put s1.journals t j1 }).inc pgJNL 0x060
        let s3 := (if signed then s2.inc pgJNL 0x064 else s2).committed t r
        if j.closing && rest.isEmpty then s3.closeJournal t else s3

/-- RECORD_COMMIT. -/
def State.recordCommit (s : State) (t : Nat) (ok : Bool) : State := (s.commitHead t ok).startStaging

/-- CHECKPOINT_TIMER: operation records have been staged since the last checkpoint (R387). -/
def State.checkpointTimer (s : State) (t : Nat) : State :=
  match Tab.find? s.journals t with
  | some j => if j.closing || j.sinceCkpt == 0 then s else (s.stageSigned t j recCkpt false).2
  | none => s

/-- A new firmware's Journal key takes over in every open journal (R389): a checkpoint under the old key, an OPEN record under the
new one. -/
def State.newJournalKey (s : State) (key : Bytes) : State :=
  s.journals.foldl (fun s kv =>
    match Tab.find? s.journals kv.1 with
    | none => s
    | some j =>
      if j.closing then s
      else
        let (j1, s1) := s.stageSigned kv.1 j recCkpt false
        (s1.stageSigned kv.1 { j1 with key := key, prevKey := some j1.key } recOpen false).2) { s with journalKey := key }

/-! ### OPEN of a plot that holds a journal (R388) -/

/-- What reading the records of a plot comes to. -/
inductive JnlScan where
  | wait
  | corrupt
  | empty
  | found (next : Nat) (chain : Bytes) (counter : Nat) (past : Nat)
  deriving DecidableEq, Repr

/-- A record that stands at its place. -/
def recGood (n : Nat) (r : Bytes) : Bool :=
  let k := (r.headD 0).toNat
  1 ≤ k && k ≤ 3 && (r[1]?).getD 0 == 0x01 && leNat ((r.drop 8).take 8) == n

/-- Read records while they stand at their places: what was read latest first, and whether a read failed or must wait. -/
def State.readRecs (s : State) (h : BitVec 16) : Nat → Nat → List Bytes → List Bytes × DevRes × State
  | 0, _, acc => (acc, .ok [], s)
  | f + 1, n, acc =>
    match s.devRead h (recLen * n) recLen with
    | (.ok r, s1) => if recGood n r then s1.readRecs h f (n + 1) (r :: acc) else (acc, .ok [], s1)
    | (x, s1) => (acc, x, s1)

/-- Follow the chain over records from a signed one on: the number of the next record and the chain so far. -/
def followChain : Nat → Bytes → List Bytes → Nat × Bytes
  | n, c, [] => (n, c)
  | n, c, r :: l =>
    let d := sha512 (c ++ r.take 256)
    if r.drop 256 == d then followChain (n + 1) d l else (n, c)

/-- The records of a plot (R388, steps 1 and 2). -/
def State.scanJournal (s : State) (h : BitVec 16) : JnlScan × State :=
  let (acc, st, s1) := s.readRecs h (plotBytes (s.plot h).cur / recLen) 0 []
  match st, acc with
  | .wait, _ => (.wait, s1)
  | .fail _, [] => (.corrupt, s1)
  | _, [] => (.empty, s1)
  | _, _ =>
    let tail := acc.takeWhile (fun r => (r.headD 0).toNat == recOp)
    match acc.drop tail.length with
    | [] => (.corrupt, s1)
    | ck :: before =>
      let n := before.length
      if ck.drop 256 != sha512 ((ck.drop 0x38).take 64 ++ ck.take 256) then (.corrupt, s1)
      else
        let (next, chain) := followChain (n + 1) (ck.drop 256) tail.reverse
        (.found next chain (leNat ((ck.drop 0x20).take 8)) acc.length, s1)

/-- Waiting JNL command of a tenant. -/
def State.jnlWait (s : State) (op : BitVec 4) (auto : Bool) (t : Nat) : State :=
  { s with wait := Tab.put s.wait pgJNL { op := op, auto := auto, h := BitVec.ofNat 16 t } }

/-- The OPEN record is staged, and no translation lets another write the plot (R379); OPEN completes when it is committed. -/
def State.beginJournal (s : State) (t : Nat) (h : BitVec 16) (next : Nat) (chain : Bytes) (raised : Bool) : State :=
  let j : Journal := { plot := h, next := next, chain := chain, sinceCkpt := 0, staged := [], key := s.journalKey,
                       prevKey := none, lastSigned := [], closing := false }
  let s1 : State := { s with tlb := s.tlb.filter (fun e => e.handle != h) }
  (s1.stageSigned t j recOpen raised).2.jnlWait 1 false t

/-- OPEN past its checks. -/
def State.openScan (s : State) (t : Nat) (h : BitVec 16) : State :=
  match s.scanJournal h with
  | (.wait, s1) => s1.jnlWait 1 true t
  | (.corrupt, s1) => s1.complete pgJNL 0x06
  | (.empty, s1) => s1.beginJournal t h 0 noChain false
  | (.found next chain c past, s1) =>
    let erase (s : State) : State := (s.journalWrite h (recLen * next) (List.replicate (recLen * (past - next)) 0)).2
    if c < s1.backup.counter.toNat then (erase s1).beginJournal t h next chain false
    else if s1.backup.vbatLost then
      let s2 : State := { s1 with backup := { s1.backup with counter := BitVec.ofNat 64 c } }
      (erase s2).beginJournal t h next chain true
    else (s1.raise pgJNL 3).complete pgJNL 0x07

/-- JNL OPEN. -/
def State.jnlOpen (s : State) (rsv : Nat) : State :=
  let t := s.arg pgJNL 0
  let h := BitVec.ofNat 16 (s.arg pgJNL 1)
  let p := s.plot h
  if s.argsBad pgJNL rsv [0xFFF, 0xFFFF, 0, 0] then s.complete pgJNL 0x01
  else if !s.tenantOpen (BitVec.ofNat 12 t) then s.complete pgJNL 0x02
  else if !p.cur.tiered || p.cur.owner.toNat != t || (s.sealList h p.cur).isSome || p.cur.state != .active || p.rev.isSome then
    s.complete pgJNL 0x03
  else if Tab.has s.journals t then s.complete pgJNL 0x04
  else s.openScan t h

/-- An OPEN that waits for its reads is tried again. -/
def State.jnlAgain (s : State) : State :=
  match Tab.find? s.wait pgJNL with
  | some w => if w.op == 1 && w.auto then ({ s with wait := Tab.del s.wait pgJNL }).jnlOpen 0 else s
  | none => s

/-- JNL CLOSE: a checkpoint, and the journal closes when it is committed. -/
def State.jnlClose (s : State) (rsv : Nat) : State :=
  let t := s.arg pgJNL 0
  if s.argsBad pgJNL rsv [0xFFF, 0, 0, 0] then s.complete pgJNL 0x01
  else if !s.tenantOpen (BitVec.ofNat 12 t) then s.complete pgJNL 0x02
  else match Tab.find? s.journals t with
    | none => s.complete pgJNL 0x05
    | some j => (s.stageSigned t { j with closing := true } recCkpt false).2.jnlWait 2 false t

/-- JNL QUERY. -/
def State.jnlQuery (s : State) (rsv : Nat) : State :=
  let t := fieldOf (s.arg pgJNL 0) 0 12
  if s.argsBad pgJNL rsv [0x10FFF, allBits, allBits, allBits] then s.complete pgJNL 0x01
  else if !s.tenantOpen (BitVec.ofNat 12 t) then s.complete pgJNL 0x02
  else match Tab.find? s.journals t with
    | none => ((((s.setArg pgJNL 0 t).setArg pgJNL 1 0).setArg pgJNL 2 0).setArg pgJNL 3 0).complete pgJNL 0x00
    | some j => ((((s.setArg pgJNL 0 (t + 2 ^ 16)).setArg pgJNL 1 j.plot.toNat).setArg pgJNL 2 j.next).setArg pgJNL 3
        (j.next / 2 ^ 32)).complete pgJNL 0x00

/-! ### Horore commands -/

/-- JOURNAL_SIGN_NOW: its response carries the checkpoint's COUNTER and SEQ once it is committed. -/
def State.signNow (s : State) (m : HororeMsg) : State :=
  let t := hoWord m 1
  if !s.tenantOpen (BitVec.ofNat 12 t) then s.hoEnd (hoHdr m) hoNoTenant []
  else match Tab.find? s.journals t with
    | none => s.hoEnd (hoHdr m) hoNotOpen []
    | some j =>
      if j.closing || j.lastSigned.isEmpty then s.hoEnd (hoHdr m) hoNotOpen []
      else
        let s1 := (s.stageSigned t j recCkpt false).2
        { s1 with running := some { hdr := hoHdr m,
                                    words := m.words.take 2 ++ [s1.backup.counter, BitVec.ofNat 64 j.next] } }

/-- A certificate with its length before it; none is a length of zero. -/
def certPart (key : Option Bytes) : Bytes :=
  match key with
  | some k =>
    let d := Config.certDer 1 (publicKey (beNat k))
    leBytes 2 d.length ++ d
  | none => [0, 0]

/-- JOURNAL_EXPORT. -/
def State.exportJournal (s : State) (m : HororeMsg) : State :=
  let h := hoHdr m
  let t := hoWord m 1
  if !s.tenantOpen (BitVec.ofNat 12 t) then s.hoEnd h hoNoTenant []
  else match Tab.find? s.journals t with
    | none => s.hoEnd h hoNotOpen []
    | some j =>
      if j.lastSigned.isEmpty then s.hoEnd h hoNotOpen []
      else
        let out := j.lastSigned ++ certPart (some j.key) ++ certPart j.prevKey
        if pbufSize < hoOut h + out.length then s.hoEnd h hoInvalid []
        else (s.pbufWrite (hoOut h) out).hoEnd h hoOK [BitVec.ofNat 64 out.length]

end Sys2Proof.Machine
end

