-- ==== Sys2Proof/Machine/StackRows.lean ====
section
/-! DEFINITION. Meanings of the commands of 08_memory_stacks.md that the controllers and hoes give themselves: self-refresh, merge
windows, calibration, sparing, scrubbing, re-keying, lazy zeroing and the die-to-die links. -/

namespace Sys2Proof.Machine

/-! ### Self-refresh (R220) -/

/-- A copy to a spare runs on a bed. -/
def State.copying (s : State) (b : Nat) : Bool := s.bit (pgHOE b) 0x068 31

/-- SELF_REFRESH_ENTRY: an idle stack enters self-refresh. -/
def execSelfRefreshEntry (st : BitVec 5) (s : State) : Host.Outcome State Fault Refusal :=
  let b := st.toNat
  if 24 ≤ b || s.fld (pgSTK b) 0x04C 0 2 != 0 || s.fld (pgSTK b) 0x040 0 20 == 0 || s.copying b then .next s
  else .next ((s.setFld (pgSTK b) 0x04C 0 2 2).inc (pgSTK b) 0x078)

/-- SELF_REFRESH_EXIT_DONE: the stack is active again. In PS2 every stack stays in self-refresh. -/
def execSelfRefreshExitDone (st : BitVec 5) (s : State) : Host.Outcome State Fault Refusal :=
  let b := st.toNat
  if s.fld (pgSTK b) 0x04C 0 2 != 3 || s.dormant then .next s
  else .next (s.setFld (pgSTK b) 0x04C 0 2 0)

/-! ### The controller -/

/-- MERGE_DRAIN: the oldest entry has reached its window (R217). -/
def execMergeDrain (bed : BitVec 5) (s : State) : Host.Outcome State Fault Refusal := .next (s.drainOldest bed.toNat)

/-- ACT_TABLE_RESET (R222). -/
def execActTableReset (st : BitVec 5) (s : State) : Host.Outcome State Fault Refusal :=
  .next (s.setStk st.toNat { s.stk st.toNat with act := [] })

/-- RECALIBRATION: a pause of one pseudo-channel, which changes no state (R223). -/
def execRecalibration (_st : BitVec 5) (_pc : BitVec 5) (s : State) : Host.Outcome State Fault Refusal := .next s

/-- REPAIR_LOG_FLUSH: the logs of all stacks are copied to boot flash (R224). -/
def State.flushRepair (s : State) : State :=
  { s with repairFlash := (s.stackTab.filter (fun kv => !kv.2.repair.isEmpty)).map (fun kv => (kv.1, kv.2.repair)) }

def execRepairLogFlush (s : State) : Host.Outcome State Fault Refusal := .next s.flushRepair

/-! ### Sparing (R225) -/

/-- Chunks of 16 KiB in a pseudo-channel. -/
def copyTotal : Nat := 196608

/-- The chunk of its pseudo-channel that a word lies in. -/
def chunkOf (sa : Nat) : Nat :=
  let p := placeOf sa
  ((p.row * 32 + p.bank) * 64 + p.col) * 64 / 16384

/-- PC_COPY_CHUNK: the next chunk is copied; a word that can be corrected is. -/
def execPcCopyChunk (bed : BitVec 5) (s : State) : Host.Outcome State Fault Refusal :=
  let b := bed.toNat
  let n := s.copyChunks b
  if !s.copying b || copyTotal ≤ n then .next s
  else
    let pc := s.fld (pgHOE b) 0x068 20 5
    let hit (kv : Nat × WordMeta) : Bool :=
      decide (kv.1 < tierBase) && wordStack kv.1 == b && kv.2.err != 0 && decide (kv.2.err ≤ 3) &&
        (placeOf (wordSa kv.1)).lpc == pc && chunkOf (wordSa kv.1) == n
    let s1 := (s.wmeta.filter hit).foldl (fun s kv => (s.setWm kv.1 { s.wm kv.1 with err := 0 }).corrected kv.1) s
    .next (s1.setFld (pgHOE b) 0x068 0 18 (n + 1))

/-- PC_COPY_DONE: the spare stands in; a copy that waited begins. -/
def execPcCopyDone (bed : BitVec 5) (s : State) : Host.Outcome State Fault Refusal :=
  let b := bed.toNat
  if !s.copying b || s.copyChunks b != copyTotal then .next s
  else
    let pc := s.fld (pgHOE b) 0x068 20 5
    let mine (n : Nat) : Bool := s.bit (pgSTK b) 0x050 (8 * n + 6) && s.fld (pgSTK b) 0x050 (8 * n) 5 == pc
    let n := if mine 0 then 0 else 1
    let s1 := (s.setFld (pgSTK b) 0x050 (8 * n + 6) 1 0).setFld (pgSTK b) 0x050 (8 * n + 5) 1 1
    let s2 := ((s1.setFld (pgHOE b) 0x068 31 1 0).raise (pgSTK b) 2).raise (pgHOE b) 2
    let m := 1 - n
    .next (if s2.bit (pgSTK b) 0x050 (8 * m + 6) then s2.beginCopy b (s2.fld (pgSTK b) 0x050 (8 * m) 5) else s2)

/-- PC_CE_DECAY: the corrected-error counts are halved. -/
def execPcCeDecay (st : BitVec 5) (s : State) : Host.Outcome State Fault Refusal :=
  let b := st.toNat
  .next ((List.range 32).foldl (fun s i =>
    let o := 0x100 + 4 * i
    s.setFld (pgSTK b) o 0 16 (s.fld (pgSTK b) o 0 16 / 2)) s)

/-! ### The hoe (R227 to R230) -/

/-- Plots with a sweep of their PINNED words. -/
def State.sweeps (s : State) : List (BitVec 16 × Bool) :=
  (s.pairs.filter (fun kv => kv.2.sweep)).map (fun kv => (BitVec.ofNat 16 kv.1, kv.2.parity))

/-- Words of a stack that are still to be re-keyed. -/
def State.rekeyWords (s : State) (b : Nat) : List Nat :=
  s.sweeps.flatMap (fun x =>
    let e := (s.plot x.1).cur
    if e.tiered then [] else (e.grans.filter (fun g => granStack g == b)).flatMap (s.oldWords x.2))

/-- Regions of a stack whose fine valid bits await clearing. -/
def State.zeroRegions (s : State) (b : Nat) : List Nat :=
  ((s.wmeta.filter (fun kv => decide (kv.1 < tierBase) && wordStack kv.1 == b && kv.2.valid && !s.summary kv.1)).map
    (fun kv => kv.1 / 1024)).eraseDups

/-- HOE_REKEY: the hoe re-encrypts the next word; `late` says that a write to it came in between, and the write-back is
dropped (R229). -/
def execHoeRekey (bed : BitVec 5) (late : Bool) (s : State) : Host.Outcome State Fault Refusal :=
  let b := bed.toNat
  if s.copying b || s.dormant then .next s
  else match s.rekeyWords b with
    | [] => .next s
    | w :: _ =>
      let s1 := s.wakeStack b
      let m := s1.wm w
      let s2 := if m.err == 0 then s1 else s1.corrected w
      if late then .next (s2.inc (pgHOE b) 0x06C)
      else
        let s3 := s2.setWm w { m with kg := !m.kg, err := 0 }
        .next (if (s3.rekeyWords b).isEmpty then s3.raise (pgHOE b) 3 else s3)

/-- HOE_LAZY_ZERO: the fine valid bits of the next region under a clear summary are cleared (R55). -/
def execHoeLazyZero (bed : BitVec 5) (s : State) : Host.Outcome State Fault Refusal :=
  let b := bed.toNat
  if s.copying b || s.dormant || !(s.rekeyWords b).isEmpty then .next s
  else match s.zeroRegions b with
    | [] => .next s
    | r :: _ => .next { s with wmeta := clearFine s.wmeta r }

/-- Bytes of a stack that a scrub pass covers. -/
def stackBytes : Nat := 90 * 2 ^ 30

/-- The scrub pointer (HOE.SCRUB_PTR). -/
def State.scrubPtr (s : State) (b : Nat) : Nat := (s.rd (pgHOE b) 0x044).toNat + (s.rd (pgHOE b) 0x048).toNat * 2 ^ 32

def State.setScrubPtr (s : State) (b n : Nat) : State :=
  (s.wr (pgHOE b) 0x044 (BitVec.ofNat 32 n)).wr (pgHOE b) 0x048 (BitVec.ofNat 32 (n / 2 ^ 32))

/-- A pass begins at address 0: the corrected reads of a row are counted afresh (R224). -/
def State.beginPass (s : State) (b : Nat) : State :=
  (s.setStk b { s.stk b with pass := some s.time, passDue := none, rowCe := [] }).setScrubPtr b 0

/-- SCRUB_PASS_START: the period has run out. A pass that still runs is behind (R230). -/
def execScrubPassStart (bed : BitVec 5) (s : State) : Host.Outcome State Fault Refusal :=
  let b := bed.toNat
  match (s.stk b).pass with
  | none => .next (s.beginPass b)
  | some _ =>
    let k := s.stk b
    .next ((s.setStk b { k with passDue := some (k.passDue.getD s.time) }).setFld (pgHOE b) 0x054 16 1 1)

/-- Minutes between two times. -/
def minutes (t0 t1 : Nat) : Nat := satAdd 0 ((t1 - t0) / 60000000000) 65535

/-- The pass has read its last word. -/
def State.endPass (s : State) (b t0 : Nat) : State :=
  let s1 := ((s.wr (pgHOE b) 0x04C (s.rd (pgHOE b) 0x04C + 1)).wr (pgHOE b) 0x050 (BitVec.ofNat 32 (minutes t0 s.time))).raise (pgHOE b) 0
  match (s.stk b).passDue with
  | none => (s1.setStk b { s1.stk b with pass := none }).wr (pgHOE b) 0x054 0
  | some due =>
    (((s1.wr (pgHOE b) 0x054 (BitVec.ofNat 32 (minutes due s.time))).raise (pgHOE b) 1)).beginPass b

/-- The pool word at a stack byte address; none in the reserved metadata. -/
def poolWord (b sa : Nat) : Option Nat :=
  let g := sa / 268435456
  if g < resGran b || poolGran b ≤ g - resGran b then none
  else some ((granBase b + (g - resGran b)) * 4194304 + sa % 268435456 / 64)

/-- The tenant of a granule's plot is confidential. -/
def State.granConf (s : State) (g : Nat) : Bool :=
  match Tab.find? s.granules g with
  | some r => s.tenantConf (s.plot r.owner).cur.owner
  | none => false

/-- The hoe reads one word with `n` symbols in error (R213, R219, R229). -/
def State.scrubWord (s : State) (b sa n : Nat) : State :=
  let p := placeOf sa
  let s1 := s.activate b (s.physPc b p) p.bank p.row false
  let g := match poolWord b sa with
    | some w => w / 4194304
    | none => 0x3FFF
  let clean (s : State) : State := match poolWord b sa with
    | some w => s.setWm w { s.wm w with err := 0 }
    | none => s
  let keep (s : State) : State := match poolWord b sa with
    | some w => s.setWm w { s.wm w with err := n }
    | none => s
  let bad (s : State) : State := ((keep s).inc (pgHOE b) 0x05C).uncorrectableAt b sa g (s.granConf g)
  if n == 0 then s1
  else if n ≤ 3 then ((clean s1).inc (pgHOE b) 0x058).correctedAt b sa
  else if n == 4 then bad s1
  else
    let (x, s2) := s1.fresh
    if Config.detects x then bad s2
    else
      let s3 : State := match poolWord b sa with
        | some w => { s2 with mem := putBytes s2.mem (w * 64) ((List.range 64).map (Config.junk x)) }
        | none => s2
      ((clean s3).inc (pgHOE b) 0x058).correctedAt b sa

/-- HOE_SCRUB: the hoe reads the word at its pointer, skipping pool words whose valid bit is clear. `sym` is the number of
symbols that the read finds in error beyond what the state holds. -/
def execHoeScrub (bed : BitVec 5) (sym : BitVec 7) (s : State) : Host.Outcome State Fault Refusal :=
  let b := bed.toNat
  match (s.stk b).pass with
  | none => .next s
  | some t0 =>
    if s.copying b || s.dormant || 24 ≤ b || !(s.rekeyWords b).isEmpty || !(s.zeroRegions b).isEmpty then .next s
    else
      let sa := s.scrubPtr b
      let s1 := match poolWord b sa with
        | some w =>
          if s.valid w then (s.wakeStack b).scrubWord b sa (if sym == 0 then (s.wm w).err else sym.toNat) else s
        | none => (s.wakeStack b).scrubWord b sa sym.toNat
      .next (if stackBytes ≤ sa + 64 then (s1.setScrubPtr b 0).endPass b t0 else s1.setScrubPtr b (sa + 64))

/-! ### Die-to-die links (R231) -/

/-- D2D_RETRY: a link-level retry, or a lane repair. -/
def execD2dRetry (bed : BitVec 5) (repair : Bool) (s : State) : Host.Outcome State Fault Refusal :=
  let b := bed.toNat
  if repair then
    .next (((s.count (pgBED b) 0x048 0 8 1).count (pgBED b) 0x040 1 4 1).raise (pgBED b) 1)
  else
    let s1 := s.inc (pgBED b) 0x044
    .next (if (s1.rd (pgBED b) 0x044).toNat == 1025 then s1.raise (pgBED b) 0 else s1)

/-! ### Temperature (R207) -/

/-- STACK_HOT: a stack's temperature crosses 85 °C one way or the other. -/
def execStackHot (st : BitVec 5) (temp : BitVec 8) (s : State) : Host.Outcome State Fault Refusal :=
  let b := st.toNat
  let s1 := s.setFld (pgSTK b) 0x04C 16 8 temp.toNat
  if 85 < temp.toNat then
    .next (if s.fld (pgSTK b) 0x04C 10 2 == 1 then s1 else (s1.setFld (pgSTK b) 0x04C 10 2 1).raise (pgSTK b) 5)
  else .next (s1.setFld (pgSTK b) 0x04C 10 2 0)

end Sys2Proof.Machine
end

