-- ==== Sys2Proof/Machine/Power.lean ====
section
/-! DEFINITION. Clock ramps and frequency points (R424, R425), the power manager (R427 to R431), thermal holds (R432), the
power-fail sequence (R251, R252) and the straps and clock source at start-up (R422, R423). -/

namespace Sys2Proof.Machine

/-! ### Clock ramps -/

/-- The points of Table 17-3, fastest first. -/
def aclkPoints : List Nat := [4, 5, 6, 8, 12]
def fclkPoints : List Nat := [6, 8]

end Sys2Proof.Machine

namespace Sys2Proof

open Machine

/-- A change of a clock's divider; a ramp in progress completes first (R424). -/
def Ramp.aim (r : Ramp) (n : Nat) : Ramp :=
  if r.ramping then { r with next := some n }
  else if r.div == 0 || r.div == n then { r with target := n, next := none }
  else { r with target := n, ramping := true, next := none }

/-- The divider that a clock is to come to. -/
def Ramp.goal (r : Ramp) : Nat := r.next.getD r.target

/-- One step of a ramp, and whether it has completed the ramp. -/
def Ramp.step (r : Ramp) : Ramp × Bool :=
  if !r.ramping then (r, false)
  else
    let d := if r.div > r.target then r.div - 1 else r.div + 1
    if d == r.target then
      let r1 : Ramp := { r with div := d, ramping := false, next := none }
      (match r.next with
       | some n => r1.aim n
       | none => r1, true)
    else ({ r with div := d }, false)

end Sys2Proof

namespace Sys2Proof.Machine

/-- The requested points (PWR.DVFS), the hold of R432 and the throttle flag. -/
def State.wantAclk (s : State) : Nat := s.fld pgPWR 0x050 0 4
def State.wantFclk (s : State) : Nat := s.fld pgPWR 0x050 8 4
def State.thermHeld (s : State) : Bool := s.bit pgCLK 0x04C 17
def State.throttled (s : State) : Bool := s.bit pgPWR 0x058 16

/-- Move ACLK towards a point, no faster than requested nor than a thermal hold allows, and show whether it is throttled. -/
def State.aimAclk (s : State) (n : Nat) : State :=
  let a := if n < s.wantAclk then s.wantAclk else n
  let b := if s.thermHeld && a < 6 then 6 else a
  ({ s with aclk := s.aclk.aim b }).setFld pgPWR 0x058 16 1 (if b > s.wantAclk then 1 else 0)

/-- FCLK at the requested point, or /8 during a thermal hold. -/
def State.aimFclk (s : State) : State :=
  { s with fclk := s.fclk.aim (if s.thermHeld then 8 else s.wantFclk) }

/-- The next point down, and up, of ACLK. -/
def pointDown (n : Nat) : Nat := (aclkPoints.find? (fun p => n < p)).getD 12
def pointUp (n : Nat) : Nat := (aclkPoints.reverse.find? (fun p => p < n)).getD 4

/-! ### The power-fail sequence (Table 09-2) -/

/-- Step 2: the staged records of every journal are written. -/
def State.commitStaged (s : State) : State :=
  s.journals.foldl (fun s kv => kv.2.staged.foldl (fun s _ => s.commitHead kv.1 true) s) s

/-- Steps 1 to 4 with no deadline (R253, R428); a power failure that has begun keeps its own. -/
def State.flushAll (s : State) : State :=
  ({ s with flushSeq := some (s.flushSeq.getD { deadline := false, logged := false }) }).commitStaged.flushTier

/-- Steps 2 to 4 are done: no record staged, no dirty block but stranded ones, no changed tag page. -/
def State.flushed (s : State) : Bool :=
  s.journals.all (fun kv => kv.2.staged.isEmpty) && s.dirtyBlocks == s.strandedBlocks && s.tagPages.isEmpty

/-! ### Power states -/

def pwrCur (s : State) : Nat := s.fld pgPWR 0x048 0 2
def pwrStep (s : State) : Nat := s.fld pgPWR 0x048 2 3
def pwrExiting (s : State) : Bool := s.bit pgPWR 0x048 5

/-- Set PWR.STATE's CUR, STEP and EXITING. -/
def State.setPwr (s : State) (cur step exiting : Nat) : State :=
  ((s.setFld pgPWR 0x048 0 2 cur).setFld pgPWR 0x048 2 3 step).setFld pgPWR 0x048 5 1 exiting

/-- A state change is counted. -/
def State.pwrDone (s : State) (cur : Nat) : State := (s.setPwr cur 0 0).inc pgPWR 0x06C

/-- The command that the power manager carries out completes. -/
def State.pwrComplete (s : State) (status : Nat) : State :=
  ({ s with wait := Tab.del s.wait pgPWR }).complete pgPWR status

/-- Set or restore SLEEP_EN of every port (PWR.CFG.LANE_SLEEP). -/
def State.sleepAll (s : State) : State :=
  if !s.bit pgPWR 0x04C 0 then { s with savedSleep := [] }
  else
    let on := (List.range 48).filter (fun n => s.bit (linkPage (BitVec.ofNat 6 n)) (linkOff (BitVec.ofNat 6 n) 0x044) 3)
    (List.range 48).foldl (fun s n =>
      s.setFld (linkPage (BitVec.ofNat 6 n)) (linkOff (BitVec.ofNat 6 n) 0x044) 3 1 1) { s with savedSleep := 48 :: on }

def State.sleepBack (s : State) : State :=
  if s.savedSleep.isEmpty then s
  else (List.range 48).foldl (fun t n =>
    t.setFld (linkPage (BitVec.ofNat 6 n)) (linkOff (BitVec.ofNat 6 n) 0x044) 3 1 (if s.savedSleep.contains n then 1 else 0))
    { s with savedSleep := [] }

/-- Every stack's power state (STK.STATE.POWER). -/
def State.stacksPower (s : State) (n : Nat) : State :=
  (List.range 24).foldl (fun s b => s.setFld (pgSTK b) 0x04C 0 2 n) s

/-- Steps 1 to 4 of an entry into PS2 (Table 17-6): flush, freeze, self-refresh. -/
def State.startPs2 (s : State) : State :=
  let s1 := ({ s.flushAll with frozen := true }).stacksPower 2
  (s1.sleepAll).setPwr (pwrCur s) 5 0

/-- An entry into PS3 (R430): the flush, and the repair logs to boot flash (R224). -/
def State.startPs3 (s : State) : State := (({ s.flushAll with frozen := true }).flushRepair).setPwr (pwrCur s) 3 0

/-- The power manager of the active complex carries out the command that waits (R427). -/
def State.powerGo (s : State) : State :=
  match Tab.find? s.wait pgPWR with
  | none => s
  | some w =>
    let t := w.op.toNat
    if s.activeCc.isNone || pwrStep s != 0 then s
    else if pwrCur s == 2 && t < 2 then s.wakeEvent 4
    else if pwrCur s == t then s.pwrComplete 0x00
    else if t == 0 || t == 1 then (s.pwrDone t).pwrComplete 0x00
    else if t == 2 then s.startPs2
    else s.startPs3

/-- A write of PWR.CMD (R427, R431). -/
def State.powerCmd (s : State) (p : Path) (target : Nat) : State :=
  s.writeAt p pgPWR 0x040 (fun s =>
    if s.busy pgPWR || pwrStep s != 0 then
      let s1 := s.overrun pgPWR
      if pwrStep s != 0 && !pwrExiting s && target < 2 then s1.wakeEvent 4 else s1
    else
      let w : Waiting := { op := BitVec.ofNat 4 target, auto := false, h := 0 }
      ({ s.setFld pgPWR 0x044 0 1 1 with wait := Tab.put s.wait pgPWR w }).powerGo)

/-- An entry into PS2 has completed; a recorded wake starts the exit (R431). -/
def State.ps2Entered (s : State) (dur : BitVec 16) : State :=
  let s1 := ((s.pwrDone 2).setFld pgPWR 0x070 0 16 dur.toNat).setFld pgPWR 0x05C 2 12 0
  if s1.bit pgPWR 0x048 6 then (s1.setPwr 2 1 1).setFld pgPWR 0x048 6 1 0
  else s1.pwrComplete 0x00

/-- An exit from PS2 has completed (Table 17-7): commands thaw and one READY goes to each endpoint that waits (R429). -/
def State.ps2Left (s : State) (dur : BitVec 16) : State :=
  let s1 := ((s.pwrDone 0).setFld pgPWR 0x070 16 16 dur.toNat).setFld pgPWR 0x05C 2 12 0xFFF
  let s2 := (({ s1 with frozen := false, flushSeq := none }).sleepBack).stacksPower 0
  let s3 := match s2.powerToken with
    | some t => s2.powerWait.foldl (fun s w => s.sendReady w.1 w.2 t) { s2 with powerToken := none, powerWait := [] }
    | none => s2
  match Tab.find? s3.wait pgPWR with
  | some w =>
    if w.op.toNat == 1 then (s3.pwrDone 1).pwrComplete 0x00
    else if w.op.toNat == 0 then s3.pwrComplete 0x00
    else s3.pwrComplete 0x02
  | none => s3

/-- PS3 has been entered: every domain but D_AON and D_BACKUP is off (R430, R464). A recorded wake ends it at once. -/
def State.ps3Entered (s : State) : State :=
  let wake := s.bit pgPWR 0x048 6
  let s1 := { s.pwrDone 3 with phase := .ps3, pins := { s.pins with stkPwrEn := false, stkPg := false } }
  let s2 := s1.emit (.rails false)
  if wake then s2.platformReset 0x0A 0 else s2

/-! ### Inputs (R438) -/

/-- A pulse of less than 1 µs is ignored and counted. -/
def State.filtered (s : State) : State := s.inc pgRSTC 0x068

/-- PWR_FAIL_N has latched (RSTC.INPUTS.PWR_FAIL). -/
def State.pwrFailed (s : State) : Bool := s.bit pgRSTC 0x060 3

/-- The first qualified assertion of PWR_FAIL_N latches and starts the sequence of R251; an exit from PS2 stops after its
step 2 (R429). -/
def State.powerFails (s : State) : State :=
  let s1 := ({ s with pins := { s.pins with pwrFailN := false } }).setFld pgRSTC 0x060 3 1 1
  if s.pwrFailed || s.phase == .inReset || s.phase == .ps3 then s1
  else
    let s2 : State := { s1 with flushSeq := some { deadline := true, logged := false } }
    let s3 := s2.wakeEvent 6
    if pwrExiting s3 then s3.setFld pgPWR 0x048 2 3 2 else s3

/-- The flush deadline: the log entry of the power failure says whether step 4 finished (R252, R437). -/
def State.flushDeadline (s : State) : State :=
  match s.flushSeq with
  | some f =>
    if f.deadline && !f.logged then
      { s.logReset 0x30 s.flushed 0 with flushSeq := some { f with logged := true } }
    else s
  | none => s

/-! ### Start-up (R422, R423, R433) -/

/-- CLK_MODE as sampled. -/
def State.clkMode (s : State) : Nat := s.fld pgCLK 0x040 0 2
def State.bootSrc (s : State) : Nat := s.fld pgRSTC 0x05C 0 2

/-- Internal reset release: the straps are sampled (R433), and a strap or PWR_FAIL_N may stop the boot (Table 17-11). -/
def State.releaseReset (s : State) (bootSrc : BitVec 2) (clkMode : BitVec 2) (dly : BitVec 3) : State :=
  if s.phase != .inReset || !s.pins.platRstInN || !s.pins.perstN || !s.pins.railsGood then s
  else
    let s1 : State := { s with phase := .sourceCheck, pins := { s.pins with platRstOutN := true, stkPwrEn := true } }
    let s2 := (s1.wr pgRSTC 0x05C (BitVec.ofNat 32 (bootSrc.toNat + 4 * clkMode.toNat + 16 * dly.toNat))).wr pgCLK 0x040
      (BitVec.ofNat 32 (clkMode.toNat + 4 * dly.toNat))
    if clkMode == 3 || bootSrc == 3 then s2.bootStop 0x21 0
    else if !s.pins.pwrFailN then s2.bootStop 0x24 0
    else s2

/-- The source is judged stable; a XTAL_FAIL that was logged no longer stops the boot. -/
def State.sourceStable (s : State) : State :=
  let s1 := if s.bootStopCause == 0x20 then s.bootGoesOn else s
  { s1.setFld pgCLK 0x040 8 1 1 with phase := .pllLock }

/-- One window of the check (R422): `count` in 1/64 of a crystal cycle, 4,096 nominal. -/
def State.xtalWindow (s : State) (count : Nat) : State :=
  if s.phase != .sourceCheck || s.bootHeld || s.clkMode == 1 then s
  else match s.xtalCentre with
    | none =>
      if 4096 * 98 ≤ count * 100 && count * 100 ≤ 4096 * 102 then { s with xtalCentre := some count } else s
    | some c =>
      let off := if count < c then c - count else count - c
      if off * 1000000 ≤ Config.xtalPpm.toNat * c then
        let n := s.fld pgCLK 0x044 0 13 + 1
        let s1 := s.setFld pgCLK 0x044 0 13 n
        if n ≥ 4096 then s1.sourceStable else s1
      else ({ s with xtalCentre := none }.setFld pgCLK 0x044 0 13 0).count pgCLK 0x044 16 16 1

/-- The root PLL has locked: the clocks ramp from the oscillator, no further than a thermal hold allows (R432), the blocks of the data path come up and the tier engines read
their drives (R423, R424, R237). -/
def State.rootLocked (s : State) : State :=
  if s.phase != .pllLock || s.bootHeld then s
  else
    let s1 : State := { s with phase := .running
                               aclk := { div := 240, target := if s.thermHeld then 6 else 4, ramping := true }
                               fclk := { div := 240, target := if s.thermHeld then 8 else 6, ramping := true } }
    let s2 := (((s1.setFld pgPWR 0x058 16 1 (ofBool s.thermHeld)).setFld pgCLK 0x040 9 2 3).setFld pgPWR 0x05C 2 12 0xFFF).readSuperblocks
    let s3 := (s2.setFld (pgHUB 0) 0x040 0 1 1).setFld (pgHUB 1) 0x040 0 1 1
    let s4 := (List.range 24).foldl (fun s b => s.setFld (pgBED b) 0x040 0 1 1) s3
    let s5 := s4.wr (pgPCIE 0) 0x040 (BitVec.ofNat 32 (1 + 2 * 7 + 16 * 16))
    s5.drives.foldl (fun s kv =>
      if kv.2.present then s.wr (pgPCIE (kv.1 + 1)) 0x040 (BitVec.ofNat 32 (1 + 2 * 7 + 16 * 4)) else s) s5

/-! ### Training of the stacks (R223, R224) -/

/-- Physical pseudo-channels of a stack that failed: each logical one takes the lowest spare that works (R223, R225). -/
def State.spareAtTraining (s : State) (b : Nat) (bad : List Nat) : State :=
  let good := [0, 1].filter (fun i => !bad.contains (30 + i))
  let need := (List.range 30).filter bad.contains
  let s1 := s.setStk b { s.stk b with spareFailed := [0, 1].filter (fun i => bad.contains (30 + i)) }
  (need.zip good).foldl (fun s x =>
    (s.setFld (pgSTK b) 0x050 (8 * x.2) 5 x.1).setFld (pgSTK b) 0x050 (8 * x.2 + 5) 1 1) s1

/-- One stack trains: the rows of its repair log are repaired while repairs remain, the log is emptied. -/
def State.trainStack (s : State) (b : Nat) (r : StackTrainResult) : State :=
  let rows := ((Tab.find? s.repairFlash b).getD []).length
  let left := r.pprLeft.toNat - (if rows < r.pprLeft.toNat then rows else r.pprLeft.toNat)
  let bad := (r.badPc.map (·.toNat)).eraseDups
  let s1 := (s.setStk b { s.stk b with repair := [] }).spareAtTraining b bad
  (((s1.setFld (pgSTK b) 0x04C 2 1 (if bad.length ≤ 2 then 1 else 0)).setFld (pgSTK b) 0x058 0 16 left).setFld (pgSTK b) 0x07C 0 20
    r.us.toNat).setFld (pgSTK b) 0x05C 0 7 0

/-- Training of every stack; one that cannot bring 30 pseudo-channels into use stops the boot. -/
def State.trainStacks (s : State) (res : List StackTrainResult) : State :=
  let ofStack (b : Nat) : Option StackTrainResult := res.find? (fun r => r.stack.toNat == b)
  if s.phase != .running || !s.pins.stkPg || s.bootHeld || s.bit (pgSTK 0) 0x04C 2 then s
  else match (List.range 24).find? (fun b => match ofStack b with
      | some r => decide (2 < (r.badPc.map (·.toNat)).eraseDups.length)
      | none => true) with
    | some b => s.bootStop 0x22 b
    | none =>
      let s1 := (List.range 24).foldl (fun s b => match ofStack b with
        | some r => s.trainStack b r
        | none => s) s
      { s1 with repairFlash := [] }

end Sys2Proof.Machine
end

