-- ==== Sys2Proof/Machine/SysRows.lean ====
section
/-! DEFINITION. Meanings of the system instructions of a cell (04_jexkai_isa.md, Tables 04-14 and 04-15): barriers, fences,
notifies, identifiers, traps and the end of a thread. -/

namespace Sys2Proof.Machine

/-! ### Barriers (R64, R65, R128) -/

/-- Threads of a group that have arrived, or will never come back from EXIT. -/
def groupArrived (x : Cell) (g : Nat) : Bool :=
  (x.threads.filter (fun kv => kv.1 / 64 == g)).all (fun kv => kv.2.run == .barG || kv.2.run == .exited)

/-- A thread leaves the barrier it waits at. -/
def leaveBarrier (order : Nat) (at_ : ThreadRun) (t : Thread) : Thread :=
  if t.run == at_ then { t with run := .ready, pc := t.pc + 8, since := order } else t

/-- The group barrier releases when all threads of the group have arrived. -/
def State.releaseGroup (s : State) (c g : Nat) : State :=
  if !groupArrived (s.cell c) g then s
  else
    let n := s.nextOrder
    let s1 := s.modCell c (fun x => { x with threads := x.threads.map (fun kv =>
      if kv.1 / 64 == g then (kv.1, leaveBarrier n .barG kv.2) else kv) })
    { s1 with nextOrder := n + 1 }

/-- Threads of a KERNEL command that have arrived at a job barrier. -/
def State.jobArrived (s : State) (id : Nat) (n : BitVec 3) : Bool :=
  (s.cells.filter (fun kv => kv.2.cmd == some id)).all (fun kv =>
    kv.2.threads.all (fun x => x.2.run == .barJ n || x.2.run == .exited))

/-- A job barrier releases on every cell of the command. -/
def State.releaseJob (s : State) (id : Nat) (n : BitVec 3) : State :=
  if !s.jobArrived id n then s
  else
    { s with
      nextOrder := s.nextOrder + 1
      cells := s.cells.map (fun kv =>
        if kv.2.cmd == some id then
          (kv.1, { kv.2 with threads := kv.2.threads.map (fun x => (x.1, leaveBarrier s.nextOrder (.barJ n) x.2)) })
        else kv) }

/-- The KERNEL command of a cell ends when every thread has executed EXIT (R183). -/
def State.kernelDone (s : State) (id : Nat) : State :=
  let all := (s.cells.filter (fun kv => kv.2.cmd == some id)).all (fun kv => kv.2.threads.all (fun x => x.2.run == .exited))
  if all then (s.endKernel id).finish id 0 [] 0 else s

/-! ### Meanings -/

/-- NOP. -/
def execNop (c : BitVec 9) (t : BitVec 10) (f : BitVec 48) (s : State) : Host.Outcome State Fault Refusal :=
  .next (s.issue c t f none (fun k => !onlyBits k 0) (fun _ s => .done s))

/-- BARG: the thread arrives, and the last arrival releases the group (R64). -/
def execBarg (c : BitVec 9) (t : BitVec 10) (f : BitVec 48) (s : State) : Host.Outcome State Fault Refusal :=
  .next (s.issue c t f none (fun k => !onlyBits k 0) (fun k s =>
    .wait ((s.modThread k.c k.t (fun y => { y with run := .barG })).releaseGroup k.c (k.t / 64))))

/-- BARJ (R65). -/
def execBarj (c : BitVec 9) (t : BitVec 10) (f : BitVec 48) (s : State) : Host.Outcome State Fault Refusal :=
  .next (s.issue c t f none (fun k => !onlyBits k (fm 30 3)) (fun k s =>
    let n : BitVec 3 := BitVec.ofNat 3 (fldOf k 30 3)
    let s1 := s.modThread k.c k.t (fun y => { y with run := .barJ n })
    match k.x.cmd with
    | some id => .wait (s1.releaseJob id n)
    | none => .wait s1))

/-- FENCE: every access of a thread is ordered when its instruction has executed, so it completes at once (R67, R68). -/
def execFence (c : BitVec 9) (t : BitVec 10) (f : BitVec 48) (s : State) : Host.Outcome State Fault Refusal :=
  .next (s.issue c t f none (fun k => !onlyBits k (fm 30 3) || fldOf k 30 3 > 2) (fun _ s => .done s))

/-- NOTIFY and NOTIFYW (R129): `waits` for the latter. -/
def notifyOp (waits : Bool) (k : Ctx) (s : State) : Res :=
  let done (s : State) (st : Nat) : Res :=
    .done (s.modThread k.c k.t (fun y => y.setS (fldOf k 43 5) (BitVec.ofNat 64 st)))
  let job := bwJob k.x.bind
  match s.sendWord (k.th.getS (fldOf k 38 5)).toNat (k.th.getS (fldOf k 33 5)) (s.ownStamp job) true with
  | (.taken, s1) => done s1 0
  | (.refused, _) => done s.reject 2
  | (.full, _) => if waits then .wait (s.modThread k.c k.t (fun y => { y with run := .notify })) else done s.reject 1

/-- NOTIFY. -/
def execNotify (c : BitVec 9) (t : BitVec 10) (f : BitVec 48) (s : State) : Host.Outcome State Fault Refusal :=
  .next (s.issue c t f (some 0x3804) (fun k => !onlyBits k (mD + mA + mB)) (notifyOp false))

/-- NOTIFYW. -/
def execNotifyw (c : BitVec 9) (t : BitVec 10) (f : BitVec 48) (s : State) : Host.Outcome State Fault Refusal :=
  .next (s.issue c t f none (fun k => !onlyBits k (mD + mA + mB)) (notifyOp true))

/-- Table 04-15. -/
def rdidValue (s : State) (k : Ctx) (sel : Nat) : Nat :=
  let w := k.x.bind
  let lent := k.x.state == .lent
  match sel with
  | 0 => k.t % 64
  | 1 => k.t / 64
  | 2 => if lent then k.x.part.1 else bwPos w
  | 3 => bwGroups w
  | 4 => if lent then k.x.part.2 else (s.boundCells (bwJob w)).length
  | 5 => bwScr w
  | 6 => bwAcc w
  | 7 => (bwJob w).toNat
  | 8 => (bwTenant w).toNat
  | 9 => ofBool (bwReplay w)
  | _ => ofBool (bwLent w)

/-- RDID (R130). -/
def execRdid (c : BitVec 9) (t : BitVec 10) (f : BitVec 48) (s : State) : Host.Outcome State Fault Refusal :=
  .next (s.issue c t f none (fun k => !onlyBits k (mD + fm 0 24) || fldOf k 0 24 > 10) (fun k s =>
    .done (s.modThread k.c k.t (fun y => y.setS (fldOf k 43 5) (BitVec.ofNat 64 (rdidValue s k (fldOf k 0 24)))))))

/-- RDCYC. -/
def execRdcyc (c : BitVec 9) (t : BitVec 10) (f : BitVec 48) (s : State) : Host.Outcome State Fault Refusal :=
  .next (s.issue c t f (some 0x3807) (fun k => !onlyBits k mD) (fun k s =>
    .done (s.modThread k.c k.t (fun y => y.setS (fldOf k 43 5) (BitVec.ofNat 64 s.cycles)))))

/-- RDTIME. -/
def execRdtime (c : BitVec 9) (t : BitVec 10) (f : BitVec 48) (s : State) : Host.Outcome State Fault Refusal :=
  .next (s.issue c t f (some 0x3808) (fun k => !onlyBits k mD) (fun k s =>
    .done (s.modThread k.c k.t (fun y => y.setS (fldOf k 43 5) (BitVec.ofNat 64 s.time)))))

/-- TRAP. -/
def execTrap (c : BitVec 9) (t : BitVec 10) (f : BitVec 48) (s : State) : Host.Outcome State Fault Refusal :=
  .next (s.issue c t f none (fun k => !onlyBits k (fm 0 16)) (fun k s => .trap s 0x0E (fldOf k 0 16) 0))

/-- The trap that EXIT raises for a tile that failed: the lower code when both furrows hold one (R118, R133). -/
def exitTrap (t : Thread) : Option (Nat × Nat × W64) :=
  match t.f0.trap, t.f1.trap with
  | some a, some b => some (if b.1 < a.1 then b else a)
  | some a, none => some a
  | none, b => b

/-- EXIT: the thread ends once its copies are done; it counts as arrived at every later barrier (R128), and the last one
ends the command (R183). -/
def execExit (c : BitVec 9) (t : BitVec 10) (f : BitVec 48) (s : State) : Host.Outcome State Fault Refusal :=
  .next (s.issue c t f none (fun k => !onlyBits k 0) (fun k s =>
    match exitTrap k.th with
    | some (cause, detail, tva) => .trap s cause detail tva
    | none =>
      if !k.th.f0.copies.isEmpty || !k.th.f1.copies.isEmpty then
        .wait (s.modThread k.c k.t (fun y => { y with run := .furrow }))
      else
        let s1 := (s.modThread k.c k.t (fun y => { y with run := .exited, resident := false })).releaseGroup k.c (k.t / 64)
        match k.x.cmd with
        | some id => .wait (((List.range 8).foldl (fun s n => s.releaseJob id (BitVec.ofNat 3 n)) s1).kernelDone id)
        | none => .wait s1))

/-- FLAGS. -/
def execFlags (c : BitVec 9) (t : BitVec 10) (f : BitVec 48) (s : State) : Host.Outcome State Fault Refusal :=
  .next (s.issue c t f none (fun k => !onlyBits k (mD + 1)) (fun k s =>
    .done (s.modThread k.c k.t (fun y =>
      let z := y.setS (fldOf k 43 5) (y.flags.setWidth 64)
      if k.f.testBit 0 then { z with flags := 0 } else z))))

end Sys2Proof.Machine
end

