-- ==== Sys2Proof/Machine/TrellisRows.lean ====
section
/-! DEFINITION. Meanings of the trellis commands and of the events of cells (03_cells_and_threads.md). -/

namespace Sys2Proof.Machine

/-! ### TRL commands (Table 03-8) -/

/-- BIND. -/
def execBind (p : Path) (rsv : BitVec 28) (s : State) : Host.Outcome State Fault Refusal :=
  .next (s.command p pgTRL (fun s => s.trlBind rsv.toNat))

/-- UNBIND (R93): the positions of highest number on each bed are given up first. -/
def State.trlUnbind (s : State) (rsv : Nat) : State :=
  let job := BitVec.ofNat 20 (fieldOf (trlArg s 0) 0 20)
  let a1 := trlArg s 1
  let n := fieldOf a1 24 5
  if s.argsBad pgTRL rsv [0xFFFFF, 0x1FFFFFFF, 0, 0] || n > 16 then s.trlDone 0x01 0
  else if !s.jobHolds job then s.trlDone 0x06 0
  else if s.jobRuns job then s.trlDone 0x05 0
  else
    let held := s.positions job
    let onBed (b : Nat) : List (Nat × Nat × Holder) := held.filter (fun p => p.2.1 == b)
    let higher (b : Nat) (p : Nat × Nat × Holder) : Nat := ((onBed b).filter (fun q => q.1 > p.1)).length
    let drop := held.filter (fun p => bitOf a1 p.2.1 && (n == 0 || higher p.2.1 p < n))
    let keep := held.filter (fun p => !drop.contains p)
    if !evenBeds (keep.map (·.2.1)) then s.trlDone 0x04 0
    else
      let s1 := drop.foldl (fun s p => match p.2.2 with
        | .cell c => (s.modCell c Cell.startPurge).dropCellTlb c
        | .coming sp => { s with substs := s.substs.map (fun r => if r.spare == sp then { r with toBound := false } else r) }
        | .lost => { s with jobs := s.jobs.map (fun kv =>
            if kv.1 == job.toNat then (kv.1, { kv.2 with lost := kv.2.lost.filter (fun l => l.1 != p.1) }) else kv) }) s
      let s2 := if (s1.boundCells job).isEmpty then s1.freeSlots job else s1
      let cells := (drop.filter (fun p => match p.2.2 with
        | .cell _ => true
        | _ => false)).length
      ((s2.dropJobTlb job).dropJob job).trlDone 0x00 cells

/-- UNBIND. -/
def execUnbind (p : Path) (rsv : BitVec 28) (s : State) : Host.Outcome State Fault Refusal :=
  .next (s.command p pgTRL (fun s => s.trlUnbind rsv.toNat))

/-- RESET_JOB (R88): BUSY stays at 1 until the job's cells are purged. -/
def State.trlReset (s : State) (rsv : Nat) : State :=
  let job := BitVec.ofNat 20 (fieldOf (trlArg s 0) 0 20)
  if s.argsBad pgTRL rsv [0xFFFFF, 0, 0, 0] then s.trlDone 0x01 0
  else if !s.jobHolds job then s.trlDone 0x06 0
  else
    let (n, s1) := s.resetJob job
    (s1.setFld pgTRL 0x054 16 16 n).trlResetDone n

/-- RESET_JOB. -/
def execResetJob (p : Path) (rsv : BitVec 28) (s : State) : Host.Outcome State Fault Refusal :=
  .next (s.command p pgTRL (fun s => s.trlReset rsv.toNat))

/-- Kernel store in units of 4 KiB (R81). -/
def storeUnits (len : Nat) : Nat := (len + 4095) / 4096

/-- Free kernel store, and slots in use, a slot being filled counted. -/
def State.storeFree (s : State) : Nat :=
  65536 - s.kslots.foldl (fun n kv => n + storeUnits kv.2.image.length) ((s.kload.map (fun k => storeUnits k.len)).getD 0)
def State.slotsUsed (s : State) : Nat := s.kslots.length + (if s.kload.isSome then 1 else 0)

/-- KLOAD: the slot is taken, and the image is read by KLOAD_COMPLETE (R81). -/
def State.trlKload (s : State) (rsv : Nat) : State :=
  let job := BitVec.ofNat 20 (fieldOf (trlArg s 0) 0 20)
  let tva := trlArg s 1 + 2 ^ 32 * fieldOf (trlArg s 2) 0 25
  let len := fieldOf (trlArg s 3) 0 25
  if s.argsBad pgTRL rsv [0xFFFFF, 0xFFFFFFFF, 0x1FFFFFF, 0x1FFFFFF] || len == 0 || len > 0x1000000 then s.trlDone 0x01 0
  else if ((s.jobTenant job).map (fun t => !s.tenantOpen t)).getD false then s.trlDone 0x02 0
  else if !s.jobHolds job then s.trlDone 0x06 0
  else match (List.range 1024).find? (fun i => !Tab.has s.kslots i) with
    | none => s.trlDone 0x07 0
    | some slot =>
      if storeUnits len > s.storeFree then s.trlDone 0x07 0
      else { s with kload := some { slot := slot, job := job, tva := BitVec.ofNat 57 tva, len := len, dead := false, fault := none } }

/-- KLOAD. -/
def execKload (p : Path) (rsv : BitVec 28) (s : State) : Host.Outcome State Fault Refusal :=
  .next (s.command p pgTRL (fun s => s.trlKload rsv.toNat))

/-- KHASH shows a hash (R91). -/
def State.showHash (s : State) (h : Bytes) : State :=
  (List.range 16).foldl (fun s i => s.wr pgTRL (0x080 + 4 * i) (BitVec.ofNat 32 (leNat ((h.drop (4 * i)).take 4)))) s

/-- KLOAD_COMPLETE: the image is read with the job's rights, every byte with X, and its hash taken (R81). -/
def execKloadComplete (s : State) : Host.Outcome State Fault Refusal :=
  match s.kload with
  | none => .next s
  | some k =>
    if k.fault.isSome || s.phase != .running then .next s
    else
      let q := s.kloadReq k
      match s.engReach q rightX false (cutAll [(k.tva.toNat, k.len)]) with
      | (.error .wait, s1) => .next s1
      | (.error (.fault fid _), s1) => .next { s1 with kload := some { k with fault := some fid } }
      | (.error (.fail _ _), s1) => .next s1.kloadFail
      | (.ok ps, s1) =>
        match s1.engReadPieces k.tva.toNat ps with
        | (.error _, s2) => .next s2.kloadFail
        | (.ok d, s2) =>
          let h := sha512 d
          let s3 : State := { s2 with
            kload := none
            kslots := Tab.put s2.kslots k.slot { job := k.job, image := d, hash := BitVec.ofNat 512 (leNat h) } }
          .next ((s3.showHash h).trlDone 0x00 k.slot)

/-- A kernel slot whose kernel is running. -/
def State.slotRuns (s : State) (slot : Nat) : Bool :=
  s.cmds.any (fun kv => kv.2.opcode == 0x30 && kv.2.phase == .running && kv.2.kslot == slot &&
    s.cells.any (fun x => x.2.cmd == some kv.1))

/-- KUNLOAD (R82). -/
def State.trlKunload (s : State) (rsv : Nat) : State :=
  let slot := fieldOf (trlArg s 0) 0 10
  if s.argsBad pgTRL rsv [0x3FF, 0, 0, 0] then s.trlDone 0x01 0
  else match Tab.find? s.kslots slot with
    | none => s.trlDone 0x0A 0
    | some k =>
      if s.slotRuns slot then s.trlDone 0x05 0
      else
        let s1 : State := { s with kslots := Tab.del s.kslots slot }
        (s1.dropJob k.job).trlDone 0x00 0

/-- KUNLOAD. -/
def execKunload (p : Path) (rsv : BitVec 28) (s : State) : Host.Outcome State Fault Refusal :=
  .next (s.command p pgTRL (fun s => s.trlKunload rsv.toNat))

/-- KQUERY (R91). -/
def State.trlKquery (s : State) (rsv : Nat) : State :=
  let slot := fieldOf (trlArg s 0) 0 10
  if s.argsBad pgTRL rsv [0x3FF, 0xFFFFFFFF, 0xFFFFFFFF, 0] then s.trlDone 0x01 0
  else match Tab.find? s.kslots slot with
    | none => s.trlDone 0x0A 0
    | some k =>
      (((s.setArg pgTRL 1 k.job.toNat).setArg pgTRL 2 k.image.length).showHash (leBytes 64 k.hash.toNat)).trlDone 0x00 0

/-- KQUERY. -/
def execKquery (p : Path) (rsv : BitVec 28) (s : State) : Host.Outcome State Fault Refusal :=
  .next (s.command p pgTRL (fun s => s.trlKquery rsv.toNat))

/-- The status with which a SUBSTITUTE of a cell ends at once (R85); none when the substitution can start. -/
def State.substStatus (s : State) (c : Nat) : Option Nat :=
  let k := (s.cell c).state
  if c ≥ 408 || !(k == .free || k == .bound || k == .lent || k == .purging) then some 0x01
  else if (s.cell (spareOf (cellBed c))).state != .spare then some 0x09
  else none

/-- SUBSTITUTE (R83, R85): it completes when the spare's quick self-test has ended. -/
def State.trlSubstitute (s : State) (rsv : Nat) : State :=
  let c := fieldOf (trlArg s 0) 0 9
  if s.argsBad pgTRL rsv [0x1FF, 0, 0, 0] then s.trlDone 0x01 0
  else match s.substStatus c with
    | some st => s.trlDone st 0
    | none => s.replaceCell c 0x07 true

/-- SUBSTITUTE. -/
def execSubstitute (p : Path) (rsv : BitVec 28) (s : State) : Host.Outcome State Fault Refusal :=
  .next (s.command p pgTRL (fun s => s.trlSubstitute rsv.toNat))

/-! ### Events of cells -/

/-- SELFTEST_COMPLETE (R74): every cell that is in its self-test passes, or fails as listed; an enabled cell that failed is
substituted when its bed's spare passed. -/
def execSelftestComplete (failed : List (BitVec 9)) (s : State) : Host.Outcome State Fault Refusal :=
  if s.phase != .running then .next s
  else
    let busy (s : State) (c : Nat) : Bool := s.substs.any (fun r => r.spare == c)
    let s1 := (List.range 408).foldl (fun s c =>
      let x := s.cell c
      if x.state != .selftest || busy s c then s
      else if failed.any (fun f => f.toNat == c) then
        let s1 := (s.setCell c { x with state := .failed, cause := 0x01 }).noteFault c 5
        if isSpareCell c then s1.spareUsed (cellBed c) else s1
      else s.setCell c { x with state := if isSpareCell c then .spare else .free }) s
    .next ((List.range 408).foldl (fun s1 c =>
      if (s.cell c).state == .selftest && !busy s c && !isSpareCell c && (s1.cell c).state == .failed then
        s1.replaceCell c 0x01 false
      else s1) s1)

/-- HARD_FAULT (R84). -/
def execHardFault (c : BitVec 9) (k : CellFaultKind) (s : State) : Host.Outcome State Fault Refusal :=
  if c.toNat ≥ 408 || s.phase != .running then .next s
  else match k with
    | .regFile => .next (s.hardFault c.toNat 0x02 0)
    | .accBank => .next (s.hardFault c.toNat 0x03 1)
    | .scratch => .next (s.hardFault c.toNat 0x04 2)
    | .bindCpl => .next (s.hardFault c.toNat 0x05 3)

/-- HEARTBEAT_MISSED (R84). -/
def execHeartbeatMissed (c : BitVec 9) (s : State) : Host.Outcome State Fault Refusal :=
  if c.toNat ≥ 408 || s.phase != .running then .next s else .next (s.hardFault c.toNat 0x06 4)

/-- BINDING_CHECK (R75, R76): word and complement are compared; the sound complement of a cell without a binding is 0 for a word
of 0 at reset, so only a cell with a binding in force is compared. -/
def execBindingCheck (c : BitVec 9) (s : State) : Host.Outcome State Fault Refusal :=
  let x := s.cell c.toNat
  if c.toNat ≥ 408 || s.phase != .running || !(x.state == .bound || x.state == .lent) || x.bindOk then .next s
  else .next (s.hardFault c.toNat 0x05 3)

/-- SUBSTITUTION_COMPLETE. -/
def execSubstitutionComplete (bed : BitVec 5) (pass : Bool) (s : State) : Host.Outcome State Fault Refusal :=
  if s.phase != .running then .next s else .next (s.substDone bed.toNat pass)

/-- PURGE_COMPLETE (R80): the cell is cleared and becomes FREE. -/
def execPurgeComplete (c : BitVec 9) (s : State) : Host.Outcome State Fault Refusal :=
  let x := s.cell c.toNat
  if x.state != .purging || s.phase != .running then .next s
  else
    let s1 := (s.setCell c.toNat { x.purged .free with cause := x.cause }).dropCellTlb c.toNat
    .next ((s1.dropJob (bwJob x.bind)).cellsFreed)

/-- LENT_PART_DONE (R79): the operation that the cell ran a part of has come to its end, and the cell is purged. -/
def execLentPartDone (c : BitVec 9) (s : State) : Host.Outcome State Fault Refusal :=
  let x := s.cell c.toNat
  let ended := match x.cmd.bind s.cmd? with
    | some k => k.phase == .record || k.phase == .posting
    | none => true
  if x.state != .lent || !ended then .next s
  else .next ((s.setCell c.toNat x.startPurge).dropCellTlb c.toNat)

/-- NO_CELLS_TIMEOUT (R79): a part has waited 1 ms for a cell while the job holds no BOUND cell and none is FREE. -/
def execNoCellsTimeout (id : Nat) (s : State) : Host.Outcome State Fault Refusal :=
  match s.cmd? id with
  | none => .next s
  | some k =>
    if (k.phase != .running && k.phase != .ranked) || k.beds.isEmpty || !(s.boundCells k.job).isEmpty ||
        !(s.cellsIn .free).isEmpty then .next s
    else .next (s.finish id cstNoCells [] 0)

/-- A thread that R63 lets be swapped out. -/
def swapsOut (t : Thread) : Bool :=
  t.resident && (match t.run with
    | .barG => true
    | .barJ _ => true
    | .defer _ => true
    | .fault _ _ => true
    | .furrow => true
    | _ => false)

/-- The ready thread of a cell that is not resident and has been ready longest. -/
def Cell.oldestReady (x : Cell) : Option Nat :=
  (x.threads.foldl (fun (m : Option (Nat × Thread)) kv =>
    if kv.2.resident || kv.2.run != .ready then m
    else match m with
      | none => some kv
      | some y => if kv.2.since < y.2.since then some kv else some y) none).map (·.1)

/-- CONTEXT_SWAP (R63): a waiting thread gives its context, or a free context is given, to the ready thread that has been ready
longest. -/
def execContextSwap (c : BitVec 9) (out : Option (BitVec 10)) (s : State) : Host.Outcome State Fault Refusal :=
  let x := s.cell c.toNat
  match Cell.oldestReady x with
  | none => .next s
  | some n =>
    if !s.cellRuns x then .next s
    else
      let give (s : State) : State :=
        (s.modThread c.toNat n (fun t => { t with resident := true })).inc (pgCELL c.toNat) 0x050
      match out with
      | none => if x.residentCount < 64 then .next (give s) else .next s
      | some o =>
        match x.thread? o.toNat with
        | some t => if swapsOut t then .next (give (s.modThread c.toNat o.toNat (fun t => { t with resident := false }))) else .next s
        | none => .next s

end Sys2Proof.Machine
end

