-- ==== Sys2Proof/Machine/Control.lean ====
section
/-! DEFINITION. The control pair (R395 to R400), firmware images and their loading (R416 to R418), the targets of SPARE_INVOKE
(R415), the host's words of the queue mailbox and of channels (R402, R403, R406 to R411), and the BAR4 window (R405). -/

namespace Sys2Proof.Machine

/-! ### The control pair -/

/-- The complex that is not active, when one is. -/
def State.otherCc (s : State) : Option Nat := s.activeCc.map (fun i => 1 - i)

/-- CC.FAULT.CAUSE of a fault (Table 16-9). -/
def ccCause (k : CcFaultKind) : Nat :=
  match k with
  | .lockstep => 1
  | .watchdog => 2
  | .sram => 3
  | .complement => 4
  | .selfTest => 5
  | .compareState => 1

/-- The complex becomes FAILED with a cause. -/
def State.ccFail (s : State) (i : Nat) (k : CcFaultKind) : State :=
  (s.setRole i ccFailed false false).wr (pgCC i) 0x04C (BitVec.ofNat 32 (ccCause k))

/-- A fault of the active complex (R396, R398): a healthy standby will take over; without one the platform resets. -/
def State.ccFault (s : State) (k : CcFaultKind) : State :=
  match s.activeCc with
  | none => s
  | some i =>
    let ok := s.ccRole (1 - i) == ccStandby && s.standbyOk (1 - i)
    let s1 := s.ccFail i k
    if ok then s1
    else if k == .compareState then s1.platformReset 0x05 3
    else s1.platformReset 0x04 (ccCause k)

/-- A fault of the standby, or of the former active complex in its self-test (R396, R399). -/
def State.standbyFails (s : State) (k : CcFaultKind) : State :=
  match s.activeCc with
  | none => s
  | some i =>
    if s.ccRole (1 - i) == ccFailed then s
    else (s.ccFail (1 - i) k).raise (pgCC i) 2

/-- The healthy standby resumes management (R397). What the mirror holds stands in the state itself: the commands taken, the
one that runs with its steps, and the words of the host queue. -/
def State.takeOver (s : State) (us : BitVec 16) : State :=
  match s.activeCc, [0, 1].find? (fun i => s.ccRole i == ccStandby && s.standbyOk i) with
  | none, some j =>
    let s1 := (((s.setRole j ccActive true false).count (pgCC j) 0x050 0 16 1).wr (pgCC j) 0x058 (us.setWidth 32)).raise (pgCC j) 0
    ((s1.raise (pgCC j) 2).hoTake).powerGo
  | _, _ => s

/-- Nanoseconds in a minute. -/
def minuteNs : Nat := 60000000000

/-- Steps 3 to 5 of a swap (R400): repair logs to flash, hand-over; the former active complex runs its self-test. The new
active complex has counted the swap and raised SWAP_DONE. -/
def State.swapRoles (s : State) (us : BitVec 16) : State :=
  match s.activeCc with
  | none => s
  | some i =>
    let j := 1 - i
    let s1 := ((s.flushRepair).setRole j ccActive true false).setRole i ccBooting false false
    let s2 := ((s1.count (pgCC j) 0x054 0 16 1).wr (pgCC j) 0x058 (us.setWidth 32)).raise (pgCC j) 1
    { s2 with swapDue := s2.time + s2.fld (pgCC 0) 0x044 0 8 * 60 * minuteNs }

/-- A swap may start: the standby is healthy (R400). -/
def State.swapReady (s : State) : Bool :=
  match s.otherCc with
  | some j => s.ccRole j == ccStandby && s.standbyOk j
  | none => false

/-- A scheduled swap: one that cannot start is tried again in 10 minutes; one that finds a Horore command in progress waits
for it (R400). -/
def State.scheduledSwap (s : State) (us : BitVec 16) : State :=
  if !s.bit (pgCC 0) 0x044 8 || s.activeCc.isNone then s
  else if !s.swapReady then { s with swapDue := s.time + 10 * minuteNs }
  else if s.running.isSome then s
  else (s.swapRoles us).hoTake

/-- ROLE_SWAP (R400): answered by the complex now active. -/
def State.roleSwap (s : State) (m : HororeMsg) (us : BitVec 16) : State :=
  if !s.swapReady then s.hoEnd (hoHdr m) hoUnready []
  else
    let s1 := s.swapRoles us
    s1.hoEnd (hoHdr m) hoOK [BitVec.ofNat 64 (s1.activeCc.getD 0)]

/-- The former active complex has run its self-test (R400). -/
def State.standbyReady (s : State) (pass : Bool) : State :=
  match s.otherCc with
  | none => s
  | some j =>
    if s.ccRole j != ccBooting then s
    else if pass then s.setRole j ccStandby false true
    else s.standbyFails .selfTest

/-! ### Firmware (R416 to R418) -/

def fwMagic : Nat := 0x4D495746365942 * 256 + 0x4B
def fwBodyMax : Nat := 0xC00000

/-- A field of an image's header. -/
def fwField (d : Bytes) (o n : Nat) : Nat := leNat ((d.drop o).take n)

/-- The fused hash of the firmware key. -/
def fusedKeyHash : Bytes := (List.range 64).map Config.fwKeyHash

/-- An image is valid (R416). -/
def fwValid (d : Bytes) : Bool :=
  let n := fwField d 0x010 4
  let body := (d.drop 512).take n
  let key := (d.drop 0x100).take 133
  decide (512 ≤ d.length) && fwField d 0 8 == fwMagic && decide (1 ≤ n) && decide (n ≤ fwBodyMax) && body.length == n &&
  sha512 key == fusedKeyHash && (d.drop 0x020).take 64 == sha512 body && decide (Config.minSvn ≤ fwField d 0x00C 4) &&
  ecdsaVerify key (d.take 0x060) ((d.drop 0x060).take 66) ((d.drop 0x0A2).take 66)

/-- The image proper: header and body. -/
def fwImage (d : Bytes) : Bytes := d.take (512 + fwField d 0x010 4)

/-- What the device reports of an image. -/
def fwOf (d : Bytes) : FwImage :=
  { version := BitVec.ofNat 32 (fwField d 0x008 4), svn := BitVec.ofNat 32 (fwField d 0x00C 4), digest := sha512 (fwImage d) }

/-- An image runs: its version is shown in both CC pages. -/
def State.fwRuns (s : State) (f : FwImage) : State :=
  [0, 1].foldl (fun s i => (s.wr (pgCC i) 0x060 f.version).wr (pgCC i) 0x064 f.svn) { s with fw := some f }

/-- CC.BOOT of both pages: source used, fallback, status. -/
def State.setBoot (s : State) (i src fallback status : Nat) : State :=
  s.wr (pgCC i) 0x068 (BitVec.ofNat 32 (src + 2 * fallback + 16 * status))

/-- The complex that boots: the one that is to be active, kept in ROLE.ACTIVE_HOLD. -/
def State.bootCc (s : State) : Nat := if s.ccHold 1 then 1 else 0

/-- The image is measured and started in both complexes (R417). -/
def State.startFw (s : State) (d : Bytes) (src : Nat) : State :=
  let i := s.bootCc
  let f := fwOf d
  let s1 := (({ s with journalKey := journalOf f.digest }.fwRuns f).setRole i ccActive true false)
  let s2 := if s1.ccRole (1 - i) == ccFailed then s1 else s1.setRole (1 - i) ccStandby false true
  let s3 := s2.setBoot i src (s2.fld (pgCC i) 0x068 1 1) 0
  (if s3.bootStopCause == 0x25 then s3.bootGoesOn else s3).powerGo

/-- Host download begins (R417). -/
def State.hostDownload (s : State) (i fallback : Nat) : State :=
  let s1 := s.setBoot i 1 fallback 3
  (if s1.bootStopCause == 0x25 then s1.bootGoesOn else s1).hoTake

/-- What the flash holds; none when it cannot be read. -/
def State.flashImage (s : State) : Option Bytes :=
  match s.fwFlash with
  | some d => some d
  | none => Config.flashImage

/-- FIRMWARE_BOOT_LOAD (R398, R417): the results of the complexes' boot self-tests. -/
def State.bootLoad (s : State) (ok0 ok1 : Bool) : State :=
  if s.phase != .running || s.bootHeld || s.activeCc.isSome || s.ccHold 0 || s.ccHold 1 then s
  else if !ok0 && !ok1 then
    ((s.setRole 0 ccFailed false false).setRole 1 ccFailed false false).bootStop 0x23 0
  else
    let i := if ok0 then 0 else 1
    let s1 := s.setRole i ccBooting true false
    let s2 := if ok0 && ok1 then s1 else (s1.setRole (1 - i) ccFailed false false).wr (pgCC (1 - i)) 0x04C 5
    let status := match s2.flashImage with
      | some d => if fwValid d then 0 else 1
      | none => 2
    if s2.bootSrc == 1 then s2.hostDownload i 0
    else match status, s2.flashImage with
      | 0, some d => s2.startFw d 0
      | st, _ =>
        if s2.bootSrc == 0 then (s2.setBoot i 0 0 st).bootStop 0x25 st
        else s2.hostDownload i 1

/-- CC.BOOT.RECOVER: after a stop with an image that is invalid or unreadable (R417). -/
def State.recover (s : State) (i : Nat) : State :=
  let st := s.fld (pgCC i) 0x068 4 4
  if st == 1 || st == 2 then s.hostDownload i 0 else s

/-- FW_STAGE (R418). -/
def State.fwStage (s : State) (m : HororeMsg) : State :=
  let w := hoWord m 1
  let ofs := fieldOf w 0 24
  let len := fieldOf w 24 16
  let first := w.testBit 40
  let last := w.testBit 41
  if len == 0 || ofs % 64 != 0 || (len % 64 != 0 && !last) then s.hoEnd (hoHdr m) hoInvalid []
  else
    let d := s.pbufRead (hoIn (hoHdr m)) len
    let old := if first then [] else (s.staged.map (·.1)).getD []
    let all := old.take ofs ++ List.replicate (ofs - old.length) 0 ++ d ++ old.drop (ofs + len)
    if !last then ({ s with staged := some (all, false) }).hoEnd (hoHdr m) hoOK []
    else if fwValid all then ({ s with staged := some (all, true) }).hoEnd (hoHdr m) hoOK []
    else ({ s with staged := none }).hoEnd (hoHdr m) hoFwInvalid []

/-- FW_ACTIVATE (R418): in host download the image is started; otherwise the roles swap, the Journal key changes and the
response comes from the new active complex. -/
def State.fwActivate (s : State) (m : HororeMsg) (us : BitVec 16) : State :=
  match s.staged with
  | some (d, true) =>
    let f := fwOf d
    let s1 := if (hoWord m 1).testBit 0 then { s with fwFlash := some (fwImage d) } else s
    if s.download then (s1.startFw d 1).hoEnd (hoHdr m) hoOK [f.version.setWidth 64]
    else if !s.swapReady then s.hoEnd (hoHdr m) hoUnready []
    else
      let s2 := ((s1.newJournalKey (journalOf f.digest)).fwRuns f).swapRoles us
      let s3 := match s2.activeCc with
        | some j => s2.raise (pgCC j) 3
        | none => s2
      s3.hoEnd (hoHdr m) hoOK [f.version.setWidth 64]
  | _ => s.hoEnd (hoHdr m) hoNotStaged []

/-! ### SPARE_INVOKE (Table 16-7) -/

/-- A cell, to the trellis (R83, R85). -/
def State.spareCell (s : State) (m : HororeMsg) : State :=
  let c := fieldOf (hoWord m 1) 16 9
  match s.substStatus c with
  | none => (s.replaceCell c 0x07 false).hoEnd (hoHdr m) hoOK []
  | some 0x09 => s.hoEnd (hoHdr m) hoNoSpare []
  | some _ => s.hoEnd (hoHdr m) hoInvalid []

/-- A pseudo-channel, to the stack controller (R225). -/
def State.sparePc (s : State) (m : HororeMsg) : State :=
  let st := fieldOf (hoWord m 1) 16 5
  let lpc := fieldOf (hoWord m 1) 24 5
  if 24 ≤ st || 30 ≤ lpc then s.hoEnd (hoHdr m) hoInvalid []
  else match s.freeSpare st with
    | none => s.hoEnd (hoHdr m) hoNoSpare []
    | some _ => (s.spareStart st lpc).hoEnd (hoHdr m) hoOK []

/-- A row, to the repair log (R224). -/
def State.spareRow (s : State) (m : HororeMsg) : State :=
  let w := hoWord m 1
  let st := fieldOf w 16 5
  if 24 ≤ st then s.hoEnd (hoHdr m) hoInvalid []
  else if (s.stk st).repair.length ≥ 64 then s.hoEnd (hoHdr m) hoNoSpare []
  else (s.logRow st { pc := fieldOf w 24 5, bank := fieldOf w 32 5, row := fieldOf w 40 18 }).hoEnd (hoHdr m) hoOK []

/-- A lane, to PORT.CMD.SUBST (R275, R277). -/
def State.spareLane (s : State) (m : HororeMsg) : State :=
  let w := hoWord m 1
  let port := fieldOf w 16 5
  let lane := fieldOf w 24 3
  let l : LinkNo := BitVec.ofNat 6 (port + (if w.testBit 27 then 24 else 0))
  if 24 ≤ port || !s.linkExists l || (s.linkUp l && (s.lnk l).width.toNat ≤ lane) then s.hoEnd (hoHdr m) hoInvalid []
  else if !s.linkUp l || !s.spareOpen l then s.hoEnd (hoHdr m) hoNoSpare []
  else (s.portSubst l (BitVec.ofNat 3 lane)).hoEnd (hoHdr m) hoOK []

/-! ### The host's side of the mailboxes -/

/-- Push a word into the request direction; a full direction is an error (R411). -/
def State.hqPush (s : State) (p : Path) (w : W64) : State :=
  if s.txq.length ≥ 16 then s.accessError p pgMBX 0
  else ({ s with txq := s.txq ++ [w] }).hoTake

/-- Pop a response word, zero when none waits. -/
def State.hqPop (s : State) : W64 × State :=
  match s.rxq with
  | w :: l => (w, { s with rxq := l })
  | [] => (0, s)

/-- The stamp of a word from the host or the board controller (R409). -/
def hostStamp (p : Path) : Stamp := { ep := 0x1FFF, job := 0, path := if p == .i3c then 1 else 0 }

/-- Send a channel word (Table 16-2). -/
def State.hostWord (s : State) (p : Path) (ch : Nat) (w : W64) : State :=
  match s.sendWord ch w (hostStamp p) false with
  | (.taken, s1) => s1
  | (_, s1) => s1.reject.accessError p pgMBX 0

/-- Take the word of a channel whose receiver is the host (R403). -/
def State.takeWord (s : State) (ch : Nat) : W64 × State :=
  let c := s.chan ch
  if c.recv != 1 then (0, s)
  else match c.word with
    | some (w, _) => (w, s.emptyChan ch)
    | none => (0, s)

/-- A channel's stamp, zero with no word (R409). -/
def State.stampOf (s : State) (ch : Nat) : W64 :=
  match (s.chan ch).word with
  | some (_, st) => BitVec.ofNat 64 (st.ep.toNat + 2 ^ 13 * st.job.toNat + 2 ^ 33 * st.path.toNat + 2 ^ 35)
  | none => 0

/-- The words of the channels with the host as receiver are discarded with a notice (Table 16-3). -/
def State.dropHostWords (s : State) : State :=
  s.channels.foldl (fun s kv => if kv.2.recv == 1 && kv.2.word.isSome then s.discardWord kv.1 else s) s

/-- A queue names a channel. -/
def State.queueNames (s : State) (ch : Nat) : Bool :=
  s.sqs.any (fun kv => kv.2.chan.toNat == ch) || s.cqs.any (fun kv => kv.2.chan.toNat == ch)

/-- A write of MBX.CH_CFG (R406). -/
def State.chCfg (s : State) (v : W32) : State :=
  let ch := s.fld pgMBX 0x040 0 12
  let c := s.chan ch
  let r := fieldOf v.toNat 13 2
  if r == 3 || (c.recv == 3 && s.queueNames ch) then s
  else
    let c1 : Channel := { c with tenant := BitVec.ofNat 12 (fieldOf v.toNat 0 12), granted := v.getLsbD 12,
                                 recv := BitVec.ofNat 2 r, ep := BitVec.ofNat 13 (fieldOf v.toNat 16 13) }
    (s.setChan ch c1).deliver ch

/-! ### The BAR4 window (R405) -/

/-- What an access comes to. -/
inductive Bar4Res where
  | data (d : Bytes) | stored | failed (status : Nat) | wait
  deriving DecidableEq, Repr

/-- The byte offset in its plot of a place in the window. -/
def State.bar4Ofs (s : State) (off : BitVec 36) : Nat :=
  off.toNat + (s.rd pgMBX 0x064).toNat + 2 ^ 32 * s.fld pgMBX 0x068 0 12

/-- Carry out an access: the plot check with all four rights, the lines that endpoints hold, the data. -/
def State.bar4Do (s : State) (off : BitVec 36) (len : Nat) (wr : Option Bytes) : Bar4Res × State :=
  let h : BitVec 16 := BitVec.ofNat 16 (s.fld pgMBX 0x060 0 16)
  let ofs := s.bar4Ofs off
  let store := wr.isSome
  let (st, e, s1) := s.plotCheck 0 h .window (if store then .write else .read) (if store then rightW else rightR) ofs len
  if st != stOK then
    (.failed st, if e.state != .unused && e.state != .released && s1.tenantConf e.owner then s1.inc pgSEC 0x088 else s1)
  else match s1.insideReady h e ofs len store with
    | (false, s2) => (.wait, s2)
    | (true, s2) =>
      if store && e.tiered && s2.storesStopped then (.wait, s2)
      else match s2.resident? e ofs len store with
        | none => (.failed stUncorr, s2)
        | some s3 =>
          match wr with
          | some d =>
            match s3.writePlot h e ofs d false with
            | (0, s4) => (.stored, s4)
            | (st, s4) => (.failed st, s4)
          | none =>
            match s3.readPlot h e ofs len false with
            | (.ok d, s4) => (.data d, s4)
            | (.error st, s4) => (.failed st, s4)

/-- How an access ends on PCIe; a failing status is recorded (Table 18-3). -/
def State.bar4End (s : State) (r : Bar4Res) (off : BitVec 36) (len : Nat) (wr : Option Bytes) : State :=
  match r with
  | .data d => s.emit (.answer (some d))
  | .stored => s
  | .failed st =>
    (s.logErr pgMBX 0x06 (BitVec.ofNat 32 (st + 2 ^ 16 * s.fld pgMBX 0x060 0 16))).emit (.answer none)
  | .wait => { s with bar4Q := s.bar4Q ++ [(off, len, wr)] }

/-- An access to the window; the accesses before it that wait are first. In PS2 the stacks are gated: reads return zero and
writes are dropped, as for a gated block (Table 17-4). -/
def State.bar4 (s : State) (off : BitVec 36) (len : Nat) (wr : Option Bytes) : State :=
  if s.phase != .running then s.emit (.answer none)
  else if s.dormant then (if wr.isSome then s else s.emit (.answer (some (List.replicate len 0))))
  else if !s.bar4Q.isEmpty then { s with bar4Q := s.bar4Q ++ [(off, len, wr)] }
  else
    let (r, s1) := s.bar4Do off len wr
    s1.bar4End r off len wr

/-- Accesses that waited go on, in order. -/
def State.bar4Resume (s : State) : State :=
  (s.bar4Q).foldl (fun s x =>
    if !s.bar4Q.isEmpty then { s with bar4Q := s.bar4Q ++ [x] }
    else
      let (r, s1) := s.bar4Do x.1 x.2.1 x.2.2
      s1.bar4End r x.1 x.2.1 x.2.2) { s with bar4Q := [] }

end Sys2Proof.Machine
end

