-- ==== Sys2Proof/Machine/JournalRows.lean ====
section
/-! DEFINITION. Meanings of the commands of 15_replay_journal.md. -/

namespace Sys2Proof.Machine

/-- JNL_OPEN (R388). -/
def execJnlOpen (p : Path) (rsv : BitVec 28) (s : State) : Host.Outcome State Fault Refusal :=
  .next (s.command p pgJNL (fun s => s.jnlOpen rsv.toNat))

/-- JNL_CLOSE (R379). -/
def execJnlClose (p : Path) (rsv : BitVec 28) (s : State) : Host.Outcome State Fault Refusal :=
  .next (s.command p pgJNL (fun s => s.jnlClose rsv.toNat))

/-- JNL_QUERY (R394). -/
def execJnlQuery (p : Path) (rsv : BitVec 28) (s : State) : Host.Outcome State Fault Refusal :=
  .next (s.command p pgJNL (fun s => s.jnlQuery rsv.toNat))

/-- RECORD_STAGE (R385). -/
def execRecordStage (id : Nat) (s : State) : Host.Outcome State Fault Refusal := .next (s.recordStage id)

/-- RECORD_COMMIT: the drives have acknowledged the first record staged of a tenant, or its write has failed (R380, R391). -/
def execRecordCommit (t : BitVec 12) (ok : Bool) (s : State) : Host.Outcome State Fault Refusal :=
  .next (s.recordCommit t.toNat ok)

/-- CHECKPOINT_TIMER (R387). -/
def execCheckpointTimer (t : BitVec 12) (s : State) : Host.Outcome State Fault Refusal := .next (s.checkpointTimer t.toNat)

/-- JOURNAL_SIGN_NOW (R387). -/
def execJournalSignNow (s : State) : Host.Outcome State Fault Refusal :=
  .next (s.horore 0x0A (fun _ => true) (fun s m => s.signNow m))

/-- JOURNAL_EXPORT (R389). -/
def execJournalExport (s : State) : Host.Outcome State Fault Refusal :=
  .next (s.horore 0x0B (fun _ => true) (fun s m => s.exportJournal m))

/-- STAGING_TIMEOUT: a command has waited 1 ms for staging space (R391). -/
def execStagingTimeout (id : Nat) (s : State) : Host.Outcome State Fault Refusal :=
  match s.cmd? id with
  | some c => .next (if c.phase == .staging then s.finish id cstJournal [] 0 else s)
  | none => .next s

end Sys2Proof.Machine
end

