-- ==== Sys2Proof/Machine/PlotRows.lean ====
section
/-! DEFINITION. Meanings of the commands of 02_plots.md: the PLM commands, the points and completions of revoking commands and of
PUBLISH, and the clearing of granules. -/

namespace Sys2Proof.Machine

/-- CREATE (R471). -/
def execCreate (p : Path) (auto : Bool) (rsv : BitVec 11) (h : BitVec 16) (s : State) : Host.Outcome State Fault Refusal :=
  .next (s.plmCmd p 0x1 auto rsv h)

/-- GRANT (R37). -/
def execGrant (p : Path) (auto : Bool) (rsv : BitVec 11) (h : BitVec 16) (s : State) : Host.Outcome State Fault Refusal :=
  .next (s.plmCmd p 0x2 auto rsv h)

/-- UNGRANT (R37). -/
def execUngrant (p : Path) (auto : Bool) (rsv : BitVec 11) (h : BitVec 16) (s : State) : Host.Outcome State Fault Refusal :=
  .next (s.plmCmd p 0x3 auto rsv h)

/-- RESIZE (R48). -/
def execResize (p : Path) (auto : Bool) (rsv : BitVec 11) (h : BitVec 16) (s : State) : Host.Outcome State Fault Refusal :=
  .next (s.plmCmd p 0x4 auto rsv h)

/-- RELEASE (R54). -/
def execRelease (p : Path) (auto : Bool) (rsv : BitVec 11) (h : BitVec 16) (s : State) : Host.Outcome State Fault Refusal :=
  .next (s.plmCmd p 0x5 auto rsv h)

/-- SEAL (R40). -/
def execSeal (p : Path) (auto : Bool) (rsv : BitVec 11) (h : BitVec 16) (s : State) : Host.Outcome State Fault Refusal :=
  .next (s.plmCmd p 0x6 auto rsv h)

/-- QUERY (Table 02-6). -/
def execQuery (p : Path) (auto : Bool) (rsv : BitVec 11) (h : BitVec 16) (s : State) : Host.Outcome State Fault Refusal :=
  .next (s.plmCmd p 0x7 auto rsv h)

/-- MAP_WINDOW (R44). -/
def execMapWindow (p : Path) (auto : Bool) (rsv : BitVec 11) (h : BitVec 16) (s : State) : Host.Outcome State Fault Refusal :=
  .next (s.plmCmd p 0x8 auto rsv h)

/-- RESTORE (R40). -/
def execRestore (p : Path) (auto : Bool) (rsv : BitVec 11) (h : BitVec 16) (s : State) : Host.Outcome State Fault Refusal :=
  .next (s.plmCmd p 0x9 auto rsv h)

/-- REVOKE_ALL (Table 02-6). -/
def execRevokeAll (p : Path) (auto : Bool) (rsv : BitVec 11) (h : BitVec 16) (s : State) : Host.Outcome State Fault Refusal :=
  .next (s.plmCmd p 0xA auto rsv h)

/-- REVOCATION_POINT: a hub's plot check applies the new entry (R53). -/
def execRevocationPoint (hub : Hub) (h : BitVec 16) (s : State) : Host.Outcome State Fault Refusal :=
  .next (s.revokePoint hub h)

/-- REVOKING_COMMAND_COMPLETE (R54): given before steps 4 to 6 of Table 02-8 are done, it finds the drain unfinished. -/
def execRevokingCommandComplete (h : BitVec 16) (s : State) : Host.Outcome State Fault Refusal :=
  .next (s.revokeComplete h)

/-- GRANULE_CLEARED (R55). -/
def execGranuleCleared (g : BitVec 13) (s : State) : Host.Outcome State Fault Refusal :=
  .next (s.granuleDone g.toNat)

/-- PUBLISH (R50). -/
def execPublish (id : Nat) (s : State) : Host.Outcome State Fault Refusal :=
  .next (s.publish id)

/-- PUBLISH_POINT (R51). -/
def execPublishPoint (h : BitVec 16) (s : State) : Host.Outcome State Fault Refusal :=
  .next (s.publishPoint h)

/-- PUBLISH_COMPLETE (R52). -/
def execPublishComplete (h : BitVec 16) (s : State) : Host.Outcome State Fault Refusal :=
  .next (s.publishComplete h)

end Sys2Proof.Machine
end

