-- ==== Sys2Proof/Machine/PowerRows.lean ====
section
/-! DEFINITION. Meanings of the commands of 17_clocks_power_reset.md, of the power-fail rows of 09_dense_tier.md and of the
training of the stacks (08_memory_stacks.md). -/

namespace Sys2Proof.Machine

/-! ### Resets -/

/-- PLATFORM_RESET: a source of Table 17-9. -/
def execPlatformReset (cause : BitVec 8) (detail : BitVec 16) (s : State) : Host.Outcome State Fault Refusal :=
  .next (if 1 ≤ cause.toNat && cause.toNat ≤ 0x0B then s.platformReset cause.toNat detail.toNat else s)

/-- INTERNAL_RESET_RELEASE (R433). -/
def execInternalResetRelease (bootSrc : BitVec 2) (clkMode : BitVec 2) (dlySel : BitVec 3) (s : State) :
    Host.Outcome State Fault Refusal :=
  .next (s.releaseReset bootSrc clkMode dlySel)

/-- PLAT_RST_IN_N (R433, R438): an assertion during a reset restarts the stretch. -/
def execPlatRstInN (ev : PinEvent) (s : State) : Host.Outcome State Fault Refusal :=
  match ev with
  | .short => .next s.filtered
  | .asserted =>
    let s1 : State := { s with pins := { s.pins with platRstInN := false } }
    .next (if s.phase == .inReset then s1 else s1.platformReset 0x02 0)
  | .released => .next { s with pins := { s.pins with platRstInN := true } }

/-- PERST# (R433). -/
def execPerst (asserted : Bool) (s : State) : Host.Outcome State Fault Refusal :=
  let s1 : State := { s with pins := { s.pins with perstN := !asserted } }
  .next (if asserted && s.phase != .inReset then s1.platformReset 0x03 0 else s1)

/-- The latch of RSTC.PLAT_RST and its twin (R444, R450). -/
def State.platRstLatch (s : State) (p : Path) (v : W32) : State :=
  s.writeAt p pgRSTC 0x040 (fun s => s.setLatch pgRSTC 0x040 v)

def State.platRstTwin (s : State) (p : Path) (v : W32) : State :=
  s.writeAt p pgRSTC 0x840 (fun s =>
    match s.latched pgRSTC 0x040 with
    | some x => if v == ~~~x && x == 1 then s.platformReset 0x09 0 else s.rejectCrit pgRSTC 0x040
    | none => s.rejectCrit pgRSTC 0x040)

/-- PLAT_RST: 0x0000_0001 written to RSTC.PLAT_RST, then a write of its twin (R444). -/
def execPlatRst (p : Path) (twin : BitVec 32) (s : State) : Host.Outcome State Fault Refusal :=
  .next ((s.platRstLatch p 1).platRstTwin p twin)

/-- BED_LINK_LOST (R231). -/
def execBedLinkLost (bed : BitVec 5) (s : State) : Host.Outcome State Fault Refusal :=
  .next (if bed.toNat < 24 && s.phase == .running then s.platformReset 0x07 bed.toNat else s)

/-- CLOCK_LOST: in native and external modes (R423). -/
def execClockLost (s : State) : Host.Outcome State Fault Refusal :=
  .next (if s.phase == .running && s.clkMode != 1 then s.platformReset 0x0B 0 else s)

/-- STK_PG_FALL (R462). -/
def execStkPgFall (s : State) : Host.Outcome State Fault Refusal :=
  let s1 : State := { s with pins := { s.pins with stkPg := false } }
  .next (if s.phase != .inReset && s.phase != .ps3 && s.pins.stkPg then s1.platformReset 0x01 7 else s1)

/-- STK_PG_RISE: stack training can begin; `late` says that it has not risen 50 ms after STK_PWR_EN (R462). -/
def execStkPgRise (late : Bool) (s : State) : Host.Outcome State Fault Refusal :=
  if !s.pins.stkPwrEn || s.pins.stkPg then .next s
  else if late then .next (s.bootStop 0x22 0xFFFF)
  else .next { s with pins := { s.pins with stkPg := true } }

/-- STACK_TRAINING (R223). -/
def execStackTraining (res : List StackTrainResult) (s : State) : Host.Outcome State Fault Refusal := .next (s.trainStacks res)

/-- VBAT_LOW (R444). -/
def execVbatLow (s : State) : Host.Outcome State Fault Refusal :=
  .next ({ s with backup := { s.backup with vbatLow := true } }.raise pgRSTC 0)

/-! ### Clocks -/

/-- XTAL_CHECK_WINDOW (R422). -/
def execXtalCheckWindow (count : BitVec 24) (s : State) : Host.Outcome State Fault Refusal := .next (s.xtalWindow count.toNat)

/-- XTAL_FAIL: not stable within 1 s; the stop is logged and the check goes on (R422). -/
def execXtalFail (s : State) : Host.Outcome State Fault Refusal :=
  .next (if s.phase == .sourceCheck && s.clkMode != 1 && s.bootStopCause == 0 then s.bootStop 0x20 0 else s)

/-- FORERUNNER_DELAY_EXPIRY (R423). -/
def execForerunnerDelayExpiry (s : State) : Host.Outcome State Fault Refusal :=
  .next (if s.phase == .sourceCheck && s.clkMode == 1 && !s.bootHeld then s.sourceStable else s)

/-- ROOT_PLL_LOCK (R423). -/
def execRootPllLock (s : State) : Host.Outcome State Fault Refusal := .next s.rootLocked

/-- RAMP_STEP (R424). -/
def execRampStep (k : ClkDomain) (s : State) : Host.Outcome State Fault Refusal :=
  let r := match k with
    | .aclk => s.aclk.step
    | .fclk => s.fclk.step
  let s1 : State := match k with
    | .aclk => { s with aclk := r.1 }
    | .fclk => { s with fclk := r.1 }
  .next (if r.2 then (s1.inc pgCLK 0x05C).raise pgCLK 0 else s1)

/-- A write of PWR.DVFS: points that Table 17-3 does not list are ignored (R425, R443). -/
def State.setDvfs (s : State) (v : W32) : State :=
  let a := fieldOf v.toNat 0 4
  let f := fieldOf v.toNat 8 4
  if !aclkPoints.contains a || !fclkPoints.contains f then s
  else
    let hold := s.throttled
    let now := s.aclk.goal
    let s1 := s.wr pgPWR 0x050 (v &&& 0xF0F)
    if s.phase != .running then s1 else (s1.aimAclk (if hold then now else a)).aimFclk

/-- DVFS. -/
def execDvfs (p : Path) (v : BitVec 32) (s : State) : Host.Outcome State Fault Refusal :=
  .next (s.writeAt p pgPWR 0x050 (fun s => s.setDvfs v))

/-! ### Power states -/

/-- ENTER_PS1 (R427). -/
def execEnterPs1 (p : Path) (s : State) : Host.Outcome State Fault Refusal := .next (s.powerCmd p 1)

/-- ENTER_PS2 (R428). -/
def execEnterPs2 (p : Path) (s : State) : Host.Outcome State Fault Refusal := .next (s.powerCmd p 2)

/-- ENTER_PS3 (R430). -/
def execEnterPs3 (p : Path) (s : State) : Host.Outcome State Fault Refusal := .next (s.powerCmd p 3)

/-- RETURN_PS0 (R427). -/
def execReturnPs0 (p : Path) (s : State) : Host.Outcome State Fault Refusal := .next (s.powerCmd p 0)

/-- PS2_ENTRY_COMPLETE (R428): `dur` in units of 10 µs. -/
def execPs2EntryComplete (dur : BitVec 16) (s : State) : Host.Outcome State Fault Refusal :=
  .next (if pwrStep s == 5 && !pwrExiting s then s.ps2Entered dur else s)

/-- PS2_EXIT_COMPLETE (R429); a power failure stops the exit after its step 2. -/
def execPs2ExitComplete (dur : BitVec 16) (s : State) : Host.Outcome State Fault Refusal :=
  .next (if pwrExiting s && !s.pwrFailed then s.ps2Left dur else s)

/-- PS3_ENTRY_COMPLETE (R430). -/
def execPs3EntryComplete (s : State) : Host.Outcome State Fault Refusal :=
  .next (if pwrStep s == 3 && !pwrExiting s then s.ps3Entered else s)

/-! ### Inputs -/

/-- PWR_FAIL_N (R251, R438). -/
def execPwrFailN (ev : PinEvent) (s : State) : Host.Outcome State Fault Refusal :=
  match ev with
  | .short => .next s.filtered
  | .asserted => .next s.powerFails
  | .released => .next { s with pins := { s.pins with pwrFailN := true } }

/-- FLUSH_DEADLINE (R251, R252). -/
def execFlushDeadline (s : State) : Host.Outcome State Fault Refusal := .next s.flushDeadline

/-- PWR_FAIL_N_RELEASE: boot goes on after the stop PWR_FAIL_AT_BOOT (R437). -/
def execPwrFailNRelease (s : State) : Host.Outcome State Fault Refusal :=
  let s1 : State := { s with pins := { s.pins with pwrFailN := true } }
  .next (if s.bootStopCause == 0x24 then s1.bootGoesOn else s1)

/-- WAKE_N: a qualified assertion that is not masked wakes once and is then masked (R438); in PS3 it resets the platform (R430). -/
def execWakeN (ev : PinEvent) (s : State) : Host.Outcome State Fault Refusal :=
  match ev with
  | .short => .next s.filtered
  | .released => .next { s with pins := { s.pins with wakeN := true } }
  | .asserted =>
    let s1 : State := { s with pins := { s.pins with wakeN := false } }
    if s.bit pgRSTC 0x060 2 then .next s1
    else
      let s2 := s1.setFld pgRSTC 0x060 2 1 1
      .next (if s.phase == .ps3 then s2.platformReset 0x0A 0 else s2.wakeEvent 3)

/-- WAKE_MASK_RELEASE: WAKE_N has been high for 1 ms (R438). -/
def execWakeMaskRelease (s : State) : Host.Outcome State Fault Refusal :=
  .next (if s.pins.wakeN then s.setFld pgRSTC 0x060 2 1 0 else s)

/-- THERM_ALERT_N (R432): ACLK at /6 or slower and FCLK at /8 while it is asserted; its release is a wake event of PS2 (R429). -/
def execThermAlertN (ev : PinEvent) (s : State) : Host.Outcome State Fault Refusal :=
  match ev with
  | .short => .next s.filtered
  | .asserted =>
    let s1 := ({ s with pins := { s.pins with thermAlertN := false } }.setFld pgCLK 0x04C 17 1 1).setFld pgCLK 0x050 17 1 1
    .next (if s.phase == .running then (s1.aimAclk s1.aclk.goal).aimFclk else s1)
  | .released =>
    let s1 : State := { s with pins := { s.pins with thermAlertN := true } }
    .next (if s.thermHeld then s1.wakeEvent 5 else s1)

/-- THERM_HOLD_END: 10 ms after the last release (R432). -/
def execThermHoldEnd (s : State) : Host.Outcome State Fault Refusal :=
  if s.thermHeld && s.pins.thermAlertN then
    let s1 := (s.setFld pgCLK 0x04C 17 1 0).setFld pgCLK 0x050 17 1 0
    .next (if s.phase == .running then (s1.aimAclk s1.wantAclk).aimFclk else s1)
  else .next s

/-- THROTTLE_STEP: the power manager judges the hottest sensors (R432). -/
def execThrottleStep (logic : BitVec 8) (stack : BitVec 8) (s : State) : Host.Outcome State Fault Refusal :=
  if s.phase != .running || s.activeCc.isNone then .next s
  else
    let s1 := (s.setFld pgPWR 0x058 0 8 logic.toNat).setFld pgPWR 0x058 8 8 stack.toNat
    let lt := s.fld pgPWR 0x054 0 8
    let st := s.fld pgPWR 0x054 8 8
    let now := s.aclk.goal
    if lt ≤ logic.toNat || st ≤ stack.toNat then .next ((s1.aimAclk (pointDown now)).raise pgPWR 1)
    else if logic.toNat + 5 ≤ lt && stack.toNat + 5 ≤ st && s.throttled then .next (s1.aimAclk (pointUp now))
    else .next s1

/-- THERMAL_TRIP: sensors 0 to 19 of the dies, 32 to 55 of the stacks (R432). -/
def execThermalTrip (sensor : BitVec 6) (s : State) : Host.Outcome State Fault Refusal :=
  let n := sensor.toNat
  .next (if s.phase != .inReset && s.phase != .ps3 && (n ≤ 19 || (32 ≤ n && n ≤ 55)) then s.platformReset 0x08 n else s)

/-- PMBUS_POLL: voltage and current of rails 0 and 1, package power and status (R464, Table 17-16). A poll covers 1 ms, so its
watts are the millijoules that TEL.ENERGY gains. -/
def execPmbusPoll (hub : BitVec 32) (bed : BitVec 32) (watts : BitVec 16) (fault : Bool) (s : State) :
    Host.Outcome State Fault Refusal :=
  if s.phase != .running then .next s
  else
    let e := (s.rd pgTEL 0x048).toNat + 2 ^ 32 * (s.rd pgTEL 0x04C).toNat + watts.toNat
    let s1 := ((s.wr pgPWR 0x064 hub).wr pgPWR 0x060 bed).setFld pgPWR 0x068 0 16 watts.toNat
    let s2 := (s1.wr pgTEL 0x048 (BitVec.ofNat 32 e)).wr pgTEL 0x04C (BitVec.ofNat 32 (e / 2 ^ 32))
    .next (if fault then s2.raise pgPWR 4 else s2)

end Sys2Proof.Machine
end

