-- ==== Sys2Proof/Machine/SecRows.lean ====
section
/-! DEFINITION. Meanings of the commands of 14_tenants_keys_attestation.md: the security commands of Horore and of the SEC page, the
events that end keys, the protection lock and the SPDM requests. -/

namespace Sys2Proof.Machine

/-! ### Horore commands (Table 14-3) -/

/-- TENANT_CREATE (R351). -/
def execTenantCreate (s : State) : Host.Outcome State Fault Refusal :=
  .next (s.horore 0x05 (fun _ => true) (fun s m => s.tenantCreate m))

/-- TENANT_REMOVE (R375). -/
def execTenantRemove (s : State) : Host.Outcome State Fault Refusal :=
  .next (s.horore 0x06 (fun _ => true) (fun s m => s.tenantRemove m))

/-- TENANT_REMOVE_DRAINED (R375): given before the drain of step 2 is done, it finds it unfinished. -/
def execTenantRemoveDrained (t : BitVec 12) (s : State) : Host.Outcome State Fault Refusal :=
  .next (s.tenantDrained t)

/-- KEY_INSTALL (R365). -/
def execKeyInstall (s : State) : Host.Outcome State Fault Refusal :=
  .next (s.horore 0x02 (fun _ => true) (fun s m => s.keyInstall m))

/-- KEY_WRAP_RELEASE (R369). -/
def execKeyWrapRelease (s : State) : Host.Outcome State Fault Refusal :=
  .next (s.horore 0x03 (fun _ => true) (fun s m => s.keyWrapRelease m))

/-- KEY_ROTATE of a job (R357). -/
def execKeyRotateJob (s : State) : Host.Outcome State Fault Refusal :=
  .next (s.horore 0x04 (fun m => !(hoWord m 1).testBit 63) (fun s m => s.keyRotateJob m))

/-- KEY_ROTATE of a plot (R363). -/
def execKeyRotatePlot (s : State) : Host.Outcome State Fault Refusal :=
  .next (s.horore 0x04 (fun m => (hoWord m 1).testBit 63) (fun s m => s.keyRotatePlot m))

/-- REKEY_DONE (R363): given while words are left to re-key, it finds the sweep unfinished. -/
def execRekeyDone (h : BitVec 16) (s : State) : Host.Outcome State Fault Refusal := .next (s.rekeyDone h)

/-- ROT_GRACE_EXPIRY: the previous job key is zeroised (R357). -/
def execRotGraceExpiry (job : BitVec 20) (s : State) : Host.Outcome State Fault Refusal :=
  match s.slotOf job with
  | some (n, k) => .next { s with slots := Tab.put s.slots n { k with prev := none } }
  | none => .next s

/-- KEY_LIFETIME_EXPIRY: an ATTESTED slot is zeroised (R369). -/
def execKeyLifetimeExpiry (job : BitVec 20) (s : State) : Host.Outcome State Fault Refusal :=
  match s.slotOf job with
  | some (n, k) => .next (if k.attested then s.endSlot n job else s)
  | none => .next s

/-- TRANSPORT_KEY_EXPIRY (R372). -/
def execTransportKeyExpiry (kid : BitVec 16) (s : State) : Host.Outcome State Fault Refusal := .next (s.dropTransport kid)

/-- ATTEST_REPORT (R372): every block, signed over its nonce, into PBUF. A report that would run past the end of PBUF completes
INVALID_FIELD and leaves nothing (R413). -/
def execAttestReport (s : State) : Host.Outcome State Fault Refusal :=
  .next (s.horore 0x01 (fun _ => true) (fun s m =>
    let h := hoHdr m
    let w := hoWord m 1
    let hd := if w.testBit 16 then some (BitVec.ofNat 16 (fieldOf w 0 16)) else none
    let nonce := s.pbufRead (hoIn h) 32
    let (d, s1) := s.report hd nonce measIndices.length measIndices
    let (sig, s2) := s1.sign (aliasOf s.fwDigest) (spdmSigned measContext d)
    let out := d ++ sig
    if pbufSize < hoOut h + out.length then s.hoEnd h hoInvalid []
    else (s2.pbufWrite (hoOut h) out).hoEnd h hoOK [BitVec.ofNat 64 out.length]))

/-! ### SEC commands (Table 14-10) -/

/-- ALLOW_NEW (R366). -/
def execAllowNew (p : Path) (rsv : BitVec 28) (s : State) : Host.Outcome State Fault Refusal :=
  .next (s.command p pgSEC (fun s => s.allowNew rsv.toNat))

/-- ALLOW_ADD (R366). -/
def execAllowAdd (p : Path) (rsv : BitVec 28) (s : State) : Host.Outcome State Fault Refusal :=
  .next (s.command p pgSEC (fun s => s.allowAdd rsv.toNat))

/-- ALLOW_FREEZE (R366). -/
def execAllowFreeze (p : Path) (rsv : BitVec 28) (s : State) : Host.Outcome State Fault Refusal :=
  .next (s.command p pgSEC (fun s => s.allowFreeze rsv.toNat))

/-- ALLOW_FREE (R366). -/
def execAllowFree (p : Path) (rsv : BitVec 28) (s : State) : Host.Outcome State Fault Refusal :=
  .next (s.command p pgSEC (fun s => s.allowFree rsv.toNat))

/-- ALLOW_QUERY (R366). -/
def execAllowQuery (p : Path) (rsv : BitVec 28) (s : State) : Host.Outcome State Fault Refusal :=
  .next (s.command p pgSEC (fun s => s.allowQuery rsv.toNat))

/-- KEY_QUERY (R377). -/
def execKeyQuery (p : Path) (rsv : BitVec 28) (s : State) : Host.Outcome State Fault Refusal :=
  .next (s.command p pgSEC (fun s => s.keyQuery rsv.toNat))

/-- SLOT_QUERY (R377). -/
def execSlotQuery (p : Path) (rsv : BitVec 28) (s : State) : Host.Outcome State Fault Refusal :=
  .next (s.command p pgSEC (fun s => s.slotQuery rsv.toNat))

/-- LOCK: a write of 1 to SEC.LOCK followed by a write of its twin (R373, R450). -/
def execLock (p : Path) (twin : BitVec 32) (s : State) : Host.Outcome State Fault Refusal :=
  .next ((s.critWrite p pgSEC 0x040 1).twinWrite p pgSEC 0x040 twin)

/-! ### SPDM (R371) -/

/-- GET_VERSION. -/
def execGetVersion (conn : Option (BitVec 13)) (rq : SpdmRequest) (s : State) : Host.Outcome State Fault Refusal :=
  .next (s.spdmVersion conn rq)

/-- GET_CAPABILITIES. -/
def execGetCapabilities (conn : Option (BitVec 13)) (rq : SpdmRequest) (s : State) : Host.Outcome State Fault Refusal :=
  .next (s.spdmCapabilities conn rq)

/-- NEGOTIATE_ALGORITHMS. -/
def execNegotiateAlgorithms (conn : Option (BitVec 13)) (rq : SpdmRequest) (s : State) : Host.Outcome State Fault Refusal :=
  .next (s.spdmAlgorithms conn rq)

/-- GET_DIGESTS. -/
def execGetDigests (conn : Option (BitVec 13)) (rq : SpdmRequest) (s : State) : Host.Outcome State Fault Refusal :=
  .next (s.spdmDigests conn rq)

/-- GET_CERTIFICATE. -/
def execGetCertificate (conn : Option (BitVec 13)) (rq : SpdmRequest) (s : State) : Host.Outcome State Fault Refusal :=
  .next (s.spdmCertificate conn rq)

/-- CHALLENGE. -/
def execChallenge (conn : Option (BitVec 13)) (rq : SpdmRequest) (s : State) : Host.Outcome State Fault Refusal :=
  .next (s.spdmChallenge conn rq)

/-- GET_MEASUREMENTS (R372). -/
def execGetMeasurements (conn : Option (BitVec 13)) (rq : SpdmRequest) (s : State) : Host.Outcome State Fault Refusal :=
  .next (s.spdmMeasurements conn rq)

end Sys2Proof.Machine
end

