-- ==== Sys2Proof/Machine/RegIo.lean ====
section
/-! DEFINITION. Reads and writes of registers by their offset (18_register_pages.md): the common header, what each register
shows, the bits each access code lets a write change, ranges, pairs, commands, block reset, the MSI-X table, and BAR2. -/

namespace Sys2Proof.Machine

/-! ### Reads -/

/-- The pages that hold RWL fields (Table 18-2 LOCKED). -/
def holdsRwl (ty : Nat) : Bool := ty == 0x07 || ty == 0x0B

/-- A word of the common header (Table 18-2), and what is read where no table names an offset. -/
def State.hdrValue (s : State) (pg o : Nat) : Nat :=
  let ty := pageType pg
  match o with
  | 0x000 => 2 ^ 16 * ty + 16 * pageInst pg + 8
  | 0x004 => if pg == pgPLM then 0x00402000 else 0
  | 0x008 => 2
  | 0x00C => 1 + 8 * ofBool (holdsRwl ty && s.locked)
  | 0x010 => (s.rd pg o).toNat
  | 0x014 => (s.rd pg o).toNat
  | 0x01C => (s.rd pg o).toNat
  | 0x020 => (s.rd pg o).toNat
  | 0x024 => (s.rd pg o).toNat
  | _ => 0

/-- CELL.STATE of Table 03-3. -/
def cellStateCode : CellState → Nat
  | .selftest => 0
  | .spare => 1
  | .free => 2
  | .bound => 3
  | .lent => 4
  | .purging => 5
  | .failed => 6

/-- CELL.DEBUG reads zero and ignores writes (R89, R352). -/
def State.debugDenied (s : State) (c : Nat) : Bool :=
  let x := s.cell c
  bwValid x.bind && (bwConf x.bind || s.bit pgSEC 0x044 14)

/-- A clock as CLK shows it: divider, target, ramp in progress, hold of R432. -/
def State.clkValue (s : State) (o : Nat) (r : Ramp) : Nat :=
  r.div + 2 ^ 8 * r.target + 2 ^ 16 * ofBool r.ramping + 2 ^ 17 * ofBool (s.bit pgCLK o 17)

/-- The conditions of 32 vectors from `v` on, of the 68 there are (R454). -/
def State.vecBits (s : State) (v : Nat) : Nat :=
  (List.range 32).foldl (fun n i => if v + i < 68 && s.vecCond (v + i) then n + 2 ^ i else n) 0

/-- The reset-log entry that LOG_INDEX names. -/
def State.logShown (s : State) : LogEntry := Tab.get {} s.backup.log (s.fld pgRSTC 0x04C 0 4)

/-- The source path table entry that SPT_INDEX names. -/
def State.sptKey (s : State) : Nat := 2 * s.fld pgHOME 0x04C 0 13 + s.fld pgHOME 0x04C 16 1
def State.sptEntry (s : State) : Nat := (Tab.get (0 : BitVec 49) s.spt s.sptKey).toNat

/-- Regions of a bed's own stack whose bits are set (BED.FILTER). -/
def State.filterCount (s : State) (b : Nat) : Nat :=
  (s.regionBits.filter (fun kv => decide (kv.1 < 2 ^ 40) && wordStack (kv.1 * 1024) == b)).length

/-- Minutes to the next scheduled swap (CC.SWAP_NEXT), saturating. -/
def State.swapMinutes (s : State) : Nat :=
  let m := (s.swapDue - s.time + minuteNs - 1) / minuteNs
  if m > 0xFFFF then 0xFFFF else m

/-- CH_CFG of the channel that CH_INDEX names. -/
def State.chCfgValue (s : State) : Nat :=
  let c := s.chan (s.fld pgMBX 0x040 0 12)
  c.tenant.toNat + 2 ^ 12 * ofBool c.granted + 2 ^ 13 * c.recv.toNat + 2 ^ 16 * c.ep.toNat + 2 ^ 29 * ofBool c.word.isSome

/-- The temperature that TEL.SENSOR shows, with VALID (Table 18-5). -/
def State.sensorValue (s : State) : Nat :=
  let n := s.fld pgTEL 0x040 0 6
  if n < 20 then Config.sensor n s.time % 256 + 256
  else if 32 ≤ n && n ≤ 55 then s.fld (pgSTK (n - 32)) 0x04C 16 8 + 256
  else 0

/-- A capped count. -/
def upTo (m n : Nat) : Nat := if n > m then m else n

/-- Registers that show the state of their block and hold nothing of their own; none for the others. -/
def State.shown (s : State) (pg o : Nat) : Option Nat :=
  let i := pageInst pg
  match pageType pg, o with
  -- HUB
  | 0x01, 0x048 => some (if i == 0 then s.vecBits 0 else 0)
  | 0x01, 0x04C => some (if i == 0 then s.vecBits 32 else 0)
  | 0x01, 0x050 => some (if i == 0 then s.vecBits 64 else 0)
  -- PORT
  | 0x02, 0x058 => some (s.portState (BitVec.ofNat 6 i))
  | 0x02, 0x05C => some (s.lnk (BitVec.ofNat 6 i)).rtt.toNat
  | 0x02, 0x060 => some (s.portPartner (BitVec.ofNat 6 i))
  | 0x02, 0x458 => some (s.portState (BitVec.ofNat 6 (i + 24)))
  | 0x02, 0x45C => some (s.lnk (BitVec.ofNat 6 (i + 24))).rtt.toNat
  | 0x02, 0x460 => some (s.portPartner (BitVec.ofNat 6 (i + 24)))
  -- LANE
  | 0x03, o =>
    if 0x104 ≤ o && o ≤ 0x334 && o % 16 == 4 then
      let n := (o - 0x104) / 16
      some (s.laneStatus (4 * i + n / 9) (n % 9))
    else none
  -- XBAR, HOME, XLT
  | 0x04, 0x070 => some s.park.length
  | 0x05, 0x050 => some (s.sptEntry % 2 ^ 32)
  | 0x05, 0x054 => some (s.sptEntry / 2 ^ 32)
  | 0x05, 0x058 => some s.recs.length
  | 0x05, 0x05C => some s.txns.length
  | 0x06, 0x06C => some s.tableFree
  | 0x06, 0x070 => some s.faults.length
  -- SEC
  | 0x07, 0x074 => some s.slots.length
  | 0x07, 0x078 => some s.sweeps.length
  | 0x07, 0x090 => some s.transport.length
  -- CQE
  | 0x08, 0x058 => some s.sqs.length
  | 0x08, 0x05C => some s.cqs.length
  | 0x08, 0x060 => some s.slotsHeld
  | 0x08, 0x080 => some (s.vt % 2 ^ 32)
  | 0x08, 0x084 => some (s.vt / 2 ^ 32)
  -- TIER
  | 0x09, 0x05C => some (s.fld pg 0x058 0 24 - (s.tags.filter (fun kv => kv.2.valid)).length)
  | 0x09, 0x060 => some s.dirtyBlocks
  | 0x09, 0x064 => some s.strandedBlocks
  | 0x09, 0x068 => some s.tokensUsed
  -- PCIE
  | 0x0A, 0x040 =>
    some (withField (s.rd pg 0x040) 9 1 (if i == 0 then ofBool (!s.pins.perstN) else 0)).toNat
  -- PLM
  | 0x0B, 0x068 => some s.freeGranules
  | 0x0B, 0x06C => some (s.plots.filter (fun kv => !freeState kv.2.cur)).length
  -- BED, STK
  | 0x0C, 0x06C => some (s.filterCount i)
  | 0x0D, 0x04C => some (withField (s.rd pg 0x04C) 8 2 (ofBool (s.spareFree i 0) + ofBool (s.spareFree i 1))).toNat
  -- CELL
  | 0x0E, 0x040 => some ((s.cell i).bind.toNat % 2 ^ 32)
  | 0x0E, 0x044 => some ((s.cell i).bind.toNat / 2 ^ 32)
  | 0x0E, 0x840 => some ((s.cell i).bindC.toNat % 2 ^ 32)
  | 0x0E, 0x844 => some ((s.cell i).bindC.toNat / 2 ^ 32)
  | 0x0E, 0x048 => some (cellStateCode (s.cell i).state + 2 ^ 8 * (s.cell i).cause.toNat)
  | 0x0E, 0x04C =>
    some ((s.cell i).liveCount + 2 ^ 16 * (s.cell i).residentCount + 2 ^ 24 * (s.cell i).accBank.length)
  | 0x0E, 0x05C => if s.debugDenied i then some 0 else none
  -- TRL
  | 0x0F, 0x058 => some ((s.cellsIn .free).length)
  | 0x0F, 0x05C => some ((s.cellsIn .bound).length + (s.cellsIn .lent).length)
  | 0x0F, 0x074 => some s.slotsUsed
  | 0x0F, 0x078 => some s.storeFree
  -- HOE
  | 0x10, 0x060 => some (((s.rekeyWords i).map (· / 1024)).eraseDups).length
  | 0x10, 0x064 => some (s.zeroRegions i).length
  -- CLK
  | 0x11, 0x048 => some Config.xtalPpm.toNat
  | 0x11, 0x04C => some (s.clkValue 0x04C s.aclk)
  | 0x11, 0x050 => some (s.clkValue 0x050 s.fclk)
  -- PWR
  | 0x12, 0x058 => some (withField (s.rd pg 0x058) 17 1 (ofBool (!s.pins.thermAlertN))).toNat
  -- RSTC
  | 0x13, 0x044 => some s.backup.resets.toNat
  | 0x13, 0x048 => some s.backup.head.toNat
  | 0x13, 0x050 =>
    some (s.logShown.cause.toNat + 2 ^ 8 * ofBool s.logShown.flushed + 2 ^ 9 * ofBool s.logShown.valid +
      2 ^ 16 * s.logShown.detail.toNat)
  | 0x13, 0x054 => some s.logShown.count.toNat
  | 0x13, 0x058 => some (ofBool s.backup.vbatLost + 2 * ofBool s.backup.vbatLow)
  | 0x13, 0x060 =>
    some (ofBool s.pins.platRstInN + 2 * ofBool s.pins.wakeN + 4 * s.fld pg 0x060 2 2 + 2 ^ 4 * ofBool s.pins.thermAlertN +
      2 ^ 5 * ofBool (!s.pins.perstN))
  | 0x13, 0x840 => some 0xFFFFFFFF
  -- MBX
  | 0x14, 0x044 => some s.chCfgValue
  | 0x14, 0x054 => some (16 - s.txq.length + 2 ^ 8 * upTo 16 s.rxq.length)
  -- JNL
  | 0x15, 0x058 => some s.journals.length
  | 0x15, 0x05C => some ((s.stagedBytes + 1023) / 1024)
  | 0x15, 0x06C => some (s.backup.counter.toNat % 2 ^ 32)
  | 0x15, 0x070 => some (s.backup.counter.toNat / 2 ^ 32)
  -- CC: one SWAP_CFG and one plan in both pages (R419)
  | 0x16, 0x044 => some (s.rd (pgCC 0) 0x044).toNat
  | 0x16, 0x048 => some s.swapMinutes
  -- TEL
  | 0x17, 0x044 => some s.sensorValue
  | _, _ => none

/-- The value of a register as it stands. -/
def State.regValue (s : State) (pg o : Nat) : W32 :=
  if o < 0x040 then BitVec.ofNat 32 (s.hdrValue pg o)
  else match s.shown pg o with
    | some v => BitVec.ofNat 32 v
    | none =>
      if (regRow? (pageType pg) o).isSome then s.rd pg o
      else if 0x800 ≤ o && (critMask pg (o - 0x800)).isSome then ~~~(s.rd pg (o - 0x800))
      else 0

/-- Read-only pairs that latch _HI when _LO is read (R452, Tables 07-2, 08-7, 15-6, 18-5): the offset of _LO. -/
def latchLo (ty : Nat) : Option Nat :=
  match ty with
  | 0x08 => some 0x080
  | 0x10 => some 0x044
  | 0x15 => some 0x06C
  | 0x17 => some 0x048
  | _ => none

/-- What a register keeps when it is read: the RC bits of its row go to zero; ERR_FIRST takes its INFO with it, UE_LOC its second
half (R5, R448, Table 08-5). -/
def State.clearOnRead (s : State) (pg o : Nat) : State :=
  let ty := pageType pg
  if o == oERRC then s.wr pg o 0
  else if o == oERRF then (s.wr pg o 0).wr pg oERRI 0
  else match regRow? ty o with
    | some r =>
      let s1 := if r.rc == 0 then s else s.wr pg o (s.rd pg o &&& ~~~(BitVec.ofNat 32 r.rc))
      if ty == 0x0D && o == 0x064 then s1.wr pg 0x068 0 else s1
    | none => s

/-- A 32-bit read of a page that serves it. -/
def State.readReg (s : State) (pg o : Nat) : W32 × State :=
  let v := s.regValue pg o
  match latchLo (pageType pg) with
  | some lo =>
    if o == lo then (v, s.setLatch pg (lo + 4) (s.regValue pg (lo + 4)))
    else if o == lo + 4 then ((s.latched pg o).getD v, s)
    else (v, s.clearOnRead pg o)
  | none => (v, s.clearOnRead pg o)

/-! ### The MSI-X table (R446, R453) -/

def pgMsixTab : Nat := 0x3FFE
def pgMsixPba : Nat := 0x3FFF

/-- Bytes of the table: 68 vectors of 16 bytes. -/
def msixBytes : Nat := 1088

/-- A word of the table at reset: vector control masks the vector (PRESUMED, log entry 20). -/
def msixReset (o : Nat) : W32 := if o % 16 == 12 then 1 else 0

def State.msixRead (s : State) (pg o : Nat) : W32 :=
  if pg == pgMsixTab then (if o < msixBytes then Tab.get (msixReset o) s.msixTab o else 0)
  else BitVec.ofNat 32 ((List.range 32).foldl (fun n i => if s.msix.pba.contains (8 * o + i) then n + 2 ^ i else n) 0)

/-- A write of the table; a vector unmasked with its pending bit set sends its message. -/
def State.msixWrite (s : State) (o : Nat) (v : W32) : State :=
  if o ≥ msixBytes then s
  else
    let w := if o % 16 == 0 then v &&& 0xFFFFFFFC else if o % 16 == 12 then v &&& 1 else v
    let s1 : State := { s with msixTab := Tab.set (msixReset o) s.msixTab o w }
    let n := o / 16
    if o % 16 == 12 && s1.msix.pba.contains n && !s1.vecMasked n then
      ({ s1 with msix := { s1.msix with pba := s1.msix.pba.erase n } }).sendMsix n
    else s1

/-! ### Interrupt registers -/

/-- The bits of IRQ_STATUS that the owning chapter defines. -/
def irqBits (ty : Nat) : Nat :=
  match ty with
  | 0x01 => 0x1
  | 0x02 => 0x3F3F
  | 0x03 => 0x7
  | 0x04 => 0xF
  | 0x05 => 0xF
  | 0x06 => 0x1F
  | 0x07 => 0x1F
  | 0x08 => 0xF
  | 0x09 => 0xF
  | 0x0A => 0x1
  | 0x0B => 0x7
  | 0x0C => 0x3
  | 0x0D => 0x3F
  | 0x0E => 0x7
  | 0x0F => 0xF
  | 0x10 => 0xF
  | 0x11 => 0x1
  | 0x12 => 0x1F
  | 0x13 => 0x1
  | 0x14 => 0xF
  | 0x15 => 0x1F
  | 0x16 => 0xF
  | 0x17 => 0x1
  | _ => 0

/-- STANDBY_LOST stays set while the other complex is FAILED (R399). -/
def State.keptIrq (s : State) (pg : Nat) : W32 :=
  if pageType pg == 0x16 && s.ccRole (1 - pageInst pg) == ccFailed && s.bit pg oIRQS 2 then 4 else 0

/-- A write of IRQ_STATUS. -/
def State.irqAck (s : State) (pg : Nat) (v : W32) : State :=
  irqSync s (s.wr pg oIRQS ((s.rd pg oIRQS &&& ~~~v) ||| s.keptIrq pg)) pg true

/-- A write of IRQ_ENABLE. -/
def State.irqSetEnable (s : State) (pg : Nat) (v : W32) : State := irqSync s (s.wr pg oIRQE v) pg true

/-- A write of IRQ_FORCE. -/
def State.irqForced (s : State) (pg : Nat) (v : W32) : State :=
  irqSync s (s.wr pg oIRQS (s.rd pg oIRQS ||| (v &&& BitVec.ofNat 32 (irqBits (pageType pg))))) pg false

/-! ### Block reset (R434) -/

/-- What the SRST of any page clears: the header's interrupt and error registers and every RC counter. -/
def State.clearStatus (s : State) (pg : Nat) : State :=
  let s1 := ((((s.wr pg oIRQS 0).wr pg oIRQE 0).wr pg oERRC 0).wr pg oERRF 0).wr pg oERRI 0
  let rows := regRowsOf (pageType pg)
  let offs := rows.flatMap (fun r => if r.rc == 0 then [] else (List.range r.cnt).map (fun i => r.off + i * r.stride))
  let s2 := offs.foldl (fun s o => s.clearOnRead pg o) s1
  if pageType pg == 0x02 then (offs.map (· + 0x400)).foldl (fun s o => s.clearOnRead pg o) s2 else s2

/-- Every register of a page at its reset value, its latches empty. -/
def State.resetRegs (s : State) (pg : Nat) : State :=
  { s with regs := s.regs.filter (fun kv => kv.1 / 4096 != pg), latch := s.latch.filter (fun kv => kv.1 / 4096 != pg) }

/-- The links of a port. -/
def linksOf (port : Nat) : List LinkNo := [BitVec.ofNat 6 port, BitVec.ofNat 6 (port + 24)]

/-- PORT: the link is lost with cause 0x5 and the port retrains. -/
def State.srstPort (s : State) (port : Nat) : State :=
  let was := s.isSplit port
  let s1 := ((linksOf port).foldl (fun s l => s.portRetrain l) s).resetRegs (pgPORT port)
  let s2 := if was then s1.splitChanged port false else s1
  s2.holdChanged (BitVec.ofNat 6 port)

/-- LANE: the registers are reset, and the lanes retrain with their ports. -/
def State.srstLane (s : State) (die : Nat) : State :=
  ((List.range 4).flatMap (fun k => linksOf (4 * die + k))).foldl (fun s l => s.portRetrain l) (s.resetRegs (pgLANE die))

/-- CQE: the words of the doorbell channels are discarded. The queues are kept, and so is a command that waits (Table 17-10). -/
def State.srstCqe (s : State) : State :=
  let busy := s.busy pgCQE
  let s1 := s.resetRegs pgCQE
  let s2 := if busy then s1.setFld pgCQE 0x054 0 1 1 else s1
  s2.channels.foldl (fun s kv => if kv.2.recv == 3 && kv.2.word.isSome then s.discardWord kv.1 else s) s2

/-- MBX: the words of every channel and of both host queue directions are discarded; the channels' configuration and the dynamic
address are kept. ABORTED is set at the end (R420). -/
def State.srstMbx (s : State) : State :=
  let dyn := s.dynAddr
  let s1 : State := { (s.resetRegs pgMBX).setFld pgMBX 0x058 0 7 dyn with txq := [], rxq := [], i3cUp := none }
  let s2 := s1.channels.foldl (fun s kv => if kv.2.word.isSome then s.discardWord kv.1 else s) s1
  s2.raise pgMBX 2

/-- The block reset of a page. -/
def State.srst (s : State) (pg : Nat) : State :=
  let s1 := s.clearStatus pg
  match pageType pg with
  | 0x02 => s1.srstPort (pageInst pg)
  | 0x03 => s1.srstLane (pageInst pg)
  | 0x08 => s1.srstCqe
  | 0x14 => s1.srstMbx
  | _ => s1

/-! ### Writes -/

/-- The ranges that the register tables give (a write outside is ignored, the register keeps its value). -/
def inRange (ty o v : Nat) : Bool :=
  let f (lo len a b : Nat) : Bool := decide (a ≤ fieldOf v lo len) && decide (fieldOf v lo len ≤ b)
  match ty, o with
  | 0x02, 0x048 => f 0 8 10 160 && f 8 6 1 32 && f 16 7 1 64
  | 0x02, 0x04C => f 0 16 1 65535
  | 0x03, o => if 0x400 ≤ o && o % 16 == 0 then f 0 2 0 2 else if 0x400 ≤ o && o % 16 == 4 then f 0 32 1 (2 ^ 32 - 1) else true
  | 0x04, 0x058 => f 0 6 10 40
  | 0x04, 0x05C => f 0 7 1 64
  | 0x04, 0x060 => f 0 12 16 2048
  | 0x04, 0x064 => f 0 10 1 1023 && f 16 4 1 15
  | 0x04, 0x068 => f 0 8 1 25
  | 0x05, 0x040 => f 0 8 20 200
  | 0x05, 0x044 => f 0 7 4 64
  | 0x06, 0x060 => f 0 8 5 200
  | 0x06, 0x064 => f 0 7 0 64
  | 0x06, 0x068 => f 0 16 1 65535
  | 0x07, 0x070 => f 0 14 2 10000
  | 0x09, 0x044 => f 0 11 1 1024
  | 0x09, 0x048 => f 0 16 1 65535
  | 0x09, 0x04C => f 0 16 1 1000
  | 0x0C, 0x04C => f 0 7 0 64
  | 0x0D, 0x044 => f 0 13 256 4096
  | 0x10, 0x040 => f 0 8 1 168 && f 8 8 1 32 && f 16 8 0 64
  | 0x12, 0x054 => f 0 8 70 103 && f 8 8 70 93
  | 0x16, 0x044 => f 0 8 1 168
  | _, _ => true

/-- A write by the access codes of the register's row: RW bits take the value, W1C bits that are written 1 fall, the others stay
(R5, R6). -/
def State.writeRow (s : State) (pg o : Nat) (v : W32) : State :=
  match regRow? (pageType pg) o with
  | none => s
  | some r =>
    let rw : W32 := BitVec.ofNat 32 r.rw
    let w1c : W32 := BitVec.ofNat 32 r.w1c
    s.wr pg o (((s.rd pg o &&& ~~~rw) ||| (v &&& rw)) &&& ~~~(v &&& w1c))

/-- Writable pairs that commit with _HI (R452): the offset of _HI. BAR4_BASE_HI commits the handle too (R405). -/
def pairHi (ty : Nat) : List Nat :=
  match ty with
  | 0x0B => [0x064]
  | 0x04 => [0x04C, 0x054]
  | 0x05 => [0x054]
  | 0x14 => [0x068]
  | _ => []

/-- The register before _HI holds _LO, or BAR4_HANDLE stands before BAR4_BASE_LO. -/
def pairPart (ty o : Nat) : Bool := (pairHi ty).any (fun h => o == h - 4) || (ty == 0x14 && o == 0x060)

/-- The value that a commit gives to a register of a pair that was written before: the latch, or what it holds. -/
def State.latchedOr (s : State) (pg o : Nat) : W32 := (s.latched pg o).getD (s.rd pg o)

/-- A write of _HI. -/
def State.pairCommit (s : State) (pg o : Nat) (v : W32) : State :=
  let ty := pageType pg
  if ty == 0x05 then
    let lo := ((s.latched pg 0x050).map (·.toNat)).getD (s.sptEntry % 2 ^ 32)
    { s.dropLatch pg 0x050 with spt := Tab.set 0 s.spt s.sptKey (BitVec.ofNat 49 (lo + 2 ^ 32 * (v.toNat % 2 ^ 17))) }
  else if ty == 0x14 then
    let lo := s.latchedOr pg 0x064
    let s1 := ((s.writeRow pg 0x060 (s.latchedOr pg 0x060)).dropLatch pg 0x060).dropLatch pg 0x064
    if lo.toNat % 4096 != 0 then s1 else (s1.writeRow pg 0x064 lo).writeRow pg 0x068 v
  else (((s.writeRow pg (o - 4) (s.latchedOr pg (o - 4))).dropLatch pg (o - 4)).writeRow pg o v)

/-- The commands of a page by their code; a code that does not exist is an invalid field (R7). -/
def State.pageCmd (s : State) (pg : Nat) (v : W32) : State :=
  let rsv := v.toNat / 16
  let bad (s : State) : State := s.complete pg 0x01
  match pageType pg, v.toNat % 16 with
  | 0x06, 1 => s.xltMap rsv
  | 0x06, 2 => s.xltUnmap rsv
  | 0x06, 3 => s.xltRemote rsv
  | 0x06, 4 => s.xltResolve rsv
  | 0x06, 5 => s.xltFqSet rsv
  | 0x06, 6 => s.xltQuery rsv
  | 0x07, 1 => s.allowNew rsv
  | 0x07, 2 => s.allowAdd rsv
  | 0x07, 3 => s.allowFreeze rsv
  | 0x07, 4 => s.allowFree rsv
  | 0x07, 5 => s.allowQuery rsv
  | 0x07, 6 => s.keyQuery rsv
  | 0x07, 7 => s.slotQuery rsv
  | 0x08, 1 => s.cqeSqCreate rsv
  | 0x08, 2 => s.cqeCqCreate rsv
  | 0x08, 3 => s.cqeSqDelete rsv
  | 0x08, 4 => s.cqeCqDelete rsv
  | 0x08, 5 => s.cqeTenantSet rsv
  | 0x08, 6 => s.cqeTenantQuery rsv
  | 0x08, 7 => s.cqeSqQuery rsv
  | 0x0F, 1 => s.trlBind rsv
  | 0x0F, 2 => s.trlUnbind rsv
  | 0x0F, 3 => s.trlReset rsv
  | 0x0F, 4 => s.trlKload rsv
  | 0x0F, 5 => s.trlKunload rsv
  | 0x0F, 6 => s.trlKquery rsv
  | 0x0F, 7 => s.trlSubstitute rsv
  | 0x15, 1 => s.jnlOpen rsv
  | 0x15, 2 => s.jnlClose rsv
  | 0x15, 3 => s.jnlQuery rsv
  | _, _ => bad s

/-- A write of PORT.CMD (Table 10-8). -/
def State.portCmd (s : State) (l : LinkNo) (v : W32) : State :=
  let s1 := if v.getLsbD 6 && s.linkExists l then s.modLnk l (fun k => { k with injCrc := true }) else s
  let s2 := if v.getLsbD 4 then s1.portSubst l (v.setWidth 3) else s1
  if v.getLsbD 5 then s2.portRetrain l else s2

/-- A write of PORT.FC: both thresholds within the buffer, XON above XOFF (R271). -/
def State.portFc (s : State) (pg o : Nat) (v : W32) : State :=
  let split := s.bit pg 0x044 0
  let size := if split then 1024 else 2048
  let xoff := fieldOf v.toNat 0 12
  let xon := fieldOf v.toNat 16 12
  if xoff < xon && xon ≤ size then s.writeRow pg o v else s

/-- A write of a header register. -/
def State.writeHdr (s : State) (pg o : Nat) (v : W32) : State :=
  if o == 0x008 then
    let s1 := if v.getLsbD 0 then s.srst pg else s
    if v.getLsbD 8 && pg == pgTIER then s1.formatTier else s1
  else if o == oIRQS then s.irqAck pg v
  else if o == oIRQE then s.irqSetEnable pg v
  else if o == 0x018 then s.irqForced pg v
  else s

/-- A 32-bit write to a page that serves it, critical registers and commands apart. -/
def State.writeReg (s : State) (pg o : Nat) (v : W32) : State :=
  let ty := pageType pg
  let i := pageInst pg
  if o < 0x040 then s.writeHdr pg o v
  else if !inRange ty (halfBOff ty o) v.toNat then s
  else if (pairHi ty).contains o then s.pairCommit pg o v
  else if pairPart ty o then s.setLatch pg o v
  else match ty, o with
    | 0x02, 0x040 => s.portCmd (BitVec.ofNat 6 i) v
    | 0x02, 0x440 => s.portCmd (BitVec.ofNat 6 (i + 24)) v
    | 0x02, 0x044 => s.portCfg (BitVec.ofNat 6 i) v
    | 0x02, 0x444 => s.portCfg (BitVec.ofNat 6 (i + 24)) v
    | 0x02, 0x050 => s.portFc pg o v
    | 0x02, 0x450 => s.portFc pg o v
    | 0x03, o =>
      if 0x400 ≤ o && o % 16 == 0 && v.getLsbD 3 && !s.bit pg o 3 then
        ((s.writeRow pg o v).wr pg (o + 8) 0).wr pg (o + 12) 0
      else s.writeRow pg o v
    | 0x04, 0x090 => if v.getLsbD 0 then s.cmapSnap else s
    | 0x05, 0x048 => { s.writeRow pg o v with pred := if v.getLsbD 8 then [] else s.pred }
    | 0x09, 0x040 => s.setCacheSize (v.toNat % 2 ^ 14)
    | 0x0E, 0x05C => if s.debugDenied i then s else s.writeRow pg o v
    | 0x12, 0x050 => s.setDvfs v
    | 0x13, 0x058 => if v.getLsbD 0 then { s with backup := { s.backup with vbatLost := false } } else s
    | 0x14, 0x044 => s.chCfg v
    | 0x16, 0x044 => s.writeRow (pgCC 0) 0x044 v
    | 0x16, 0x068 => if v.getLsbD 2 then s.recover i else s
    | _, _ => s.writeRow pg o v

/-- The pages whose CMD register starts a command with arguments (PLM apart, whose word holds a handle), and its offset. -/
def cmdReg (pg o : Nat) : Bool :=
  let ty := pageType pg
  (o == 0x040 && (ty == 0x06 || ty == 0x08 || ty == 0x0F || ty == 0x15)) || (o == 0x054 && ty == 0x07)

/-- A 32-bit write on a path. -/
def State.regWrite (s : State) (p : Path) (pg o : Nat) (v : W32) : State :=
  if pg == pgMsixTab || pg == pgMsixPba then
    match s.phase with
    | .running => if pg == pgMsixTab then s.msixWrite o v else s
    | .inReset => s.accessError p pg o
    | .ps3 => s.accessError p pg o
    | _ => if p == .i3c then s.accessError p pg o else s
  else if (critMask pg o).isSome then s.critWrite p pg o v
  else if 0x800 ≤ o && (critMask pg (o - 0x800)).isSome then s.twinWrite p pg (o - 0x800) v
  else if pg == pgRSTC && o == 0x040 then s.platRstLatch p v
  else if pg == pgRSTC && o == 0x840 then s.platRstTwin p v
  else if pg == pgPLM && o == 0x040 then
    s.plmCmd p (v.setWidth 4) (v.getLsbD 4) (v.extractLsb' 5 11) (v.extractLsb' 16 16)
  else if pg == pgPWR && o == 0x040 then
    if v.toNat < 4 then s.powerCmd p v.toNat else s.command p pgPWR (fun s => s.complete pgPWR 0x01)
  else if cmdReg pg o then s.command p pg (fun s => s.pageCmd pg v)
  else s.writeAt p pg o (fun s => s.writeReg pg o v)

/-- A 32-bit read on a path; none when it ends with an error. -/
def State.regRead (s : State) (p : Path) (pg o : Nat) : Option W32 × State :=
  if pg == pgMsixTab || pg == pgMsixPba then
    match s.phase with
    | .running => (some (s.msixRead pg o), s)
    | .inReset => (none, s)
    | .ps3 => (none, s)
    | _ => (if p == .i3c then none else some 0, s)
  else match s.gating p pg o with
    | .error => (none, s)
    | .drop => (some (if o == 0x00C then 4 else 0), s)
    | .serve =>
      let (v, s1) := s.readReg pg o
      (some v, s1)

/-- The page and the offset in it of a BAR0 offset. -/
def pageOf (off : Nat) : Nat := off / 4096
def offOf (off : Nat) : Nat := off % 4096

/-- A 32-bit read by BAR0 offset, with its answer. -/
def State.readOff (s : State) (p : Path) (off : Nat) : State :=
  if off % 4 != 0 then s.accessError p (pageOf off) (offOf off)
  else match s.regRead p (pageOf off) (offOf off) with
    | (some v, s1) => s1.emit (.answer (some (leBytes 4 v.toNat)))
    | (none, s1) => s1.accessError p (pageOf off) (offOf off)

/-! ### BAR2 (Table 16-1, R403, R404) -/

def bar2Hq : Nat := 0x10200
def bar2Rx : Nat := 0x10208
def bar2Pbuf : Nat := 0x20000

/-- Latches of the lower halves that I3C writes. -/
def State.i3cLow (s : State) (off : Nat) : W32 := (s.latched 0x8000 off).getD 0

/-- FULL bits of 8 channels. -/
def State.fullByte (s : State) (n : Nat) : Nat :=
  (List.range 8).foldl (fun b i => if (s.chan (8 * n + i)).word.isSome then b + 2 ^ i else b) 0

/-- The `n` bytes at a place of BAR2 that a read only shows. -/
def State.bar2Shown (s : State) (off n : Nat) : Bytes :=
  if bar2Pbuf ≤ off then s.pbufRead (off - bar2Pbuf) n
  else if 0x8000 ≤ off && off < 0x10000 then
    ((leBytes 8 (s.stampOf ((off - 0x8000) / 8)).toNat).drop (off % 8)).take n
  else if 0x10000 ≤ off && off < bar2Hq then (List.range n).map (fun i => BitVec.ofNat 8 (s.fullByte (off - 0x10000 + i)))
  else List.replicate n 0

/-- Whether BAR2 serves an access; MBX stands for it. -/
def State.bar2Gate (s : State) (p : Path) : Gating := s.gating p pgMBX 0x040

/-- A read of BAR2 of n bytes over PCIe. -/
def State.bar2Read (s : State) (off n : Nat) : State :=
  let ok := off % n == 0 && off + n ≤ 0x40000 && (n == 8 || (n == 4 && bar2Pbuf ≤ off))
  if !ok then s.accessError .pcie pgMBX 0x040
  else match s.bar2Gate .pcie with
    | .error => s.accessError .pcie pgMBX 0x040
    | .drop => s.emit (.answer (some (List.replicate n 0)))
    | .serve =>
      let r : Bytes × State :=
        if off < 0x8000 then
          let x := s.takeWord (off / 8)
          (leBytes 8 x.1.toNat, x.2)
        else if off == bar2Rx then
          let x := s.hqPop
          (leBytes 8 x.1.toNat, x.2)
        else (s.bar2Shown off n, s)
      r.2.emit (.answer (some r.1))

/-- A write of BAR2 of n bytes over PCIe. -/
def State.bar2Write (s : State) (off n : Nat) (v : W64) : State :=
  let ok := off % n == 0 && off + n ≤ 0x40000 && (n == 8 || (n == 4 && bar2Pbuf ≤ off))
  if !ok then s.accessError .pcie pgMBX 0x040
  else match s.bar2Gate .pcie with
    | .error => s.accessError .pcie pgMBX 0x040
    | .drop => s
    | .serve =>
      if bar2Pbuf ≤ off then s.pbufWrite (off - bar2Pbuf) (leBytes n v.toNat)
      else if off < 0x8000 then s.hostWord .pcie (off / 8) v
      else if off == bar2Hq then s.hqPush .pcie v
      else s

/-- An I3C write of one half of a BAR2 word: the lower half waits for the upper one. -/
def State.i3cBar2Write (s : State) (off : Nat) (v : W32) : State :=
  if off % 4 != 0 || s.bar2Gate .i3c != .serve then s.accessError .i3c pgMBX 0x040
  else if bar2Pbuf ≤ off then s.pbufWrite (off - bar2Pbuf) (leBytes 4 v.toNat)
  else if off < 0x8000 || off == bar2Hq || off == bar2Hq + 4 then
    if off % 8 == 0 then s.setLatch 0x8000 off v
    else
      let w : W64 := BitVec.ofNat 64 ((s.i3cLow (off - 4)).toNat + 2 ^ 32 * v.toNat)
      let s1 := s.dropLatch 0x8000 (off - 4)
      if off < 0x8000 then s1.hostWord .i3c (off / 8) w else s1.hqPush .i3c w
  else s

/-- A word taken over I3C: its lower half now, its upper half kept for the next read. -/
def State.i3cTake (off : Nat) (x : W64 × State) : State :=
  ({ x.2 with i3cUp := some (off, x.1.extractLsb' 32 32) }).emit (.answer (some (leBytes 4 (x.1.toNat % 2 ^ 32))))

/-- An I3C read of one half of a BAR2 word. -/
def State.i3cBar2Read (s : State) (off : Nat) : State :=
  if off % 4 != 0 || s.bar2Gate .i3c != .serve then s.accessError .i3c pgMBX 0x040
  else if off < 0x8000 || off == bar2Rx || off == bar2Rx + 4 then
    if off % 8 == 0 then State.i3cTake off (if off < 0x8000 then s.takeWord (off / 8) else s.hqPop)
    else
      let v := match s.i3cUp with
        | some (o, v) => if o + 4 == off then v else 0
        | none => 0
      (({ s with i3cUp := none }).emit (.answer (some (leBytes 4 v.toNat))))
  else s.emit (.answer (some (s.bar2Shown off 4)))

end Sys2Proof.Machine
end

