-- ==== Sys2Proof/Machine/ControlRows.lean ====
section
/-! DEFINITION. Meanings of the commands of 16_control_pair_and_mailboxes.md: the control pair, firmware, SPARE_INVOKE, the
host queue and channels, BAR4, and the I3C target. -/

namespace Sys2Proof.Machine

/-! ### The control pair -/

/-- CC_FAULT (R396, R398). -/
def execCcFault (k : CcFaultKind) (s : State) : Host.Outcome State Fault Refusal := .next (s.ccFault k)

/-- TAKEOVER_RESUMED: `us` is the pause of management (R397). -/
def execTakeoverResumed (us : BitVec 16) (s : State) : Host.Outcome State Fault Refusal := .next (s.takeOver us)

/-- WATCHDOG_RESET: no complex has asserted ACTIVE_HOLD for 100 ms once one has been started (R398). -/
def execWatchdogReset (s : State) : Host.Outcome State Fault Refusal :=
  let booting := s.ccRole 0 == ccBooting && s.ccRole 1 == ccBooting
  if s.phase != .running || s.ccHold 0 || s.ccHold 1 || booting || s.bootHeld then .next s
  else
    let c0 := s.fld (pgCC 0) 0x04C 0 3
    .next (s.platformReset 0x04 (if c0 != 0 then c0 else s.fld (pgCC 1) 0x04C 0 3))

/-- CORE_SELFTEST: the active complex repeats its core self-test; a failure is a fault (R396). -/
def execCoreSelftest (pass : Bool) (s : State) : Host.Outcome State Fault Refusal :=
  .next (if pass then s else s.ccFault .selfTest)

/-- STANDBY_FAULT (R396, R399). -/
def execStandbyFault (k : CcFaultKind) (s : State) : Host.Outcome State Fault Refusal := .next (s.standbyFails k)

/-- SCHEDULED_SWAP (R400). -/
def execScheduledSwap (us : BitVec 16) (s : State) : Host.Outcome State Fault Refusal := .next (s.scheduledSwap us)

/-- ROLE_SWAP (R400). -/
def execRoleSwap (us : BitVec 16) (s : State) : Host.Outcome State Fault Refusal :=
  .next (s.horore 0x07 (fun _ => true) (fun s m => s.roleSwap m us))

/-- STANDBY_READY: the former active complex has run its full self-test (R400). -/
def execStandbyReady (pass : Bool) (s : State) : Host.Outcome State Fault Refusal := .next (s.standbyReady pass)

/-! ### Firmware -/

/-- FIRMWARE_BOOT_LOAD: with the results of the complexes' boot self-tests (R398, R417). -/
def execFirmwareBootLoad (cc0Ok : Bool) (cc1Ok : Bool) (s : State) : Host.Outcome State Fault Refusal :=
  .next (s.bootLoad cc0Ok cc1Ok)

/-- RECOVER (R417). -/
def execRecover (p : Path) (cc : Bool) (s : State) : Host.Outcome State Fault Refusal :=
  .next (s.writeAt p (pgCC (ofBool cc)) 0x068 (fun s => s.recover (ofBool cc)))

/-- FW_STAGE (R418). -/
def execFwStage (s : State) : Host.Outcome State Fault Refusal :=
  .next (s.horore 0x08 (fun _ => true) (fun s m => s.fwStage m))

/-- FW_ACTIVATE (R418). -/
def execFwActivate (us : BitVec 16) (s : State) : Host.Outcome State Fault Refusal :=
  .next (s.horore 0x09 (fun _ => true) (fun s m => s.fwActivate m us))

/-! ### SPARE_INVOKE (R415) -/

/-- KIND of a SPARE_INVOKE. -/
def spareKind (m : HororeMsg) : Nat := fieldOf (hoWord m 1) 0 4

/-- SPARE_INVOKE of a cell. -/
def execSpareInvokeCell (s : State) : Host.Outcome State Fault Refusal :=
  .next (s.horore 0x0C (fun m => spareKind m == 0) (fun s m => s.spareCell m))

/-- SPARE_INVOKE of a pseudo-channel. -/
def execSpareInvokePc (s : State) : Host.Outcome State Fault Refusal :=
  .next (s.horore 0x0C (fun m => spareKind m == 1) (fun s m => s.sparePc m))

/-- SPARE_INVOKE of a row. -/
def execSpareInvokeRow (s : State) : Host.Outcome State Fault Refusal :=
  .next (s.horore 0x0C (fun m => spareKind m == 2) (fun s m => s.spareRow m))

/-- SPARE_INVOKE of a lane. -/
def execSpareInvokeLane (s : State) : Host.Outcome State Fault Refusal :=
  .next (s.horore 0x0C (fun m => spareKind m == 3) (fun s m => s.spareLane m))

/-! ### The host queue and channels -/

/-- HORORE_WORD_TIMEOUT: 1 ms after a header its words have not come; the message completes INVALID_FIELD in its turn and the words
that did come are gone (R412). -/
def execHororeWordTimeout (s : State) : Host.Outcome State Fault Refusal :=
  match s.txq with
  | [] => .next s
  | h :: _ =>
    if !s.hqServed then .next s
    else
      let s1 : State := { s with txq := [], taken := s.taken ++ [{ words := [h], timedOut := true }] }
      .next (if s.txq.length == 16 then s1.raise pgMBX 3 else s1).hoNext

/-- HQ_TX (R411): a write of the word in BAR2; over I3C the write of its upper half, with the lower half before it. -/
def execHqTx (p : Path) (w : BitVec 64) (s : State) : Host.Outcome State Fault Refusal :=
  match p with
  | .i3c =>
    .next ((s.i3cBar2Write bar2Hq (w.setWidth 32)).i3cBar2Write (bar2Hq + 4) (w.extractLsb' 32 32))
  | _ => .next (s.bar2Write bar2Hq 8 w)

/-- HQ_RX (R411): over I3C the read of the lower half, which takes the word. -/
def execHqRx (p : Path) (s : State) : Host.Outcome State Fault Refusal :=
  match p with
  | .i3c => .next (s.i3cBar2Read bar2Rx)
  | _ => .next (s.bar2Read bar2Rx 8)

/-- CHANNEL_WORD_WRITE (R407). -/
def execChannelWordWrite (p : Path) (ch : BitVec 12) (w : BitVec 64) (s : State) : Host.Outcome State Fault Refusal :=
  match p with
  | .i3c =>
    .next ((s.i3cBar2Write (8 * ch.toNat) (w.setWidth 32)).i3cBar2Write (8 * ch.toNat + 4) (w.extractLsb' 32 32))
  | _ => .next (s.bar2Write (8 * ch.toNat) 8 w)

/-- CHANNEL_WORD_READ (R403). -/
def execChannelWordRead (p : Path) (ch : BitVec 12) (s : State) : Host.Outcome State Fault Refusal :=
  match p with
  | .i3c => .next (s.i3cBar2Read (8 * ch.toNat))
  | _ => .next (s.bar2Read (8 * ch.toNat) 8)

/-- CH_CFG (R406). -/
def execChCfg (p : Path) (v : BitVec 32) (s : State) : Host.Outcome State Fault Refusal :=
  .next (s.writeAt p pgMBX 0x044 (fun s => s.chCfg v))

/-- FUNCTION_LEVEL_RESET (R402, R410). -/
def execFunctionLevelReset (s : State) : Host.Outcome State Fault Refusal := .next s.dropHostWords

/-- UPSTREAM_LINK_DOWN (R410). -/
def execUpstreamLinkDown (s : State) : Host.Outcome State Fault Refusal :=
  .next ((s.setFld (pgPCIE 0) 0x040 0 1 0).dropHostWords)

/-- BAR4_ACCESS: `wr` is the data of a write (R405). -/
def execBar4Access (off : BitVec 36) (len : Nat) (wr : Option (List (BitVec 8))) (s : State) :
    Host.Outcome State Fault Refusal :=
  .next (s.bar4 off (match wr with
    | some d => d.length
    | none => len) wr)

/-! ### The I3C target (R404) -/

/-- Give the target its dynamic address. -/
def State.setDyn (s : State) (a : BitVec 7) : State :=
  if s.phase == .inReset || s.phase == .ps3 then s else s.setFld pgMBX 0x058 0 7 a.toNat

/-- ENTDAA: a target that has no dynamic address takes the one it is assigned. -/
def execEntdaa (a : BitVec 7) (s : State) : Host.Outcome State Fault Refusal :=
  .next (if s.dynAddr == 0 then s.setDyn a else s)

/-- SETDASA from static address 0x2C. -/
def execSetdasa (st : BitVec 7) (a : BitVec 7) (s : State) : Host.Outcome State Fault Refusal :=
  .next (if st.toNat == 0x2C && s.dynAddr == 0 then s.setDyn a else s)

/-- I3C_PRIVATE_WRITE: address bit 31 selects BAR2 (R404). -/
def execI3cPrivateWrite (addr : BitVec 32) (v : BitVec 32) (s : State) : Host.Outcome State Fault Refusal :=
  if addr.getLsbD 31 then .next (s.i3cBar2Write (fieldOf addr.toNat 0 18) v)
  else
    let off := fieldOf addr.toNat 0 26
    .next (if off % 4 != 0 then s.accessError .i3c (pageOf off) (offOf off) else s.regWrite .i3c (pageOf off) (offOf off) v)

/-- I3C_PRIVATE_READ (R404). -/
def execI3cPrivateRead (addr : BitVec 32) (s : State) : Host.Outcome State Fault Refusal :=
  .next (if addr.getLsbD 31 then s.i3cBar2Read (fieldOf addr.toNat 0 18) else s.readOff .i3c (fieldOf addr.toNat 0 26))

end Sys2Proof.Machine
end

