-- ==== Sys2Proof/Machine/HomeRows.lean ====
section
/-! DEFINITION. Meanings of the commands of 11_fabric_paths.md and 12_coherence_and_remote_access.md that the crossbar and the
home agents carry out. -/

namespace Sys2Proof.Machine

/-! ### Packets -/

/-- A request packet of one opcode arrives on a link (R293). -/
def State.reqRow (s : State) (op : BitVec 8) (l : LinkNo) (p : Packet) : State :=
  s.receive l { p with opcode := op } (fun s p => s.deliverPkt l p)

/-- READ (R293, R41, R322): `se` are symbols of stored words put in error by the surroundings. -/
def execRead (l : LinkNo) (pkt : Packet) (se : List SymErr) (s : State) : Host.Outcome State Fault Refusal :=
  .next ((s.hitSymbols se).reqRow 0x01 l pkt)

/-- WRITE (R293, R41, R322). -/
def execWrite (l : LinkNo) (pkt : Packet) (s : State) : Host.Outcome State Fault Refusal :=
  .next (s.reqRow 0x02 l pkt)

/-- ATOMIC (R474, R325). -/
def execAtomic (l : LinkNo) (pkt : Packet) (s : State) : Host.Outcome State Fault Refusal :=
  .next (s.reqRow 0x03 l pkt)

/-- CHAN_WRITE (R407). -/
def execChanWrite (l : LinkNo) (pkt : Packet) (s : State) : Host.Outcome State Fault Refusal :=
  .next (s.reqRow 0x04 l pkt)

/-- RD_S (R322). -/
def execRdS (l : LinkNo) (pkt : Packet) (s : State) : Host.Outcome State Fault Refusal :=
  .next (s.reqRow 0x30 l pkt)

/-- RD_E (R322). -/
def execRdE (l : LinkNo) (pkt : Packet) (s : State) : Host.Outcome State Fault Refusal :=
  .next (s.reqRow 0x31 l pkt)

/-- UPGRADE (R322, R323). -/
def execUpgrade (l : LinkNo) (pkt : Packet) (s : State) : Host.Outcome State Fault Refusal :=
  .next (s.reqRow 0x32 l pkt)

/-- EVICT_CLEAN (R322, R323). -/
def execEvictClean (l : LinkNo) (pkt : Packet) (s : State) : Host.Outcome State Fault Refusal :=
  .next (s.reqRow 0x33 l pkt)

/-- WRITEBACK (R322, R323). -/
def execWriteback (l : LinkNo) (pkt : Packet) (s : State) : Host.Outcome State Fault Refusal :=
  .next (s.reqRow 0x34 l pkt)

/-- INV_ACK: the answer to an INV of the home (R323). -/
def execInvAck (l : LinkNo) (pkt : Packet) (s : State) : Host.Outcome State Fault Refusal :=
  .next (s.reqRow 0x3E l pkt)

/-- RECALL_RSP: the answer to a RECALL of the home (R323). -/
def execRecallRsp (l : LinkNo) (pkt : Packet) (s : State) : Host.Outcome State Fault Refusal :=
  .next (s.reqRow 0x3F l pkt)

/-- PROBE (R307). -/
def execProbe (l : LinkNo) (pkt : Packet) (s : State) : Host.Outcome State Fault Refusal :=
  .next (s.reqRow 0x60 l pkt)

/-- CMAP_READ (R306). -/
def execCmapRead (l : LinkNo) (pkt : Packet) (s : State) : Host.Outcome State Fault Refusal :=
  .next (s.reqRow 0x62 l pkt)

/-- TRANSIT: a packet of any opcode, forwarded when it is not for the device (R293). -/
def execTransit (l : LinkNo) (pkt : Packet) (s : State) : Host.Outcome State Fault Refusal :=
  .next (s.receive l pkt (fun s p => s.deliverPkt l p))

/-! ### Time limits of the crossbar -/

/-- FENCE_TIMEOUT: the packet parked longest at a link has been there for FENCE_TMO (R301). -/
def execFenceTimeout (l : LinkNo) (s : State) : Host.Outcome State Fault Refusal :=
  match s.park.find? (fun k => k.link == l) with
  | some k => .next (s.fenceOut k)
  | none => .next s

/-- TRANSIT_AGE: the transit packet held longest for an egress has been there for TRANSIT_AGE (R298). Packets of the
device's own carry its endpoint as their source. -/
def execTransitAge (l : LinkNo) (s : State) : Host.Outcome State Fault Refusal :=
  match (s.lnk l).held.find? (fun p => p.srcEp != s.ep) with
  | some p =>
    .next (((s.modLnk l (fun k => { k with held := k.held.erase p })).inc pgXBAR 0x084).raise pgXBAR 2)
  | none => .next s

/-- DUTY_DEFER: a request not ordered 5 µs after its arrival is withdrawn and answered DEFER (R302, R321). -/
def execDutyDefer (rq : Nat) (s : State) : Host.Outcome State Fault Refusal :=
  match s.homeq.find? (fun q => q.rq == rq) with
  | none => .next s
  | some q =>
    let s1 := ({ s with homeq := s.homeq.erase q }).inc pgXBAR 0x088
    match s1.newToken with
    | some (t, s2) =>
      let d := { q.pkt with data := [], gtag := [] }
      .next (({ s2 with deferred := s2.deferred ++ [(t.toNat, q.link, d)] }).answerDefer q.link q.pkt t).pump
    | none => .next ((s1.inc pgTIER 0x070).answerDefer q.link q.pkt noToken).pump

/-- CMAP_SNAP (R306). -/
def execCmapSnap (p : Path) (v : BitVec 32) (s : State) : Host.Outcome State Fault Refusal :=
  .next (s.writeAt p pgXBAR 0x090 (fun s => if v.getLsbD 0 then s.cmapSnap else s))

/-! ### The home -/

/-- REGION_SET_ACK: a bed acknowledges the set message of a region (R312). -/
def execRegionSetAck (bed : BitVec 5) (region : Nat) (s : State) : Host.Outcome State Fault Refusal :=
  let mine := region ≥ 2 ^ 40 || wordStack (region * 1024) == bed.toNat
  if mine && Tab.get 0 s.regionBits region == 1 then
    .next ({ s with regionBits := Tab.put s.regionBits region 2 }).pump
  else .next s

/-- HOLD_END: the hold of a line ends, and what waited for it goes on (R324). -/
def execHoldEnd (line : BitVec 53) (s : State) : Host.Outcome State Fault Refusal :=
  match Tab.find? s.lineHolds line.toNat with
  | some h =>
    if h.active then .next ({ s with lineHolds := Tab.put s.lineHolds line.toNat { h with active := false } }).pump
    else .next s
  | none => .next s

/-- RECALL_TIMEOUT: a snoop has had no answer for RECALL_TMO (R329). -/
def execRecallTimeout (tag : BitVec 16) (s : State) : Host.Outcome State Fault Refusal :=
  match s.txns.find? (fun kv => kv.2.snoops.any (fun n => n.tag == tag)) with
  | none => .next s
  | some (line, t) =>
    match t.snoops.find? (fun n => n.tag == tag) with
    | none => .next s
    | some n =>
      if n.isRecall then
        let s1 := (s.inc pgHOME 0x084).raise pgHOME 0
        let s2 : State := match t.cause with
          | .plot h =>
            let p := s1.plot h
            s1.setPlot h { p with rev := p.rev.map (fun r => { r with lost := r.lost + 1 }) }
          | _ => s1
        .next (({ s2 with txns := Tab.put s2.txns line { t with after_ := none } }).settle line tag)
      else .next (((s.inc pgHOME 0x088).raise pgHOME 1).settle line tag)

/-- PRED_CLEAR: every counter of the contention predictor is set to 4 (R326, Table 12-5). -/
def execPredClear (p : Path) (s : State) : Host.Outcome State Fault Refusal :=
  .next (s.writeAt p pgHOME 0x048 (fun s => { s with pred := [] }))

end Sys2Proof.Machine
end

