-- ==== Sys2Proof/Machine/MemRows.lean ====
section
/-! DEFINITION. Meanings of the loads, stores, gathers, scatters, atomics and furrow instructions of a cell
(04_jexkai_isa.md, R109 to R118). -/

namespace Sys2Proof.Machine

/-! ### Scalar accesses (Table 04-8) -/

/-- LD8U. -/
def execLd8u (c : BitVec 9) (t : BitVec 10) (f : BitVec 48) (s : State) : Host.Outcome State Fault Refusal :=
  .next (s.loadRow c t f 1 false)

/-- LD16U. -/
def execLd16u (c : BitVec 9) (t : BitVec 10) (f : BitVec 48) (s : State) : Host.Outcome State Fault Refusal :=
  .next (s.loadRow c t f 2 false)

/-- LD32U. -/
def execLd32u (c : BitVec 9) (t : BitVec 10) (f : BitVec 48) (s : State) : Host.Outcome State Fault Refusal :=
  .next (s.loadRow c t f 4 false)

/-- LD64. -/
def execLd64 (c : BitVec 9) (t : BitVec 10) (f : BitVec 48) (s : State) : Host.Outcome State Fault Refusal :=
  .next (s.loadRow c t f 8 false)

/-- LD8S. -/
def execLd8s (c : BitVec 9) (t : BitVec 10) (f : BitVec 48) (s : State) : Host.Outcome State Fault Refusal :=
  .next (s.loadRow c t f 1 true)

/-- LD16S. -/
def execLd16s (c : BitVec 9) (t : BitVec 10) (f : BitVec 48) (s : State) : Host.Outcome State Fault Refusal :=
  .next (s.loadRow c t f 2 true)

/-- LD32S. -/
def execLd32s (c : BitVec 9) (t : BitVec 10) (f : BitVec 48) (s : State) : Host.Outcome State Fault Refusal :=
  .next (s.loadRow c t f 4 true)

/-- ST8. -/
def execSt8 (c : BitVec 9) (t : BitVec 10) (f : BitVec 48) (s : State) : Host.Outcome State Fault Refusal :=
  .next (s.storeRow c t f 1)

/-- ST16. -/
def execSt16 (c : BitVec 9) (t : BitVec 10) (f : BitVec 48) (s : State) : Host.Outcome State Fault Refusal :=
  .next (s.storeRow c t f 2)

/-- ST32. -/
def execSt32 (c : BitVec 9) (t : BitVec 10) (f : BitVec 48) (s : State) : Host.Outcome State Fault Refusal :=
  .next (s.storeRow c t f 4)

/-- ST64. -/
def execSt64 (c : BitVec 9) (t : BitVec 10) (f : BitVec 48) (s : State) : Host.Outcome State Fault Refusal :=
  .next (s.storeRow c t f 8)

/-! ### Vector accesses -/

/-- A byte of a vector register is taken from the second list where `p` holds. -/
def pickBytes (p : Nat → Bool) (old new : Bytes) : Bytes :=
  (List.range 256).map (fun i => (if p i then new else old).getD i 0)

/-- Ranges of a vector access at an address, from runs of positions. -/
def rangesAt (ea : W64) (l : List (Nat × Nat)) : List (Nat × Nat) := l.map (fun r => (ea.toNat + r.1, r.2))

/-- The 64-byte parts of a vector access of `n` parts that hold an active position, `k` positions to the part. -/
def activeParts (k : Ctx) (n per : Nat) : List Nat :=
  (List.range n).filter (fun j => (List.range per).any (fun i => memActive k (per * j + i)))

/-- VLD. -/
def execVld (c : BitVec 9) (t : BitVec 10) (f : BitVec 48) (s : State) : Host.Outcome State Fault Refusal :=
  .next (s.issue c t f none (fun k => vmemBad k false 0) (fun k s =>
    let ea := memEa k 24
    let runs := (activeParts k 4 64).map (fun j => (64 * j, 64))
    loadRes k s ea (ea.toNat % 64 == 0) (rangesAt ea runs) (fun y d =>
      let old := y.getV (memVr k)
      y.setV (memVr k) (BitVec.ofNat 2048 (leNat (pickBytes (memActive k) (leBytes 256 old.toNat)
        (leBytes 256 (overBytes old runs d).toNat)))))))

/-- VST. -/
def execVst (c : BitVec 9) (t : BitVec 10) (f : BitVec 48) (s : State) : Host.Outcome State Fault Refusal :=
  .next (s.issue c t f none (fun k => vmemBad k true 0) (fun k s =>
    let ea := memEa k 24
    let d := leBytes 256 (k.th.getV (memVr k)).toNat
    storeRes k s ea (ea.toNat % 64 == 0)
      ((runsOf (memActive k) 256 0).map (fun r => (ea.toNat + r.1, (d.drop r.1).take r.2)))))

/-- The packed form of 6-bit elements (R109): element i in bits [6i+5 : 6i]. -/
def packed6 (d : Bytes) (i : Nat) : Nat := fieldOf (leNat ((d.drop (3 * (i / 4))).take 3)) (6 * (i % 4)) 6

/-- VLDP6: the parts of 64 bytes that are read hold a bit of an active element. -/
def execVldp6 (c : BitVec 9) (t : BitVec 10) (f : BitVec 48) (s : State) : Host.Outcome State Fault Refusal :=
  .next (s.issue c t f none (fun k => vmemBad k false 0) (fun k s =>
    let ea := memEa k 24
    let touched (j : Nat) : Bool := (List.range 256).any (fun i =>
      memActive k i && decide (6 * i < 512 * (j + 1)) && decide (512 * j < 6 * i + 6))
    let runs := ((List.range 3).filter touched).map (fun j => (64 * j, 64))
    loadRes k s ea (ea.toNat % 64 == 0) (rangesAt ea runs) (fun y d =>
      let got := leBytes 192 (overBytes 0 runs d).toNat
      let new := (List.range 256).map (fun i => BitVec.ofNat 8 (packed6 got i))
      y.setV (memVr k) (BitVec.ofNat 2048 (leNat (pickBytes (memActive k) (leBytes 256 (y.getV (memVr k)).toNat) new))))))

/-- The 192 packed bytes of a register whose masked-off elements keep the bits of `old`. -/
def pack6 (p : Nat → Bool) (v : BitVec 2048) (old : Bytes) : Bytes :=
  leBytes 192 (joinBits 6 ((List.range 256).map (fun i => if p i then fieldOf v.toNat (8 * i) 6 else packed6 old i)))

/-- VSTP6: bytes that hold bits of an active element are written. One that an active element only shares is read first, so
that the bits of its masked-off neighbour stay (R109). -/
def execVstp6 (c : BitVec 9) (t : BitVec 10) (f : BitVec 48) (s : State) : Host.Outcome State Fault Refusal :=
  .next (s.issue c t f none (fun k => vmemBad k true 0) (fun k s =>
    let ea := memEa k 24
    let v := k.th.getV (memVr k)
    let holds (act : Bool) (b : Nat) : Bool := (List.range 256).any (fun i =>
      memActive k i == act && decide (6 * i < 8 * (b + 1)) && decide (8 * b < 6 * i + 6))
    let runs := runsOf (holds true) 192 0
    let shared := (List.range 192).filter (fun b => holds true b && holds false b)
    let store (s : State) (old : Bytes) : Res :=
      let d := pack6 (memActive k) v old
      storeRes k s ea (ea.toNat % 64 == 0) (runs.map (fun r => (ea.toNat + r.1, (d.drop r.1).take r.2)))
    if shared.isEmpty || ea.toNat % 64 != 0 then store s []
    else if memSp k then
      if runs.any (fun r => ea.toNat + r.1 + r.2 > scratchSize k.x) then .trap s 0x05 0 ea
      else store s (scratchRead k.x ea.toNat 192)
    else if ea.toNat ≥ 2 ^ 57 then .trap s 0x08 1 ea
    else match s.cellReq k.c none with
      | none => .wait s
      | some q =>
        match s.poolRmw q k runs shared ea.toNat with
        | (.ok old, s1) => store s1 old
        | (.error x, s1) => stopRes k s1 ea x))

/-! ### Gathers and scatters (R111) -/

/-- VGTH4. -/
def execVgth4 (c : BitVec 9) (t : BitVec 10) (f : BitVec 48) (s : State) : Host.Outcome State Fault Refusal :=
  .next (s.gatherRow c t f 4)

/-- VGTH8. -/
def execVgth8 (c : BitVec 9) (t : BitVec 10) (f : BitVec 48) (s : State) : Host.Outcome State Fault Refusal :=
  .next (s.gatherRow c t f 8)

/-- VGTH16. -/
def execVgth16 (c : BitVec 9) (t : BitVec 10) (f : BitVec 48) (s : State) : Host.Outcome State Fault Refusal :=
  .next (s.gatherRow c t f 16)

/-- VGTH32. -/
def execVgth32 (c : BitVec 9) (t : BitVec 10) (f : BitVec 48) (s : State) : Host.Outcome State Fault Refusal :=
  .next (s.gatherRow c t f 32)

/-- VGTH64. -/
def execVgth64 (c : BitVec 9) (t : BitVec 10) (f : BitVec 48) (s : State) : Host.Outcome State Fault Refusal :=
  .next (s.gatherRow c t f 64)

/-- VGTH128. -/
def execVgth128 (c : BitVec 9) (t : BitVec 10) (f : BitVec 48) (s : State) : Host.Outcome State Fault Refusal :=
  .next (s.gatherRow c t f 128)

/-- VGTH256. -/
def execVgth256 (c : BitVec 9) (t : BitVec 10) (f : BitVec 48) (s : State) : Host.Outcome State Fault Refusal :=
  .next (s.gatherRow c t f 256)

/-- VSCT4. -/
def execVsct4 (c : BitVec 9) (t : BitVec 10) (f : BitVec 48) (s : State) : Host.Outcome State Fault Refusal :=
  .next (s.scatterRow c t f 4)

/-- VSCT8. -/
def execVsct8 (c : BitVec 9) (t : BitVec 10) (f : BitVec 48) (s : State) : Host.Outcome State Fault Refusal :=
  .next (s.scatterRow c t f 8)

/-- VSCT16. -/
def execVsct16 (c : BitVec 9) (t : BitVec 10) (f : BitVec 48) (s : State) : Host.Outcome State Fault Refusal :=
  .next (s.scatterRow c t f 16)

/-- VSCT32. -/
def execVsct32 (c : BitVec 9) (t : BitVec 10) (f : BitVec 48) (s : State) : Host.Outcome State Fault Refusal :=
  .next (s.scatterRow c t f 32)

/-- VSCT64. -/
def execVsct64 (c : BitVec 9) (t : BitVec 10) (f : BitVec 48) (s : State) : Host.Outcome State Fault Refusal :=
  .next (s.scatterRow c t f 64)

/-- VSCT128. -/
def execVsct128 (c : BitVec 9) (t : BitVec 10) (f : BitVec 48) (s : State) : Host.Outcome State Fault Refusal :=
  .next (s.scatterRow c t f 128)

/-- VSCT256. -/
def execVsct256 (c : BitVec 9) (t : BitVec 10) (f : BitVec 48) (s : State) : Host.Outcome State Fault Refusal :=
  .next (s.scatterRow c t f 256)

/-! ### Atomics (Table 04-9) -/

/-- ADD of major 0x14. -/
def execAtomicAdd (c : BitVec 9) (t : BitVec 10) (wide : Bool) (f : BitVec 48) (s : State) : Host.Outcome State Fault Refusal :=
  .next (s.atomicRow c t wide f .add)

/-- FADD of major 0x14. -/
def execAtomicFadd (c : BitVec 9) (t : BitVec 10) (wide : Bool) (f : BitVec 48) (s : State) : Host.Outcome State Fault Refusal :=
  .next (s.atomicRow c t wide f .fadd)

/-- MIN of major 0x14. -/
def execAtomicMin (c : BitVec 9) (t : BitVec 10) (wide : Bool) (f : BitVec 48) (s : State) : Host.Outcome State Fault Refusal :=
  .next (s.atomicRow c t wide f .min)

/-- MINU of major 0x14. -/
def execAtomicMinu (c : BitVec 9) (t : BitVec 10) (wide : Bool) (f : BitVec 48) (s : State) : Host.Outcome State Fault Refusal :=
  .next (s.atomicRow c t wide f .minu)

/-- MAX of major 0x14. -/
def execAtomicMax (c : BitVec 9) (t : BitVec 10) (wide : Bool) (f : BitVec 48) (s : State) : Host.Outcome State Fault Refusal :=
  .next (s.atomicRow c t wide f .max)

/-- MAXU of major 0x14. -/
def execAtomicMaxu (c : BitVec 9) (t : BitVec 10) (wide : Bool) (f : BitVec 48) (s : State) : Host.Outcome State Fault Refusal :=
  .next (s.atomicRow c t wide f .maxu)

/-- AND of major 0x14. -/
def execAtomicAnd (c : BitVec 9) (t : BitVec 10) (wide : Bool) (f : BitVec 48) (s : State) : Host.Outcome State Fault Refusal :=
  .next (s.atomicRow c t wide f .and)

/-- OR of major 0x14. -/
def execAtomicOr (c : BitVec 9) (t : BitVec 10) (wide : Bool) (f : BitVec 48) (s : State) : Host.Outcome State Fault Refusal :=
  .next (s.atomicRow c t wide f .or)

/-- XOR of major 0x14. -/
def execAtomicXor (c : BitVec 9) (t : BitVec 10) (wide : Bool) (f : BitVec 48) (s : State) : Host.Outcome State Fault Refusal :=
  .next (s.atomicRow c t wide f .xor)

/-- SWAP of major 0x14. -/
def execAtomicSwap (c : BitVec 9) (t : BitVec 10) (wide : Bool) (f : BitVec 48) (s : State) : Host.Outcome State Fault Refusal :=
  .next (s.atomicRow c t wide f .swap)

/-- CAS of major 0x14. -/
def execAtomicCas (c : BitVec 9) (t : BitVec 10) (wide : Bool) (f : BitVec 48) (s : State) : Host.Outcome State Fault Refusal :=
  .next (s.atomicRow c t wide f .cas)

/-! ### Furrows (Table 04-11) -/

def fwN (k : Ctx) : Nat := fldOf k 30 3

/-- A furrow row. A trap kept by a tile that failed competes with the causes of the instruction itself (R118, R133); `waits`
says that the instruction waits for the furrow's copies. -/
def State.furrowRow (s : State) (c : BitVec 9) (t : BitVec 10) (f : BitVec 48) (mask : Nat) (waits : Bool)
    (op : Ctx → State → Nat → Res) : State :=
  s.issue c t f none (fun k => !onlyBits k mask || fwN k > 1) (fun k s =>
    let fw := k.th.furrow (fwN k)
    match fw.trap with
    | some (cause, detail, tva) =>
      match waits, op k s (fwN k) with
      | false, .trap _ c' d' a' => if c' < cause then .trap s c' d' a' else .trap s cause detail tva
      | _, _ => .trap s cause detail tva
    | none =>
      if waits && !fw.copies.isEmpty then .wait (s.modThread k.c k.t (fun y => { y with run := .furrow }))
      else op k s (fwN k))

/-- The furrow that a descriptor declares (Table 04-10), or none for an invalid one. -/
def furrowOf (d : Bytes) : Option Furrow :=
  let at_ (o n : Nat) : Nat := leNat ((d.drop o).take n)
  let base := at_ 0 8
  let tile := at_ 8 4
  let count := at_ 12 4
  let stride := at_ 16 8
  if base % 64 != 0 || stride % 64 != 0 || tile % 64 != 0 || tile < 64 || tile > 0x100000 || count == 0 ||
      at_ 24 8 != 0 || base ≥ 2 ^ 57 then none
  else some { isSet := true, base := BitVec.ofNat 57 base, tile := BitVec.ofNat 32 tile, count := BitVec.ofNat 32 count,
              stride := BitVec.ofNat 64 stride }

/-- FWSET. The numbers of copies go on across declarations. -/
def execFwset (c : BitVec 9) (t : BitVec 10) (f : BitVec 48) (s : State) : Host.Outcome State Fault Refusal :=
  .next (s.furrowRow c t f (mA + fm 30 3) true (fun k s n =>
    let a := k.th.getS (fldOf k 38 5)
    if a.toNat % 32 != 0 then .trap s 0x04 0 a
    else if a.toNat + 32 > scratchSize k.x then .trap s 0x05 0 a
    else match furrowOf (scratchRead k.x a.toNat 32) with
      | none => .trap s 0x0D 1 a
      | some fw => .done (((s.scratchCount k.c a.toNat 32).modFurrow k.c k.t n (fun y => { fw with next := y.next })).runAhead k.c k.t n)))

/-- FWGET and FWPUT: the copy instruction starts; its tiles are copied by FURROW_TILE_DONE. -/
def State.copyRow (s : State) (c : BitVec 9) (t : BitVec 10) (f : BitVec 48) (put : Bool) : State :=
  s.furrowRow c t f (mA + mB + fm 30 3 + fm 0 24) false (fun k s n =>
    let fw := k.th.furrow n
    let a := k.th.getS (fldOf k 38 5)
    let k0 := (k.th.getS (fldOf k 33 5)).toNat
    let cnt := fldOf k 0 24
    let use := fw.isSet && cnt != 0 && k0 + cnt ≤ fw.count.toNat
    if a.toNat % 64 != 0 then .trap s 0x04 0 a
    else if use && a.toNat + cnt * fw.tile.toNat > scratchSize k.x then .trap s 0x05 0 a
    else if !use then .trap s 0x0D 2 a
    else if k.th.f0.ids.length + k.th.f1.ids.length ≥ 16 then
      .wait (s.modThread k.c k.t (fun y => { y with run := .furrow }))
    else
      let tiles := (List.range cnt).map (fun i => TileCopy.mk fw.next put (k0 + i) (a.toNat + i * fw.tile.toNat) false .go)
      .done ((s.modFurrow k.c k.t n (fun y =>
        { y with copies := y.copies ++ tiles, next := y.next + 1, high := Nat.max y.high (k0 + cnt) })).runAhead k.c k.t n))

/-- FWGET. -/
def execFwget (c : BitVec 9) (t : BitVec 10) (f : BitVec 48) (s : State) : Host.Outcome State Fault Refusal :=
  .next (s.copyRow c t f false)

/-- FWPUT. -/
def execFwput (c : BitVec 9) (t : BitVec 10) (f : BitVec 48) (s : State) : Host.Outcome State Fault Refusal :=
  .next (s.copyRow c t f true)

/-- FWWAIT. -/
def execFwwait (c : BitVec 9) (t : BitVec 10) (f : BitVec 48) (s : State) : Host.Outcome State Fault Refusal :=
  .next (s.furrowRow c t f (fm 30 3) true (fun _ s _ => .done s))

/-- FWCLR. -/
def execFwclr (c : BitVec 9) (t : BitVec 10) (f : BitVec 48) (s : State) : Host.Outcome State Fault Refusal :=
  .next (s.furrowRow c t f (fm 30 3) true (fun k s n => .done (s.modFurrow k.c k.t n (fun y => { next := y.next }))))

/-- FURROW_TILE_DONE: a tile of a copy that waits for nothing is copied, fails, or begins to wait (R112, R118). -/
def execFurrowTileDone (c : BitVec 9) (t : BitVec 10) (fur : Bool) (copy : Nat) (tile : BitVec 32) (s : State) :
    Host.Outcome State Fault Refusal :=
  let n := if fur then 1 else 0
  match (s.furrow c.toNat t.toNat n).copies.find? (fun x => x.id == copy && x.tile == tile.toNat) with
  | none => .next s
  | some x =>
    if x.done || x.wait != .go || !s.cellRuns (s.cell c.toNat) then .next s
    else .next ((s.runTile c.toNat t.toNat n x).modFurrow c.toNat t.toNat n Furrow.sweep)

end Sys2Proof.Machine
end

