-- ==== Sys2Proof/Machine/PoolRows.lean ====
section
/-! DEFINITION. Meanings of the commands of 06_pool_operations.md: the descriptor of an engine command, named by its number, is
carried out. A command that must wait is given again. -/

namespace Sys2Proof.Machine

/-- FILL (R171). -/
def execFill (id : Nat) (s : State) : Host.Outcome State Fault Refusal := .next (s.runOp id 0x01 (fun s c => s.fillOp c))

/-- COPY (R171). -/
def execCopy (id : Nat) (s : State) : Host.Outcome State Fault Refusal := .next (s.runOp id 0x02 (fun s c => s.copyOp id c))

/-- COMPARE (R171). -/
def execCompare (id : Nat) (s : State) : Host.Outcome State Fault Refusal := .next (s.runOp id 0x03 (fun s c => s.compareOp id c))

/-- REDUCE (R172). -/
def execReduce (id : Nat) (s : State) : Host.Outcome State Fault Refusal := .next (s.runOp id 0x04 (fun s c => s.reduceOp id c))

/-- HASH (R171). -/
def execHash (id : Nat) (s : State) : Host.Outcome State Fault Refusal := .next (s.runOp id 0x05 (fun s c => s.hashOp id c))

/-- GATHER_POOL (R173). -/
def execGatherPool (id : Nat) (s : State) : Host.Outcome State Fault Refusal := .next (s.runOp id 0x10 (fun s c => s.gatherOp id c))

/-- ATTEND (R176): its first phase. -/
def execAttend (id : Nat) (s : State) : Host.Outcome State Fault Refusal := .next (s.attend id)

/-- ATTEND_SECOND_PHASE (R177). -/
def execAttendSecondPhase (id : Nat) (s : State) : Host.Outcome State Fault Refusal := .next (s.attendSecond id)

/-- COLLECT (R179): a rank reaches its slot. -/
def execCollect (id : Nat) (s : State) : Host.Outcome State Fault Refusal := .next (s.collect id)

/-- COLLECT_REDUCE (R180). -/
def execCollectReduce (slot : BitVec 10) (s : State) : Host.Outcome State Fault Refusal := .next (s.collectReduce slot.toNat)

/-- COLLECT_TIMEOUT (R181). -/
def execCollectTimeout (slot : BitVec 10) (s : State) : Host.Outcome State Fault Refusal := .next (s.collectTimeout slot.toNat)

/-- REMOTE_COPY (R182). -/
def execRemoteCopy (id : Nat) (s : State) : Host.Outcome State Fault Refusal := .next (s.remoteCopy id)

/-- KERNEL (R183). -/
def execKernel (id : Nat) (s : State) : Host.Outcome State Fault Refusal := .next (s.runOp id 0x30 (fun s c => s.kernelOp id c))

/-- KERNEL_TIMEOUT (R183). -/
def execKernelTimeout (id : Nat) (s : State) : Host.Outcome State Fault Refusal := .next (s.kernelTimeout id)

/-- RETURN_PAGES (R184, R346). -/
def execReturnPages (id : Nat) (s : State) : Host.Outcome State Fault Refusal := .next (s.returnPages id)

/-- JOURNAL_MARK (R185): its work is its record; the sequence number enters the result when the record is staged. -/
def execJournalMark (id : Nat) (s : State) : Host.Outcome State Fault Refusal :=
  .next (s.runOp id 0x50 (fun s _ => (.done stOK [] 0 [], s)))

end Sys2Proof.Machine
end

