-- ==== Sys2Proof/Machine/RegRows.lean ====
section
/-! DEFINITION. Meanings of the commands of 18_register_pages.md. -/

namespace Sys2Proof.Machine

/-- SRST: a write of 1 to a page's CTRL.SRST (R434). -/
def execSrst (p : Path) (page : BitVec 14) (s : State) : Host.Outcome State Fault Refusal :=
  .next (s.regWrite p page.toNat 0x008 1)

/-- CRITICAL_WRITE: a write of a critical register (R450). -/
def execCriticalWrite (p : Path) (off : BitVec 26) (v : BitVec 32) (s : State) : Host.Outcome State Fault Refusal :=
  let pg := pageOf off.toNat
  let o := offOf off.toNat
  .next (if (critMask pg o).isSome || (pg == pgRSTC && o == 0x040) then s.regWrite p pg o v else s)

/-- TWIN_WRITE: a write of a twin (R450, R451). -/
def execTwinWrite (p : Path) (off : BitVec 26) (v : BitVec 32) (s : State) : Host.Outcome State Fault Refusal :=
  .next (if 0x800 ≤ offOf off.toNat then s.regWrite p (pageOf off.toNat) (offOf off.toNat) v else s)

/-- PAIR_COMMIT: a write of the _HI of a writable pair (R452). -/
def execPairCommit (p : Path) (off : BitVec 26) (v : BitVec 32) (s : State) : Host.Outcome State Fault Refusal :=
  let pg := pageOf off.toNat
  let o := offOf off.toNat
  .next (if (pairHi (pageType pg)).contains o then s.regWrite p pg o v else s)

/-- LATCHING_READ: a read of the _LO of a read-only pair that changes while the device runs (R452). -/
def execLatchingRead (p : Path) (off : BitVec 26) (s : State) : Host.Outcome State Fault Refusal :=
  .next (if latchLo (pageType (pageOf off.toNat)) == some (offOf off.toNat) then s.readOff p off.toNat else s)

/-- READ_CLEAR: a 32-bit read of a register, which clears its RC fields (R5, R448). Every other read goes the same way and leaves
the register as it is; bit 26 of the offset selects BAR2 (R403). -/
def execReadClear (p : Path) (off : BitVec 27) (s : State) : Host.Outcome State Fault Refusal :=
  let o := fieldOf off.toNat 0 26
  .next (if off.getLsbD 26 then s.bar2Read o (if o % 8 == 0 then 8 else 4) else s.readOff p o)

/-- IRQ_STATUS_WRITE (R453). -/
def execIrqStatusWrite (p : Path) (page : BitVec 14) (v : BitVec 32) (s : State) : Host.Outcome State Fault Refusal :=
  .next (s.writeAt p page.toNat oIRQS (fun s => s.irqAck page.toNat v))

/-- IRQ_ENABLE_WRITE (R453). -/
def execIrqEnableWrite (p : Path) (page : BitVec 14) (v : BitVec 32) (s : State) : Host.Outcome State Fault Refusal :=
  .next (s.writeAt p page.toNat oIRQE (fun s => s.irqSetEnable page.toNat v))

/-- IRQ_FORCE (R448). -/
def execIrqForce (p : Path) (page : BitVec 14) (v : BitVec 32) (s : State) : Host.Outcome State Fault Refusal :=
  .next (s.writeAt p page.toNat 0x018 (fun s => s.irqForced page.toNat v))

/-- Two 32-bit accesses, at the lower offset first (R447). A page that answers with an error does so once. -/
def State.regWrite8 (s : State) (p : Path) (pg o : Nat) (v : BitVec 64) : State :=
  if pg != pgMsixTab && pg != pgMsixPba && s.gating p pg o == .error then s.accessError p pg o
  else (s.regWrite p pg o (v.setWidth 32)).regWrite p pg (o + 4) (v.extractLsb' 32 32)

/-- REGISTER_WRITE: an access of 4 or 8 bytes, naturally aligned (R447); bit 26 of the offset selects BAR2 (R403). -/
def execRegisterWrite (p : Path) (off : BitVec 27) (size : Nat) (v : BitVec 64) (s : State) : Host.Outcome State Fault Refusal :=
  let o := fieldOf off.toNat 0 26
  if off.getLsbD 26 then .next (s.bar2Write o size v)
  else if size == 4 && o % 4 == 0 then .next (s.regWrite p (pageOf o) (offOf o) (v.setWidth 32))
  else if size == 8 && o % 8 == 0 && p != .i3c then .next (s.regWrite8 p (pageOf o) (offOf o) v)
  else .next (s.accessError p (pageOf o) (offOf o))

end Sys2Proof.Machine
end

