-- ==== Sys2Proof/Machine/ScalarRows.lean ====
section
/-! DEFINITION. Meanings of the scalar instructions of a cell: integer ALU, FP32, pool pointers and branches
(04_jexkai_isa.md, R105 to R108). -/

namespace Sys2Proof.Machine

/-! ### Integers (Table 04-6) -/
/-- ADD. -/
def execAdd (c : BitVec 9) (t : BitVec 10) (imm : Bool) (f : BitVec 48) (s : State) : Host.Outcome State Fault Refusal :=
  .next (s.alu c t imm f .two (fun a b _ => a + b))

/-- SUB. -/
def execSub (c : BitVec 9) (t : BitVec 10) (imm : Bool) (f : BitVec 48) (s : State) : Host.Outcome State Fault Refusal :=
  .next (s.alu c t imm f .two (fun a b _ => a - b))

/-- MUL. -/
def execMul (c : BitVec 9) (t : BitVec 10) (imm : Bool) (f : BitVec 48) (s : State) : Host.Outcome State Fault Refusal :=
  .next (s.alu c t imm f .two (fun a b _ => a * b))

/-- MULH: high half of the signed product. -/
def execMulh (c : BitVec 9) (t : BitVec 10) (imm : Bool) (f : BitVec 48) (s : State) : Host.Outcome State Fault Refusal :=
  .next (s.alu c t imm f .two (fun a b _ => BitVec.ofInt 64 (a.toInt * b.toInt / 2 ^ 64)))

/-- MULHU: high half of the unsigned product. -/
def execMulhu (c : BitVec 9) (t : BitVec 10) (imm : Bool) (f : BitVec 48) (s : State) : Host.Outcome State Fault Refusal :=
  .next (s.alu c t imm f .two (fun a b _ => BitVec.ofNat 64 (a.toNat * b.toNat / 2 ^ 64)))

/-- DIV: all ones for a zero divisor (R106). -/
def execDiv (c : BitVec 9) (t : BitVec 10) (imm : Bool) (f : BitVec 48) (s : State) : Host.Outcome State Fault Refusal :=
  .next (s.alu c t imm f .two (fun a b _ => if b == 0 then BitVec.allOnes 64 else a.sdiv b))

/-- DIVU: all ones for a zero divisor (R106). -/
def execDivu (c : BitVec 9) (t : BitVec 10) (imm : Bool) (f : BitVec 48) (s : State) : Host.Outcome State Fault Refusal :=
  .next (s.alu c t imm f .two (fun a b _ => if b == 0 then BitVec.allOnes 64 else a.udiv b))

/-- REM: a for a zero divisor (R106). -/
def execRem (c : BitVec 9) (t : BitVec 10) (imm : Bool) (f : BitVec 48) (s : State) : Host.Outcome State Fault Refusal :=
  .next (s.alu c t imm f .two (fun a b _ => if b == 0 then a else a.srem b))

/-- REMU: a for a zero divisor (R106). -/
def execRemu (c : BitVec 9) (t : BitVec 10) (imm : Bool) (f : BitVec 48) (s : State) : Host.Outcome State Fault Refusal :=
  .next (s.alu c t imm f .two (fun a b _ => if b == 0 then a else a.umod b))

/-- AND. -/
def execAnd (c : BitVec 9) (t : BitVec 10) (imm : Bool) (f : BitVec 48) (s : State) : Host.Outcome State Fault Refusal :=
  .next (s.alu c t imm f .two (fun a b _ => a &&& b))

/-- OR. -/
def execOr (c : BitVec 9) (t : BitVec 10) (imm : Bool) (f : BitVec 48) (s : State) : Host.Outcome State Fault Refusal :=
  .next (s.alu c t imm f .two (fun a b _ => a ||| b))

/-- XOR. -/
def execXor (c : BitVec 9) (t : BitVec 10) (imm : Bool) (f : BitVec 48) (s : State) : Host.Outcome State Fault Refusal :=
  .next (s.alu c t imm f .two (fun a b _ => a ^^^ b))

/-- SHL. -/
def execShl (c : BitVec 9) (t : BitVec 10) (imm : Bool) (f : BitVec 48) (s : State) : Host.Outcome State Fault Refusal :=
  .next (s.alu c t imm f .two (fun a b _ => a <<< (b.toNat % 64)))

/-- SHR. -/
def execShr (c : BitVec 9) (t : BitVec 10) (imm : Bool) (f : BitVec 48) (s : State) : Host.Outcome State Fault Refusal :=
  .next (s.alu c t imm f .two (fun a b _ => a >>> (b.toNat % 64)))

/-- SAR. -/
def execSar (c : BitVec 9) (t : BitVec 10) (imm : Bool) (f : BitVec 48) (s : State) : Host.Outcome State Fault Refusal :=
  .next (s.alu c t imm f .two (fun a b _ => a.sshiftRight (b.toNat % 64)))

/-- MIN. -/
def execMin (c : BitVec 9) (t : BitVec 10) (imm : Bool) (f : BitVec 48) (s : State) : Host.Outcome State Fault Refusal :=
  .next (s.alu c t imm f .two (fun a b _ => if a.slt b then a else b))

/-- MAX. -/
def execMax (c : BitVec 9) (t : BitVec 10) (imm : Bool) (f : BitVec 48) (s : State) : Host.Outcome State Fault Refusal :=
  .next (s.alu c t imm f .two (fun a b _ => if a.slt b then b else a))

/-- MINU. -/
def execMinu (c : BitVec 9) (t : BitVec 10) (imm : Bool) (f : BitVec 48) (s : State) : Host.Outcome State Fault Refusal :=
  .next (s.alu c t imm f .two (fun a b _ => if a.ult b then a else b))

/-- MAXU. -/
def execMaxu (c : BitVec 9) (t : BitVec 10) (imm : Bool) (f : BitVec 48) (s : State) : Host.Outcome State Fault Refusal :=
  .next (s.alu c t imm f .two (fun a b _ => if a.ult b then b else a))

/-- SLT. -/
def execSlt (c : BitVec 9) (t : BitVec 10) (imm : Bool) (f : BitVec 48) (s : State) : Host.Outcome State Fault Refusal :=
  .next (s.alu c t imm f .two (fun a b _ => w64Of (a.slt b)))

/-- SLTU. -/
def execSltu (c : BitVec 9) (t : BitVec 10) (imm : Bool) (f : BitVec 48) (s : State) : Host.Outcome State Fault Refusal :=
  .next (s.alu c t imm f .two (fun a b _ => w64Of (a.ult b)))

/-- SEQ. -/
def execSeq (c : BitVec 9) (t : BitVec 10) (imm : Bool) (f : BitVec 48) (s : State) : Host.Outcome State Fault Refusal :=
  .next (s.alu c t imm f .two (fun a b _ => w64Of (a == b)))

/-- CLZ. -/
def execClz (c : BitVec 9) (t : BitVec 10) (imm : Bool) (f : BitVec 48) (s : State) : Host.Outcome State Fault Refusal :=
  .next (s.alu c t imm f .one (fun a _ _ => clz64 a))

/-- POPC. -/
def execPopc (c : BitVec 9) (t : BitVec 10) (imm : Bool) (f : BitVec 48) (s : State) : Host.Outcome State Fault Refusal :=
  .next (s.alu c t imm f .one (fun a _ _ => popc64 a))

/-- SEL: a if Sc is not 0, else b. -/
def execSel (c : BitVec 9) (t : BitVec 10) (imm : Bool) (f : BitVec 48) (s : State) : Host.Outcome State Fault Refusal :=
  .next (s.alu c t imm f .three (fun a b x => if x != 0 then a else b))

/-! ### FP32 (R107) -/

/-- FADD. -/
def execFadd (c : BitVec 9) (t : BitVec 10) (f : BitVec 48) (s : State) : Host.Outcome State Fault Refusal :=
  .next (s.fpu c t f (mD + mA + mB + mRm) (fun k a b _ => fpRound (ssRm k) (vAdd (ssRm k) a b)))

/-- FSUB: x plus the negation of y (R154). -/
def execFsub (c : BitVec 9) (t : BitVec 10) (f : BitVec 48) (s : State) : Host.Outcome State Fault Refusal :=
  .next (s.fpu c t f (mD + mA + mB + mRm) (fun k a b _ => fpRound (ssRm k) (vAdd (ssRm k) a (vNeg b))))

/-- FMUL. -/
def execFmul (c : BitVec 9) (t : BitVec 10) (f : BitVec 48) (s : State) : Host.Outcome State Fault Refusal :=
  .next (s.fpu c t f (mD + mA + mB + mRm) (fun k a b _ => fpRound (ssRm k) (vMul a b)))

/-- FFMA: a × b + c with one rounding. -/
def execFfma (c : BitVec 9) (t : BitVec 10) (f : BitVec 48) (s : State) : Host.Outcome State Fault Refusal :=
  .next (s.fpu c t f (mD + mA + mB + mC + mRm) (fun k a b x => fpRound (ssRm k) (vFma (ssRm k) a b x)))

/-- FMIN (R155). -/
def execFmin (c : BitVec 9) (t : BitVec 10) (f : BitVec 48) (s : State) : Host.Outcome State Fault Refusal :=
  .next (s.fpu c t f (mD + mA + mB) (fun _ a b _ => fpRound 0 (vMin a b, flNone)))

/-- FMAX (R155). -/
def execFmax (c : BitVec 9) (t : BitVec 10) (f : BitVec 48) (s : State) : Host.Outcome State Fault Refusal :=
  .next (s.fpu c t f (mD + mA + mB) (fun _ a b _ => fpRound 0 (vMax a b, flNone)))

/-- FEQ (R155). -/
def execFeq (c : BitVec 9) (t : BitVec 10) (f : BitVec 48) (s : State) : Host.Outcome State Fault Refusal :=
  .next (s.fpu c t f (mD + mA + mB) (fun _ a b _ => fpCmp a b (· == .eq)))

/-- FLT (R155). -/
def execFlt (c : BitVec 9) (t : BitVec 10) (f : BitVec 48) (s : State) : Host.Outcome State Fault Refusal :=
  .next (s.fpu c t f (mD + mA + mB) (fun _ a b _ => fpCmp a b (· == .lt)))

/-- FLE (R155). -/
def execFle (c : BitVec 9) (t : BitVec 10) (f : BitVec 48) (s : State) : Host.Outcome State Fault Refusal :=
  .next (s.fpu c t f (mD + mA + mB) (fun _ a b _ => fpCmp a b (· != .gt)))

/-- FCVTI: FP32 to INT64 in mode RM, saturating (R157). -/
def execFcvti (c : BitVec 9) (t : BitVec 10) (f : BitVec 48) (s : State) : Host.Outcome State Fault Refusal :=
  .next (s.fpu c t f (mD + mA + mRm) (fun k a _ _ => roundInt 64 (ssRm k) true a))

/-- ICVTF: INT64 to FP32 in mode RM (R157). -/
def execIcvtf (c : BitVec 9) (t : BitVec 10) (f : BitVec 48) (s : State) : Host.Outcome State Fault Refusal :=
  .next (s.fpu c t f (mD + mA + mRm) (fun k _ _ _ =>
    fpRound (ssRm k) (intVal (k.th.getS (ssA k)).toInt, flNone)))

/-! ### Pool pointers (R45) -/

/-- The window of a tenant for a handle (R44). -/
def State.window (s : State) (tenant : BitVec 12) (h : Nat) : Window := Tab.get {} s.windows (tenant.toNat * 65536 + h)

/-- A pool pointer converted, or the cause of its trap. -/
def State.poolPtr (s : State) (tenant : BitVec 12) (p : W64) : Except Nat W64 :=
  if p == 0 then .ok 0
  else
    let h := (p.extractLsb' 48 16).toNat
    let off := fieldOf p.toNat 4 44 * 16
    if off / 2 ^ 44 != 0 then .error 1
    else if !(s.window tenant h).valid then .error 2
    else if off ≥ plotBytes (s.plot (BitVec.ofNat 16 h)).cur then .error 3
    else .ok (BitVec.ofNat 64 (((s.window tenant h).base.toNat + off) % 2 ^ 57))

/-- PCVT. -/
def execPcvt (c : BitVec 9) (t : BitVec 10) (f : BitVec 48) (s : State) : Host.Outcome State Fault Refusal :=
  .next (s.issue c t f none (fun k => !onlyBits k (mD + mA)) (fun k s =>
    match s.poolPtr (bwTenant k.x.bind) (k.th.getS (ssA k)) with
    | .ok r => onThread (fun k => k.th.setS (ssD k) r) k s
    | .error n => .trap s 0x07 n 0))

/-! ### Branches (R108) -/

def brOfs (k : Ctx) : Int := toSigned 32 (fldOf k 0 32)
def brCond (k : Ctx) : Nat := fldOf k 34 4

/-- The target of a PC-relative branch; one that lies below zero or beyond 24 bits is past every image (R100). -/
def brTarget (k : Ctx) : Nat :=
  let n := (k.th.pc.toNat : Int) + 8 * brOfs k
  if n < 0 then 2 ^ 24 else n.toNat

/-- Table 04-7. -/
def brTaken (k : Ctx) : Bool :=
  let a := k.th.getS (fldOf k 43 5)
  let b := k.th.getS (fldOf k 38 5)
  match brCond k with
  | 0 => true
  | 1 => a == b
  | 2 => a != b
  | 3 => a.slt b
  | 4 => !a.slt b
  | 5 => a.ult b
  | 6 => !a.ult b
  | 7 => k.th.getM (fldOf k 43 3) != 0
  | _ => k.th.getM (fldOf k 43 3) == 0

/-- Invalid fields of B: conditions above 0x8, and registers that a condition does not use. -/
def brBad (k : Ctx) : Bool :=
  !onlyBits k (mD + mA + fm 34 4 + fm 0 32) || brCond k > 8 ||
    (brCond k == 0 && (fldOf k 43 5 != 0 || fldOf k 38 5 != 0)) ||
    (brCond k ≥ 7 && (fldOf k 46 2 != 0 || fldOf k 38 5 != 0))

/-- B. -/
def execB (c : BitVec 9) (t : BitVec 10) (f : BitVec 48) (s : State) : Host.Outcome State Fault Refusal :=
  .next (s.issue c t f none brBad (fun k s => if brTaken k then .jump s (brTarget k) else .done s))

/-- BL: PC + 8 to Sa. -/
def execBl (c : BitVec 9) (t : BitVec 10) (f : BitVec 48) (s : State) : Host.Outcome State Fault Refusal :=
  .next (s.issue c t f none (fun k => !onlyBits k (mD + fm 0 32)) (fun k s =>
    .jump (s.modThread k.c k.t (fun y => y.setS (fldOf k 43 5) (BitVec.ofNat 64 (k.th.pc.toNat + 8)))) (brTarget k)))

/-- JR: to the offset held in Sa. -/
def execJr (c : BitVec 9) (t : BitVec 10) (f : BitVec 48) (s : State) : Host.Outcome State Fault Refusal :=
  .next (s.issue c t f none (fun k => !onlyBits k mD) (fun k s => .jump s (k.th.getS (fldOf k 43 5)).toNat))

/-- JRL: PC + 8 to Sb, to the offset held in Sa. -/
def execJrl (c : BitVec 9) (t : BitVec 10) (f : BitVec 48) (s : State) : Host.Outcome State Fault Refusal :=
  .next (s.issue c t f none (fun k => !onlyBits k (mD + mA)) (fun k s =>
    .jump (s.modThread k.c k.t (fun y => y.setS (fldOf k 38 5) (BitVec.ofNat 64 (k.th.pc.toNat + 8))))
      (k.th.getS (fldOf k 43 5)).toNat))

end Sys2Proof.Machine
end

