-- ==== Sys2Proof/Machine/VecRows.lean ====
section
/-! DEFINITION. Meanings of the vector instructions of a cell: majors 0x20 to 0x26 (04_jexkai_isa.md, Table 04-12). -/

namespace Sys2Proof.Machine

/-! ### Element-wise arithmetic -/

/-- VADD. -/
def execVadd (c : BitVec 9) (t : BitVec 10) (f : BitVec 48) (s : State) : Host.Outcome State Fault Refusal :=
  .next (s.ewRow c t f false { val := fun rm a b _ => vAdd rm a b, int := fun a b _ => a + b })

/-- VSUB: Va plus the negation of Vb (R154). -/
def execVsub (c : BitVec 9) (t : BitVec 10) (f : BitVec 48) (s : State) : Host.Outcome State Fault Refusal :=
  .next (s.ewRow c t f false { val := fun rm a b _ => vAdd rm a (vNeg b), int := fun a b _ => a - b })

/-- VMUL. -/
def execVmul (c : BitVec 9) (t : BitVec 10) (f : BitVec 48) (s : State) : Host.Outcome State Fault Refusal :=
  .next (s.ewRow c t f false { val := fun _ a b _ => vMul a b, int := fun a b _ => a * b })

/-- VFMA: Va × Vb + Vc with one rounding. -/
def execVfma (c : BitVec 9) (t : BitVec 10) (f : BitVec 48) (s : State) : Host.Outcome State Fault Refusal :=
  .next (s.ewRow c t f true { val := fun rm a b x => vFma rm a b x, int := fun a b x => a * b + x })

/-- VMIN (R155). -/
def execVmin (c : BitVec 9) (t : BitVec 10) (f : BitVec 48) (s : State) : Host.Outcome State Fault Refusal :=
  .next (s.ewRow c t f false { val := fun _ a b _ => (vMin a b, flNone), int := fun a b _ => if a < b then a else b })

/-- VMAX (R155). -/
def execVmax (c : BitVec 9) (t : BitVec 10) (f : BitVec 48) (s : State) : Host.Outcome State Fault Refusal :=
  .next (s.ewRow c t f false { val := fun _ a b _ => (vMax a b, flNone), int := fun a b _ => if a < b then b else a })

/-- VABS. -/
def execVabs (c : BitVec 9) (t : BitVec 10) (f : BitVec 48) (s : State) : Host.Outcome State Fault Refusal :=
  .next (s.signRow c t f false)

/-- VNEG. -/
def execVneg (c : BitVec 9) (t : BitVec 10) (f : BitVec 48) (s : State) : Host.Outcome State Fault Refusal :=
  .next (s.signRow c t f true)

/-- VAND. -/
def execVand (c : BitVec 9) (t : BitVec 10) (f : BitVec 48) (s : State) : Host.Outcome State Fault Refusal :=
  .next (s.bitRow c t f false (fun _ _ a b => a &&& b))

/-- VOR. -/
def execVor (c : BitVec 9) (t : BitVec 10) (f : BitVec 48) (s : State) : Host.Outcome State Fault Refusal :=
  .next (s.bitRow c t f false (fun _ _ a b => a ||| b))

/-- VXOR. -/
def execVxor (c : BitVec 9) (t : BitVec 10) (f : BitVec 48) (s : State) : Host.Outcome State Fault Refusal :=
  .next (s.bitRow c t f false (fun _ _ a b => a ^^^ b))

/-- VSHL: the exact shifted integer, wrapped or saturated as SAT selects (R119). -/
def execVshl (c : BitVec 9) (t : BitVec 10) (f : BitVec 48) (s : State) : Host.Outcome State Fault Refusal :=
  .next (s.bitRow c t f true (fun k w a b => narrowInt w (vvSat k) (toSigned w a * (2 ^ (b % w) : Nat))))

/-- VSHR. -/
def execVshr (c : BitVec 9) (t : BitVec 10) (f : BitVec 48) (s : State) : Host.Outcome State Fault Refusal :=
  .next (s.bitRow c t f false (fun _ w a b => a / 2 ^ (b % w)))

/-- VSAR. -/
def execVsar (c : BitVec 9) (t : BitVec 10) (f : BitVec 48) (s : State) : Host.Outcome State Fault Refusal :=
  .next (s.bitRow c t f false (fun _ w a b => ofSigned w (toSigned w a / (2 ^ (b % w) : Nat))))

/-! ### Compares -/

/-- VCEQ. -/
def execVceq (c : BitVec 9) (t : BitVec 10) (f : BitVec 48) (s : State) : Host.Outcome State Fault Refusal :=
  .next (s.cmpRow c t f false (ordCmp (· == .eq)))

/-- VCLT. -/
def execVclt (c : BitVec 9) (t : BitVec 10) (f : BitVec 48) (s : State) : Host.Outcome State Fault Refusal :=
  .next (s.cmpRow c t f false (ordCmp (· == .lt)))

/-- VCLE. -/
def execVcle (c : BitVec 9) (t : BitVec 10) (f : BitVec 48) (s : State) : Host.Outcome State Fault Refusal :=
  .next (s.cmpRow c t f false (ordCmp (· != .gt)))

/-- VCGT. -/
def execVcgt (c : BitVec 9) (t : BitVec 10) (f : BitVec 48) (s : State) : Host.Outcome State Fault Refusal :=
  .next (s.cmpRow c t f false (ordCmp (· == .gt)))

/-- VCGE. -/
def execVcge (c : BitVec 9) (t : BitVec 10) (f : BitVec 48) (s : State) : Host.Outcome State Fault Refusal :=
  .next (s.cmpRow c t f false (ordCmp (· != .lt)))

/-- VCNE: true with a NaN (R155). -/
def execVcne (c : BitVec 9) (t : BitVec 10) (f : BitVec 48) (s : State) : Host.Outcome State Fault Refusal :=
  .next (s.cmpRow c t f false (fun a b => !ordCmp (· == .eq) a b))

/-- VCLTU. -/
def execVcltu (c : BitVec 9) (t : BitVec 10) (f : BitVec 48) (s : State) : Host.Outcome State Fault Refusal :=
  .next (s.cmpRow c t f true (ordCmp (· == .lt)))

/-- VCGEU. -/
def execVcgeu (c : BitVec 9) (t : BitVec 10) (f : BitVec 48) (s : State) : Host.Outcome State Fault Refusal :=
  .next (s.cmpRow c t f true (ordCmp (· != .lt)))

/-- VCUN. -/
def execVcun (c : BitVec 9) (t : BitVec 10) (f : BitVec 48) (s : State) : Host.Outcome State Fault Refusal :=
  .next (s.cmpRow c t f false (fun a b => a.isNan || b.isNan))

/-! ### Conversion and transcendentals -/

/-- VCVT (R121, R156, R158). -/
def execVcvt (c : BitVec 9) (t : BitVec 10) (f : BitVec 48) (s : State) : Host.Outcome State Fault Refusal :=
  .next (s.vecRow c t f (mVd + mVa + mVc + mGov + mVrm + mSat + mSx + mSz + mDfmt) cvtBad convert)

/-- EXP2 (R159). -/
def execExp2 (c : BitVec 9) (t : BitVec 10) (f : BitVec 48) (s : State) : Host.Outcome State Fault Refusal :=
  .next (s.transRow c t f .exp2)

/-- LOG2 (R159). -/
def execLog2 (c : BitVec 9) (t : BitVec 10) (f : BitVec 48) (s : State) : Host.Outcome State Fault Refusal :=
  .next (s.transRow c t f .log2)

/-- RCP (R159). -/
def execRcp (c : BitVec 9) (t : BitVec 10) (f : BitVec 48) (s : State) : Host.Outcome State Fault Refusal :=
  .next (s.transRow c t f .rcp)

/-- RSQRT (R159). -/
def execRsqrt (c : BitVec 9) (t : BitVec 10) (f : BitVec 48) (s : State) : Host.Outcome State Fault Refusal :=
  .next (s.transRow c t f .rsqrt)

/-- EXP2.F (R122): each active element is some code within two units in the last place; which one is a free value. -/
def execExp2F (c : BitVec 9) (t : BitVec 10) (f : BitVec 48) (s : State) : Host.Outcome State Fault Refusal :=
  .next (s.issue c t f (some 0x2308) (fun k => !onlyBits k (mVd + mVa + mMe + mMz) || !maskOk k) (fun k s =>
    let v := k.th.getV (vvA k)
    let rs := (List.range 64).map (fun i =>
      if vvActive k 0 i then exp2Fast (Config.value (s.free + i)).toNat (decodeElem 0 0 (elemAt 0 v i)) else (0, flNone))
    let th := (k.th.setV (vvD k) (writeCodes k 0 (fun i => (rs.getD i (0, flNone)).1))).addFlags (flAll (rs.map (·.2)))
    let s1 : State := { s with free := s.free + 64 }
    .done (s1.modThread k.c k.t (fun _ => th))))

/-! ### Reductions -/

/-- VRMAX. -/
def execVrmax (c : BitVec 9) (t : BitVec 10) (f : BitVec 48) (s : State) : Host.Outcome State Fault Refusal :=
  .next (s.redRow c t f (fun k => reduceVal k false))

/-- VRMIN. -/
def execVrmin (c : BitVec 9) (t : BitVec 10) (f : BitVec 48) (s : State) : Host.Outcome State Fault Refusal :=
  .next (s.redRow c t f (fun k => reduceVal k true))

/-- VRMAXI: the element count when no element is active. -/
def execVrmaxi (c : BitVec 9) (t : BitVec 10) (f : BitVec 48) (s : State) : Host.Outcome State Fault Refusal :=
  .next (s.redRow c t f (fun k => (reduceIdx k false).getD (fmtCount (vvFmt k))))

/-! ### Mask operations -/

/-- MAND. -/
def execMand (c : BitVec 9) (t : BitVec 10) (f : BitVec 48) (s : State) : Host.Outcome State Fault Refusal :=
  .next (s.maskRow c t f (mVd + mVa + mVb) (fun a b => a &&& b))

/-- MOR. -/
def execMor (c : BitVec 9) (t : BitVec 10) (f : BitVec 48) (s : State) : Host.Outcome State Fault Refusal :=
  .next (s.maskRow c t f (mVd + mVa + mVb) (fun a b => a ||| b))

/-- MXOR. -/
def execMxor (c : BitVec 9) (t : BitVec 10) (f : BitVec 48) (s : State) : Host.Outcome State Fault Refusal :=
  .next (s.maskRow c t f (mVd + mVa + mVb) (fun a b => a ^^^ b))

/-- MANDN: Va and not Vb. -/
def execMandn (c : BitVec 9) (t : BitVec 10) (f : BitVec 48) (s : State) : Host.Outcome State Fault Refusal :=
  .next (s.maskRow c t f (mVd + mVa + mVb) (fun a b => a &&& ~~~b))

/-- MNOT. -/
def execMnot (c : BitVec 9) (t : BitVec 10) (f : BitVec 48) (s : State) : Host.Outcome State Fault Refusal :=
  .next (s.maskRow c t f (mVd + mVa) (fun a _ => ~~~a))

/-- MSET. -/
def execMset (c : BitVec 9) (t : BitVec 10) (f : BitVec 48) (s : State) : Host.Outcome State Fault Refusal :=
  .next (s.maskRow c t f mVd (fun _ _ => BitVec.allOnes 256))

/-- MPOP. -/
def execMpop (c : BitVec 9) (t : BitVec 10) (f : BitVec 48) (s : State) : Host.Outcome State Fault Refusal :=
  .next (s.maskRead c t f (mVa + mSz) (fun _ => false) (fun _ m => (setBits m).length))

/-- MFIRST. -/
def execMfirst (c : BitVec 9) (t : BitVec 10) (f : BitVec 48) (s : State) : Host.Outcome State Fault Refusal :=
  .next (s.maskRead c t f (mVa + mSz) (fun _ => false) (fun _ m => (setBits m).headD 256))

/-- MFROMS: word c of mask Vd receives Sx. -/
def execMfroms (c : BitVec 9) (t : BitVec 10) (f : BitVec 48) (s : State) : Host.Outcome State Fault Refusal :=
  .next (s.vecRow c t f (mVd + mVc + mSx) (fun k => !isMaskReg (vvD k) || vvC k > 3) (fun k =>
    let m := (k.th.getM (vvD k)).toNat
    let o := 64 * vvC k
    k.th.setM (vvD k) (BitVec.ofNat 256 (m - fieldOf m o 64 * 2 ^ o + (k.th.getS (vvX k)).toNat * 2 ^ o))))

/-- MTOS: word c of mask Va. -/
def execMtos (c : BitVec 9) (t : BitVec 10) (f : BitVec 48) (s : State) : Host.Outcome State Fault Refusal :=
  .next (s.maskRead c t f (mVa + mVc + mSz) (fun k => vvC k > 3) (fun k m => fieldOf m.toNat (64 * vvC k) 64))

/-- MRANGE: the bits below Sx. -/
def execMrange (c : BitVec 9) (t : BitVec 10) (f : BitVec 48) (s : State) : Host.Outcome State Fault Refusal :=
  .next (s.vecRow c t f (mVd + mSx) (fun k => !isMaskReg (vvD k)) (fun k =>
    let n := (k.th.getS (vvX k)).toNat
    k.th.setM (vvD k) (BitVec.ofNat 256 (2 ^ (if n < 256 then n else 256) - 1))))

/-! ### Moves and permutes -/

/-- VMOV: element codes. -/
def execVmov (c : BitVec 9) (t : BitVec 10) (f : BitVec 48) (s : State) : Host.Outcome State Fault Refusal :=
  .next (s.vecRow c t f (mVd + mVa + mGov) (fun k => !validFmt (vvFmt k)) (fun k =>
    let v := k.th.getV (vvA k)
    k.th.setV (vvD k) (writeCodes k (vvFmt k) (elemAt (vvFmt k) v))))

/-- VBCAST: element codes (R120). -/
def execVbcast (c : BitVec 9) (t : BitVec 10) (f : BitVec 48) (s : State) : Host.Outcome State Fault Refusal :=
  .next (s.vecRow c t f (mVd + mGov + mSx) (fun k => !validFmt (vvFmt k)) (fun k =>
    k.th.setV (vvD k) (writeCodes k (vvFmt k) (fun _ => fieldOf (k.th.getS (vvX k)).toNat 0 (fmtBits (vvFmt k))))))

/-- The element index of VEXT and VINS: the value of Sy. -/
def elemIndex (k : Ctx) : Nat := (k.th.getS (vvY k)).toNat

/-- VEXT. -/
def execVext (c : BitVec 9) (t : BitVec 10) (f : BitVec 48) (s : State) : Host.Outcome State Fault Refusal :=
  .next (s.vecRow c t f (mVa + mFmt + mSy + mSz) (fun k => !validFmt (vvFmt k) || elemIndex k ≥ fmtCount (vvFmt k)) (fun k =>
    k.th.setS (vvZ k) (BitVec.ofNat 64 (elemAt (vvFmt k) (k.th.getV (vvA k)) (elemIndex k)))))

/-- VINS. -/
def execVins (c : BitVec 9) (t : BitVec 10) (f : BitVec 48) (s : State) : Host.Outcome State Fault Refusal :=
  .next (s.vecRow c t f (mVd + mFmt + mSx + mSy) (fun k => !validFmt (vvFmt k) || elemIndex k ≥ fmtCount (vvFmt k)) (fun k =>
    let code := vvFmt k
    let old := k.th.getV (vvD k)
    let x := fieldOf (k.th.getS (vvX k)).toNat 0 (fmtBits code)
    k.th.setV (vvD k) (fromElems code ((List.range (fmtCount code)).map (fun i =>
      if i == elemIndex k then x else elemAt code old i)))))

/-- VIOTA. -/
def execViota (c : BitVec 9) (t : BitVec 10) (f : BitVec 48) (s : State) : Host.Outcome State Fault Refusal :=
  .next (s.vecRow c t f (mVd + mGov) (fun k => !isIntFmt (vvFmt k)) (fun k =>
    k.th.setV (vvD k) (writeCodes k (vvFmt k) (fun i => i % 2 ^ fmtBits (vvFmt k)))))

/-- VPERM. -/
def execVperm (c : BitVec 9) (t : BitVec 10) (f : BitVec 48) (s : State) : Host.Outcome State Fault Refusal :=
  .next (s.vecRow c t f (mVd + mVa + mVb + mGov) (fun k => !validFmt (vvFmt k) || isMxFmt (vvFmt k)) (fun k =>
    let code := vvFmt k
    let a := k.th.getV (vvA k)
    let b := k.th.getV (vvB k)
    k.th.setV (vvD k) (writeCodes k code (fun i => elemAt code a (elemAt code b i % fmtCount code)))))

end Sys2Proof.Machine
end

