-- ==== Sys2Proof/Machine/Dispatch.lean ====
section
/-! DEFINITION. Dispatch: one arm per command, each a direct call of its meaning. -/

namespace Sys2Proof.Machine

def exec (i : Instr) (s : State) : Host.Outcome State Fault Refusal :=
  match i with
  | .create p auto rsv h => Sys2Proof.Machine.execCreate p auto rsv h s
  | .grant p auto rsv h => Sys2Proof.Machine.execGrant p auto rsv h s
  | .ungrant p auto rsv h => Sys2Proof.Machine.execUngrant p auto rsv h s
  | .resize p auto rsv h => Sys2Proof.Machine.execResize p auto rsv h s
  | .release p auto rsv h => Sys2Proof.Machine.execRelease p auto rsv h s
  | .seal p auto rsv h => Sys2Proof.Machine.execSeal p auto rsv h s
  | .query p auto rsv h => Sys2Proof.Machine.execQuery p auto rsv h s
  | .mapWindow p auto rsv h => Sys2Proof.Machine.execMapWindow p auto rsv h s
  | .restore p auto rsv h => Sys2Proof.Machine.execRestore p auto rsv h s
  | .revokeAll p auto rsv h => Sys2Proof.Machine.execRevokeAll p auto rsv h s
  | .revocationPoint hub h => Sys2Proof.Machine.execRevocationPoint hub h s
  | .revokingCommandComplete h => Sys2Proof.Machine.execRevokingCommandComplete h s
  | .granuleCleared g => Sys2Proof.Machine.execGranuleCleared g s
  | .publish id => Sys2Proof.Machine.execPublish id s
  | .publishPoint h => Sys2Proof.Machine.execPublishPoint h s
  | .publishComplete h => Sys2Proof.Machine.execPublishComplete h s
  | .bind p rsv => Sys2Proof.Machine.execBind p rsv s
  | .unbind p rsv => Sys2Proof.Machine.execUnbind p rsv s
  | .resetJob p rsv => Sys2Proof.Machine.execResetJob p rsv s
  | .kload p rsv => Sys2Proof.Machine.execKload p rsv s
  | .kloadComplete => Sys2Proof.Machine.execKloadComplete s
  | .kunload p rsv => Sys2Proof.Machine.execKunload p rsv s
  | .kquery p rsv => Sys2Proof.Machine.execKquery p rsv s
  | .substitute p rsv => Sys2Proof.Machine.execSubstitute p rsv s
  | .selftestComplete failed => Sys2Proof.Machine.execSelftestComplete failed s
  | .hardFault c k => Sys2Proof.Machine.execHardFault c k s
  | .heartbeatMissed c => Sys2Proof.Machine.execHeartbeatMissed c s
  | .bindingCheck c => Sys2Proof.Machine.execBindingCheck c s
  | .substitutionComplete bed pass => Sys2Proof.Machine.execSubstitutionComplete bed pass s
  | .purgeComplete c => Sys2Proof.Machine.execPurgeComplete c s
  | .lentPartDone c => Sys2Proof.Machine.execLentPartDone c s
  | .noCellsTimeout id => Sys2Proof.Machine.execNoCellsTimeout id s
  | .contextSwap c out => Sys2Proof.Machine.execContextSwap c out s
  | .add c t imm f => Sys2Proof.Machine.execAdd c t imm f s
  | .sub c t imm f => Sys2Proof.Machine.execSub c t imm f s
  | .mul c t imm f => Sys2Proof.Machine.execMul c t imm f s
  | .mulh c t imm f => Sys2Proof.Machine.execMulh c t imm f s
  | .mulhu c t imm f => Sys2Proof.Machine.execMulhu c t imm f s
  | .div c t imm f => Sys2Proof.Machine.execDiv c t imm f s
  | .divu c t imm f => Sys2Proof.Machine.execDivu c t imm f s
  | .rem c t imm f => Sys2Proof.Machine.execRem c t imm f s
  | .remu c t imm f => Sys2Proof.Machine.execRemu c t imm f s
  | .and c t imm f => Sys2Proof.Machine.execAnd c t imm f s
  | .or c t imm f => Sys2Proof.Machine.execOr c t imm f s
  | .xor c t imm f => Sys2Proof.Machine.execXor c t imm f s
  | .shl c t imm f => Sys2Proof.Machine.execShl c t imm f s
  | .shr c t imm f => Sys2Proof.Machine.execShr c t imm f s
  | .sar c t imm f => Sys2Proof.Machine.execSar c t imm f s
  | .min c t imm f => Sys2Proof.Machine.execMin c t imm f s
  | .max c t imm f => Sys2Proof.Machine.execMax c t imm f s
  | .minu c t imm f => Sys2Proof.Machine.execMinu c t imm f s
  | .maxu c t imm f => Sys2Proof.Machine.execMaxu c t imm f s
  | .slt c t imm f => Sys2Proof.Machine.execSlt c t imm f s
  | .sltu c t imm f => Sys2Proof.Machine.execSltu c t imm f s
  | .seq c t imm f => Sys2Proof.Machine.execSeq c t imm f s
  | .clz c t imm f => Sys2Proof.Machine.execClz c t imm f s
  | .popc c t imm f => Sys2Proof.Machine.execPopc c t imm f s
  | .sel c t imm f => Sys2Proof.Machine.execSel c t imm f s
  | .fadd c t f => Sys2Proof.Machine.execFadd c t f s
  | .fsub c t f => Sys2Proof.Machine.execFsub c t f s
  | .fmul c t f => Sys2Proof.Machine.execFmul c t f s
  | .ffma c t f => Sys2Proof.Machine.execFfma c t f s
  | .fmin c t f => Sys2Proof.Machine.execFmin c t f s
  | .fmax c t f => Sys2Proof.Machine.execFmax c t f s
  | .feq c t f => Sys2Proof.Machine.execFeq c t f s
  | .flt c t f => Sys2Proof.Machine.execFlt c t f s
  | .fle c t f => Sys2Proof.Machine.execFle c t f s
  | .fcvti c t f => Sys2Proof.Machine.execFcvti c t f s
  | .icvtf c t f => Sys2Proof.Machine.execIcvtf c t f s
  | .pcvt c t f => Sys2Proof.Machine.execPcvt c t f s
  | .b c t f => Sys2Proof.Machine.execB c t f s
  | .bl c t f => Sys2Proof.Machine.execBl c t f s
  | .jr c t f => Sys2Proof.Machine.execJr c t f s
  | .jrl c t f => Sys2Proof.Machine.execJrl c t f s
  | .ld8u c t f => Sys2Proof.Machine.execLd8u c t f s
  | .ld16u c t f => Sys2Proof.Machine.execLd16u c t f s
  | .ld32u c t f => Sys2Proof.Machine.execLd32u c t f s
  | .ld64 c t f => Sys2Proof.Machine.execLd64 c t f s
  | .ld8s c t f => Sys2Proof.Machine.execLd8s c t f s
  | .ld16s c t f => Sys2Proof.Machine.execLd16s c t f s
  | .ld32s c t f => Sys2Proof.Machine.execLd32s c t f s
  | .st8 c t f => Sys2Proof.Machine.execSt8 c t f s
  | .st16 c t f => Sys2Proof.Machine.execSt16 c t f s
  | .st32 c t f => Sys2Proof.Machine.execSt32 c t f s
  | .st64 c t f => Sys2Proof.Machine.execSt64 c t f s
  | .vld c t f => Sys2Proof.Machine.execVld c t f s
  | .vst c t f => Sys2Proof.Machine.execVst c t f s
  | .vldp6 c t f => Sys2Proof.Machine.execVldp6 c t f s
  | .vstp6 c t f => Sys2Proof.Machine.execVstp6 c t f s
  | .vgth4 c t f => Sys2Proof.Machine.execVgth4 c t f s
  | .vgth8 c t f => Sys2Proof.Machine.execVgth8 c t f s
  | .vgth16 c t f => Sys2Proof.Machine.execVgth16 c t f s
  | .vgth32 c t f => Sys2Proof.Machine.execVgth32 c t f s
  | .vgth64 c t f => Sys2Proof.Machine.execVgth64 c t f s
  | .vgth128 c t f => Sys2Proof.Machine.execVgth128 c t f s
  | .vgth256 c t f => Sys2Proof.Machine.execVgth256 c t f s
  | .vsct4 c t f => Sys2Proof.Machine.execVsct4 c t f s
  | .vsct8 c t f => Sys2Proof.Machine.execVsct8 c t f s
  | .vsct16 c t f => Sys2Proof.Machine.execVsct16 c t f s
  | .vsct32 c t f => Sys2Proof.Machine.execVsct32 c t f s
  | .vsct64 c t f => Sys2Proof.Machine.execVsct64 c t f s
  | .vsct128 c t f => Sys2Proof.Machine.execVsct128 c t f s
  | .vsct256 c t f => Sys2Proof.Machine.execVsct256 c t f s
  | .atomicAdd c t wide f => Sys2Proof.Machine.execAtomicAdd c t wide f s
  | .atomicFadd c t wide f => Sys2Proof.Machine.execAtomicFadd c t wide f s
  | .atomicMin c t wide f => Sys2Proof.Machine.execAtomicMin c t wide f s
  | .atomicMinu c t wide f => Sys2Proof.Machine.execAtomicMinu c t wide f s
  | .atomicMax c t wide f => Sys2Proof.Machine.execAtomicMax c t wide f s
  | .atomicMaxu c t wide f => Sys2Proof.Machine.execAtomicMaxu c t wide f s
  | .atomicAnd c t wide f => Sys2Proof.Machine.execAtomicAnd c t wide f s
  | .atomicOr c t wide f => Sys2Proof.Machine.execAtomicOr c t wide f s
  | .atomicXor c t wide f => Sys2Proof.Machine.execAtomicXor c t wide f s
  | .atomicSwap c t wide f => Sys2Proof.Machine.execAtomicSwap c t wide f s
  | .atomicCas c t wide f => Sys2Proof.Machine.execAtomicCas c t wide f s
  | .fwset c t f => Sys2Proof.Machine.execFwset c t f s
  | .fwget c t f => Sys2Proof.Machine.execFwget c t f s
  | .fwput c t f => Sys2Proof.Machine.execFwput c t f s
  | .fwwait c t f => Sys2Proof.Machine.execFwwait c t f s
  | .fwclr c t f => Sys2Proof.Machine.execFwclr c t f s
  | .furrowTileDone c t fur copy tile => Sys2Proof.Machine.execFurrowTileDone c t fur copy tile s
  | .vadd c t f => Sys2Proof.Machine.execVadd c t f s
  | .vsub c t f => Sys2Proof.Machine.execVsub c t f s
  | .vmul c t f => Sys2Proof.Machine.execVmul c t f s
  | .vfma c t f => Sys2Proof.Machine.execVfma c t f s
  | .vmin c t f => Sys2Proof.Machine.execVmin c t f s
  | .vmax c t f => Sys2Proof.Machine.execVmax c t f s
  | .vabs c t f => Sys2Proof.Machine.execVabs c t f s
  | .vneg c t f => Sys2Proof.Machine.execVneg c t f s
  | .vand c t f => Sys2Proof.Machine.execVand c t f s
  | .vor c t f => Sys2Proof.Machine.execVor c t f s
  | .vxor c t f => Sys2Proof.Machine.execVxor c t f s
  | .vshl c t f => Sys2Proof.Machine.execVshl c t f s
  | .vshr c t f => Sys2Proof.Machine.execVshr c t f s
  | .vsar c t f => Sys2Proof.Machine.execVsar c t f s
  | .vceq c t f => Sys2Proof.Machine.execVceq c t f s
  | .vcne c t f => Sys2Proof.Machine.execVcne c t f s
  | .vclt c t f => Sys2Proof.Machine.execVclt c t f s
  | .vcle c t f => Sys2Proof.Machine.execVcle c t f s
  | .vcgt c t f => Sys2Proof.Machine.execVcgt c t f s
  | .vcge c t f => Sys2Proof.Machine.execVcge c t f s
  | .vcltu c t f => Sys2Proof.Machine.execVcltu c t f s
  | .vcgeu c t f => Sys2Proof.Machine.execVcgeu c t f s
  | .vcun c t f => Sys2Proof.Machine.execVcun c t f s
  | .vcvt c t f => Sys2Proof.Machine.execVcvt c t f s
  | .exp2 c t f => Sys2Proof.Machine.execExp2 c t f s
  | .log2 c t f => Sys2Proof.Machine.execLog2 c t f s
  | .rcp c t f => Sys2Proof.Machine.execRcp c t f s
  | .rsqrt c t f => Sys2Proof.Machine.execRsqrt c t f s
  | .exp2F c t f => Sys2Proof.Machine.execExp2F c t f s
  | .vrmax c t f => Sys2Proof.Machine.execVrmax c t f s
  | .vrmin c t f => Sys2Proof.Machine.execVrmin c t f s
  | .vrmaxi c t f => Sys2Proof.Machine.execVrmaxi c t f s
  | .mand c t f => Sys2Proof.Machine.execMand c t f s
  | .mor c t f => Sys2Proof.Machine.execMor c t f s
  | .mxor c t f => Sys2Proof.Machine.execMxor c t f s
  | .mandn c t f => Sys2Proof.Machine.execMandn c t f s
  | .mnot c t f => Sys2Proof.Machine.execMnot c t f s
  | .mset c t f => Sys2Proof.Machine.execMset c t f s
  | .mpop c t f => Sys2Proof.Machine.execMpop c t f s
  | .mfirst c t f => Sys2Proof.Machine.execMfirst c t f s
  | .mfroms c t f => Sys2Proof.Machine.execMfroms c t f s
  | .mtos c t f => Sys2Proof.Machine.execMtos c t f s
  | .mrange c t f => Sys2Proof.Machine.execMrange c t f s
  | .vmov c t f => Sys2Proof.Machine.execVmov c t f s
  | .vbcast c t f => Sys2Proof.Machine.execVbcast c t f s
  | .vext c t f => Sys2Proof.Machine.execVext c t f s
  | .vins c t f => Sys2Proof.Machine.execVins c t f s
  | .viota c t f => Sys2Proof.Machine.execViota c t f s
  | .vperm c t f => Sys2Proof.Machine.execVperm c t f s
  | .vdot c t f => Sys2Proof.Machine.execVdot c t f s
  | .vdots c t f => Sys2Proof.Machine.execVdots c t f s
  | .vaxpy c t f => Sys2Proof.Machine.execVaxpy c t f s
  | .accadds c t f => Sys2Proof.Machine.execAccadds c t f s
  | .accacc c t f => Sys2Proof.Machine.execAccacc c t f s
  | .accneg c t f => Sys2Proof.Machine.execAccneg c t f s
  | .accclr c t f => Sys2Proof.Machine.execAccclr c t f s
  | .accclrg c t f => Sys2Proof.Machine.execAccclrg c t f s
  | .accrnd c t f => Sys2Proof.Machine.execAccrnd c t f s
  | .accrndv c t f => Sys2Proof.Machine.execAccrndv c t f s
  | .accld c t f => Sys2Proof.Machine.execAccld c t f s
  | .accst c t f => Sys2Proof.Machine.execAccst c t f s
  | .accalloc c t f => Sys2Proof.Machine.execAccalloc c t f s
  | .accfree c t f => Sys2Proof.Machine.execAccfree c t f s
  | .nop c t f => Sys2Proof.Machine.execNop c t f s
  | .barg c t f => Sys2Proof.Machine.execBarg c t f s
  | .barj c t f => Sys2Proof.Machine.execBarj c t f s
  | .fence c t f => Sys2Proof.Machine.execFence c t f s
  | .notify c t f => Sys2Proof.Machine.execNotify c t f s
  | .notifyw c t f => Sys2Proof.Machine.execNotifyw c t f s
  | .rdid c t f => Sys2Proof.Machine.execRdid c t f s
  | .rdcyc c t f => Sys2Proof.Machine.execRdcyc c t f s
  | .rdtime c t f => Sys2Proof.Machine.execRdtime c t f s
  | .trap c t f => Sys2Proof.Machine.execTrap c t f s
  | .exit c t f => Sys2Proof.Machine.execExit c t f s
  | .flags c t f => Sys2Proof.Machine.execFlags c t f s
  | .fill id => Sys2Proof.Machine.execFill id s
  | .copy id => Sys2Proof.Machine.execCopy id s
  | .compare id => Sys2Proof.Machine.execCompare id s
  | .reduce id => Sys2Proof.Machine.execReduce id s
  | .hash id => Sys2Proof.Machine.execHash id s
  | .gatherPool id => Sys2Proof.Machine.execGatherPool id s
  | .attend id => Sys2Proof.Machine.execAttend id s
  | .attendSecondPhase id => Sys2Proof.Machine.execAttendSecondPhase id s
  | .collect id => Sys2Proof.Machine.execCollect id s
  | .collectReduce slot => Sys2Proof.Machine.execCollectReduce slot s
  | .collectTimeout slot => Sys2Proof.Machine.execCollectTimeout slot s
  | .remoteCopy id => Sys2Proof.Machine.execRemoteCopy id s
  | .kernel id => Sys2Proof.Machine.execKernel id s
  | .kernelTimeout id => Sys2Proof.Machine.execKernelTimeout id s
  | .returnPages id => Sys2Proof.Machine.execReturnPages id s
  | .returnPageConfirmed id => Sys2Proof.Machine.execReturnPageConfirmed id s
  | .journalMark id => Sys2Proof.Machine.execJournalMark id s
  | .completionPost id => Sys2Proof.Machine.execCompletionPost id s
  | .sqCreate p rsv => Sys2Proof.Machine.execSqCreate p rsv s
  | .cqCreate p rsv => Sys2Proof.Machine.execCqCreate p rsv s
  | .sqDelete p rsv => Sys2Proof.Machine.execSqDelete p rsv s
  | .sqDeleteComplete q => Sys2Proof.Machine.execSqDeleteComplete q s
  | .cqDelete p rsv => Sys2Proof.Machine.execCqDelete p rsv s
  | .tenantSet p rsv => Sys2Proof.Machine.execTenantSet p rsv s
  | .tenantQuery p rsv => Sys2Proof.Machine.execTenantQuery p rsv s
  | .sqQuery p rsv => Sys2Proof.Machine.execSqQuery p rsv s
  | .doorbell ch => Sys2Proof.Machine.execDoorbell ch s
  | .descriptorFetch q => Sys2Proof.Machine.execDescriptorFetch q s
  | .tokenAccrual => Sys2Proof.Machine.execTokenAccrual s
  | .dispatchOne => Sys2Proof.Machine.execDispatchOne s
  | .calendarRelease t => Sys2Proof.Machine.execCalendarRelease t s
  | .calendarRevolution => Sys2Proof.Machine.execCalendarRevolution s
  | .selfRefreshEntry st => Sys2Proof.Machine.execSelfRefreshEntry st s
  | .selfRefreshExitDone st => Sys2Proof.Machine.execSelfRefreshExitDone st s
  | .mergeDrain bed => Sys2Proof.Machine.execMergeDrain bed s
  | .actTableReset st => Sys2Proof.Machine.execActTableReset st s
  | .stackTraining res => Sys2Proof.Machine.execStackTraining res s
  | .recalibration st pc => Sys2Proof.Machine.execRecalibration st pc s
  | .repairLogFlush => Sys2Proof.Machine.execRepairLogFlush s
  | .pcCopyChunk bed => Sys2Proof.Machine.execPcCopyChunk bed s
  | .pcCopyDone bed => Sys2Proof.Machine.execPcCopyDone bed s
  | .pcCeDecay st => Sys2Proof.Machine.execPcCeDecay st s
  | .scrubPassStart bed => Sys2Proof.Machine.execScrubPassStart bed s
  | .hoeScrub bed sym => Sys2Proof.Machine.execHoeScrub bed sym s
  | .hoeRekey bed late => Sys2Proof.Machine.execHoeRekey bed late s
  | .hoeLazyZero bed => Sys2Proof.Machine.execHoeLazyZero bed s
  | .d2dRetry bed repair => Sys2Proof.Machine.execD2dRetry bed repair s
  | .bedLinkLost bed => Sys2Proof.Machine.execBedLinkLost bed s
  | .format p => Sys2Proof.Machine.execFormat p s
  | .cacheSize p v => Sys2Proof.Machine.execCacheSize p v s
  | .driveFail d => Sys2Proof.Machine.execDriveFail d s
  | .tierFillComplete tb => Sys2Proof.Machine.execTierFillComplete tb s
  | .keepTimeExpiry tb => Sys2Proof.Machine.execKeepTimeExpiry tb s
  | .tierWriteback => Sys2Proof.Machine.execTierWriteback s
  | .writebackAck tb => Sys2Proof.Machine.execWritebackAck tb s
  | .tagPageWrite => Sys2Proof.Machine.execTagPageWrite s
  | .pwrFailN ev => Sys2Proof.Machine.execPwrFailN ev s
  | .flushDeadline => Sys2Proof.Machine.execFlushDeadline s
  | .idle l fl => Sys2Proof.Machine.execIdle l fl s
  | .data l fl => Sys2Proof.Machine.execData l fl s
  | .nak l fl => Sys2Proof.Machine.execNak l fl s
  | .train l fl rtt => Sys2Proof.Machine.execTrain l fl rtt s
  | .sleep l fl => Sys2Proof.Machine.execSleep l fl s
  | .ackTimeout l => Sys2Proof.Machine.execAckTimeout l s
  | .noflitTimeout l => Sys2Proof.Machine.execNoflitTimeout l s
  | .lockLoss die n => Sys2Proof.Machine.execLockLoss die n s
  | .markerSet l m => Sys2Proof.Machine.execMarkerSet l m s
  | .serWindow die n ratio => Sys2Proof.Machine.execSerWindow die n ratio s
  | .substTimeout l => Sys2Proof.Machine.execSubstTimeout l s
  | .txSleep l => Sys2Proof.Machine.execTxSleep l s
  | .txWake l => Sys2Proof.Machine.execTxWake l s
  | .wakeTimeout l => Sys2Proof.Machine.execWakeTimeout l s
  | .retrainStart l => Sys2Proof.Machine.execRetrainStart l s
  | .blockLock die n => Sys2Proof.Machine.execBlockLock die n s
  | .subst p l lane => Sys2Proof.Machine.execSubst p l lane s
  | .retrain p l => Sys2Proof.Machine.execRetrain p l s
  | .injCrc p l => Sys2Proof.Machine.execInjCrc p l s
  | .portCfg p l v => Sys2Proof.Machine.execPortCfg p l v s
  | .read l pkt se => Sys2Proof.Machine.execRead l pkt se s
  | .write l pkt => Sys2Proof.Machine.execWrite l pkt s
  | .atomic l pkt => Sys2Proof.Machine.execAtomic l pkt s
  | .chanWrite l pkt => Sys2Proof.Machine.execChanWrite l pkt s
  | .readRsp l pkt => Sys2Proof.Machine.execReadRsp l pkt s
  | .writeRsp l pkt => Sys2Proof.Machine.execWriteRsp l pkt s
  | .ready l pkt => Sys2Proof.Machine.execReady l pkt s
  | .transit l pkt => Sys2Proof.Machine.execTransit l pkt s
  | .fenceTimeout l => Sys2Proof.Machine.execFenceTimeout l s
  | .transitAge l => Sys2Proof.Machine.execTransitAge l s
  | .dutyDefer rq => Sys2Proof.Machine.execDutyDefer rq s
  | .reqTmo tag => Sys2Proof.Machine.execReqTmo tag s
  | .probe l pkt => Sys2Proof.Machine.execProbe l pkt s
  | .cmapRead l pkt => Sys2Proof.Machine.execCmapRead l pkt s
  | .cmapSnap p v => Sys2Proof.Machine.execCmapSnap p v s
  | .rdS l pkt => Sys2Proof.Machine.execRdS l pkt s
  | .rdE l pkt => Sys2Proof.Machine.execRdE l pkt s
  | .upgrade l pkt => Sys2Proof.Machine.execUpgrade l pkt s
  | .evictClean l pkt => Sys2Proof.Machine.execEvictClean l pkt s
  | .writeback l pkt => Sys2Proof.Machine.execWriteback l pkt s
  | .invAck l pkt => Sys2Proof.Machine.execInvAck l pkt s
  | .recallRsp l pkt => Sys2Proof.Machine.execRecallRsp l pkt s
  | .regionSetAck bed region => Sys2Proof.Machine.execRegionSetAck bed region s
  | .holdEnd line => Sys2Proof.Machine.execHoldEnd line s
  | .recallTimeout tag => Sys2Proof.Machine.execRecallTimeout tag s
  | .predClear p => Sys2Proof.Machine.execPredClear p s
  | .translationFill src job tva need => Sys2Proof.Machine.execTranslationFill src job tva need s
  | .migrationComplete fid => Sys2Proof.Machine.execMigrationComplete fid s
  | .migrationTimeout fid => Sys2Proof.Machine.execMigrationTimeout fid s
  | .faultTimeout fid => Sys2Proof.Machine.execFaultTimeout fid s
  | .shootdownPoint sd => Sys2Proof.Machine.execShootdownPoint sd s
  | .drainLimit sd => Sys2Proof.Machine.execDrainLimit sd s
  | .shootdownComplete sd => Sys2Proof.Machine.execShootdownComplete sd s
  | .map p rsv => Sys2Proof.Machine.execMap p rsv s
  | .unmap p rsv => Sys2Proof.Machine.execUnmap p rsv s
  | .setRemote p rsv => Sys2Proof.Machine.execSetRemote p rsv s
  | .resolve p rsv => Sys2Proof.Machine.execResolve p rsv s
  | .fqSet p rsv => Sys2Proof.Machine.execFqSet p rsv s
  | .xltQuery p rsv => Sys2Proof.Machine.execXltQuery p rsv s
  | .tenantCreate => Sys2Proof.Machine.execTenantCreate s
  | .tenantRemove => Sys2Proof.Machine.execTenantRemove s
  | .tenantRemoveDrained t => Sys2Proof.Machine.execTenantRemoveDrained t s
  | .keyInstall => Sys2Proof.Machine.execKeyInstall s
  | .keyWrapRelease => Sys2Proof.Machine.execKeyWrapRelease s
  | .keyRotateJob => Sys2Proof.Machine.execKeyRotateJob s
  | .keyRotatePlot => Sys2Proof.Machine.execKeyRotatePlot s
  | .rekeyDone h => Sys2Proof.Machine.execRekeyDone h s
  | .rotGraceExpiry job => Sys2Proof.Machine.execRotGraceExpiry job s
  | .keyLifetimeExpiry job => Sys2Proof.Machine.execKeyLifetimeExpiry job s
  | .transportKeyExpiry kid => Sys2Proof.Machine.execTransportKeyExpiry kid s
  | .attestReport => Sys2Proof.Machine.execAttestReport s
  | .allowNew p rsv => Sys2Proof.Machine.execAllowNew p rsv s
  | .allowAdd p rsv => Sys2Proof.Machine.execAllowAdd p rsv s
  | .allowFreeze p rsv => Sys2Proof.Machine.execAllowFreeze p rsv s
  | .allowFree p rsv => Sys2Proof.Machine.execAllowFree p rsv s
  | .allowQuery p rsv => Sys2Proof.Machine.execAllowQuery p rsv s
  | .keyQuery p rsv => Sys2Proof.Machine.execKeyQuery p rsv s
  | .slotQuery p rsv => Sys2Proof.Machine.execSlotQuery p rsv s
  | .lock p twin => Sys2Proof.Machine.execLock p twin s
  | .getVersion conn rq => Sys2Proof.Machine.execGetVersion conn rq s
  | .getCapabilities conn rq => Sys2Proof.Machine.execGetCapabilities conn rq s
  | .negotiateAlgorithms conn rq => Sys2Proof.Machine.execNegotiateAlgorithms conn rq s
  | .getDigests conn rq => Sys2Proof.Machine.execGetDigests conn rq s
  | .getCertificate conn rq => Sys2Proof.Machine.execGetCertificate conn rq s
  | .challenge conn rq => Sys2Proof.Machine.execChallenge conn rq s
  | .getMeasurements conn rq => Sys2Proof.Machine.execGetMeasurements conn rq s
  | .jnlOpen p rsv => Sys2Proof.Machine.execJnlOpen p rsv s
  | .jnlClose p rsv => Sys2Proof.Machine.execJnlClose p rsv s
  | .jnlQuery p rsv => Sys2Proof.Machine.execJnlQuery p rsv s
  | .recordStage id => Sys2Proof.Machine.execRecordStage id s
  | .recordCommit t ok => Sys2Proof.Machine.execRecordCommit t ok s
  | .checkpointTimer t => Sys2Proof.Machine.execCheckpointTimer t s
  | .journalSignNow => Sys2Proof.Machine.execJournalSignNow s
  | .journalExport => Sys2Proof.Machine.execJournalExport s
  | .ccFault k => Sys2Proof.Machine.execCcFault k s
  | .takeoverResumed us => Sys2Proof.Machine.execTakeoverResumed us s
  | .watchdogReset => Sys2Proof.Machine.execWatchdogReset s
  | .coreSelftest pass => Sys2Proof.Machine.execCoreSelftest pass s
  | .scheduledSwap us => Sys2Proof.Machine.execScheduledSwap us s
  | .roleSwap us => Sys2Proof.Machine.execRoleSwap us s
  | .standbyReady pass => Sys2Proof.Machine.execStandbyReady pass s
  | .fwStage => Sys2Proof.Machine.execFwStage s
  | .fwActivate us => Sys2Proof.Machine.execFwActivate us s
  | .spareInvokeCell => Sys2Proof.Machine.execSpareInvokeCell s
  | .spareInvokePc => Sys2Proof.Machine.execSpareInvokePc s
  | .spareInvokeRow => Sys2Proof.Machine.execSpareInvokeRow s
  | .spareInvokeLane => Sys2Proof.Machine.execSpareInvokeLane s
  | .hororeWordTimeout => Sys2Proof.Machine.execHororeWordTimeout s
  | .hqTx p w => Sys2Proof.Machine.execHqTx p w s
  | .hqRx p => Sys2Proof.Machine.execHqRx p s
  | .channelWordWrite p ch w => Sys2Proof.Machine.execChannelWordWrite p ch w s
  | .channelWordRead p ch => Sys2Proof.Machine.execChannelWordRead p ch s
  | .chCfg p v => Sys2Proof.Machine.execChCfg p v s
  | .bar4Access off len wr => Sys2Proof.Machine.execBar4Access off len wr s
  | .functionLevelReset => Sys2Proof.Machine.execFunctionLevelReset s
  | .upstreamLinkDown => Sys2Proof.Machine.execUpstreamLinkDown s
  | .entdaa a => Sys2Proof.Machine.execEntdaa a s
  | .setdasa st a => Sys2Proof.Machine.execSetdasa st a s
  | .i3cPrivateWrite addr v => Sys2Proof.Machine.execI3cPrivateWrite addr v s
  | .i3cPrivateRead addr => Sys2Proof.Machine.execI3cPrivateRead addr s
  | .recover p cc => Sys2Proof.Machine.execRecover p cc s
  | .firmwareBootLoad cc0Ok cc1Ok => Sys2Proof.Machine.execFirmwareBootLoad cc0Ok cc1Ok s
  | .platformReset cause detail => Sys2Proof.Machine.execPlatformReset cause detail s
  | .internalResetRelease bootSrc clkMode dlySel => Sys2Proof.Machine.execInternalResetRelease bootSrc clkMode dlySel s
  | .platRstInN ev => Sys2Proof.Machine.execPlatRstInN ev s
  | .perst asserted => Sys2Proof.Machine.execPerst asserted s
  | .platRst p twin => Sys2Proof.Machine.execPlatRst p twin s
  | .xtalCheckWindow count => Sys2Proof.Machine.execXtalCheckWindow count s
  | .xtalFail => Sys2Proof.Machine.execXtalFail s
  | .forerunnerDelayExpiry => Sys2Proof.Machine.execForerunnerDelayExpiry s
  | .rootPllLock => Sys2Proof.Machine.execRootPllLock s
  | .clockLost => Sys2Proof.Machine.execClockLost s
  | .rampStep k => Sys2Proof.Machine.execRampStep k s
  | .enterPs1 p => Sys2Proof.Machine.execEnterPs1 p s
  | .enterPs2 p => Sys2Proof.Machine.execEnterPs2 p s
  | .enterPs3 p => Sys2Proof.Machine.execEnterPs3 p s
  | .returnPs0 p => Sys2Proof.Machine.execReturnPs0 p s
  | .ps2EntryComplete dur => Sys2Proof.Machine.execPs2EntryComplete dur s
  | .ps2ExitComplete dur => Sys2Proof.Machine.execPs2ExitComplete dur s
  | .ps3EntryComplete => Sys2Proof.Machine.execPs3EntryComplete s
  | .wakeN ev => Sys2Proof.Machine.execWakeN ev s
  | .wakeMaskRelease => Sys2Proof.Machine.execWakeMaskRelease s
  | .thermAlertN ev => Sys2Proof.Machine.execThermAlertN ev s
  | .thermHoldEnd => Sys2Proof.Machine.execThermHoldEnd s
  | .throttleStep logic stack => Sys2Proof.Machine.execThrottleStep logic stack s
  | .thermalTrip sensor => Sys2Proof.Machine.execThermalTrip sensor s
  | .dvfs p v => Sys2Proof.Machine.execDvfs p v s
  | .pmbusPoll hub bed watts fault => Sys2Proof.Machine.execPmbusPoll hub bed watts fault s
  | .stkPgFall => Sys2Proof.Machine.execStkPgFall s
  | .srst p page => Sys2Proof.Machine.execSrst p page s
  | .criticalWrite p off v => Sys2Proof.Machine.execCriticalWrite p off v s
  | .twinWrite p off v => Sys2Proof.Machine.execTwinWrite p off v s
  | .pairCommit p off v => Sys2Proof.Machine.execPairCommit p off v s
  | .latchingRead p off => Sys2Proof.Machine.execLatchingRead p off s
  | .readClear p off => Sys2Proof.Machine.execReadClear p off s
  | .irqStatusWrite p page v => Sys2Proof.Machine.execIrqStatusWrite p page v s
  | .irqEnableWrite p page v => Sys2Proof.Machine.execIrqEnableWrite p page v s
  | .irqForce p page v => Sys2Proof.Machine.execIrqForce p page v s
  | .registerWrite p off size v => Sys2Proof.Machine.execRegisterWrite p off size v s
  | .standbyFault k => Sys2Proof.Machine.execStandbyFault k s
  | .partnerSignalDetect l => Sys2Proof.Machine.execPartnerSignalDetect l s
  | .lanePowerGood die => Sys2Proof.Machine.execLanePowerGood die s
  | .tierRekeyBlock h => Sys2Proof.Machine.execTierRekeyBlock h s
  | .deallocateComplete slot => Sys2Proof.Machine.execDeallocateComplete slot s
  | .driveCommandTimeout d => Sys2Proof.Machine.execDriveCommandTimeout d s
  | .stagingTimeout id => Sys2Proof.Machine.execStagingTimeout id s
  | .pwrFailNRelease => Sys2Proof.Machine.execPwrFailNRelease s
  | .vbatLow => Sys2Proof.Machine.execVbatLow s
  | .stkPgRise late => Sys2Proof.Machine.execStkPgRise late s
  | .stackHot st temp => Sys2Proof.Machine.execStackHot st temp s

end Sys2Proof.Machine
end

