-- ==== Sys2Proof/Machine/Resume.lean ====
section
/-! DEFINITION. What the device takes up again by itself once the snoops it waited for have been answered: fault records, the
clearing of rings, the scan of an OPEN, pages that arrive and accesses of the BAR4 window. -/

namespace Sys2Proof.Machine

/-- An FQ_SET or a CQ_CREATE that waits for the lines of its ring is tried again (R344, R191). -/
def State.ringsAgain (s : State) : State :=
  let s1 := match Tab.find? s.wait pgXLT with
    | some w => if w.op == 5 then ({ s with wait := Tab.del s.wait pgXLT }).xltFqSet 0 else s
    | none => s
  match Tab.find? s1.wait pgCQE with
  | some w => if w.op == 2 then ({ s1 with wait := Tab.del s1.wait pgCQE }).cqeCqCreate 0 else s1
  | none => s1

/-- Data of READs that wait for the lines of their page (R343). -/
def State.ownWaiting (s : State) : State :=
  (s.own.filter (fun o => !o.write && !o.data.isEmpty)).foldl (fun s o => (s.ownData o o.data).ownNext o.kind) s

/-- What waited is taken up again. -/
def State.resume (s : State) : State :=
  s.postDue.ringsAgain.jnlAgain.ownWaiting.bar4Resume

end Sys2Proof.Machine
end

