-- ==== Sys2Proof/Machine/Tick.lean ====
section
/-! DEFINITION. The passing of time while no command waits (R421, R424, Table 04-14). -/

namespace Sys2Proof.Machine

/-- Cycles of ACLK in the first `n` ns at a divider of the 12 GHz root clock; on the 50 MHz oscillator at divider 0. -/
def aclkCycles (div n : Nat) : Nat := if div == 0 then n / 20 else 12 * n / div

/-- One nanosecond passes, and what waited for snoops is taken up again (DESIGN CHOICE, log entry 1). -/
def tick (s : State) : State :=
  let s1 := s.resume
  { s1 with time := s1.time + 1,
            cycles := s1.cycles + (aclkCycles s1.aclk.div (s1.time + 1) - aclkCycles s1.aclk.div s1.time) }

end Sys2Proof.Machine
end

