-- ==== Sys2Proof/Safety.lean ====
section
/-! DEFINITION. Safety: the terms that claims are stated in. A step that goes on; a thread that can issue and the state in
which its instruction has retired; the operand fields of an instruction word as Table 04-3 gives them. -/

namespace Sys2Proof

open Machine

/-- A thread goes on at PC + 8. -/
def Thread.stepped (t : Thread) : Thread := { t with pc := t.pc + 8, run := .ready }

end Sys2Proof

namespace Sys2Proof.Machine

/-- A step that goes on. -/
def Continues (s : State) : Prop := ∃ t, step s = .next t

/-! ### Memory -/

/-- The one canonical form of a memory: its listed bytes stand in rising order of their places, and none is the zero that an
unlisted place reads as. -/
def Memory.wf (l : List Host.Cell) : Bool := Tab.sorted l && l.all (fun a => decide (a.2 ≠ 0))

/-! ### Cells -/

/-- Thread t of cell c, which holds `th`, can issue: the device runs, the cell is bound or lent and its binding word agrees
with its complement, the thread waits for nothing, and its program counter lies in its kernel image (R58, R75, R76, R100). -/
def State.canRun (s : State) (c : BitVec 9) (t : BitVec 10) (th : Thread) : Bool :=
  let x := s.cell c.toNat
  s.cellRuns x && decide (x.thread? t.toNat = some th) && th.canIssue && !pastImage (s.imageLen x) th.pc.toNat

/-- The state with thread t of cell c replaced, and nothing else changed. -/
def State.withThread (s : State) (c : BitVec 9) (t : BitVec 10) (y : Thread) : State :=
  s.setCell c.toNat ((s.cell c.toNat).setThread t.toNat y)

/-- The state in which an instruction that only changes its thread has retired: the thread is `y` at PC + 8, and no other
thread, cell, register, byte of memory or other state has changed. -/
def State.retire (s : State) (c : BitVec 9) (t : BitVec 10) (y : Thread) : State := s.withThread c t y.stepped

/-- The state after a trap of thread t of cell c (R134, R135). -/
def State.trapped (s : State) (c : BitVec 9) (t : BitVec 10) (cause detail : Nat) (addr : W64) : State :=
  s.trapAll [{ cell := c.toNat, thread := t.toNat, cause := cause, detail := detail, addr := addr }]

/-- A field of an instruction word: `n` bits from bit `lo` of the operand fields. -/
def opField (f : BitVec 48) (lo n : Nat) : Nat := (f.extractLsb' lo n).toNat

/-- A field of a 64-bit word: `n` bits from bit `lo`. -/
def opField64 (w : W64) (lo n : Nat) : Nat := (w.extractLsb' lo n).toNat

/-- The context in which thread t of cell c, as `th`, runs the instruction with operand fields f. -/
def State.ctx (s : State) (c : BitVec 9) (t : BitVec 10) (th : Thread) (f : BitVec 48) : Ctx :=
  { c := c.toNat, t := t.toNat, x := s.cell c.toNat, th := th, f := f.toNat }

/-- Fields of an instruction word that are all zero, as (lowest bit, bits). -/
def zeroFields (f : BitVec 48) (l : List (Nat × Nat)) : Bool := l.all (fun p => opField f p.1 p.2 == 0)

/-- The byte of a scratchpad at an address. -/
def scratchByte (x : Cell) (a : Nat) : Byte := Tab.get 0 x.scratch a

/-- The bytes that a thread of cell c reads from ranges of addresses, with the state after the reading: from the scratchpad where
SP is 1 and every range lies below the declared size, or from the pool where every part is mapped, readable and at hand. -/
def State.fetched (s : State) (c : BitVec 9) (t : BitVec 10) (f : BitVec 48) (l : List (Nat × Nat)) : Option (Bytes × State) :=
  let x := s.cell c.toNat
  if f.getLsbD 29 then
    if l.all (fun r => r.1 + r.2 ≤ scratchSize x) then
      some (l.flatMap (fun r => scratchRead x r.1 r.2), l.foldl (fun s r => s.scratchCount c.toNat r.1 r.2) s)
    else none
  else
    match s.cellReq c.toNat none with
    | none => none
    | some q =>
      match s.poolRead q (.cell c.toNat t.toNat) (f.getLsbD 26) l with
      | (.ok d, s1) => some (d, s1)
      | (.error _, _) => none

/-- The state after a thread of cell c has stored bytes at addresses: in the scratchpad, where every byte lies below the declared
size, or in the pool, where every part is mapped, writable and at hand. -/
def State.stored (s : State) (c : BitVec 9) (t : BitVec 10) (f : BitVec 48) (l : List (Nat × Bytes)) : Option State :=
  let x := s.cell c.toNat
  if f.getLsbD 29 then
    if l.all (fun r => r.1 + r.2.length ≤ scratchSize x) then
      some (l.foldl (fun s r => s.scratchWrite c.toNat r.1 r.2) s)
    else none
  else
    match s.cellReq c.toNat none with
    | none => none
    | some q =>
      match s.poolWrite q (.cell c.toNat t.toNat) (f.getLsbD 26) l with
      | (none, s1) => some s1
      | (some _, _) => none

/-- ORD, PH, AH, ME and Mk of a load or store are legal (Table 04-3, R109). -/
def memLegal (f : BitVec 48) (store : Bool) : Bool :=
  (opField f 27 2 == 0 || opField f 27 2 == (if store then 2 else 1)) && opField f 24 2 == 0 &&
    (!f.getLsbD 29 || !f.getLsbD 26) && (f.getLsbD 33 || opField f 30 3 == 0)

/-- The effective address of a load or store: Sb plus the sign-extended OFS (R109). -/
def effAddr (th : Thread) (f : BitVec 48) : W64 := th.getS (opField f 43 5) + (f.extractLsb' 0 24).signExtend 64

/-- Bit i of the governing mask of a memory access; every bit where ME is 0 (R103). -/
def memMask (th : Thread) (f : BitVec 48) (i : Nat) : Bool := !f.getLsbD 33 || (th.getM (opField f 30 3)).getLsbD i

/-- Mk and MZ of a vector instruction are zero where ME is 0 (Table 04-3). -/
def vvGovOk (f : BitVec 48) : Bool := f.getLsbD 31 || (opField f 28 3 == 0 && !f.getLsbD 27)

/-- Whether element i of a format is active under ME and Mk of a vector instruction: two elements to the bit for 4-bit formats
(R103). -/
def vvActiveAt (th : Thread) (f : BitVec 48) (code i : Nat) : Bool :=
  !f.getLsbD 31 || (th.getM (opField f 28 3)).getLsbD (if fmtBits code == 4 then i / 2 else i)

/-- What an instruction with an MX destination makes of one block, as scale and codes: an active block is quantised from the values
of its active elements, an inactive one is kept, or cleared where MZ is 1 (R103, R120, R158). -/
def mxBlockAfter (code rm : Nat) (sat mz : Bool) (act : Nat → Bool) (val : Nat → Val) (old : Nat × List Nat) : Nat × List Nat :=
  if act 0 then
    let q := mxQuantise code rm sat ((List.range 32).map (fun j => if act j then some (val j) else none))
    (q.1, q.2.1)
  else if mz then (0x7F, List.replicate 32 0) else old

/-- A block of a register with its scales, as scale and codes. -/
def mxBlockOf (code : Nat) (v : BitVec 2048) (sc blk : Nat) : Nat × List Nat :=
  (fieldOf sc (8 * blk) 8, (List.range 32).map (fun j => elemAt code v (32 * blk + j)))

/-! ### Register pages -/

/-- The offset of a page's CMD register. -/
def cmdOff (pg : Nat) : Nat := if pg == pgSEC then 0x054 else 0x040

/-- A write of a register of a page is served on a path: the page runs, and firmware may write it (R374, R422, Table 17-4). -/
def State.served (s : State) (p : Path) (pg off : Nat) : Bool :=
  s.gating p pg off == .serve && (p != .fw || s.fwMay (pageType pg))

/-- A page takes a command on a path: the write of CMD is served and no command is in progress. -/
def State.takes (s : State) (p : Path) (pg : Nat) : Bool := s.served p pg (cmdOff pg) && !s.busy pg

/-- The state with a command of a page in progress. -/
def State.started (s : State) (pg : Nat) : State := s.setFld pg (cmdStatusOff pg) 0 1 1

/-- A page shows that its command has completed with a status: BUSY is 0, STATUS holds it, CMD_DONE is set. -/
def Answered (u : State) (pg status : Nat) : Prop :=
  u.busy pg = false ∧ u.fld pg (cmdStatusOff pg) 8 8 = status ∧ u.bit pg oIRQS 0 = true

/-- A PLM command has completed on a handle with OPS_ABORTED, LINES_LOST and DRAIN_TIME at zero. -/
def PlmAnswered (u : State) (status : Nat) (h : BitVec 16) : Prop :=
  Answered u pgPLM status ∧ u.fld pgPLM 0x054 16 16 = h.toNat ∧ u.rd pgPLM 0x058 = 0 ∧ u.rd pgPLM 0x05C = 0

/-- A whole-word counter of a page has counted one event. -/
def CountedOnce (s u : State) (pg off : Nat) : Prop := (u.rd pg off).toNat = satAdd (s.rd pg off).toNat 1 (2 ^ 32 - 1)

/-- No memory, plot, tenant, job, command or cell differs. -/
def SameData (s u : State) : Prop :=
  u.mem = s.mem ∧ u.plots = s.plots ∧ u.pairs = s.pairs ∧ u.tenants = s.tenants ∧ u.jobs = s.jobs ∧ u.cmds = s.cmds ∧ u.cells = s.cells

/-- A plot on which a command acts at once: ACTIVE, with no revoking command or PUBLISH in progress. -/
def State.plotQuiet (s : State) (h : BitVec 16) : Bool :=
  (s.plot h).cur.state == .active && (s.plot h).rev.isNone && !s.pubTarget h && !s.pubShadow h

/-! ### Links -/

/-- What follows the loss of a link in the blocks of its hub (R284, R301, R329, R330, R410): packets parked at the port are answered,
snoops and the device's own requests that left on it are sent again or fail, and words bound for it are discarded. -/
def State.afterLoss (w : State) (l : LinkNo) : State :=
  (((((w.park.filter (fun k => k.link == l)).foldl (fun s k => s.fenceOut k) w).snoopsLost l).ownSentLost l).pumpOwn).deliverAll

/-- The link has been declared lost with a cause: its buffers are empty, the loss is counted and raised, no other link and no memory
differs. -/
def LostWith (s w : State) (l : LinkNo) (cause : BitVec 4) : Prop :=
  w.lnk l = { state := 7, lost := cause } ∧ (∀ m, m ≠ l → w.lnk m = s.lnk m) ∧
  w.linkFld l 0x078 0 16 = satAdd (s.linkFld l 0x078 0 16) 1 0xFFFF ∧
  w.bit (linkPage l) oIRQS (if isHalfB l.toNat then 9 else 1) = true ∧ SameData s w

/-- The state in which a link that trains begins (R281, R285, R437). -/
def State.trainsFrom (s : State) (l : LinkNo) : BitVec 4 :=
  if s.linkBit l 0x044 1 then 0 else if s.bootHeld then 7 else if s.linkBit l 0x044 4 then 8 else 1

/-! ### Packets -/

/-- A packet that arrives on a link is for this device, passes R291, and is not encrypted. -/
def State.arrives (s : State) (l : LinkNo) (p : Packet) : Bool := s.linkUp l && s.forMe p && pktValid p && !p.enc

/-- The state in which an unflagged request of a flow is performed: it has left the receive buffer and has been counted (R300). -/
def State.arrived (s : State) (l : LinkNo) (p : Packet) : State :=
  (s.takeRx l p).setFence p.srcEp p.fp ((s.fence p.srcEp p.fp + 1) % 1024)

/-- No request waits at the home, in a park or for a READY, and no command of the power manager freezes the device. -/
def State.homeIdle (s : State) : Bool := s.homeq.isEmpty && s.deferred.isEmpty && s.park.isEmpty && !s.dormant

/-- The home's answer to an unflagged request to a PINNED plot that passes the plot check on a line with no transaction, no hold in force
and room in its record set, in the state in which it is performed. -/
def State.atHome (s : State) (l : LinkNo) (p : Packet) (e : PlotEntry) (w : State) : Prop :=
  s.arrives l p = true ∧ p.f = false ∧ s.homeIdle = true ∧ e.tiered = false ∧
  ∃ w1, (s.arrived l p).plotCheck (hubOfLink l.toNat) (pktHandle p) (.port p.srcEp p.job p.enc) (reqNeed p) (reqRights p) (pktOfs p) (pktLen p)
      = (0, e, w1) ∧
    w = { w1 with nextRq := w1.nextRq + 1 } ∧
    (∀ line ∈ pktLines p, Tab.has w.txns line = false ∧ w.held line = false ∧
      (w.recs.filter (fun kv => recSet kv.1 == recSet line)).length < 16) ∧
    w.recs.length ≤ 262144

/-! ### Engine commands -/

/-- Engine command `id` is `c`, of opcode `op`, in execution with cells for all of its parts, waiting for no fault, on a device that
runs. -/
def State.runs (s : State) (id op : Nat) (c : Cmd) : Bool :=
  decide (s.cmd? id = some c) && c.phase == .running && c.opcode == op && c.fault.isNone && c.beds.isEmpty && s.phase == .running

/-- A command that is still in execution. -/
def State.stillRuns (s : State) (id : Nat) : Bool := ((s.cmd? id).map (fun k => k.phase == .running)).getD false

/-- An engine command has come to its end with a status and RESULT, and its record or its completion entry is due. -/
def Ended (u : State) (id status : Nat) (result : Bytes) : Prop :=
  ∃ k, u.cmd? id = some k ∧ k.status = BitVec.ofNat 8 status ∧ k.result = result ∧ k.phase = (if k.marked then .record else .posting)

/-! ### Horore -/

/-- The active complex runs no command, and the message in front of those it has taken is `m`, of a command code. -/
def State.mailAt (s : State) (m : HororeMsg) (rest : List HororeMsg) (code : Nat) : Prop :=
  s.running = none ∧ s.hqServed = true ∧ s.phase = .running ∧ s.taken = m :: rest ∧ hoCode (hoHdr m) = code

/-- A response to a command has joined the response direction: its header, its words and what follows them; no command runs. -/
def HoAnswered (s u : State) (h : W64) (status : Nat) (ws : List W64) : Prop :=
  u.running = none ∧ u.bit pgMBX oIRQS 0 = true ∧
  ∃ more, u.rxq = s.rxq ++ BitVec.ofNat 64 (hoCode h + ws.length * 2 ^ 8 + hoTag h * 2 ^ 16 + status * 2 ^ 32) :: ws ++ more

/-! ### Records of the journal -/

/-- A field of a record: n bytes from byte o, little-endian. -/
def recField (r : Bytes) (o n : Nat) : Nat := leNat ((r.drop o).take n)

/-- A record's CHAIN follows from the one before it (R386). -/
def Chains (chain r : Bytes) : Prop := r.length = 320 ∧ r.drop 256 = sha512 (chain ++ r.take 256)

/-- A checkpoint or an OPEN record, staged next in a journal, with the next value of the backup counter (Tables 15-1 and 15-3). -/
def SignedRec (s : State) (j : Journal) (kind : Nat) (raised : Bool) (r : StagedRec) : Prop :=
  r.seq = j.next ∧ r.cmd = none ∧ Chains j.chain r.bytes ∧ recField r.bytes 0 1 = kind ∧ recField r.bytes 1 1 = 1 ∧
  (recField r.bytes 2 1).testBit 2 = raised ∧ recField r.bytes 8 8 = j.next % 2 ^ 64 ∧
  recField r.bytes 0x20 8 = (s.backup.counter + 1).toNat ∧ recField r.bytes 0x28 4 = s.backup.resets.toNat % 2 ^ 32 ∧
  recField r.bytes 0x30 8 = j.sinceCkpt % 2 ^ 64 ∧ (j.chain.length = 64 → (r.bytes.drop 0x38).take 64 = j.chain)

end Sys2Proof.Machine
end

