-- ==== Sys2Proof/Certificates/Slice0/Obligations.lean ====
section
/-! DEFINITION. The statements for the provers, each a proposition about the model: what every family of commands does, the
state after reset, and what every step keeps. -/

open Sys2Proof Sys2Proof.Machine

/-- One step takes the command at the front of the queue: it is exec of that command in the state with the queue's rest. On an
empty queue the step is the tick of the model's own (log entry 1): one nanosecond passes. Where a clause rests on a choice of
the model's own, log entry 1 says so. -/
def Obligations.StepTakesFront : Prop :=
  (∀ (s : State) (c : Instr) (rest : List Instr), s.pending = c :: rest → step s = exec c { s with pending := rest }) ∧
  ∀ s : State, s.pending = [] → ∃ u, step s = .next u ∧ u.time = s.resume.time + 1 ∧ u.mem = s.resume.mem ∧ u.plots = s.resume.plots ∧ s.resume.cycles ≤ u.cycles

/-- R433, R435, Tables 02-4, 10-8, 14-8, 16-9, 16-10, 17-15 and 18-2: what reset leaves. The queue is empty, nothing is in memory,
on flash or in any table, no register is listed, so that each reads its reset value; the device is held in reset with its
stacks unpowered. The backup domain is as at its first power-up, which the model takes (log entry 8). Where a clause rests on
a choice of the model's own, log entries 8, 9, 12, 111, 112 say so. -/
def Obligations.ResetState : Prop :=
  let s := State.reset
  s.pending = [] ∧ Memory.wf s.mem = true ∧ Memory.wf s.cmem = true ∧ Memory.wf s.flash = true ∧ s.mem = [] ∧ s.plots = [] ∧ s.tenants = [] ∧ s.jobs = [] ∧ s.cells = [] ∧ s.cmds = [] ∧
  s.journals = [] ∧ s.phase = .inReset ∧ s.pins.platRstOutN = false ∧ s.pins.stkPwrEn = false ∧ s.running = none ∧ s.frozen = false ∧
  (∀ p o : Nat, s.rd p o = resetWord (p * 4096 + o)) ∧
  (∀ x ∈ [(pgPLM, 0x084, 0x100), (pgSEC, 0x040, 0), (pgSEC, 0x044, 0x3000), (pgSEC, 0x04C, 0xFFFFFFFF), (pgSEC, 0x070, 0xA), (pgCC 0, 0x040, 0), (pgCC 0, 0x044, 0x118),
      (pgMBX, 0x060, 0), (pgXBAR, 0x040, 0x1FFF), (pgPORT 0, 0x050, 0x05000400), (pgPORT 0, 0x450, 0x02800200), (pgPWR, 0x048, 0)], s.rd x.1 x.2.1 = BitVec.ofNat 32 x.2.2) ∧
  (∀ c : Nat, (s.cell c).state = .selftest) ∧ (∀ h : BitVec 16, (s.plot h).cur.state = .unused) ∧ (∀ l : LinkNo, (s.lnk l).state = 1)

/-- R32, R209, R214: every step keeps pool memory in its canonical form, whatever command it takes: the listed bytes stand in
rising order of their places, and none of them is the zero that an unlisted place reads as, so that memories that read alike
are the same list. Where a clause rests on a choice of the model's own, log entry 109 says so. -/
def Obligations.MemoryCanonicalKept : Prop :=
  ∀ s t : State, Memory.wf s.mem = true → step s = .next t → Memory.wf t.mem = true

/-! ### The cell instruction set -/

/-- R105, R106, Tables 04-3 and 04-6: for every thread that can run and every word with legal fields, each integer instruction
completes: Sd receives the value of Table 04-6, the thread goes on at PC + 8, and nothing else changes; a word whose RM or
unused fields are not zero, or whose EXT is 0b11, traps ILLEGAL. -/
def Obligations.ScalarIntegerResults : Prop :=
  ∀ (s : State) (c : BitVec 9) (t : BitVec 10) (th : Thread) (imm : Bool) (f : BitVec 48),
    s.canRun c t th = true →
    let legal : Prop := if imm then f.extractLsb' 34 4 = 0 ∧ f.extractLsb' 32 2 ≠ 3 else f.extractLsb' 0 33 = 0
    let d := opField f 43 5
    let a := th.getS (opField f 38 5)
    let low := f.extractLsb' 0 32
    let b := if imm then
        (if f.extractLsb' 32 2 = 0 then low.signExtend 64
         else if f.extractLsb' 32 2 = 1 then low.setWidth 64 else low ++ (0 : BitVec 32))
      else th.getS (opField f 33 5)
    ∀ p ∈ [
      (Instr.add c t imm f, a + b), (Instr.sub c t imm f, a - b), (Instr.mul c t imm f, a * b),
      (Instr.mulh c t imm f, (a.signExtend 128 * b.signExtend 128).extractLsb' 64 64),
      (Instr.mulhu c t imm f, (a.setWidth 128 * b.setWidth 128).extractLsb' 64 64),
      (Instr.div c t imm f, if b = 0 then BitVec.allOnes 64 else BitVec.ofInt 64 (a.toInt.tdiv b.toInt)),
      (Instr.divu c t imm f, if b = 0 then BitVec.allOnes 64 else BitVec.ofNat 64 (a.toNat / b.toNat)),
      (Instr.rem c t imm f, if b = 0 then a else BitVec.ofInt 64 (a.toInt.tmod b.toInt)),
      (Instr.remu c t imm f, if b = 0 then a else BitVec.ofNat 64 (a.toNat % b.toNat)),
      (Instr.and c t imm f, a &&& b), (Instr.or c t imm f, a ||| b), (Instr.xor c t imm f, a ^^^ b),
      (Instr.shl c t imm f, a <<< (b.extractLsb' 0 6)), (Instr.shr c t imm f, a >>> (b.extractLsb' 0 6)),
      (Instr.sar c t imm f, a.sshiftRight (opField64 b 0 6)),
      (Instr.min c t imm f, BitVec.ofInt 64 (min a.toInt b.toInt)),
      (Instr.max c t imm f, BitVec.ofInt 64 (max a.toInt b.toInt)),
      (Instr.minu c t imm f, BitVec.ofNat 64 (min a.toNat b.toNat)),
      (Instr.maxu c t imm f, BitVec.ofNat 64 (max a.toNat b.toNat)),
      (Instr.slt c t imm f, if a.toInt < b.toInt then 1 else 0),
      (Instr.sltu c t imm f, if a.toNat < b.toNat then 1 else 0),
      (Instr.seq c t imm f, if a = b then 1 else 0)],
      (legal → exec p.1 s = .next (s.retire c t (th.setS d p.2))) ∧ (¬legal → exec p.1 s = .next (s.trapped c t 0x02 0 0))

/-- R45, R99, R105 and R107, Table 04-6: the minors marked SS only, and PCVT. CLZ counts the leading zeros of a (64 of zero), POPC
its set bits, SEL gives a where Sc is not zero and else b; and each traps ILLEGAL as a word of major 0x02. PCVT of a pool
pointer: a null pointer gives zero; an offset of 2^44 or more, a handle without a window, and an offset at or beyond the
plot's size trap POINTER with detail 1, 2 and 3 in that order; otherwise Sd receives the window's base plus the offset. -/
def Obligations.CountsSelectAndPointers : Prop :=
  ∀ (s : State) (c : BitVec 9) (t : BitVec 10) (th : Thread) (f : BitVec 48),
    s.canRun c t th = true →
    let d := opField f 43 5
    let a := th.getS (opField f 38 5)
    let off := opField64 a 4 44 * 16
    let h := a.extractLsb' 48 16
    let w := s.window ((s.cell c.toNat).bind.extractLsb' 20 12) h.toNat
    (f.extractLsb' 0 38 = 0 → exec (.clz c t false f) s = .next (s.retire c t (th.setS d a.clz))) ∧
    (f.extractLsb' 0 38 = 0 → exec (.popc c t false f) s =
      .next (s.retire c t (th.setS d (BitVec.ofNat 64 ((List.range 64).countP (fun i => a.getLsbD i)))))) ∧
    (f.extractLsb' 0 28 = 0 → exec (.sel c t false f) s = .next (s.retire c t (th.setS d
      (if th.getS (opField f 28 5) ≠ 0 then a else th.getS (opField f 33 5))))) ∧
    (∀ i ∈ [Instr.clz c t true f, Instr.popc c t true f, Instr.sel c t true f], exec i s = .next (s.trapped c t 0x02 0 0)) ∧
    (f.extractLsb' 0 38 = 0 → exec (.pcvt c t f) s = .next (
      if a = 0 then s.retire c t (th.setS d 0)
      else if 2 ^ 44 ≤ off then s.trapped c t 0x07 1 0
      else if w.valid = false then s.trapped c t 0x07 2 0
      else if plotBytes (s.plot h).cur ≤ off then s.trapped c t 0x07 3 0
      else s.retire c t (th.setS d (BitVec.ofNat 64 ((w.base.toNat + off) % 2 ^ 57)))))

/-- R107 with R141, R151, R152, R154, R155 and R157: each scalar FP32 instruction completes for every thread that can run and
every word with legal fields; it writes the FP32 code of its result, bits [63:32] zero, and adds its sticky flags to those
already set. -/
def Obligations.ScalarFloatResults : Prop :=
  ∀ (s : State) (c : BitVec 9) (t : BitVec 10) (th : Thread) (f : BitVec 48),
    s.canRun c t th = true →
    f.extractLsb' 0 26 = 0 →
    let d := opField f 43 5
    let rm := opField f 26 2
    let code (n : Nat) : Nat := opField64 (th.getS n) 0 32
    let ca := code (opField f 38 5)
    let cb := code (opField f 33 5)
    let a := decodeFloat (ffmt 0) ca
    let b := decodeFloat (ffmt 0) cb
    let x := decodeFloat (ffmt 0) (code (opField f 28 5))
    let nan := a = .nan ∨ b = .nan
    let wr (r : Nat) (fl : Fl) : Host.Outcome State Fault Refusal :=
      .next (s.retire c t ((th.setS d (BitVec.ofNat 64 r)).addFlags fl))
    let once (v : Val × Fl) : Host.Outcome State Fault Refusal :=
      wr (roundTo 0 rm false v.1).1 (v.2 ||| (roundTo 0 rm false v.1).2)
    (opField f 28 5 = 0 → exec (.fadd c t f) s = once (vAdd rm a b)) ∧
    (opField f 28 5 = 0 → exec (.fsub c t f) s = once (vAdd rm a (vNeg b))) ∧
    (opField f 28 5 = 0 → exec (.fmul c t f) s = once (vMul a b)) ∧
    exec (.ffma c t f) s = once (vFma rm a b x) ∧
    (opField f 26 7 = 0 → exec (.fmin c t f) s =
      wr (if nan then 0x7FC00000 else if vCmpZ b a = .lt then cb else ca) 0) ∧
    (opField f 26 7 = 0 → exec (.fmax c t f) s =
      wr (if nan then 0x7FC00000 else if vCmpZ b a = .gt then cb else ca) 0) ∧
    (opField f 26 7 = 0 → exec (.feq c t f) s = wr (if ¬nan ∧ vCmp a b = .eq then 1 else 0) 0) ∧
    (opField f 26 7 = 0 → exec (.flt c t f) s = wr (if ¬nan ∧ vCmp a b = .lt then 1 else 0) 0) ∧
    (opField f 26 7 = 0 → exec (.fle c t f) s = wr (if ¬nan ∧ vCmp a b ≠ .gt then 1 else 0) 0) ∧
    (opField f 28 10 = 0 → exec (.fcvti c t f) s =
      wr (roundInt 64 rm true a).1 (roundInt 64 rm true a).2) ∧
    (opField f 28 10 = 0 → exec (.icvtf c t f) s =
      once (.fin (decide ((th.getS (opField f 38 5)).toInt < 0)) (th.getS (opField f 38 5)).toInt.natAbs 0, 0))

/-- R151: the one rounding of a finite value m * 2^e to a format in each mode, when it does not overflow. The result is a multiple
of the last kept bit 2^q that lies within one such bit of the value: toward zero in RTZ, never below it in RU, never above it
in RD, and no other multiple of 2^q is nearer in RNE, an even one being taken of two that are equally near. -/
def Obligations.RoundingIsCorrect : Prop :=
  ∀ (code : Nat) (neg : Bool) (m : Nat) (e : Int), code ≤ 9 →
    let f := ffmt code
    let mag (k : Nat) (q : Int) : Rat := k * (2 : Rat) ^ q
    let sgn : Rat := if neg then -1 else 1
    ∀ rm ≤ 3,
      let r := roundFloat f rm neg m e
      r.k ≤ 2 ^ f.p ∧ f.emin - f.mbits ≤ r.q ∧
      (r.inexact = true ↔ mag r.k r.q ≠ mag m e) ∧
      (r.overflow = true ↔ mag f.kmax f.qmax < mag r.k r.q) ∧
      (rm = 1 → mag r.k r.q ≤ mag m e ∧ mag m e < mag (r.k + 1) r.q) ∧
      (rm = 2 → sgn * mag m e ≤ sgn * mag r.k r.q) ∧
      (rm = 3 → sgn * mag r.k r.q ≤ sgn * mag m e) ∧
      (rm = 0 → ∀ j : Nat, |mag r.k r.q - mag m e| ≤ |mag j r.q - mag m e| ∧
        (|mag r.k r.q - mag m e| = |mag j r.q - mag m e| → j ≠ r.k → r.k % 2 = 0))

/-- R100 and R108: each branch completes: B goes to PC + 8 * OFS where its condition holds and else on at PC + 8, BL and JRL write
PC + 8 to their link register (S0 discards it), and a target outside the image or not a multiple of 8 traps FETCH with nothing
written. A word with a nonzero unused field, a reserved condition or a register that the condition does not take traps
ILLEGAL. Where a clause rests on a choice of the model's own, log entry 43 says so. -/
def Obligations.BranchResults : Prop :=
  ∀ (s : State) (c : BitVec 9) (t : BitVec 10) (th : Thread) (f : BitVec 48),
    s.canRun c t th = true →
    let ra := opField f 43 5
    let rb := opField f 38 5
    let cond := opField f 34 4
    let len := s.imageLen (s.cell c.toNat)
    let rel : Int := th.pc.toNat + 8 * (f.extractLsb' 0 32).toInt
    let target (n : Nat) (y : Thread) : State :=
      if n % 8 ≠ 0 ∨ pastImage len n = true then s.trapped c t 0x01 0 0
      else s.withThread c t { y with pc := BitVec.ofNat 24 n, run := .ready }
    let near (y : Thread) : State := if rel < 0 then target (2 ^ 24) y else target rel.toNat y
    let link : W64 := BitVec.ofNat 64 (th.pc.toNat + 8)
    let a := th.getS ra
    let b := th.getS rb
    let holds : Prop := match cond with
      | 0 => True
      | 1 => a = b
      | 2 => a ≠ b
      | 3 => a.toInt < b.toInt
      | 4 => b.toInt ≤ a.toInt
      | 5 => a.toNat < b.toNat
      | 6 => b.toNat ≤ a.toNat
      | 7 => th.getM (ra % 8) ≠ 0
      | _ => th.getM (ra % 8) = 0
    let illegal : Host.Outcome State Fault Refusal := .next (s.trapped c t 0x02 0 0)
    let bOk : Prop := f.extractLsb' 32 2 = 0 ∧ cond ≤ 8 ∧ (cond = 0 → ra = 0) ∧ (7 ≤ cond → ra < 8) ∧ (cond = 0 ∨ 7 ≤ cond → rb = 0)
    (bOk → (holds → exec (.b c t f) s = .next (near th)) ∧ (¬holds → exec (.b c t f) s = .next (s.retire c t th))) ∧
    (¬bOk → exec (.b c t f) s = illegal) ∧
    exec (.bl c t f) s = (if f.extractLsb' 32 11 = 0 then .next (near (th.setS ra link)) else illegal) ∧
    exec (.jr c t f) s = (if f.extractLsb' 0 43 = 0 then .next (target a.toNat th) else illegal) ∧
    exec (.jrl c t f) s = (if f.extractLsb' 0 38 = 0 then .next (target a.toNat (th.setS rb link)) else illegal)

/-- R109, R110, Table 04-8: each scalar load completes for every thread that can run, every word with legal fields and every
aligned address whose bytes can be fetched (scratchpad or pool); Sn receives the little-endian value of the 1, 2, 4 or 8 bytes
at Sb plus OFS, zero- or sign-extended, and the thread goes on at PC + 8. -/
def Obligations.ScalarLoads : Prop :=
  ∀ (s s1 : State) (c : BitVec 9) (t : BitVec 10) (th : Thread) (f : BitVec 48) (d : Bytes),
    s.canRun c t th = true →
    memLegal f false = true → zeroFields f [(30, 8)] = true →
    let ea := effAddr th f
    (f.getLsbD 29 = true ∨ ea.toNat < 2 ^ 57) →
    ∀ p ∈ [(Instr.ld8u c t f, 1, false), (Instr.ld16u c t f, 2, false), (Instr.ld32u c t f, 4, false),
        (Instr.ld64 c t f, 8, false), (Instr.ld8s c t f, 1, true), (Instr.ld16s c t f, 2, true), (Instr.ld32s c t f, 4, true)],
      ea.toNat % p.2.1 = 0 →
      s.fetched c t f [(ea.toNat, p.2.1)] = some (d, s1) → d.length = p.2.1 →
      (s1.cell c.toNat).thread? t.toNat = some th →
      let v := BitVec.ofNat (8 * p.2.1) (leNat d)
      exec p.1 s = .next (s1.retire c t (th.setS (opField f 38 5) (if p.2.2 then v.signExtend 64 else v.setWidth 64)))

/-- R109, R110, Table 04-8: each scalar store completes likewise: the low 1, 2, 4 or 8 bytes of Sn are stored at Sb plus OFS and
no register changes. A misaligned load or store traps ALIGN; one that reaches past the declared scratchpad traps
SCRATCH_RANGE; a pool address of 2^57 or more traps TRANSLATION with detail 1, each with the effective address in the trap
record. -/
def Obligations.ScalarStores : Prop :=
  ∀ (s s1 : State) (c : BitVec 9) (t : BitVec 10) (th : Thread) (f : BitVec 48),
    s.canRun c t th = true →
    zeroFields f [(30, 8)] = true →
    let ea := effAddr th f
    let v := (th.getS (opField f 38 5)).toNat
    (memLegal f true = true → (f.getLsbD 29 = true ∨ ea.toNat < 2 ^ 57) →
      ∀ p ∈ [(Instr.st8 c t f, 1), (Instr.st16 c t f, 2), (Instr.st32 c t f, 4), (Instr.st64 c t f, 8)],
        ea.toNat % p.2 = 0 →
        s.stored c t f [(ea.toNat, leBytes p.2 v)] = some s1 →
        (s1.cell c.toNat).thread? t.toNat = some th →
        exec p.1 s = .next (s1.retire c t th)) ∧
    (∀ p ∈ [(Instr.ld8u c t f, 1, false), (Instr.ld16u c t f, 2, false), (Instr.ld32u c t f, 4, false),
        (Instr.ld64 c t f, 8, false), (Instr.ld8s c t f, 1, false), (Instr.ld16s c t f, 2, false), (Instr.ld32s c t f, 4, false),
        (Instr.st8 c t f, 1, true), (Instr.st16 c t f, 2, true), (Instr.st32 c t f, 4, true), (Instr.st64 c t f, 8, true)],
      memLegal f p.2.2 = true →
      (ea.toNat % p.2.1 ≠ 0 → exec p.1 s = .next (s.trapped c t 0x04 0 ea)) ∧
      (ea.toNat % p.2.1 = 0 → f.getLsbD 29 = true → scratchSize (s.cell c.toNat) < ea.toNat + p.2.1 →
        exec p.1 s = .next (s.trapped c t 0x05 0 ea)) ∧
      (ea.toNat % p.2.1 = 0 → f.getLsbD 29 = false → 2 ^ 57 ≤ ea.toNat → exec p.1 s = .next (s.trapped c t 0x08 1 ea)))

/-- R66, R96 and R109: what registers and a scratchpad hold after a write. S0 reads as zero and a write to it is discarded; any
other register reads back what was written, and no other register changes. Bytes stored in a scratchpad read back, every other
byte of it reads as before, every other cell is unchanged, and the cell keeps its threads, accumulators and binding. Where a
clause rests on a choice of the model's own, log entry 10 says so. -/
def Obligations.WritesReadBack : Prop :=
  (∀ (t : Thread) (n m : Nat) (v : W64),
    t.getS 0 = 0 ∧ t.setS 0 v = t ∧ (n ≠ 0 → (t.setS n v).getS n = v) ∧ (m ≠ n → (t.setS n v).getS m = t.getS m) ∧
    (t.setS n v).pc = t.pc ∧ (t.setS n v).v = t.v ∧ (t.setS n v).m = t.m ∧ (t.setS n v).flags = t.flags) ∧
  ∀ (s : State) (c a : Nat) (d : Bytes) (b : Nat),
    let u := s.scratchWrite c a d
    scratchByte (u.cell c) b = (if a ≤ b ∧ b < a + d.length then d.getD (b - a) 0 else scratchByte (s.cell c) b) ∧
    (∀ e : Nat, e ≠ c → u.cell e = s.cell e) ∧
    (u.cell c).threads = (s.cell c).threads ∧ (u.cell c).accs = (s.cell c).accs ∧ (u.cell c).bind = (s.cell c).bind ∧
    u.mem = s.mem ∧ u.plots = s.plots ∧ u.cmds = s.cmds

/-- R103, R109 to R111, Table 04-8: the vector loads and the gathers complete for every thread that can run, every word with legal
fields and addresses that are aligned and can be fetched. Byte i of Vn receives the byte loaded for it where it is active and
keeps its value elsewhere: VLD by byte, VLDP6 by six-bit element (bits [7:6] zero), a gather of segments of g bytes by
segment, from the effective address plus g times the zero-extended 32-bit element of Vi. Where a clause rests on a choice of
the model's own, log entry 39 says so. -/
def Obligations.VectorLoads : Prop :=
  ∀ (s : State) (c : BitVec 9) (t : BitVec 10) (th : Thread) (f : BitVec 48),
    s.canRun c t th = true →
    memLegal f false = true → opField f 42 1 = 0 →
    let ea := effAddr th f
    let act := memMask th f
    let vn := opField f 38 4
    let old := th.getV vn
    (f.getLsbD 29 = true ∨ ea.toNat < 2 ^ 57) →
    (opField f 34 4 = 0 → ea.toNat % 64 = 0 →
      let parts := (List.range 4).filter (fun j => (List.range 64).any (fun i => act (64 * j + i)))
      ∀ d s1, s.fetched c t f (parts.map (fun j => (ea.toNat + 64 * j, 64))) = some (d, s1) → d.length = 64 * parts.length →
        (s1.cell c.toNat).thread? t.toNat = some th →
        ∃ w : BitVec 2048, exec (.vld c t f) s = .next (s1.retire c t (th.setV vn w)) ∧
          ∀ i < 256, fieldOf w.toNat (8 * i) 8 =
            if act i then (d.getD (64 * (parts.idxOf (i / 64)) + i % 64) 0).toNat else fieldOf old.toNat (8 * i) 8) ∧
    (opField f 34 4 = 0 → ea.toNat % 64 = 0 →
      let parts := (List.range 3).filter (fun j => (List.range 256).any (fun i =>
        act i && decide (6 * i < 512 * (j + 1)) && decide (512 * j < 6 * i + 6)))
      ∀ d s1, s.fetched c t f (parts.map (fun j => (ea.toNat + 64 * j, 64))) = some (d, s1) → d.length = 64 * parts.length →
        (s1.cell c.toNat).thread? t.toNat = some th →
        let img (b : Nat) : Byte := d.getD (64 * parts.idxOf (b / 64) + b % 64) 0
        ∃ w : BitVec 2048, exec (.vldp6 c t f) s = .next (s1.retire c t (th.setV vn w)) ∧
          ∀ i < 256, fieldOf w.toNat (8 * i) 8 =
            if act i then fieldOf (leNat [img (i / 4 * 3), img (i / 4 * 3 + 1), img (i / 4 * 3 + 2)]) (i % 4 * 6) 6
            else fieldOf old.toNat (8 * i) 8) ∧
    (∀ p ∈ [(Instr.vgth4 c t f, 4), (Instr.vgth8 c t f, 8), (Instr.vgth16 c t f, 16), (Instr.vgth32 c t f, 32),
        (Instr.vgth64 c t f, 64), (Instr.vgth128 c t f, 128), (Instr.vgth256 c t f, 256)],
      let segs := (List.range (256 / p.2)).filter act
      let at_ (i : Nat) : Nat := (ea.toNat + fieldOf (th.getV (opField f 34 4)).toNat (32 * i) 32 * p.2) % 2 ^ 64
      (∀ i ∈ segs, at_ i % (min p.2 64) = 0) →
      ∀ d s1, s.fetched c t f (segs.map (fun i => (at_ i, p.2))) = some (d, s1) → d.length = p.2 * segs.length →
        (s1.cell c.toNat).thread? t.toNat = some th →
        ∃ w : BitVec 2048, exec p.1 s = .next (s1.retire c t (th.setV vn w)) ∧
          ∀ i < 256, fieldOf w.toNat (8 * i) 8 =
            if act (i / p.2) then (d.getD (p.2 * (segs.idxOf (i / p.2)) + i % p.2) 0).toNat else fieldOf old.toNat (8 * i) 8)

/-- R103, R109 to R111, Table 04-8: the vector stores and the scatters complete likewise: the bytes of Vn whose position is active
are stored at their places, VSTP6 packs the active six-bit elements and leaves the six bits of the others as they are, a
scatter writes its active segments in ascending order, and no register changes. Where a clause rests on a choice of the
model's own, log entries 39, 45 say so. -/
def Obligations.VectorStores : Prop :=
  ∀ (s s1 : State) (c : BitVec 9) (t : BitVec 10) (th : Thread) (f : BitVec 48),
    s.canRun c t th = true →
    memLegal f true = true → opField f 42 1 = 0 →
    let ea := effAddr th f
    let act := memMask th f
    let v := th.getV (opField f 38 4)
    let byte (i : Nat) : Byte := BitVec.ofNat 8 (fieldOf v.toNat (8 * i) 8)
    (s1.cell c.toNat).thread? t.toNat = some th →
    (f.getLsbD 29 = true ∨ ea.toNat < 2 ^ 57) →
    (opField f 34 4 = 0 → ea.toNat % 64 = 0 →
      let runs := runsOf act 256 0
      (∀ i < 256, act i = true ↔ ∃ r ∈ runs, r.1 ≤ i ∧ i < r.1 + r.2) ∧
      (s.stored c t f (runs.map (fun r => (ea.toNat + r.1, (List.range r.2).map (fun j => byte (r.1 + j))))) = some s1 →
        exec (.vst c t f) s = .next (s1.retire c t th))) ∧
    (opField f 34 4 = 0 → ea.toNat % 64 = 0 →
      let touches (a : Bool) (b : Nat) : Bool :=
        (List.range 256).any (fun i => act i == a && decide (6 * i < 8 * (b + 1)) && decide (8 * b < 6 * i + 6))
      let runs := runsOf (touches true) 192 0
      let shared := (List.range 192).filter (fun b => touches true b && touches false b)
      let cut (d : Bytes) : List (Nat × Bytes) := runs.map (fun r => (ea.toNat + r.1, (d.drop r.1).take r.2))
      (shared = [] → s.stored c t f (cut (pack6 act v [])) = some s1 → exec (.vstp6 c t f) s = .next (s1.retire c t th)) ∧
      (shared ≠ [] → f.getLsbD 29 = true →
        s.stored c t f (cut (pack6 act v (scratchRead (s.cell c.toNat) ea.toNat 192))) = some s1 →
        exec (.vstp6 c t f) s = .next (s1.retire c t th)) ∧
      (shared ≠ [] → f.getLsbD 29 = false → ∀ q old s0, s.cellReq c.toNat none = some q →
        s.poolRmw q (s.ctx c t th f) runs shared ea.toNat = (.ok old, s0) → s0.stored c t f (cut (pack6 act v old)) = some s1 →
        exec (.vstp6 c t f) s = .next (s1.retire c t th)) ∧
      ∀ (old : Bytes), ∀ i < 256, packed6 (pack6 act v old) i = if act i then fieldOf v.toNat (8 * i) 6 else packed6 old i) ∧
    (∀ p ∈ [(Instr.vsct4 c t f, 4), (Instr.vsct8 c t f, 8), (Instr.vsct16 c t f, 16), (Instr.vsct32 c t f, 32),
        (Instr.vsct64 c t f, 64), (Instr.vsct128 c t f, 128), (Instr.vsct256 c t f, 256)],
      let segs := (List.range (256 / p.2)).filter act
      let at_ (i : Nat) : Nat := (ea.toNat + fieldOf (th.getV (opField f 34 4)).toNat (32 * i) 32 * p.2) % 2 ^ 64
      (∀ i ∈ segs, at_ i % (min p.2 64) = 0) →
      s.stored c t f (segs.map (fun i => (at_ i, (List.range p.2).map (fun j => byte (p.2 * i + j))))) = some s1 →
      exec p.1 s = .next (s1.retire c t th))

/-- R113, R114, Table 04-9: the new memory value of each atomic on a word of 64 or 128 bits, in two's complement and with
wrapping; FADD adds the FP32 operand exactly, in units of 2^-32 or 2^-64, and fails with detail 1 where the operand is no
number of that form, and with detail 2 where the sum leaves the word's range. -/
def Obligations.AtomicValues : Prop :=
  ∀ w ∈ [64, 128], ∀ old r sn : BitVec w,
    let v (k : AtomKind) (b : BitVec w) : Prop := atomicNew k w old.toNat r.toNat sn.toNat = .ok b.toNat
    v .add (old + r) ∧ v .min (if old.toInt < r.toInt then old else r) ∧ v .max (if r.toInt < old.toInt then old else r) ∧
    v .minu (if old.toNat < r.toNat then old else r) ∧ v .maxu (if r.toNat < old.toNat then old else r) ∧
    v .and (old &&& r) ∧ v .or (old ||| r) ∧ v .xor (old ^^^ r) ∧ v .swap r ∧ v .cas (if old = r then sn else old) ∧
    let fadd := atomicNew .fadd w old.toNat r.toNat sn.toNat
    let lim : Int := 2 ^ (w - 1)
    (w = 128 → 2 ^ 64 ≤ r.toNat → fadd = .error 1) ∧
    (r.toNat < 2 ^ 64 → match decodeFloat (ffmt 0) (r.toNat % 2 ^ 32) with
      | .fin neg m e =>
        let x : Rat := (if neg then -1 else 1) * m * (2 : Rat) ^ (e + (w / 2 : Nat))
        (∀ n : Int, x = n → -lim ≤ n → n < lim →
          (-lim ≤ old.toInt + n ∧ old.toInt + n < lim → fadd = .ok (BitVec.ofInt w (old.toInt + n)).toNat) ∧
          (¬(-lim ≤ old.toInt + n ∧ old.toInt + n < lim) → fadd = .error 2)) ∧
        ((∀ n : Int, x = n → ¬(-lim ≤ n ∧ n < lim)) → fadd = .error 1)
      | _ => fadd = .error 1)

/-- R109, R113 to R115: each atomic completes for every thread that can run and every word with legal fields on an aligned
address: on a scratchpad word below the declared size, and on a pool word that the access reaches. The register or pair R
receives the old value and memory the new one; a failed FADD changes nothing and traps ATOMIC_RANGE; a misaligned address
traps ALIGN. Where a clause rests on a choice of the model's own, log entry 34 says so. -/
def Obligations.AtomicResults : Prop :=
  ∀ (s : State) (c : BitVec 9) (t : BitVec 10) (th : Thread) (wide : Bool) (f : BitVec 48),
    s.canRun c t th = true →
    zeroFields f [(30, 8)] = true → opField f 24 2 ≠ 3 → (f.getLsbD 29 = true → f.getLsbD 26 = false ∧ opField f 24 2 = 0) →
    let rr := opField f 38 5
    let sn := opField f 19 5
    (wide = true → rr % 2 = 0 ∧ sn % 2 = 0) →
    let n := if wide then 16 else 8
    let ea := th.getS (opField f 43 5) + (f.extractLsb' 0 19).signExtend 64
    let val (k : Nat) : Nat := if wide then th.getPair k else (th.getS k).toNat
    let put (v : Nat) : Thread := if wide then th.setPair rr v else th.setS rr (BitVec.ofNat 64 v)
    ∀ p ∈ [(Instr.atomicAdd c t wide f, AtomKind.add), (Instr.atomicFadd c t wide f, .fadd), (Instr.atomicMin c t wide f, .min),
        (Instr.atomicMinu c t wide f, .minu), (Instr.atomicMax c t wide f, .max), (Instr.atomicMaxu c t wide f, .maxu),
        (Instr.atomicAnd c t wide f, .and), (Instr.atomicOr c t wide f, .or), (Instr.atomicXor c t wide f, .xor),
        (Instr.atomicSwap c t wide f, .swap), (Instr.atomicCas c t wide f, .cas)],
      (p.2 ≠ .cas → sn = 0) →
      (ea.toNat % n ≠ 0 → exec p.1 s = .next (s.trapped c t 0x04 0 ea)) ∧
      (ea.toNat % n = 0 → f.getLsbD 29 = true → ea.toNat + n ≤ scratchSize (s.cell c.toNat) →
        let old := leNat (scratchRead (s.cell c.toNat) ea.toNat n)
        (∀ v, atomicNew p.2 (8 * n) old (val rr) (val sn) = .ok v →
          exec p.1 s = .next ((s.scratchWrite c.toNat ea.toNat (leBytes n v)).retire c t (put old))) ∧
        (∀ d, atomicNew p.2 (8 * n) old (val rr) (val sn) = .error d → exec p.1 s = .next (s.trapped c t 0x0B d ea))) ∧
      (ea.toNat % n = 0 → f.getLsbD 29 = false → ea.toNat + n ≤ 2 ^ 57 →
        ∀ q old s1, s.cellReq c.toNat none = some q →
          s.poolAtomic q c.toNat t.toNat p.2 n ea.toNat (val rr) (val sn) (opField f 24 2) = (.ok old, s1) →
          (s1.cell c.toNat).thread? t.toNat = some th →
          exec p.1 s = .next (s1.retire c t (put old)))

/-- R116 to R118, Tables 04-10 and 04-11: the furrow instructions complete for every thread that can run whose furrow holds no
failed tile: FWSET (no copy outstanding) declares the furrow of a legal descriptor, FWGET and FWPUT start one copy with a tile
for each of the n tiles, FWWAIT and FWCLR end where no copy is outstanding, FWCLR leaving the furrow unset; the checks of a
copy are made in the order ALIGN, SCRATCH_RANGE, FURROW; a tile that can be read is written to its scratchpad bytes and is
done. Where a clause rests on a choice of the model's own, log entry 48 says so. -/
def Obligations.FurrowResults : Prop :=
  ∀ (s : State) (c : BitVec 9) (t : BitVec 10) (th : Thread) (f : BitVec 48),
    s.canRun c t th = true →
    let n := opField f 30 3
    let fw := th.furrow n
    let a := th.getS (opField f 38 5)
    let k0 := (th.getS (opField f 33 5)).toNat
    let cnt := opField f 0 24
    let size := scratchSize (s.cell c.toNat)
    let pc := th.pc.toNat + 8
    n ≤ 1 → zeroFields f [(24, 6), (43, 5)] = true → fw.trap = none →
    (zeroFields f [(0, 24), (33, 5)] = true → fw.copies = [] → a.toNat % 32 = 0 → a.toNat + 32 ≤ size →
      let d := scratchRead (s.cell c.toNat) a.toNat 32
      let at_ (o k : Nat) : Nat := leNat ((d.drop o).take k)
      at_ 0 8 % 64 = 0 → at_ 0 8 < 2 ^ 57 → at_ 8 4 % 64 = 0 → 64 ≤ at_ 8 4 → at_ 8 4 ≤ 0x100000 → at_ 12 4 ≠ 0 →
      at_ 16 8 % 64 = 0 → at_ 24 8 = 0 →
      let set : Furrow :=
        { isSet := true, base := BitVec.ofNat 57 (at_ 0 8), tile := BitVec.ofNat 32 (at_ 8 4),
          count := BitVec.ofNat 32 (at_ 12 4), stride := BitVec.ofNat 64 (at_ 16 8), next := fw.next }
      exec (.fwset c t f) s = .next ((((s.scratchCount c.toNat a.toNat 32).withThread c t (th.setFurrow n set)).runAhead
        c.toNat t.toNat n).goOn c.toNat t.toNat pc)) ∧
    (∀ p ∈ [(Instr.fwget c t f, false), (Instr.fwput c t f, true)],
      let ok : Prop := fw.isSet = true ∧ cnt ≠ 0 ∧ k0 + cnt ≤ fw.count.toNat
      (a.toNat % 64 ≠ 0 → exec p.1 s = .next (s.trapped c t 0x04 0 a)) ∧
      (a.toNat % 64 = 0 → ok → size < a.toNat + cnt * fw.tile.toNat → exec p.1 s = .next (s.trapped c t 0x05 0 a)) ∧
      (a.toNat % 64 = 0 → ¬ok → exec p.1 s = .next (s.trapped c t 0x0D 2 a)) ∧
      (a.toNat % 64 = 0 → ok → a.toNat + cnt * fw.tile.toNat ≤ size → th.f0.ids.length + th.f1.ids.length < 16 →
        let tiles := (List.range cnt).map (fun i =>
          ({ id := fw.next, put := p.2, tile := k0 + i, scratch := a.toNat + i * fw.tile.toNat, done := false, wait := .go } : TileCopy))
        let begun : Furrow := { fw with copies := fw.copies ++ tiles, next := fw.next + 1, high := max fw.high (k0 + cnt) }
        exec p.1 s = .next (((s.withThread c t (th.setFurrow n begun)).runAhead c.toNat t.toNat n).goOn c.toNat t.toNat pc))) ∧
    (zeroFields f [(0, 24), (33, 10)] = true → fw.copies = [] → exec (.fwwait c t f) s = .next (s.retire c t th)) ∧
    (zeroFields f [(0, 24), (33, 10)] = true → fw.copies = [] →
      exec (.fwclr c t f) s = .next (s.retire c t (th.setFurrow n { next := fw.next }))) ∧
    ∀ (x : TileCopy) (tile : BitVec 32) (d : Bytes) (s1 : State) (q : XlReq),
      fw.copies.find? (fun y => y.id == x.id && y.tile == tile.toNat) = some x →
      x.put = false → x.done = false → x.wait = .go →
      s.cellReq c.toNat (some { cell := c.toNat, thread := t.toNat, furrow := n, id := x.id }) = some q →
      s.poolRead q (.cell c.toNat t.toNat) false [((fw.tileTva x.tile).toNat, fw.tile.toNat)] = (.ok d, s1) →
      exec (.furrowTileDone c t (n == 1) x.id tile) s =
        .next (((s1.scratchWrite c.toNat x.scratch d).modFurrow c.toNat t.toNat n
          (fun y => y.setTile x (fun z => { z with done := true, wait := .go }))).modFurrow c.toNat t.toNat n Furrow.sweep)

/-- R102, R103, R119, R141, R151, R152, R154, R155, Table 04-12, for the formats FP32, FP16, BF16 and FP8: each element-wise
instruction completes. Every active element of Vd is the exact result of its sources rounded once in mode RM (VABS and VNEG
change the sign bit alone), every other keeps its value or becomes zero as MZ selects, and the flags of the active elements
are added. Where a clause rests on a choice of the model's own, log entry 49 says so. -/
def Obligations.ElementWiseFloat : Prop :=
  ∀ (s : State) (c : BitVec 9) (t : BitVec 10) (th : Thread) (f : BitVec 48),
    s.canRun c t th = true →
    let code := opField f 23 4
    let rm := opField f 21 2
    let sat := f.getLsbD 20
    let d := opField f 44 4
    code ≤ 4 → zeroFields f [(0, 20)] = true → (sat = true → 3 ≤ code) → vvGovOk f = true →
    let act := vvActiveAt th f code
    let e (lo i : Nat) : Nat := elemAt code (th.getV (opField f lo 4)) i
    let x (lo i : Nat) : Val := decodeFloat (ffmt code) (e lo i)
    let once (v : Val × Fl) : Nat × Fl := ((roundTo code rm sat v.1).1, v.2 ||| (roundTo code rm sat v.1).2)
    let sign := 2 ^ (fmtBits code - 1)
    ∀ p ∈ [
      (Instr.vadd c t f, [(32, 4)], fun i => once (vAdd rm (x 40 i) (x 36 i))),
      (Instr.vsub c t f, [(32, 4)], fun i => once (vAdd rm (x 40 i) (vNeg (x 36 i)))),
      (Instr.vmul c t f, [(32, 4)], fun i => once (vMul (x 40 i) (x 36 i))),
      (Instr.vfma c t f, [], fun i => once (vFma rm (x 40 i) (x 36 i) (x 32 i))),
      (Instr.vmin c t f, [(32, 4)], fun i => once (vMin (x 40 i) (x 36 i), 0)),
      (Instr.vmax c t f, [(32, 4)], fun i => once (vMax (x 40 i) (x 36 i), 0)),
      (Instr.vabs c t f, [(32, 8)], fun i => (if x 40 i = .nan then canonNan code else e 40 i % sign, 0)),
      (Instr.vneg c t f, [(32, 8)], fun i => (if x 40 i = .nan then canonNan code else e 40 i ^^^ sign, 0))],
      zeroFields f p.2.1 = true →
      ∃ w fl, exec p.1 s = .next (s.retire c t ((th.setV d w).addFlags fl)) ∧
        (∀ i < fmtCount code, elemAt code w i =
          if act i then (p.2.2 i).1 else if f.getLsbD 27 then 0 else elemAt code (th.getV d) i) ∧
        fl = flAll (((List.range (fmtCount code)).filter act).map (fun i => (p.2.2 i).2))

/-- R119, R140, R154, Table 04-12, for the integer formats: each element-wise instruction completes; the active elements of Vd are
the exact results wrapped, or saturated where SAT is 1, and no flag is set. Where a clause rests on a choice of the model's
own, log entry 49 says so. -/
def Obligations.ElementWiseInteger : Prop :=
  ∀ (s : State) (c : BitVec 9) (t : BitVec 10) (th : Thread) (f : BitVec 48),
    s.canRun c t th = true →
    let code := opField f 23 4
    let d := opField f 44 4
    let w := fmtBits code
    10 ≤ code → code ≤ 13 → zeroFields f [(0, 20)] = true → vvGovOk f = true →
    let act := vvActiveAt th f code
    let u (lo i : Nat) : Nat := elemAt code (th.getV (opField f lo 4)) i
    let x (lo i : Nat) : Int := if 2 ^ (w - 1) ≤ u lo i then u lo i - 2 ^ w else u lo i
    let fit (n : Int) : Nat :=
      let k : Int := if f.getLsbD 20 then max (-(2 ^ (w - 1))) (min (2 ^ (w - 1) - 1) n) else n
      (k % 2 ^ w).toNat
    let sh (i : Nat) : Nat := u 36 i % w
    ∀ p ∈ [
      (Instr.vadd c t f, [(32, 4)], fun i => fit (x 40 i + x 36 i)), (Instr.vsub c t f, [(32, 4)], fun i => fit (x 40 i - x 36 i)),
      (Instr.vmul c t f, [(32, 4)], fun i => fit (x 40 i * x 36 i)),
      (Instr.vfma c t f, [], fun i => fit (x 40 i * x 36 i + x 32 i)),
      (Instr.vmin c t f, [(32, 4)], fun i => fit (min (x 40 i) (x 36 i))),
      (Instr.vmax c t f, [(32, 4)], fun i => fit (max (x 40 i) (x 36 i))),
      (Instr.vabs c t f, [(32, 8)], fun i => fit (x 40 i).natAbs), (Instr.vneg c t f, [(32, 8)], fun i => fit (-x 40 i)),
      (Instr.vand c t f, [(32, 4), (20, 3)], fun i => u 40 i &&& u 36 i),
      (Instr.vor c t f, [(32, 4), (20, 3)], fun i => u 40 i ||| u 36 i),
      (Instr.vxor c t f, [(32, 4), (20, 3)], fun i => u 40 i ^^^ u 36 i),
      (Instr.vshl c t f, [(32, 4), (21, 2)], fun i => fit (x 40 i * 2 ^ sh i)),
      (Instr.vshr c t f, [(32, 4), (20, 3)], fun i => u 40 i / 2 ^ sh i),
      (Instr.vsar c t f, [(32, 4), (20, 3)], fun i => ((x 40 i / 2 ^ sh i) % 2 ^ w).toNat)],
      zeroFields f p.2.1 = true →
      ∃ v, exec p.1 s = .next (s.retire c t (th.setV d v)) ∧
        ∀ i < fmtCount code, elemAt code v i =
          if act i then p.2.2 i else if f.getLsbD 27 then 0 else elemAt code (th.getV d) i

/-- R103, R104, R120, R158, for the MX formats: VADD, VSUB, VMUL, VMIN, VMAX, VABS and VNEG complete. Every block whose first
element is active is quantised from the exact results of its active elements (the others become code 0) and its scale written
to its byte of Sz; every other block keeps codes and scale, or takes zeros and scale 0x7F, as MZ selects. Where a clause rests
on a choice of the model's own, log entries 43, 49 say so. -/
def Obligations.ElementWiseMx : Prop :=
  ∀ (s : State) (c : BitVec 9) (t : BitVec 10) (th : Thread) (f : BitVec 48),
    s.canRun c t th = true →
    let code := opField f 23 4
    let rm := opField f 21 2
    let sat := f.getLsbD 20
    let mz := f.getLsbD 27
    let d := opField f 44 4
    let z := opField f 5 5
    5 ≤ code → code ≤ 9 → zeroFields f [(0, 5), (32, 4)] = true → vvGovOk f = true →
    (code = 9 → opField f 15 5 % 2 = 0 ∧ opField f 10 5 % 2 = 0 ∧ z % 2 = 0) →
    let act := vvActiveAt th f code
    let scale (r b : Nat) : Nat := fieldOf (th.getPair r) (8 * b) 8
    let x (lo r i : Nat) : Val :=
      scaleVal (scale (opField f r 5) (i / 32)) (decodeFloat (ffmt code) (elemAt code (th.getV (opField f lo 4)) i))
    let a := x 40 15
    let b := x 36 10
    let old : Nat := if code = 9 then th.getPair z else (th.getS z).toNat
    ∀ p ∈ [
      (Instr.vadd c t f, [], fun i => vAdd rm (a i) (b i)), (Instr.vsub c t f, [], fun i => vAdd rm (a i) (vNeg (b i))),
      (Instr.vmul c t f, [], fun i => vMul (a i) (b i)), (Instr.vmin c t f, [], fun i => (vMin (a i) (b i), 0)),
      (Instr.vmax c t f, [], fun i => (vMax (a i) (b i), 0)), (Instr.vabs c t f, [(36, 4), (10, 5)], fun i => (vAbs (a i), 0)),
      (Instr.vneg c t f, [(36, 4), (10, 5)], fun i => (vNeg (a i), 0))],
      zeroFields f p.2.1 = true →
      ∃ w sc, exec p.1 s = .next (s.retire c t ((putScales (th.setV d w) code z sc).addFlags
          (flAll (((List.range (fmtCount code / 32)).filter (fun blk => act (32 * blk))).map (fun blk =>
            let js := (List.range 32).filter (fun j => act (32 * blk + j))
            (mxQuantise code rm sat ((List.range 32).map (fun j =>
              if act (32 * blk + j) then some (p.2.2 (32 * blk + j)).1 else none))).2.2 |||
            flAll (js.map (fun j => (p.2.2 (32 * blk + j)).2))))))) ∧
        ∀ blk < fmtCount code / 32, mxBlockOf code w sc blk =
          mxBlockAfter code rm sat mz (fun j => act (32 * blk + j)) (fun j => (p.2.2 (32 * blk + j)).1)
            (mxBlockOf code (th.getV d) old blk)

/-- R103, R123, R155, Table 04-12: the compares write bit i of mask Vd for each active element i (an inactive one is kept, or
cleared by MZ; bits beyond the element count stay); VRMAX, VRMIN and VRMAXI write Sz from the active elements. Where a clause
rests on a choice of the model's own, log entries 50, 51 say so. -/
def Obligations.CompareAndReduce : Prop :=
  ∀ (s : State) (c : BitVec 9) (t : BitVec 10) (th : Thread) (f : BitVec 48),
    s.canRun c t th = true →
    let code := opField f 23 4
    let d := opField f 44 4
    code ≤ 13 → vvGovOk f = true →
    (if 5 ≤ code ∧ code ≤ 9 then code = 9 → opField f 15 5 % 2 = 0 else opField f 15 5 = 0) →
    let act := vvActiveAt th f code
    let e (lo i : Nat) : Nat := elemAt code (th.getV (opField f lo 4)) i
    let x (lo r i : Nat) : Val := decodeElem code
      (if 5 ≤ code ∧ code ≤ 9 then fieldOf (th.getPair (opField f r 5)) (8 * (i / 32)) 8 else 0) (e lo i)
    let a := x 40 15
    let b := x 36 10
    let num (i : Nat) : Prop := a i ≠ .nan ∧ b i ≠ .nan
    (∀ p ∈ [
      (Instr.vceq c t f, 0, fun i => decide (num i ∧ vCmp (a i) (b i) = .eq)),
      (Instr.vcne c t f, 0, fun i => decide (¬(num i ∧ vCmp (a i) (b i) = .eq))),
      (Instr.vclt c t f, 0, fun i => decide (num i ∧ vCmp (a i) (b i) = .lt)),
      (Instr.vcle c t f, 0, fun i => decide (num i ∧ vCmp (a i) (b i) ≠ .gt)),
      (Instr.vcgt c t f, 0, fun i => decide (num i ∧ vCmp (a i) (b i) = .gt)),
      (Instr.vcge c t f, 0, fun i => decide (num i ∧ vCmp (a i) (b i) ≠ .lt)),
      (Instr.vcltu c t f, 10, fun i => decide (e 40 i < e 36 i)),
      (Instr.vcgeu c t f, 10, fun i => decide (e 36 i ≤ e 40 i)),
      (Instr.vcun c t f, 0, fun i => decide (¬num i))],
      p.2.1 ≤ code → d < 8 → code ≠ 9 → code ≠ 11 → zeroFields f [(0, 10), (20, 3), (32, 4)] = true →
      (¬(5 ≤ code ∧ code ≤ 8) → opField f 10 5 = 0) →
      ∃ m : BitVec 256, exec p.1 s = .next (s.retire c t (th.setM d m)) ∧
        ∀ i < 256, m.getLsbD i =
          if i < fmtCount code then (if act i then p.2.2 i else !f.getLsbD 27 && (th.getM d).getLsbD i)
          else (th.getM d).getLsbD i) ∧
    (zeroFields f [(0, 5), (10, 5), (20, 3), (27, 1), (32, 8), (44, 4)] = true →
      let z := opField f 5 5
      let live := (List.range (fmtCount code)).filter act
      let nan : Nat := if 10 ≤ code then 0 else if 5 ≤ code then 0xFF00 else canonNan code
      let shown (i : Nat) : Nat :=
        if a i = .nan then nan
        else if 5 ≤ code ∧ code ≤ 9 then e 40 i + 2 ^ 8 * fieldOf (th.getPair (opField f 15 5)) (8 * (i / 32)) 8
        else if code = 11 then ofSigned 8 (toSigned 4 (e 40 i)) else e 40 i
      let first (o : Ordering) (i : Nat) : Prop := i ∈ live ∧
        if ∃ j ∈ live, a j = .nan then a i = .nan ∧ ∀ j ∈ live, j < i → a j ≠ .nan
        else (∀ j ∈ live, vCmpZ (a j) (a i) ≠ o) ∧ ∀ j ∈ live, j < i → vCmpZ (a i) (a j) = o
      (∀ p ∈ [(Instr.vrmax c t f, Ordering.gt), (Instr.vrmin c t f, Ordering.lt)],
        (live = [] → exec p.1 s = .next (s.retire c t (th.setS z (BitVec.ofNat 64 nan)))) ∧
        (∀ i, first p.2 i → exec p.1 s = .next (s.retire c t (th.setS z (BitVec.ofNat 64 (shown i)))))) ∧
      (live = [] → exec (.vrmaxi c t f) s = .next (s.retire c t (th.setS z (BitVec.ofNat 64 (fmtCount code))))) ∧
      (∀ i, first .gt i → exec (.vrmaxi c t f) s = .next (s.retire c t (th.setS z (BitVec.ofNat 64 i)))))

/-- R121, R156, R158, R159, R122: VCVT converts its part of the elements, and the transcendentals round the exact result once in
FP32; EXP2.F writes for each active element a code within two units in the last place of the exact result where that is finite
(or the special result of Table 05-7), the code among these being open. Where a clause rests on a choice of the model's own,
log entries 15, 23, 45 say so. -/
def Obligations.ConversionAndTranscendentals : Prop :=
  ∀ (s : State) (c : BitVec 9) (t : BitVec 10) (th : Thread) (f : BitVec 48),
    s.canRun c t th = true → vvGovOk f = true →
    let src := opField f 23 4
    let dst := opField f 1 4
    let rm := opField f 21 2
    let sat := f.getLsbD 20
    let d := opField f 44 4
    let va := th.getV (opField f 40 4)
    let p := opField f 32 4
    let a := fmtCount src
    let b := fmtCount dst
    let n := min a b
    let ratio := max a b / n
    let so := if b < a then n * p else 0
    let d0 := if a < b then n * p else 0
    let act (i : Nat) : Bool := !f.getLsbD 31 || (th.getM (opField f 28 3)).getLsbD (if n = 512 then i / 2 else i)
    let isMx (k : Nat) : Prop := 5 ≤ k ∧ k ≤ 9
    let scaleOk (k r : Nat) : Prop := if isMx k then (k = 9 → r % 2 = 0) else r = 0
    let x (i : Nat) : Val := decodeElem src
      (if isMx src then fieldOf (th.getPair (opField f 15 5)) (8 * ((so + i) / 32)) 8 else 0) (elemAt src va (so + i))
    (f.getLsbD 0 = false → opField f 36 4 = 0 → opField f 10 5 = 0 → src ≤ 13 → dst ≤ 13 → src ≠ dst → p < ratio →
      (sat = true → 3 ≤ dst) → scaleOk src (opField f 15 5) → scaleOk dst (opField f 5 5) → ¬isMx dst →
      ∃ w, exec (.vcvt c t f) s = .next (s.retire c t ((th.setV d w).addFlags
          (if 10 ≤ src ∧ 10 ≤ dst then 0 else flAll (((List.range n).filter act).map (fun i => (roundElem dst rm sat (x i)).2))))) ∧
        ∀ i < b, elemAt dst w i =
          if d0 ≤ i ∧ i < d0 + n then
            (if act (i - d0) then
              (if 10 ≤ src ∧ 10 ≤ dst then narrowInt (fmtBits dst) sat (toSigned (fmtBits src) (elemAt src va (so + (i - d0))))
               else (roundElem dst rm sat (x (i - d0))).1)
             else if f.getLsbD 27 then 0 else elemAt dst (th.getV d) i)
          else elemAt dst (th.getV d) i) ∧
    (f.getLsbD 0 = false → opField f 36 4 = 0 → opField f 10 5 = 0 → src ≤ 13 → src ≠ dst → p < ratio →
      scaleOk src (opField f 15 5) → scaleOk dst (opField f 5 5) → isMx dst →
      let old : Nat := if dst = 9 then th.getPair (opField f 5 5) else (th.getS (opField f 5 5)).toNat
      ∃ w sc fl, exec (.vcvt c t f) s = .next (s.retire c t ((putScales (th.setV d w) dst (opField f 5 5) sc).addFlags fl)) ∧
        ∀ blk < b / 32, mxBlockOf dst w sc blk =
          if d0 / 32 ≤ blk ∧ blk < d0 / 32 + n / 32 then
            mxBlockAfter dst rm sat (f.getLsbD 27) (fun j => act (32 * (blk - d0 / 32) + j)) (fun j => x (32 * (blk - d0 / 32) + j))
              (mxBlockOf dst (th.getV d) old blk)
          else mxBlockOf dst (th.getV d) old blk) ∧
    (∀ q ∈ [(Instr.exp2 c t f, Trans.exp2), (Instr.log2 c t f, Trans.log2), (Instr.rcp c t f, Trans.rcp),
        (Instr.rsqrt c t f, Trans.rsqrt)],
      zeroFields f [(0, 21), (23, 4), (32, 8)] = true →
      let r (i : Nat) : Val × Fl := transEval q.2 (decodeFloat (ffmt 0) (elemAt 0 va i))
      ∃ w, exec q.1 s = .next (s.retire c t ((th.setV d w).addFlags (flAll (((List.range 64).filter (vvActiveAt th f 0)).map
          (fun i => (r i).2 ||| (roundTo 0 rm false (r i).1).2))))) ∧
        ∀ i < 64, elemAt 0 w i = if vvActiveAt th f 0 i then (roundTo 0 rm false (r i).1).1
          else if f.getLsbD 27 then 0 else elemAt 0 (th.getV d) i) ∧
    (zeroFields f [(0, 27), (32, 8)] = true → bwReplay (s.cell c.toNat).bind = false →
      ∃ w fl, exec (.exp2F c t f) s = .next (({ s with free := s.free + 64 } : State).retire c t ((th.setV d w).addFlags fl)) ∧
        ∀ i < 64,
          let e := transEval .exp2 (decodeFloat (ffmt 0) (elemAt 0 va i))
          if vvActiveAt th f 0 i then
            elemAt 0 w i = (roundTo 0 0 false e.1).1 ∨ near2 (elemAt 0 w i) e.1 = true
          else elemAt 0 w i = if f.getLsbD 27 then 0 else elemAt 0 (th.getV d) i)

/-- Table 04-12, majors 0x25 and 0x26, with R102, R103 and R120: the mask operations, moves and permutes complete with the results
of the table. Where a clause rests on a choice of the model's own, log entries 50, 51 say so. -/
def Obligations.MaskAndMoveResults : Prop :=
  ∀ (s : State) (c : BitVec 9) (t : BitVec 10) (th : Thread) (f : BitVec 48),
    s.canRun c t th = true →
    let code := opField f 23 4
    let d := opField f 44 4
    let a := opField f 40 4
    let b := opField f 36 4
    let p := opField f 32 4
    let z := opField f 5 5
    let sx := th.getS (opField f 15 5)
    let sy := (th.getS (opField f 10 5)).toNat
    let va := th.getV a
    let vb := th.getV b
    let act := vvActiveAt th f code
    let toM (m : BitVec 256) : Host.Outcome State Fault Refusal := .next (s.retire c t (th.setM d m))
    let toS (n : Nat) : Host.Outcome State Fault Refusal := .next (s.retire c t (th.setS z (BitVec.ofNat 64 n)))
    let lowBit (m : BitVec 256) (n : Nat) : Prop := (n = 256 ∧ m = 0) ∨ (n < 256 ∧ m.getLsbD n = true ∧ ∀ i < n, m.getLsbD i = false)
    (d < 8 → a < 8 → b < 8 → zeroFields f [(0, 36)] = true →
      exec (.mand c t f) s = toM (th.getM a &&& th.getM b) ∧ exec (.mor c t f) s = toM (th.getM a ||| th.getM b) ∧
      exec (.mxor c t f) s = toM (th.getM a ^^^ th.getM b) ∧ exec (.mandn c t f) s = toM (th.getM a &&& ~~~th.getM b)) ∧
    (d < 8 → a < 8 → zeroFields f [(0, 40)] = true → exec (.mnot c t f) s = toM (~~~th.getM a)) ∧
    (d < 8 → zeroFields f [(0, 44)] = true → exec (.mset c t f) s = toM (BitVec.allOnes 256)) ∧
    (a < 8 → zeroFields f [(0, 5), (10, 30), (44, 4)] = true →
      exec (.mpop c t f) s = toS ((List.range 256).countP (fun i => (th.getM a).getLsbD i)) ∧
      ∀ n, lowBit (th.getM a) n → exec (.mfirst c t f) s = toS n) ∧
    (d < 8 → p ≤ 3 → zeroFields f [(0, 15), (20, 12), (36, 8)] = true → ∃ m : BitVec 256, exec (.mfroms c t f) s = toM m ∧
      ∀ i < 256, m.getLsbD i = if i / 64 = p then sx.getLsbD (i % 64) else (th.getM d).getLsbD i) ∧
    (a < 8 → p ≤ 3 → zeroFields f [(0, 5), (10, 22), (36, 4), (44, 4)] = true →
      exec (.mtos c t f) s = toS ((th.getM a).extractLsb' (64 * p) 64).toNat) ∧
    (d < 8 → zeroFields f [(0, 15), (20, 24)] = true → ∃ m : BitVec 256, exec (.mrange c t f) s = toM m ∧
      ∀ i < 256, m.getLsbD i = decide (i < sx.toNat)) ∧
    (∀ q ∈ [(Instr.vmov c t f, (0, 13), [(0, 23), (32, 8)], fun i => elemAt code va i),
        (Instr.vbcast c t f, (0, 13), [(0, 15), (20, 3), (32, 12)], fun _ => opField64 sx 0 (fmtBits code)),
        (Instr.viota c t f, (10, 13), [(0, 23), (32, 12)], fun i => i % 2 ^ fmtBits code),
        (Instr.vperm c t f, (0, 13), [(0, 23), (32, 4)], fun i => elemAt code va (elemAt code vb i % fmtCount code))],
      q.2.1.1 ≤ code → code ≤ q.2.1.2 → (q.1 = .vperm c t f → ¬(5 ≤ code ∧ code ≤ 9)) → vvGovOk f = true →
      zeroFields f q.2.2.1 = true →
      ∃ w, exec q.1 s = .next (s.retire c t (th.setV d w)) ∧
        ∀ i < fmtCount code, elemAt code w i =
          if 5 ≤ code ∧ code ≤ 9 then
            (if act (i / 32 * 32) then (if act i then q.2.2.2 i else 0)
             else if f.getLsbD 27 then 0 else elemAt code (th.getV d) i)
          else if act i then q.2.2.2 i else if f.getLsbD 27 then 0 else elemAt code (th.getV d) i) ∧
    (code ≤ 13 → zeroFields f [(0, 5), (15, 8), (27, 13), (44, 4)] = true →
      exec (.vext c t f) s = if sy < fmtCount code then toS (elemAt code va sy) else .next (s.trapped c t 0x02 0 0)) ∧
    (code ≤ 13 → sy < fmtCount code → zeroFields f [(0, 10), (20, 3), (27, 17)] = true →
      ∃ w, exec (.vins c t f) s = .next (s.retire c t (th.setV d w)) ∧
        ∀ i < fmtCount code, elemAt code w i = if i = sy then opField64 sx 0 (fmtBits code) else elemAt code (th.getV d) i)

/-- R124 to R126, R143 to R153, Table 04-13: the accumulator instructions complete for every thread that can run, every word with
legal fields and allocated handles, where no accumulator leaves its range. VDOT, VDOTS, VAXPY, ACCADDS and ACCACC add their
exact contributions under R147; ACCNEG negates; ACCCLR and ACCCLRG write zero; ACCRND and ACCRNDV round once; ACCLD and ACCST
move the 80-byte image; ACCALLOC gives the lowest free handle and ACCFREE frees one. A sum out of range traps ACC_RANGE with
nothing changed; a handle that is not allocated traps ACC_ALLOC with detail 2. Where a clause rests on a choice of the model's
own, log entry 53 says so. -/
def Obligations.AccumulatorResults : Prop :=
  ∀ (s : State) (c : BitVec 9) (t : BitVec 10) (th : Thread) (f : BitVec 48),
    s.canRun c t th = true →
    let x := s.cell c.toNat
    let code := opField f 23 4
    let idx := opField f 31 4
    let rm := opField f 11 2
    let sat := f.getLsbD 5
    let g := (th.getS (opField f 35 5)).toNat
    let sd := th.getS (opField f 6 5)
    let va := th.getV (opField f 44 4)
    let acc (h i : Nat) : AccVal := Tab.get (.fin 0) x.accs (h * 16 + i)
    let used := s.useGroup c.toNat g
    let isMx : Prop := 5 ≤ code ∧ code ≤ 9
    let scaleOk (r : Nat) : Prop := if isMx then (code = 9 → r % 2 = 0) else r = 0
    let act (i : Nat) : Bool := !f.getLsbD 30 || (th.getM (opField f 27 3)).getLsbD (if fmtBits code == 4 then i / 2 else i)
    let elt (lo r i : Nat) : Val := decodeElem code
      (if isMx then fieldOf (th.getPair (opField f r 5)) (8 * (i / 32)) 8 else 0) (elemAt code (th.getV (opField f lo 4)) i)
    let upd (u : State) (l : List (Nat × AccVal)) : State := l.foldl (fun u a => u.setAcc c.toNat g a.1 a.2) u
    -- one accumulator and the contributions to it: the state reached, or ACC_RANGE
    let adds (u : State) (l : List (Nat × List (Val × Fl) × Bool)) : Host.Outcome State Fault Refusal :=
      let r := l.map (fun a => (a.1, accumulate (acc g a.1) (a.2.1.map (fun v => accOf v.1)) a.2.2))
      if r.any (fun a => a.2.isNone) then .next (u.trapped c t 0x0C 0 0)
      else .next ((upd u (r.filterMap (fun a => a.2.map (fun v => (a.1, v.1))))).retire c t
        (th.addFlags (flAll (l.map (fun a => flAll (a.2.1.map (·.2)))) ||| flAll (r.filterMap (fun a => a.2.map (·.2))))))
    let dots (i lo n : Nat) : Nat × List (Val × Fl) × Bool :=
      let js := ((List.range n).map (lo + ·)).filter act
      (i, js.map (fun j => vMul (elt 44 18 j) (elt 40 13 j)), js.any (fun j => (elt 44 18 j).isNan || (elt 40 13 j).isNan))
    (f.getLsbD 30 = true ∨ opField f 27 3 = 0) →
    (x.accOwner.any (fun a => a.1 == g)) = true →
    (code ≤ 13 → scaleOk (opField f 18 5) → scaleOk (opField f 13 5) → opField f 0 13 = 0 →
      exec (.vdot c t f) s = adds used [dots idx 0 (fmtCount code)] ∧
      (idx ≤ 4 → exec (.vdots c t f) s = adds used ((List.range (2 ^ idx)).map (fun i =>
        dots i (i * (fmtCount code / 2 ^ idx)) (fmtCount code / 2 ^ idx))))) ∧
    (code ≤ 13 → code ≠ 11 → idx < fmtCount code / 16 → scaleOk (opField f 18 5) →
      zeroFields f [(0, 6), (11, 7), (27, 4), (40, 4)] = true →
      let k := if 10 ≤ code then Val.fin (decide (sd.toInt < 0)) sd.toInt.natAbs 0 else decodeFloat (ffmt 0) (opField64 sd 0 32)
      exec (.vaxpy c t f) s = adds used ((List.range 16).map (fun j =>
        (j, [vMul k (elt 44 18 (16 * idx + j))], k.isNan || (elt 44 18 (16 * idx + j)).isNan)))) ∧
    (code = 0 ∨ code = 13 → zeroFields f [(0, 6), (11, 12), (27, 4), (40, 8)] = true →
      let v := if code = 0 then decodeFloat (ffmt 0) (opField64 sd 0 32) else Val.fin (decide (sd.toInt < 0)) sd.toInt.natAbs 0
      exec (.accadds c t f) s = adds used [(idx, [(v, 0)], v.isNan)]) ∧
    (opField f 13 5 ≤ 15 → zeroFields f [(0, 13), (23, 8), (40, 8)] = true →
      let h := (th.getS (opField f 18 5)).toNat
      let v := accVal (acc h (opField f 13 5))
      (x.accOwner.any (fun a => a.1 == h) = true →
        exec (.accacc c t f) s = adds (used.useGroup c.toNat h) [(idx, [(v, 0)], v.isNan)]) ∧
      (x.accOwner.any (fun a => a.1 == h) = false → exec (.accacc c t f) s = .next (used.trapped c t 0x06 2 0))) ∧
    (zeroFields f [(0, 31), (40, 8)] = true →
      exec (.accneg c t f) s = (match acc g idx with
        | .fin n => if n = -(2 ^ 638) then .next (used.trapped c t 0x0C 0 0)
          else if -(2 ^ 638) < n ∧ n ≤ 2 ^ 638 then .next ((upd used [(idx, .fin (-n))]).retire c t th)
          else .next (used.trapped c t 0x0C 0 0)
        | .inf b => .next ((upd used [(idx, .inf (!b))]).retire c t th)
        | .nan => .next ((upd used [(idx, .nan)]).retire c t th)) ∧
      exec (.accclr c t f) s = .next ((upd used [(idx, .fin 0)]).retire c t th)) ∧
    (zeroFields f [(0, 35), (40, 8)] = true →
      exec (.accclrg c t f) s = .next ((upd used ((List.range 16).map (fun i => (i, .fin 0)))).retire c t th)) ∧
    (code ≤ 4 ∨ code = 10 ∨ code = 12 ∨ code = 13 → (sat = true → 3 ≤ code) →
      let out (i : Nat) : Nat × Fl := roundElem code rm sat (match acc g i with
        | .fin n => .fin (if n = 0 then rm == 3 else decide (n < 0)) n.natAbs (-320)
        | .inf b => .inf b
        | .nan => .nan)
      (zeroFields f [(0, 5), (13, 10), (27, 4), (40, 8)] = true → exec (.accrnd c t f) s =
        .next (used.retire c t ((th.setS (opField f 6 5) (BitVec.ofNat 64 (out idx).1)).addFlags (out idx).2))) ∧
      (zeroFields f [(0, 5), (6, 5), (13, 10), (40, 4)] = true → idx < fmtCount code / 16 →
        let live := (List.range 16).filter (fun j => act (16 * idx + j))
        ∃ w, exec (.accrndv c t f) s =
            .next (used.retire c t ((th.setV (opField f 44 4) w).addFlags (flAll (live.map (fun j => (out j).2))))) ∧
          ∀ i < fmtCount code, elemAt code w i =
            if 16 * idx ≤ i ∧ i < 16 * idx + 16 ∧ act i = true then (out (i - 16 * idx)).1 else elemAt code va i)) ∧
    (zeroFields f [(0, 6), (11, 20), (40, 8)] = true → sd.toNat % 16 = 0 → sd.toNat + 80 ≤ scratchSize x →
      let word := leNat (scratchRead x sd.toNat 80)
      let u := used.scratchCount c.toNat sd.toNat 80
      exec (.accld c t f) s = (match accOfWord word with
        | some v => .next ((upd u [(idx, v)]).retire c t th)
        | none => .next ((upd u [(idx, .nan)]).retire c t (th.addFlags flNV))) ∧
      exec (.accst c t f) s = .next ((used.scratchWrite c.toNat sd.toNat (leBytes 80 (accWord (acc g idx)))).retire c t th)) ∧
    (zeroFields f [(0, 35), (40, 8)] = true → exec (.accfree c t f) s = .next ((used.setCell c.toNat
      { used.cell c.toNat with accOwner := Tab.del (used.cell c.toNat).accOwner g,
                               accBank := (used.cell c.toNat).accBank.filter (· != g),
                               accs := (used.cell c.toNat).accs.filter (fun a => a.1 / 16 != g) }).retire c t th))

/-- R124: ACCALLOC needs no handle. It gives the lowest handle below the declared count that is not allocated, makes the group the
thread's own, and leaves what its accumulators hold open; where all are allocated it traps ACC_ALLOC with detail 1; and an
instruction on a handle that is not allocated traps ACC_ALLOC with detail 2. Where a clause rests on a choice of the model's
own, log entry 16 says so. -/
def Obligations.AccumulatorHandles : Prop :=
  ∀ (s : State) (c : BitVec 9) (t : BitVec 10) (th : Thread) (f : BitVec 48),
    s.canRun c t th = true →
    let x := s.cell c.toNat
    let n := (x.bind.extractLsb' 51 7).toNat
    let free (h : Nat) : Prop := x.accOwner.any (fun a => a.1 == h) = false
    (zeroFields f [(0, 6), (11, 37)] = true →
      (∀ h < n, free h → (∀ j < h, ¬free j) → ∃ u y, exec (.accalloc c t f) s = .next u ∧
        (u.cell c.toNat).thread? t.toNat = some y ∧ y.getS (opField f 6 5) = (if opField f 6 5 = 0 then 0 else BitVec.ofNat 64 h) ∧
        y.pc = th.pc + 8 ∧ Tab.find? (u.cell c.toNat).accOwner h = some t.toNat ∧
        (∀ j, j ≠ h → Tab.find? (u.cell c.toNat).accOwner j = Tab.find? x.accOwner j) ∧
        (∀ j, j / 16 ≠ h → Tab.get (.fin 0) (u.cell c.toNat).accs j = Tab.get (.fin 0) x.accs j) ∧ u.mem = s.mem) ∧
      ((∀ h < n, ¬free h) → exec (.accalloc c t f) s = .next (s.trapped c t 0x06 1 0))) ∧
    (zeroFields f [(0, 31), (40, 8)] = true → free (th.getS (opField f 35 5)).toNat →
      ∀ i ∈ [Instr.accneg c t f, Instr.accclr c t f], exec i s = .next (s.trapped c t 0x06 2 0))

/-- R149: the state of an accumulator after finite, infinite and NaN contributions depends on neither their order nor their
division among instructions, as long as no sum leaves the range. -/
def Obligations.ExactSumIsOrderIndependent : Prop :=
  (∀ (a : AccVal) (l m : List AccVal) (n : Bool), l.Perm m → accumulate a l n = accumulate a m n) ∧
  ∀ (a b : AccVal) (l m : List AccVal) (n1 n2 n : Bool) (f1 f2 : Fl) (r : AccVal),
    accumulate a l n1 = some (b, f1) → accumulate b m n2 = some (r, f2) → ∃ f, accumulate a (l ++ m) n = some (r, f)

/-- R64, R65, R67, R116, R129 to R135, Tables 04-14 and 04-15: the system instructions complete for every thread that can run. A
barrier holds the thread while another of its group (or command) has not arrived and else lets all that wait go on; NOTIFY and
NOTIFYW answer 0, 1 or 2; RDID gives its eleven selectors; RDCYC and RDTIME read the cell's cycles and device time; TRAP
raises SOFTWARE; EXIT ends the thread; FLAGS reads and may clear the sticky flags. Where a clause rests on a choice of the
model's own, log entries 46, 54, 56 say so. -/
def Obligations.SystemResults : Prop :=
  ∀ (s : State) (c : BitVec 9) (t : BitVec 10) (th : Thread) (f : BitVec 48),
    s.canRun c t th = true →
    let x := s.cell c.toNat
    let d := opField f 43 5
    let n := opField f 30 3
    let toS (v : W64) : Host.Outcome State Fault Refusal := .next (s.retire c t (th.setS d v))
    let replay := x.bind.getLsbD 58
    (f = 0 → exec (.nop c t f) s = .next (s.retire c t th)) ∧
    (f = 0 →
      let others := x.threads.filter (fun kv => kv.1 / 64 == t.toNat / 64 && kv.1 != t.toNat)
      ((∃ kv ∈ others, kv.2.run ≠ .barG ∧ kv.2.run ≠ .exited) →
        exec (.barg c t f) s = .next (s.withThread c t { th with run := .barG })) ∧
      ((∀ kv ∈ others, kv.2.run = .barG ∨ kv.2.run = .exited) → ∃ u, exec (.barg c t f) s = .next u ∧
        (u.cell c.toNat).thread? t.toNat = some { th with run := .ready, pc := th.pc + 8, since := s.nextOrder } ∧
        ∀ k y, k ≠ t.toNat → x.thread? k = some y → (u.cell c.toNat).thread? k =
          some (if k / 64 = t.toNat / 64 ∧ y.run = .barG then { y with run := .ready, pc := y.pc + 8, since := s.nextOrder } else y))) ∧
    (zeroFields f [(0, 30), (33, 15)] = true → ∀ id, x.cmd = some id →
      let here := x.threads.filter (fun kv => kv.1 != t.toNat)
      let away := (s.cells.filter (fun kv => kv.1 != c.toNat && kv.2.cmd == some id)).flatMap (·.2.threads)
      let late (kv : Nat × Thread) : Prop := kv.2.run ≠ .barJ (BitVec.ofNat 3 n) ∧ kv.2.run ≠ .exited
      ((∃ kv ∈ here ++ away, late kv) →
        exec (.barj c t f) s = .next (s.withThread c t { th with run := .barJ (BitVec.ofNat 3 n) })) ∧
      ((∀ kv ∈ here ++ away, ¬late kv) → ∃ u, exec (.barj c t f) s = .next u ∧
        (u.cell c.toNat).thread? t.toNat = some { th with run := .ready, pc := th.pc + 8, since := s.nextOrder })) ∧
    (n ≤ 2 → zeroFields f [(0, 30), (33, 15)] = true → exec (.fence c t f) s = .next (s.retire c t th)) ∧
    (zeroFields f [(0, 33)] = true →
      let r := s.sendWord (th.getS (opField f 38 5)).toNat (th.getS (opField f 33 5)) (s.ownStamp (x.bind.extractLsb' 0 20)) true
      let at_ (u : State) (v : W64) : Host.Outcome State Fault Refusal :=
        .next ((u.modThread c.toNat t.toNat (fun y => y.setS d v)).goOn c.toNat t.toNat (th.pc.toNat + 8))
      (∀ i ∈ [Instr.notify c t f, Instr.notifyw c t f], (i = .notify c t f → replay = false) →
        (∀ u, r = (.taken, u) → exec i s = at_ u 0) ∧ (r.1 = .refused → exec i s = at_ s.reject 2)) ∧
      (replay = false → r.1 = .full → exec (.notify c t f) s = at_ s.reject 1) ∧
      (r.1 = .full → exec (.notifyw c t f) s = .next (s.withThread c t { th with run := .notify }))) ∧
    (zeroFields f [(24, 19)] = true →
      let lent := x.state == .lent
      ∀ p ∈ [(0, t.toNat % 64), (1, t.toNat / 64), (2, if lent then x.part.1 else opField64 x.bind 32 9), (3, opField64 x.bind 41 5),
          (4, if lent then x.part.2 else
            (s.cells.filter (fun kv => kv.2.state == .bound && kv.2.job == some (x.bind.extractLsb' 0 20))).length),
          (5, opField64 x.bind 46 5), (6, opField64 x.bind 51 7), (7, opField64 x.bind 0 20), (8, opField64 x.bind 20 12),
          (9, opField64 x.bind 58 1), (10, opField64 x.bind 60 1)],
        opField f 0 24 = p.1 → exec (.rdid c t f) s = toS (BitVec.ofNat 64 p.2)) ∧
    (zeroFields f [(0, 43)] = true →
      (replay = false → exec (.rdcyc c t f) s = toS (BitVec.ofNat 64 s.cycles) ∧
        exec (.rdtime c t f) s = toS (BitVec.ofNat 64 s.time)) ∧
      (replay = true → ∀ p ∈ [(Instr.rdcyc c t f, 0x3807), (Instr.rdtime c t f, 0x3808)],
        exec p.1 s = .next ((s.count pgTRL 0x070 0 16 1).trapped c t 0x03 p.2 0))) ∧
    (zeroFields f [(16, 32)] = true → exec (.trap c t f) s = .next (s.trapped c t 0x0E (opField f 0 16) 0)) ∧
    (f = 0 → th.f0.trap = none → th.f1.trap = none → th.f0.copies = [] → th.f1.copies = [] →
      ∃ u y, exec (.exit c t f) s = .next u ∧ (u.cell c.toNat).thread? t.toNat = some y ∧ y.run = .exited ∧ y.resident = false ∧
        y.pc = th.pc ∧ u.mem = s.mem) ∧
    (zeroFields f [(1, 42)] = true → exec (.flags c t f) s = .next (s.retire c t
      { th.setS d (th.flags.setWidth 64) with flags := if f.getLsbD 0 then 0 else th.flags }))

/-- R134, R135: what a trap leaves of the thread: its record holds cause, detail, program counter and address in the fields of
R134, it is stopped with its furrows unset and gives up its context, and its registers are as before. -/
def Obligations.TrapRecord : Prop :=
  ∀ (s : State) (c t cause detail : Nat) (addr : W64) (y : Thread), cause < 256 →
    (s.cell c).thread? t = some y →
    ∃ z, ((s.recordTrap { cell := c, thread := t, cause := cause, detail := detail, addr := addr }).cell c).thread? t = some z ∧
      z.trap.extractLsb' 0 8 = BitVec.ofNat 8 cause ∧ z.trap.extractLsb' 8 16 = BitVec.ofNat 16 detail ∧
      z.trap.extractLsb' 24 24 = y.pc ∧ z.trap.extractLsb' 48 64 = addr ∧ z.trap.extractLsb' 112 16 = 0 ∧
      z.run = .stopped ∧ z.resident = false ∧ z.f0 = {} ∧ z.f1 = {} ∧ z.pc = y.pc ∧ z.flags = y.flags ∧
      z.s = y.s ∧ z.v = y.v ∧ z.m = y.m

/-- R37, R44, R46, R48, R54, R471, Tables 02-6 and 02-7: the PLM commands with no revocation point complete at once, on every path
that may write the page, on a plot on which nothing else is in progress (CREATE and RESTORE on a free handle): CREATE makes
the plot that its arguments describe, at version 0 with no grants, on free granules or slots, with AUTO at the lowest free
handle; GRANT that removes no right writes its entry; RESIZE to a larger size adds room at the end and to the same size
nothing; QUERY answers attributes, size, set, state, grant slots and version in any state; MAP_WINDOW writes the tenant's
window entry; RESTORE rebuilds an entry from the granule map or the tier tags with the version of PLM.VERSION. Each answers OK
with the handle; no other plot and no byte of memory differs. Where a clause rests on a choice of the model's own, log entries
12, 70, 71, 73, 114 say so. -/
def Obligations.PlmCommandsComplete : Prop :=
  ∀ (s : State) (p : Path) (h : BitVec 16),
    s.takes p pgPLM = true →
    let s0 := s.started pgPLM
    let q := s.plot h
    let e := q.cur
    let a (n : Nat) : Nat := s.arg pgPLM n
    let ok (i : Instr) (good : State → Prop) : Prop := ∃ u, exec i s = .next u ∧ PlmAnswered u 0 h ∧
      (∀ x, x ≠ h → u.plot x = s.plot x) ∧ u.mem = s.mem ∧ good u
    let new := attrEntry (a 0) (a 1) (a 2)
    let allowed : Prop := s0.argsBad pgPLM 0 [0x377FFF, 0x1FFFF, 0x1F, 0] = false ∧ attrBad new = false ∧
      s.tenantOpen new.owner = true ∧ (new.conf = true ∨ s.tenantConf new.owner = false) ∧ s0.overLimit h new = false
    (∀ auto g k h0, freeState e = true → allowed → s0.room new new.size = .ok g k →
      (if auto then s0.freeHandle = some h else h0 = h) →
      ok (.create p auto 0 h0) (fun u => (u.plot h).cur = { new with grans := g, slots := k } ∧ (u.plot h).rev = none ∧
        (u.pair h).cur.isSome = new.conf)) ∧
    (∀ g l, freeState e = true ∨ e.state = .cplErr → q.rev = none → allowed → s0.recorded h new = some (g, l) →
      (new.tiered = false ∨ ∃ m, s0.slotRoom (new.size - l.length) = .ok [] m) →
      ok (.restore p false 0 h) (fun u =>
        let n := (u.plot h).cur
        n.state = .active ∧ n.owner = new.owner ∧ n.size = new.size ∧ n.grans = g ∧ n.slots.length = (if new.tiered then new.size else 0) ∧
        (∀ x ∈ l, n.slots[x.1]? = some x.2 ∨ ∃ y ∈ l, y.1 = x.1 ∧ n.slots[x.1]? = some y.2) ∧
        n.grants = [] ∧ n.allow = none ∧ n.sealed = s.granules.any (fun kv => kv.2.owner == h && kv.2.sealed) ∧
        n.version = (s.rd pgPLM 0x064) ++ (s.rd pgPLM 0x060))) ∧
    (s.plotQuiet h = true → s0.argsBad pgPLM 0 [0x0F1FFFFF, 0, 0, 0] = false → ((a 0).testBit 20 = true ∨ (a 0) % 2 ^ 20 < 8192) →
      let job := (a 0).testBit 20
      let id := BitVec.ofNat 20 (a 0)
      let r : BitVec 4 := BitVec.ofNat 4 (fieldOf (a 0) 24 4)
      let was := ((findGrant e job id).map (·.live)).getD 0
      r ≠ 0 → was &&& ~~~r = 0 → ((findGrant e job id).isSome = true ∨ e.grants.length < s.fld pgPLM 0x084 0 9) →
      ok (.grant p false 0 h) (fun u =>
        (u.plot h).cur = { e with grants := (u.plot h).cur.grants } ∧ (u.plot h).rev = none ∧
        findGrant (u.plot h).cur job id = some { job := job, id := id, live := r, removed := 0 } ∧
        (∀ j i, (j ≠ job ∨ i ≠ id) → findGrant (u.plot h).cur j i = findGrant e j i))) ∧
    (s.plotQuiet h = true → s0.argsBad pgPLM 0 [0, 0x1FFFF, 0, 0] = false → a 1 ≠ 0 → sizeBad e (a 1) = false →
      (a 1 = e.size → ok (.resize p false 0 h) (fun u => u.plots = s.plots)) ∧
      (∀ g k, e.size < a 1 → s0.overLimit h { e with size := a 1, maxSize := if e.maxSize < a 1 then a 1 else e.maxSize } = false →
        s0.room e (a 1 - e.size) = .ok g k →
        ok (.resize p false 0 h) (fun u => (u.plot h).cur = { e with
          size := a 1, maxSize := if e.maxSize < a 1 then a 1 else e.maxSize, grans := e.grans ++ g, slots := e.slots ++ k }))) ∧
    (freeState e = false → e.state ≠ .cplErr →
      ok (.query p false 0 h) (fun u => u.plots = s.plots ∧ u.arg pgPLM 0 = attrWord e ∧ u.arg pgPLM 1 = e.size % 2 ^ 32 ∧
        u.arg pgPLM 2 = (e.set.toNat + plotCode (reportedState q) * 2 ^ 8 + e.grants.length * 2 ^ 16) % 2 ^ 32 ∧ u.arg pgPLM 3 = 0 ∧
        (u.rd pgPLM 0x064) ++ (u.rd pgPLM 0x060) = e.version)) ∧
    (s.plotQuiet h = true → s0.argsBad pgPLM 0 [0xFFF, 0xFFFFFFFF, 0x1FFFFFF, 1] = false → s.tenantKnown (a 0) = true →
      let base := a 1 + a 2 * 2 ^ 32
      ((a 3).testBit 0 = false ∨ base % pageSize e = 0) →
      ok (.mapWindow p false 0 h) (fun u => u.plots = s.plots ∧
        Tab.get {} u.windows (a 0 * 65536 + h.toNat) = { valid := (a 3).testBit 0, base := BitVec.ofNat 57 base } ∧
        ∀ k, k ≠ a 0 * 65536 + h.toNat → Tab.get {} u.windows k = Tab.get {} s.windows k))

/-- R37, R40, R48, R53, R54, Table 02-6: UNGRANT of a live entry, a GRANT that removes a right or names none, a RESIZE that
shrinks, RELEASE, SEAL and REVOKE_ALL place the plot in DRAINING and keep BUSY at 1. What will be applied at each hub's
revocation point is the new entry, in the state the command leaves the plot in where that is REVOKED or RELEASED; no hub has
applied it yet, so both still check against the old one; no other plot and no byte of memory differs. -/
def Obligations.RevokingCommandsDrain : Prop :=
  ∀ (s : State) (p : Path) (h : BitVec 16),
    s.takes p pgPLM = true → s.plotQuiet h = true →
    let s0 := s.started pgPLM
    let e := (s.plot h).cur
    let a (n : Nat) : Nat := s.arg pgPLM n
    let drains (i : Instr) (new : PlotEntry) (final : PlotState) (freed freedSlots : List Nat) : Prop :=
      ∃ u r, exec i s = .next u ∧ u.plot h = { s.plot h with cur := { e with state := .draining }, rev := some r } ∧
        r.entry = { new with state := if final = .active then .draining else final } ∧ r.final = final ∧ r.byCmd = true ∧
        r.freed = freed ∧ r.freedSlots = freedSlots ∧ reportedState (u.plot h) = .draining ∧
        (∀ hub, viewAt hub (u.plot h) = { e with state := .draining }) ∧
        u.busy pgPLM = true ∧ (∀ x, x ≠ h → u.plot x = s.plot x) ∧ u.mem = s.mem
    let dead (g : Grant) : Grant := { g with live := 0, removed := g.removed ||| g.live }
    (∀ g mask, findGrant e ((a 0).testBit 20) (BitVec.ofNat 20 (a 0)) = some g → g.live ≠ 0 →
      s0.argsBad pgPLM 0 [mask, 0, 0, 0] = false → ((a 0).testBit 20 = true ∨ (a 0) % 2 ^ 20 < 8192) →
      (mask = 0x1FFFFF → drains (.ungrant p false 0 h) { e with grants := putGrant e.grants (dead g) } .active [] []) ∧
      (mask = 0x0F1FFFFF →
        let r : BitVec 4 := BitVec.ofNat 4 (fieldOf (a 0) 24 4)
        (r = 0 → drains (.grant p false 0 h) { e with grants := putGrant e.grants (dead g) } .active [] []) ∧
        (r ≠ 0 → g.live &&& ~~~r ≠ 0 → drains (.grant p false 0 h)
          { e with grants := putGrant e.grants { g with live := r, removed := g.live &&& ~~~r } } .active [] []))) ∧
    (s0.argsBad pgPLM 0 [0, 0x1FFFF, 0, 0] = false → a 1 ≠ 0 → sizeBad e (a 1) = false → a 1 < e.size →
      drains (.resize p false 0 h) { e with size := a 1, grans := e.grans.take (a 1), slots := e.slots.take (a 1) } .active
        (e.grans.drop (a 1)) (e.slots.drop (a 1))) ∧
    (s0.argsBad pgPLM 0 [0, 0, 0, 0] = false →
      drains (.release p false 0 h) e .released e.grans e.slots ∧
      drains (.revokeAll p false 0 h) { e with grants := e.grants.map dead } .revoked [] []) ∧
    (s0.argsBad pgPLM 0 [0xFFFF, 0, 0, 0] = false → a 0 < 1024 →
      ((Tab.find? s.allow (a 0)).map (·.frozen)) = some true → (e.sealed = false ∨ e.allow = none) →
      drains (.seal p false 0 h) { e with sealed := true, allow := some (BitVec.ofNat 10 (a 0)) } .active [] [])

/-- R53, R54, R48, R55: a revoking command from its points to its end. At each hub's point that hub's plot check takes the new
entry and the other's does not; at the second point the shootdown starts. With the drain of steps 4 to 6 done the plot leaves
DRAINING in the command's final state, a command of the page answers OK, or DRAINED_WITH_LOSS when lines were lost, and what
it gave up is being cleared; the granule counts as free once its clearing completes, with every summary of it clear. Where a
clause rests on a choice of the model's own, log entry 72 says so. -/
def Obligations.RevocationRunsToItsEnd : Prop :=
  ∀ (s : State) (h : BitVec 16) (r : Revoking),
    (s.plot h).rev = some r →
    (r.at0 = false → r.at1 = false → ∀ hub : Hub, ∃ u, exec (.revocationPoint hub h) s = .next u ∧
      viewAt (if hub = .h0 then 0 else 1) (u.plot h) = r.entry ∧
      viewAt (if hub = .h0 then 1 else 0) (u.plot h) = (s.plot h).cur ∧ reportedState (u.plot h) = .draining ∧
      (∀ x, x ≠ h → u.plot x = s.plot x) ∧ u.mem = s.mem) ∧
    ((r.at0 = true ∧ r.at1 = false ∨ r.at0 = false ∧ r.at1 = true) → s.linesAt h = [] → s.deniedCmds h r.entry = [] →
      (∀ j ∈ s.journals, j.2.plot ≠ h) → ∀ hub : Hub, (if hub = .h0 then r.at0 else r.at1) = false → ∃ u, exec (.revocationPoint hub h) s = .next u ∧
      viewAt 0 (u.plot h) = r.entry ∧ viewAt 1 (u.plot h) = r.entry ∧ u.shooting (.revoke h) = true ∧
      (∀ x, x ≠ h → u.plot x = s.plot x) ∧ u.mem = s.mem) ∧
    (r.at0 = true → r.at1 = true → s.oldReqs h r.mark = false → s.shooting (.revoke h) = false → s.linesAt h = [] →
      s.txns.any (fun kv => kv.2.cause == .plot h) = false → r.byCmd = true → r.freedSlots = [] →
      ((Tab.find? s.tenants r.entry.owner.toNat).map (·.removing)).getD false = false →
      ∃ u, exec (.revokingCommandComplete h) s = .next u ∧ (u.plot h).rev = none ∧
        (u.plot h).cur = (if r.final = .released then { state := .released } else { r.entry with state := r.final }) ∧
        Answered u pgPLM (if r.lost = 0 then 0 else 0x0C) ∧ u.fld pgPLM 0x054 16 16 = h.toNat ∧
        u.fld pgPLM 0x058 0 16 = (if r.aborted < 65535 then r.aborted else 65535) ∧
        u.fld pgPLM 0x058 16 16 = (if r.lost < 65535 then r.lost else 65535) ∧
        (∀ g ∈ r.freed, g ∈ u.clearing ∧ (r.entry.sealed = (s.plot h).cur.sealed → Tab.find? u.granules g = none)) ∧
        (∀ x, x ≠ h → u.plot x = s.plot x) ∧ u.mem = s.mem) ∧
    (∀ g : BitVec 13, g.toNat ∈ s.clearing → Tab.find? s.wait pgPLM = none →
      ∃ u, exec (.granuleCleared g) s = .next u ∧ g.toNat ∉ u.clearing ∧ (∀ x ∈ u.summ, x / 4096 ≠ g.toNat) ∧
        (∀ x ∈ s.summ, x / 4096 ≠ g.toNat → x ∈ u.summ) ∧ u.plots = s.plots ∧ u.mem = s.mem)

/-- R49 to R52: PUBLISH. A descriptor whose checks pass places target and shadow in PUBLISHING; one for a target that is
publishing already is held unchecked; otherwise the first check that fails gives the status. At the publish point the two
exchange granule and slot lists and key pairs, the target's version rises to V+1 and the shadow's becomes V, while owner,
grants, seal and allow list stay with their handles. With drain, recalls and shootdown done both return to ACTIVE and the
command completes OK with the new version; a removal of the owner, a PUBLISH that is held and a PLM command that waits then go
on. -/
def Obligations.PublishExchangesTwoPlots : Prop :=
  ∀ (s : State) (id : Nat) (c : Cmd) (h t : BitVec 16) (v : BitVec 64),
    s.cmd? id = some c → pubFields c = (h, t, v) → c.opcode = 0x40 →
    let a := s.plot h
    let b := s.plot t
    (c.phase = .running → s.publishing.any (fun p => p.cmd == id) = false →
      (s.pubTarget h = true → ∃ u, exec (.publish id) s = .next u ∧ u.heldPublish = s.heldPublish ++ [id] ∧ u.plots = s.plots ∧
        u.publishing = s.publishing) ∧
      (s.pubTarget h = false →
        let owns (x : Plot) : Prop := freeState x.cur = false ∧ x.cur.owner = c.tenant
        let idle (y : BitVec 16) : Prop := (s.plot y).rev = none ∧ (s.plot y).cur.state ≠ .revoked ∧ (s.plot y).cur.state ≠ .cplErr
        let status (st : Nat) : Prop := ∃ u, exec (.publish id) s = .next u ∧ u = s.finish id st
          (if st = 0x1A then leBytes 8 a.cur.version.toNat else if st = 3 then failResult 0 0 else []) 0
        (¬(owns a ∧ owns b ∧ h ≠ t) → status 0x03) ∧
        (owns a → owns b → h ≠ t → pubAlike a.cur b.cur = false → status 0x18) ∧
        (owns a → owns b → h ≠ t → pubAlike a.cur b.cur = true →
          (¬(idle h ∧ idle t ∧ s.pubTarget t = false ∧ s.pubShadow t = false ∧ s.pubShadow h = false) → status 0x19) ∧
          (idle h → idle t → s.pubTarget t = false → s.pubShadow t = false → s.pubShadow h = false →
            (a.cur.version ≠ v → status 0x1A) ∧
            (a.cur.version = v → ∃ u, exec (.publish id) s = .next u ∧
              u.plot h = { a with cur := { a.cur with state := .publishing } } ∧
              u.plot t = { b with cur := { b.cur with state := .publishing } } ∧
              u.publishing = s.publishing ++ [{ cmd := id, target := h, shadow := t, point := false }] ∧
              (∀ x, x ≠ h → x ≠ t → u.plot x = s.plot x) ∧ u.mem = s.mem ∧ u.regs = s.regs))))) ∧
    (∀ p, s.publishing.find? (fun p => p.target == h) = some p → p.shadow = t → h ≠ t →
      (p.point = false → s.linesAt h = [] → s.linesAt t = [] → (∀ j ∈ s.journals, j.2.plot ≠ h ∧ j.2.plot ≠ t) →
        ∃ u, exec (.publishPoint h) s = .next u ∧
          u.plot h = { a with cur := { a.cur with grans := b.cur.grans, slots := b.cur.slots, version := a.cur.version + 1 }, written := false } ∧
          u.plot t = { b with cur := { b.cur with grans := a.cur.grans, slots := a.cur.slots, version := a.cur.version }, written := true } ∧
          u.pair h = s.pair t ∧ u.pair t = s.pair h ∧ u.shooting (.publish h t) = true ∧
          (∀ x, x ≠ h → x ≠ t → u.plot x = s.plot x) ∧ u.mem = s.mem ∧ u.windows = s.windows) ∧
      (p.point = true → p.cmd = id → s.oldReqs h p.mark = false → s.oldReqs t p.mark = false → s.shooting (.publish h t) = false →
        s.linesAt h = [] → s.linesAt t = [] → s.txns.any (fun kv => kv.2.cause == .plot h || kv.2.cause == .plot t) = false →
        a.cur.state = .publishing → b.cur.state = .publishing →
        ∃ w : State, w.plot h = { a with cur := { a.cur with state := .active } } ∧ w.plot t = { b with cur := { b.cur with state := .active } } ∧
          (∀ x, x ≠ h → x ≠ t → w.plot x = s.plot x) ∧ w.publishing = s.publishing.filter (fun x => x.target != h) ∧ w.mem = s.mem ∧
          exec (.publishComplete h) s =
            .next (((((w.finish id 0 (leBytes 8 a.cur.version.toNat) 0).removalRevoke h).removalRevoke t).publishHeld h).plmAgain)))

/-- R41, R475, Table 02-3: the plot check runs its checks in order and the first that fails gives the status: UNUSED NO_PLOT;
CPL_ERR ACCESS_DENIED; REVOKED or RELEASED REVOKED; a seal that does not admit the requester SEALED; a missing right marked
removed, or a byte in a range cut off by a shrink, REVOKED; a right that is absent ACCESS_DENIED; beyond the size
OUT_OF_RANGE. A job of the owner tenant holds all four rights; another has those of its grant entry. -/
def Obligations.PlotCheckOrder : Prop :=
  ∀ (s : State) (h : BitVec 16) (e : PlotEntry) (job : BitVec 20) (ident : Option (BitVec 512)) (n : Need) (r : BitVec 4) (ofs len : Nat),
    let w : Who := .inside job ident
    let st := s.checkEntry h e w n r ofs len
    let live := (s.rightsOf e w).1
    let gone := (s.rightsOf e w).2
    let sealedOut : Prop := ∃ ids, s.sealList h e = some ids ∧ s.sealAdmits h ids w n = false
    let cut : Prop := 0 < len ∧ plotBytes e < ofs + len ∧ ofs < plotMaxBytes e ∧ plotBytes e < plotMaxBytes e
    let past := e.state ≠ .unused ∧ e.state ≠ .cplErr ∧ e.state ≠ .revoked ∧ e.state ≠ .released
    (e.state = .unused → st = 0x02) ∧ (e.state = .cplErr → st = 0x03) ∧
    (e.state = .revoked ∨ e.state = .released → st = 0x04) ∧
    (past → sealedOut → st = 0x05) ∧
    (past → ¬sealedOut → (r &&& ~~~live &&& gone ≠ 0 ∨ cut) → st = 0x04) ∧
    (past → ¬sealedOut → r &&& ~~~live &&& gone = 0 → ¬cut →
      (r &&& ~~~live ≠ 0 → st = 0x03) ∧
      (r &&& ~~~live = 0 → s.journalPlot h = false →
        (plotBytes e < ofs + len → st = 0x06) ∧ (ofs + len ≤ plotBytes e → st = 0x00))) ∧
    (s.jobTenant job = some e.owner → live = 0xF) ∧
    (s.jobTenant job ≠ some e.owner → ∀ b < 4, (live.getLsbD b = true ↔
      ∃ g ∈ e.grants, g.job = true ∧ g.id = job ∧ g.live.getLsbD b = true))

/-- R62, R75, R77, R78, R82, R85, R88, R91, R93, Table 03-8: the trellis commands. BIND of a job that holds nothing binds the
lowest FREE cells of each bed with the declared resources and, in order of bed and instance, positions from 0; UNBIND stops
and purges cells; RESET_JOB stops and purges every cell of the job, ends its running commands JOB_RESET and keeps BUSY at 1
until they are purged; KLOAD takes the lowest free slot and keeps BUSY at 1; KUNLOAD frees a slot whose kernel does not run;
KQUERY shows job, length and hash; SUBSTITUTE fails the cell with cause 7 and starts the self-test of the bed's spare, and
changes nothing where it names no such cell or the bed has no spare. Where a clause rests on a choice of the model's own, log
entries 12, 42, 57, 58, 59 say so. -/
def Obligations.TrellisCommandsComplete : Prop :=
  ∀ (s : State) (p : Path),
    s.takes p pgTRL = true →
    let s0 := s.started pgTRL
    let a (n : Nat) : Nat := s.arg pgTRL n
    let job := BitVec.ofNat 20 (a 0)
    let result (u : State) (n : Nat) : Prop := Answered u pgTRL 0 ∧ u.fld pgTRL 0x054 16 16 = n % 65536
    -- BIND
    (let t := BitVec.ofNat 12 (a 0 / 2 ^ 20)
     let n := fieldOf (a 1) 24 5
     let beds := (List.range 24).filter (fun b => (a 1).testBit b)
     let taken := beds.flatMap (fun b => (s.cellsWhere (fun c x => x.state == .free && cellBed c == b)).take n)
     s0.argsBad pgTRL 0 [0xFFFFFFFF, 0x3FFFFFFF, 0x007F1F1F, 0] = false → beds ≠ [] → 1 ≤ n → n ≤ 16 →
     1 ≤ fieldOf (a 2) 0 5 → fieldOf (a 2) 0 5 ≤ 16 → 1 ≤ fieldOf (a 2) 8 5 → fieldOf (a 2) 8 5 ≤ 16 →
     1 ≤ fieldOf (a 2) 16 7 → fieldOf (a 2) 16 7 ≤ 64 → s.tenantOpen t = true → (s.jobTenant job = none ∨ s.jobTenant job = some t) →
     s.positions job = [] → taken.Nodup → taken.length = n * beds.length →
     ∃ u, exec (.bind p 0) s = .next u ∧ result u (n * beds.length) ∧ u.jobTenant job = some t ∧ u.mem = s.mem ∧ u.plots = s.plots ∧
       (∀ c, c ∉ taken → u.cell c = s.cell c) ∧
       ∀ i c, taken[i]? = some c →
         let x := u.cell c
         x.state = .bound ∧ x.bindOk = true ∧ bwJob x.bind = job ∧ bwTenant x.bind = t ∧ bwPos x.bind = i ∧
         bwGroups x.bind = fieldOf (a 2) 0 5 ∧ bwScr x.bind = fieldOf (a 2) 8 5 ∧ bwAcc x.bind = fieldOf (a 2) 16 7 ∧
         bwReplay x.bind = (a 1).testBit 29 ∧ bwConf x.bind = s.tenantConf t ∧ bwLent x.bind = false ∧ bwValid x.bind = true ∧ x.threads = []) ∧
    -- UNBIND of every cell of a job
    (s0.argsBad pgTRL 0 [0xFFFFF, 0x1FFFFFFF, 0, 0] = false → a 1 = 0xFFFFFF → s.jobHolds job = true → s.jobRuns job = false →
      (∀ q ∈ s.positions job, q.2.1 < 24) →
      ∃ u, exec (.unbind p 0) s = .next u ∧ result u (s.boundCells job).length ∧ u.mem = s.mem ∧
        (∀ c ∈ s.boundCells job, (u.cell c).state = .purging ∧ ∀ y ∈ (u.cell c).threads, y.2.live = false) ∧
        (∀ c, c ∉ s.boundCells job → u.cell c = s.cell c)) ∧
    -- RESET_JOB
    (s0.argsBad pgTRL 0 [0xFFFFF, 0, 0, 0] = false → s.jobHolds job = true → s.kload = none → s.coll = [] → s.publishing = [] →
      ∃ u, exec (.resetJob p 0) s = .next u ∧
        (∀ id c, s.cmd? id = some c → c.job = job → c.phase = .running →
          ∃ k, u.cmd? id = some k ∧ k.status = 0x0B ∧ (k.phase = .posting ∨ k.phase = .record)) ∧
        (∀ c ∈ s.boundCells job, (u.cell c).state = .purging ∧ ∀ y ∈ (u.cell c).threads, y.2.live = false) ∧
        (∀ k ∈ u.kslots, k.2.job ≠ job) ∧ u.mem = s.mem ∧
        (if (u.cellsWhere (fun _ x => x.state == .purging && bwJob x.bind == job)).isEmpty then Answered u pgTRL 0
         else u.busy pgTRL = true)) ∧
    -- KLOAD
    (∀ slot, s0.argsBad pgTRL 0 [0xFFFFF, 0xFFFFFFFF, 0x1FFFFFF, 0x1FFFFFF] = false → 1 ≤ a 3 → a 3 ≤ 0x1000000 →
      (∀ t, s.jobTenant job = some t → s.tenantOpen t = true) → s.jobHolds job = true →
      slot < 1024 → Tab.has s.kslots slot = false → (∀ i < slot, Tab.has s.kslots i = true) → (a 3 + 4095) / 4096 ≤ s.storeFree →
      let k : KLoadRun :=
        { slot := slot, job := job, tva := BitVec.ofNat 57 (a 1 + 2 ^ 32 * a 2), len := a 3, dead := false, fault := none }
      exec (.kload p 0) s = .next { s0 with kload := some k }) ∧
    -- KUNLOAD, KQUERY
    (∀ k, Tab.find? s.kslots (a 0) = some k →
      (s0.argsBad pgTRL 0 [0x3FF, 0, 0, 0] = false →
        (s.slotRuns (a 0) = false → ∃ u, exec (.kunload p 0) s = .next u ∧ result u 0 ∧ Tab.find? u.kslots (a 0) = none ∧
          (∀ i, i ≠ a 0 → Tab.find? u.kslots i = Tab.find? s.kslots i) ∧ u.mem = s.mem ∧ u.cells = s.cells) ∧
        (s.slotRuns (a 0) = true → ∃ u, exec (.kunload p 0) s = .next u ∧ Answered u pgTRL 0x05 ∧ u.kslots = s.kslots)) ∧
      (s0.argsBad pgTRL 0 [0x3FF, 0xFFFFFFFF, 0xFFFFFFFF, 0] = false →
        ∃ u, exec (.kquery p 0) s = .next u ∧ result u 0 ∧ SameData s u ∧ u.kslots = s.kslots ∧
          u.arg pgTRL 1 = k.job.toNat ∧ u.arg pgTRL 2 = k.image.length % 2 ^ 32 ∧
          ∀ i < 16, (u.rd pgTRL (0x080 + 4 * i)).toNat = fieldOf k.hash.toNat (32 * i) 32)) ∧
    (Tab.find? s.kslots (a 0) = none → s0.argsBad pgTRL 0 [0x3FF, 0, 0, 0] = false →
      ∀ i ∈ [Instr.kunload p 0, Instr.kquery p 0], ∃ u, exec i s = .next u ∧ Answered u pgTRL 0x0A ∧ SameData s u ∧ u.kslots = s.kslots) ∧
    -- SUBSTITUTE
    (s0.argsBad pgTRL 0 [0x1FF, 0, 0, 0] = false →
      let c := a 0
      let sp := 17 * (c / 17) + 16
      let k := (s.cell c).state
      (408 ≤ c ∨ k = .selftest ∨ k = .spare ∨ k = .failed →
        ∃ u, exec (.substitute p 0) s = .next u ∧ Answered u pgTRL 0x01 ∧ u.cells = s.cells) ∧
      (c < 408 → (k = .free ∨ k = .bound ∨ k = .lent ∨ k = .purging) →
        ((s.cell sp).state ≠ .spare → ∃ u, exec (.substitute p 0) s = .next u ∧ Answered u pgTRL 0x09 ∧ u.cells = s.cells) ∧
        ((s.cell sp).state = .spare → (s.cell c).cmd = none → (∀ y ∈ s.cmds, c ∉ y.2.cells) →
          ∃ u, exec (.substitute p 0) s = .next u ∧ u.busy pgTRL = true ∧ u.cell c = { (s.cell c).purged .failed with cause := 7 } ∧
            u.cell sp = { s.cell sp with state := .selftest } ∧ (∀ d, d ≠ c → d ≠ sp → u.cell d = s.cell d) ∧ u.mem = s.mem ∧
            u.substs = s.substs ++ [{ failed := c, spare := sp, toBound := k == .bound && bwValid (s.cell c).bind, bind := (s.cell c).bind,
                                      byCmd := true }])))

/-- R63, R74, R76, R79 to R81, R83 to R85, R90: the events of cells. After the self-test every passing enabled cell is FREE and
every passing spare SPARE. A cell that faults is FAILED with the cause of Table 03-5, its bit of HW_FAULT set; the bed's spare
starts its quick self-test, or the bed is reduced. A spare that passes takes on the binding of a BOUND cell or is FREE, with
SPARE_USED, SUBST_LAST and SUBST_COUNT kept and the command that asked answered OK; one that fails is FAILED. A purged cell is
FREE; a LENT cell whose operation has ended is purged; a part that finds no cell ends its command NO_CELLS; a context swap
gives a waiting thread's context to the ready thread that has been ready longest; KLOAD_COMPLETE fills the slot and shows the
SHA-512 of the image. Where a clause rests on a choice of the model's own, log entries 41, 59 say so. -/
def Obligations.CellEventsTakeEffect : Prop :=
  ∀ (s : State),
    s.phase = .running →
    let idle : Prop := (∀ y ∈ s.cmds, y.2.beds = []) ∧ Tab.find? s.wait pgTRL = none
    (∀ failed : List (BitVec 9), s.cmds = [] → s.substs = [] → (∀ c < 408, (s.cell c).state = .selftest) →
      ∃ u, exec (.selftestComplete failed) s = .next u ∧ u.mem = s.mem ∧
        ∀ c < 408,
          ((∀ f ∈ failed, f.toNat ≠ c) → isSpareCell c = false → (u.cell c).state = .free) ∧
          (isSpareCell c = true → (∀ f ∈ failed, f.toNat / 17 ≠ c / 17) → (u.cell c).state = .spare) ∧
          ((∃ f ∈ failed, f.toNat = c) → (u.cell c).state = .failed ∧ (u.cell c).cause = 1 ∧ u.bit (pgCELL c) 0x060 5 = true)) ∧
    (∀ c : BitVec 9, c.toNat < 408 →
      let x := s.cell c.toNat
      let sp := 17 * (c.toNat / 17) + 16
      let up : Prop := x.state = .free ∨ x.state = .bound ∨ x.state = .purging
      let fails (i : Instr) (cause : BitVec 8) (bit : Nat) : Prop :=
        up → x.cmd = none → (∀ y ∈ s.cmds, c.toNat ∉ y.2.cells) → idle →
        ∃ u, exec i s = .next u ∧ u.cell c.toNat = { x.purged .failed with cause := cause } ∧ u.bit (pgCELL c.toNat) 0x060 bit = true ∧
          u.bit (pgCELL c.toNat) oIRQS 0 = true ∧ u.mem = s.mem ∧
          ((s.cell sp).state = .spare → u.cell sp = { s.cell sp with state := .selftest }) ∧
          ((s.cell sp).state ≠ .spare → u.bit pgTRL 0x064 (c.toNat / 17) = true ∧ u.bit pgTRL oIRQS 2 = true) ∧
          (∀ d, d ≠ c.toNat → d ≠ sp → u.cell d = s.cell d)
      fails (.hardFault c .regFile) 2 0 ∧ fails (.hardFault c .accBank) 3 1 ∧ fails (.hardFault c .scratch) 4 2 ∧
      fails (.hardFault c .bindCpl) 5 3 ∧ fails (.heartbeatMissed c) 6 4 ∧
      (x.bindOk = true → exec (.bindingCheck c) s = .next s) ∧
      (x.state = .bound → x.bindOk = false → fails (.bindingCheck c) 5 3) ∧
      -- the spare itself, held in SPARE
      (x.state = .spare → x.cmd = none → (∀ y ∈ s.cmds, c.toNat ∉ y.2.cells) →
        ∃ u, exec (.heartbeatMissed c) s = .next u ∧ (u.cell c.toNat).state = .failed ∧ u.substs = s.substs ∧
          u.bit pgTRL 0x060 (c.toNat / 17) = true) ∧
      -- the end of a purge
      (x.state = .purging → idle → ∃ u, exec (.purgeComplete c) s = .next u ∧ u.cell c.toNat = { x.purged .free with cause := x.cause } ∧
        (∀ e ∈ u.tlb, e.cell ≠ some c.toNat) ∧ (∀ d, d ≠ c.toNat → u.cell d = s.cell d) ∧ u.mem = s.mem) ∧
      -- a lent cell whose part has ended
      (x.state = .lent → (∀ k, x.cmd.bind s.cmd? = some k → k.phase = .record ∨ k.phase = .posting) →
        ∃ u, exec (.lentPartDone c) s = .next u ∧ u.cell c.toNat = x.startPurge ∧ (u.cell c.toNat).state = .purging ∧
          (∀ d, d ≠ c.toNat → u.cell d = s.cell d) ∧ u.mem = s.mem) ∧
      -- contexts
      (∀ n y, Cell.oldestReady x = some n → x.thread? n = some y → s.cellRuns x = true →
        (x.residentCount < 64 → ∃ u, exec (.contextSwap c none) s = .next u ∧
          (u.cell c.toNat).thread? n = some { y with resident := true } ∧ u.mem = s.mem) ∧
        (∀ o : BitVec 10, ∀ w, o.toNat ≠ n → x.thread? o.toNat = some w → w.resident = true → (w.run = .barG ∨ w.run = .furrow) →
          ∃ u, exec (.contextSwap c (some o)) s = .next u ∧ (u.cell c.toNat).thread? n = some { y with resident := true } ∧
            (u.cell c.toNat).thread? o.toNat = some { w with resident := false } ∧
            (∀ t, t ≠ n → t ≠ o.toNat → (u.cell c.toNat).thread? t = x.thread? t) ∧ u.mem = s.mem))) ∧
    -- the end of a substitution
    (∀ (bed : BitVec 5) r, s.substs.find? (fun y => cellBed y.spare == bed.toNat) = some r → idle → r.byCmd = true → r.failed ≠ r.spare →
      r.failed < 408 → r.spare < 408 →
      (∃ u, exec (.substitutionComplete bed true) s = .next u ∧
        (u.cell r.spare).state = (if r.toBound then .bound else .free) ∧
        (r.toBound = true → (u.cell r.spare).bind = r.bind ∧ (u.cell r.spare).bindOk = true) ∧
        Answered u pgTRL 0 ∧ u.bit pgTRL 0x060 bed.toNat = true ∧ u.bit pgTRL oIRQS 1 = true ∧
        u.rd pgTRL 0x068 = BitVec.ofNat 32 (r.failed + 2 ^ 16 * r.spare + 2 ^ 31) ∧
        u.bit (pgCELL r.failed) oIRQS 2 = true ∧ u.bit (pgCELL r.spare) oIRQS 2 = true ∧
        (∀ d, d ≠ r.spare → u.cell d = s.cell d) ∧ u.mem = s.mem) ∧
      (∃ u, exec (.substitutionComplete bed false) s = .next u ∧ (u.cell r.spare).state = .failed ∧ (u.cell r.spare).cause = 1 ∧
        Answered u pgTRL 0x09 ∧ u.bit pgTRL 0x060 bed.toNat = true ∧ u.bit pgTRL 0x064 bed.toNat = true ∧ u.mem = s.mem)) ∧
    -- no cell for a part
    (∀ id k, s.cmd? id = some k → k.phase = .running → k.beds ≠ [] → s.boundCells k.job = [] → s.cellsIn .free = [] →
      exec (.noCellsTimeout id) s = .next (s.finish id 0x0A [] 0)) ∧
    -- the image of a kernel
    (∀ k ps s1 d s2, s.kload = some k → k.fault = none →
      s.engReach (s.kloadReq k) rightX false (cutAll [(k.tva.toNat, k.len)]) = (.ok ps, s1) →
      s1.engReadPieces k.tva.toNat ps = (.ok d, s2) →
      ∃ u, exec .kloadComplete s = .next u ∧ u.kload = none ∧
        Tab.find? u.kslots k.slot = some { job := k.job, image := d, hash := BitVec.ofNat 512 (leNat (sha512 d)) } ∧
        (∀ j, j ≠ k.slot → Tab.find? u.kslots j = Tab.find? s2.kslots j) ∧ Answered u pgTRL 0 ∧
        u.fld pgTRL 0x054 16 16 = k.slot % 65536 ∧ u.mem = s2.mem ∧
        ∀ i < 16, (u.rd pgTRL (0x080 + 4 * i)).toNat = leNat (((sha512 d).drop (4 * i)).take 4))

/-- R171 to R173, Table 06-5: the byte-range operations, REDUCE and GATHER_POOL complete OK once their inputs have been read and
their outputs can be written. FILL writes PATTERN byte i mod 16 to byte i, COPY the bytes read, HASH their SHA-512, REDUCE the
row of results; COMPARE writes nothing and reports the lowest offset of a difference, or LEN with EQUAL; GATHER_POOL writes
every bag and ends INDEX_RANGE with the count and the lowest of the bags in error. An access that fails ends the command with
its status and the TVA. Where a clause rests on a choice of the model's own, log entry 61 says so. -/
def Obligations.PoolOperationsComplete : Prop :=
  ∀ (s : State) (id : Nat) (c : Cmd),
    (∀ st tva s1 (i : Instr) (op : Nat), (i, op) ∈ [(Instr.copy id, 0x02), (.hash id, 0x05)] → s.runs id op c = true →
      s.engRead id c.xreq [(c.field (if op = 2 then 0x30 else 0x20) 8, c.field 0x28 8)] = (.error (.fail st tva), s1) →
      s1.stillRuns id = true → s1.coll = [] → st ≠ stRevoked → st ≠ stInvalid → 0 < st → st < 0x1D →
      ∃ u, exec i s = .next u ∧ Ended u id st (leBytes 8 tva ++ leBytes 8 0) ∧ u.mem = s1.mem) ∧
    (s.runs id 0x01 c = true → (∃ i < 16, c.desc.getD (0x30 + i) 0 ≠ 0) → c.desc.length = 128 →
      ∀ s1, s.engWrite c.xreq [(c.field 0x20 8, (List.range (c.field 0x28 8)).map (fun i => c.desc.getD (0x30 + i % 16) 0))] = (none, s1) →
        s1.stillRuns id = true → ∃ u, exec (.fill id) s = .next u ∧ Ended u id 0 (leBytes 8 (c.field 0x28 8)) ∧ u.mem = s1.mem) ∧
    (s.runs id 0x01 c = true → (∀ i < 16, c.desc.getD (0x30 + i) 0 = 0) → c.desc.length = 128 →
      ∀ ps s1 s2, s.engReach c.xreq rightW true (cutAll [(c.field 0x20 8, c.field 0x28 8)]) = (.ok ps, s1) →
        s1.engZero (c.field 0x20 8) ps = (none, s2) → s2.stillRuns id = true →
        ∃ u, exec (.fill id) s = .next u ∧ Ended u id 0 (leBytes 8 (c.field 0x28 8)) ∧ u.mem = s2.mem) ∧
    (s.runs id 0x02 c = true → ∀ d s1 s2, s.engRead id c.xreq [(c.field 0x30 8, c.field 0x28 8)] = (.ok d, s1) →
      s1.engWrite c.xreq [(c.field 0x20 8, d)] = (none, s2) → s2.stillRuns id = true →
      ∃ u, exec (.copy id) s = .next u ∧ Ended u id 0 (leBytes 8 (c.field 0x28 8)) ∧ u.mem = s2.mem) ∧
    (s.runs id 0x03 c = true →
      let len := c.field 0x28 8
      ∀ a b s1, s.engRead id c.xreq [(c.field 0x20 8, len), (c.field 0x30 8, len)] = (.ok (a ++ b), s1) → a.length = len → b.length = len →
      s1.stillRuns id = true → ∃ u, exec (.compare id) s = .next u ∧ u.mem = s1.mem ∧
        (a = b → Ended u id 0 (leBytes 8 len ++ [1])) ∧
        (∀ i < len, a.getD i 0 ≠ b.getD i 0 → (∀ j < i, a.getD j 0 = b.getD j 0) → Ended u id 0 (leBytes 8 i))) ∧
    (s.runs id 0x04 c = true →
      let rows := c.field 0x28 4
      let cols := c.field 0x2C 4
      let rb := rowBytes (c.field 0x34 1) cols
      ∀ (l : List Bytes) s1 s2,
        s.engRead id c.xreq ((List.range rows).map (fun r => (c.field 0x20 8 + r * c.field 0x30 4, rb))) = (.ok l.flatten, s1) →
        l.length = rows → (∀ d ∈ l, d.length = rb) →
        s1.engWrite c.xreq [(c.field 0x38 8, packCodes (c.field 0x35 1) ((List.range cols).map (fun i =>
          reduceVals (c.field 0x36 1 % 4) (c.field 0x35 1) (c.field 0x37 1) ((c.field 0x36 1).testBit 2)
            (l.map (fun d => rowVal (c.field 0x34 1) cols d i)))))] = (none, s2) → s2.stillRuns id = true →
        ∃ u, exec (.reduce id) s = .next u ∧ Ended u id 0 [] ∧ u.mem = s2.mem) ∧
    (s.runs id 0x05 c = true → ∀ d s1 s2, s.engRead id c.xreq [(c.field 0x20 8, c.field 0x28 8)] = (.ok d, s1) →
      s1.engWrite c.xreq [(c.field 0x30 8, sha512 d)] = (none, s2) → s2.stillRuns id = true →
      ∃ u, exec (.hash id) s = .next u ∧ Ended u id 0 [] ∧ u.mem = s2.mem) ∧
    (s.runs id 0x10 c = true → ∀ st r mv out s1, s.gatherOp id c = (.done st r mv out, s1) → s1.stillRuns id = true → s1.coll = [] →
      st < 0x1D → ∃ u, exec (.gatherPool id) s = .next u ∧ Ended u id st r ∧ u.mem = s1.mem) ∧
    -- what it writes, for one bag without weights
    (s.runs id 0x10 c = true → c.field 0x38 4 = 1 → (c.field 0x33 1).testBit 2 = false → ∀ (lo hi : Nat) (idx : List Nat) (rows : List Bytes) s1 s2 s3 s4 s5,
      let rb := rowBytes (c.field 0x32 1) (c.field 0x30 2)
      let f : BagFmt := { d := c.field 0x30 2, tfmt := c.field 0x32 1, mode := c.field 0x33 1 % 4, ofmt := c.field 0x34 1, rm := c.field 0x35 1 }
      lo < 2 ^ 32 → hi < 2 ^ 32 → (∀ i ∈ idx, i < 2 ^ 32) → idx.length = hi - lo → 0 < rb →
      s.engRead id c.xreq [(c.field 0x40 8, 8)] = (.ok (leBytes 4 lo ++ leBytes 4 hi), s1) →
      s1.engRead id c.xreq [(c.field 0x48 8 + 4 * lo, 4 * (hi - lo))] = (.ok (idx.flatMap (leBytes 4)), s2) →
      s2.engRead id c.xreq [] = (.ok [], s3) →
      let bad : Prop := hi < lo ∨ ∃ i ∈ idx, c.field 0x28 4 ≤ i
      (¬bad → s3.engRead id c.xreq (idx.map (fun i => (c.field 0x20 8 + i * c.field 0x2C 4, rb))) = (.ok rows.flatten, s4) →
        rows.length = idx.length → (∀ r ∈ rows, r.length = rb) →
        s4.engWrite c.xreq [(c.field 0x58 8, bagRow f (some (rows.map (fun r => (Val.fin false 1 0, r)))))] = (none, s5) →
        s5.stillRuns id = true → ∃ u, exec (.gatherPool id) s = .next u ∧ Ended u id 0 [] ∧ u.mem = s5.mem) ∧
      (bad → s3.engRead id c.xreq [] = (.ok [], s4) → s4.engWrite c.xreq [(c.field 0x58 8, bagRow f none)] = (none, s5) →
        s5.stillRuns id = true → s5.coll = [] →
        ∃ u, exec (.gatherPool id) s = .next u ∧ Ended u id 0x12 (leBytes 4 1 ++ leBytes 4 0) ∧ u.mem = s5.mem))

/-- R149, R168, R172, R173, R180: what a reduction yields does not depend on the order in which rows, bag members or ranks arrive:
SUM, MAX and MIN of the same values give the same code of OFMT, and so does every element of a bag. -/
def Obligations.ReductionIgnoresOrder : Prop :=
  (∀ (op ofmt rm : Nat) (sat : Bool) (l m : List Val), op < 3 → outFmt ofmt = true → l.Perm m →
    (∀ v ∈ l, ∀ n a e, v = .fin n a e → -320 ≤ e) → reduceVals op ofmt rm sat l = reduceVals op ofmt rm sat m) ∧
  (∀ (f : BagFmt) (l m : List (Val × Bytes)), gatherFmt f.ofmt = true → l.Perm m → bagRow f (some l) = bagRow f (some m))

/-- R174, R176 to R178, Tables 06-5, 06-11 and 06-12: ATTEND. Its first phase checks every entry of the sequence table and then
every entry of the page lists, and the first failure in that order ends the command with nothing appended; where all pass and
nothing is to be appended the second phase is due, its parts asking for cells. A second phase whose inputs can be read and
outputs written completes OK. A row whose every position is masked gives +0 in every element and -Inf as its log-sum-exp.
Where a clause rests on a choice of the model's own, log entries 41, 66 say so. -/
def Obligations.AttendRunsInTwoPhases : Prop :=
  (∀ (s : State) (id : Nat) (c : Cmd) (d : Bytes) (s1 : State),
    s.runs id 0x11 c = true → c.appended = false →
    let a := attShape c
    let n := c.field 0x28 2
    let raw := cutBytes (List.replicate n 64) d
    let good := (raw.takeWhile (fun e => !seqBad a e)).map seqEnt
    let r := good.map (fun e => (e.pages, 8 * a.pages e))
    s.engRead id c.xreq [(c.field 0x20 8, 64 * n)] = (.ok d, s1) → d.length = 64 * n →
    ∀ d1 s2, s1.engRead id c.xreq r = (.ok d1, s2) →
      let lists := (cutBytes (r.map (·.2)) d1).map (fun b => (cutBytes (List.replicate (b.length / 8) 8) b).map leNat)
      let page (i k : Nat) : Nat := ((lists[i]?).bind (·[k]?)).getD 1
      (∀ i k, i < lists.length → (∃ l, lists[i]? = some l ∧ k < l.length) → pageBad (page i k) = true →
        (∀ i' k' l, lists[i']? = some l → k' < l.length → (i' < i ∨ i' = i ∧ k' < k) → pageBad (page i' k') = false) →
        s2.stillRuns id = true → s2.coll = [] →
        ∃ u, exec (.attend id) s = .next u ∧ Ended u id 0x13 (leBytes 4 i ++ leBytes 4 k) ∧ u.mem = s2.mem) ∧
      ((∀ l ∈ lists, ∀ p ∈ l, pageBad p = false) → good.length < n → s2.stillRuns id = true → s2.coll = [] →
        ∃ u, exec (.attend id) s = .next u ∧ Ended u id 0x01 (leBytes 4 good.length ++ leBytes 4 0xFFFFFFFF) ∧ u.mem = s2.mem) ∧
      ((∀ l ∈ lists, ∀ p ∈ l, pageBad p = false) → good.length = n → a.append = false →
        ∀ k, s2.cmd? id = some k →
        ∃ v : State, exec (.attend id) s = .next (v.lendParts id) ∧ v.mem = s2.mem ∧
          ∃ m, v.cmd? id = some { k with appended := true, moved := m, beds := s2.partBeds k })) ∧
  (∀ (s : State) (id : Nat) (c : Cmd) (mv : Nat) (out : Bytes) (s1 : State),
    s.runs id 0x11 c = true → c.appended = true → s.attSecond id c = (.done 0 [] mv out, s1) → s1.stillRuns id = true →
    ∃ u, exec (.attendSecondPhase id) s = .next u ∧ Ended u id 0 [] ∧ u.mem = s1.mem) ∧
  (∀ (a : AttShape) (e : SeqEnt) (q : List Val) (page : Nat → Bytes) (t h : Nat),
    (∀ k i, k < a.pages e → i < a.p → a.live (a.ltot e) (a.ltot e - e.t + t) (k * a.p + i) = false) →
    attendRow a e q page t h = (List.replicate a.d 0, 0xFF800000))

/-- R179 to R181: COLLECT. The first rank to reach a FREE slot opens an instance; a further one registers when it matches, and
ends COLLECT_MISMATCH, COLLECT_DUP_RANK or COLLECT_NO_SPACE otherwise; the N-th makes the slot REDUCING. An instance that
holds its execution slot reads every source and writes every rank's share, the whole result or its own part of E/N elements,
and every rank ends OK; one that fails to fill in time ends COLLECT_TIMEOUT with the number of arrivals and frees the slot.
Where a clause rests on a choice of the model's own, log entry 67 says so. -/
def Obligations.CollectGathersRanks : Prop :=
  (∀ (s : State) (id : Nat) (c : Cmd),
    s.cmd? id = some c → c.phase = .running → c.opcode = 0x12 → s.phase = .running →
    let n := c.field 0x20 2
    let rank := c.field 0x26 2
    let ends (st : Nat) : Prop := ∃ u, exec (.collect id) s = .next u ∧ u = s.finish id st [] 0
    let joins (i : CollSlot) : Prop := ∃ u, exec (.collect id) s = .next u ∧
      u.cmd? id = some { c with phase := .ranked, slot := false } ∧
      Tab.find? u.coll n = some { i with ranks := (rank, id) :: i.ranks, lastSq := c.sq,
                                         phase := if i.ranks.length + 1 = i.n then .reducing else .open_ } ∧
      (∀ m, m ≠ n → Tab.find? u.coll m = Tab.find? s.coll m) ∧ u.mem = s.mem
    (Tab.find? s.coll n = none → (65536 ≤ s.registered → ends 0x17) ∧ (s.registered < 65536 → joins (instOf c))) ∧
    (∀ i, Tab.find? s.coll n = some i →
      (i.phase ≠ .open_ → exec (.collect id) s = .next s) ∧
      (i.phase = .open_ → i.differs (instOf c) = true → ends 0x14) ∧
      (i.phase = .open_ → i.differs (instOf c) = false → (∃ r ∈ i.ranks, r.1 = rank) → ends 0x15) ∧
      (i.phase = .open_ → i.differs (instOf c) = false → (∀ r ∈ i.ranks, r.1 ≠ rank) →
        (65536 ≤ s.registered → ends 0x17) ∧ (s.registered < 65536 → joins i)))) ∧
  (∀ (s : State) (slot : BitVec 10) (i : CollSlot) (r : Nat × Nat) (rest : List (Nat × Nat)) (c : Cmd),
    Tab.find? s.coll slot.toNat = some i → i.ranks = r :: rest → s.cmd? r.2 = some c →
    (i.phase = .reducing → i.hasSlot = true → c.beds = [] → c.fault = none → s.phase = .running →
      ∀ (ks : List (Nat × Nat × Cmd)), i.ranks.map (fun r => (r.1, r.2, s.cmd? r.2)) = ks.map (fun k => (k.1, k.2.1, some k.2.2)) →
      ∀ (l : List Bytes) s1 s2,
        s.engRead r.2 c.xreq (ks.map (fun k => (k.2.2.field 0x30 8, rowBytes i.ifmt.toNat i.e))) = (.ok l.flatten, s1) →
        l.length = ks.length → (∀ d ∈ l, d.length = rowBytes i.ifmt.toNat i.e) →
        s1.engWrite c.xreq (ks.map (fun k => (k.2.2.field 0x38 8, collectOut i l k.1))) = (none, s2) →
        (∀ k ∈ ks, ∃ y, s2.cmd? k.2.1 = some y ∧ (y.phase = .running ∨ y.phase = .ranked)) →
        ∃ u, exec (.collectReduce slot) s = .next u ∧ u.mem = s2.mem ∧ (∀ k ∈ ks, Ended u k.2.1 0 []) ∧
          ∃ j, Tab.find? u.coll slot.toNat = some j ∧ j.phase = .finishing ∧ j.ranks = i.ranks) ∧
    (i.phase = .open_ → i.timeout ≠ 0 →
      exec (.collectTimeout slot) s = .next (s.finish r.2 0x16 (leBytes 2 i.ranks.length) 0))) ∧
  (∀ (i : CollSlot) (srcs : List Bytes) (rank : Nat),
    let cop := i.cop.toNat
    let res (e : Nat) : Nat := reduceVals (cop % 4) i.ofmt.toNat i.rm.toNat (cop.testBit 3) (srcs.map (fun d => rowVal i.ifmt.toNat i.e d e))
    (cop.testBit 2 = false → collectOut i srcs rank = packCodes i.ofmt.toNat ((List.range i.e).map res)) ∧
    (cop.testBit 2 = true → collectOut i srcs rank = packCodes i.ofmt.toNat ((List.range (i.e / i.n)).map (fun j => res (rank * (i.e / i.n) + j)))))

/-- R82, R85, R163, R182 to R185: KERNEL starts 64 threads of each declared group on every BOUND cell of the job, at ENTRY, with
ARGS in scratchpad bytes 0 to 63; it ends NO_KERNEL, INVALID_FIELD, NO_CELLS or CELLS_REDUCED before any thread starts, and
KERNEL_TIMEOUT with every thread stopped; REMOTE_COPY asks the source for its first part; RETURN_PAGES starts with the
shootdown of the lowest page, and ends OK at once where the range holds none; JOURNAL_MARK ends OK and is due for its record.
Where a clause rests on a choice of the model's own, log entries 65, 68 say so. -/
def Obligations.KernelAndTransferCommands : Prop :=
  ∀ (s : State) (id : Nat) (c : Cmd),
    (s.runs id 0x30 c = true →
      let entry := c.field 0x24 4
      let job := (Tab.find? s.jobs c.job.toNat).getD { tenant := c.tenant }
      s.kernelBefore id c = false → job.kernel = none → (∀ r ∈ s.substs, r.toBound = false) → s.coll = [] →
      (Tab.find? s.kslots (c.field 0x20 2) = none → ∃ u, exec (.kernel id) s = .next u ∧ Ended u id 0x0D [] ∧ u.mem = s.mem) ∧
      (∀ k, Tab.find? s.kslots (c.field 0x20 2) = some k →
        (k.job ≠ c.job → ∃ u, exec (.kernel id) s = .next u ∧ Ended u id 0x0D [] ∧ u.mem = s.mem) ∧
        (k.job = c.job → k.image.length ≤ entry → ∃ u, exec (.kernel id) s = .next u ∧ Ended u id 0x01 []) ∧
        (k.job = c.job → entry < k.image.length → s.boundCells c.job = [] → ∃ u, exec (.kernel id) s = .next u ∧ Ended u id 0x0A []) ∧
        (k.job = c.job → entry < k.image.length → s.boundCells c.job ≠ [] → job.replay = true → job.lost ≠ [] →
          ∃ u, exec (.kernel id) s = .next u ∧ Ended u id 0x0C []) ∧
        (k.job = c.job → entry < k.image.length → s.boundCells c.job ≠ [] → (job.replay = false ∨ job.lost = []) → c.desc.length = 128 →
          (s.boundCells c.job).Nodup →
          ∃ u, exec (.kernel id) s = .next u ∧ u.mem = s.mem ∧ u.cmds = s.cmds ∧
            (∀ n, n ∉ s.boundCells c.job → u.cell n = s.cell n) ∧
            ∀ n ∈ s.boundCells c.job,
              let x := u.cell n
              x.cmd = some id ∧ x.bind = (s.cell n).bind ∧
              (∀ t < 64 * bwGroups x.bind, ∃ th, x.thread? t = some th ∧ th.pc = BitVec.ofNat 24 entry ∧ th.run = .ready ∧
                th.resident = decide (t < 64)) ∧
              (∀ t, 64 * bwGroups x.bind ≤ t → x.thread? t = none) ∧
              (∀ b, scratchByte x b = if b < 64 then c.desc.getD (0x28 + b) 0 else scratchByte (s.cell n) b)))) ∧
    (s.cmd? id = some c → c.phase = .running → c.field 0x68 4 ≠ 0 → s.coll = [] →
      ((Tab.find? s.jobs c.job.toNat).map (fun j => j.kernel == some id)).getD false = true →
      ∃ u, exec (.kernelTimeout id) s = .next u ∧ Ended u id 0x0F [] ∧ u.mem = s.mem ∧
        (∀ n, (s.cell n).cmd = some id → ∀ y ∈ (u.cell n).threads, y.2.live = false)) ∧
    (s.runs id 0x20 c = true → Tab.find? s.xfers id = none → s.own = [] →
      0 < (s.win (BitVec.ofNat 13 (c.field 0x20 2))).w → 0 < c.field 0x38 8 →
      exec (.remoteCopy id) s = .next ((s.setXfer id {}).copyStep id) ∧
      ∃ o, (((s.setXfer id {}).copyAsk id c 1024).own.head?) = some o ∧ o.kind = .copyRead id 0 ∧
        o.dest = BitVec.ofNat 13 (c.field 0x20 2) ∧ o.addr = BitVec.ofNat 64 (c.field 0x28 8) ∧
        o.len = (if c.field 0x38 8 < 4096 then c.field 0x38 8 else 4096)) ∧
    (s.runs id 0x41 c = true → Tab.find? s.xfers id = none → c.field 0x20 8 + c.field 0x28 8 ≤ 2 ^ 57 →
      let mine := (s.tree c.tenant).filter (fun l => l.remote && l.resident && c.field 0x20 8 ≤ l.tva.toNat && l.tva.toNat < c.field 0x20 8 + c.field 0x28 8)
      (mine = [] → ∃ u, exec (.returnPages id) s = .next u ∧ Ended u id 0 (leBytes 8 0) ∧ u.mem = s.mem) ∧
      (∀ l rest, mine = l :: rest → ∃ u, exec (.returnPages id) s = .next u ∧ u.shooting (.returnPage id l.tva) = true ∧
        (u.xfer id).cur = some l.tva ∧ (u.xfer id).pages = rest.map (·.tva) ∧ u.cmds = s.cmds ∧ u.mem = s.mem)) ∧
    (s.runs id 0x50 c = true → ∃ u, exec (.journalMark id) s = .next u ∧ Ended u id 0 [] ∧ u.mem = s.mem)

/-- R187, R188, R191, R193, R197, R202, R205, R472, Table 07-4: the commands of the CQE page. SQ_CREATE and CQ_CREATE make a queue
in a PINNED, ACTIVE plot of its tenant that holds it, empty, with the engine as receiver of its doorbell channel; CQ_CREATE
clears its slots; the first failing check in the order of R472 gives the status. SQ_DELETE stops fetch and completes when no
command of the queue is left; CQ_DELETE frees a queue to which no SQ posts and ends QUEUE_BUSY otherwise; TENANT_SET sets
weight, rates, bursts, cap and MAX_INFLIGHT, a bucket that had no rate starting full and one that had cut to its burst; the
queries answer. Where a clause rests on a choice of the model's own, log entry 64 says so. -/
def Obligations.QueueCommandsComplete : Prop :=
  ∀ (s : State) (p : Path),
    s.takes p pgCQE = true →
    let s0 := s.started pgCQE
    let a (n : Nat) : Nat := s.arg pgCQE n
    let n := BitVec.ofNat 14 (a 0)
    let t := BitVec.ofNat 12 (a 0 / 65536)
    let h := BitVec.ofNat 16 (a 1)
    let e := (s.plot h).cur
    let code := fieldOf (a 1) 16 4
    let ofs := 4096 * a 2
    let cq := BitVec.ofNat 14 (a 3)
    let ch := BitVec.ofNat 12 (a 3 / 65536)
    let c := s.chan ch.toNat
    let plotOk (bytes : Nat) : Prop := e.tiered = false ∧ e.owner = t ∧ e.state = .active ∧ ofs + bytes ≤ plotBytes e
    let chanOk : Prop := c.granted = true ∧ c.tenant = t ∧ (c.recv = 0 ∨ c.recv = 3)
    let cqOurs : Prop := ∃ k, s.cq? cq = some k ∧ k.tenant = t
    let ends (i : Instr) (st : Nat) : Prop := ∃ u, exec i s = .next u ∧ Answered u pgCQE st ∧ SameData s u ∧ u.sqs = s.sqs ∧ u.cqs = s.cqs ∧
      u.channels = s.channels
    -- SQ_CREATE
    (s0.argsBad pgCQE 0 [0x0FFF3FFF, 0x000FFFFF, 0xFFFFFFFF, 0x0FFF3FFF] = false →
      (12 < code → ends (.sqCreate p 0) 0x01) ∧
      (code ≤ 12 →
        (s.tenantKnown t.toNat = false → ends (.sqCreate p 0) 0x02) ∧
        (s.tenantKnown t.toNat = true →
          ((s.sq? n).isSome = true → ends (.sqCreate p 0) 0x03) ∧
          (s.sq? n = none →
            (¬cqOurs → ends (.sqCreate p 0) 0x05) ∧
            (cqOurs →
              (¬plotOk (128 * 2 ^ (code + 4) + 64) → ends (.sqCreate p 0) 0x06) ∧
              (plotOk (128 * 2 ^ (code + 4) + 64) →
                (¬chanOk → ends (.sqCreate p 0) 0x07) ∧
                (chanOk → ∃ u, exec (.sqCreate p 0) s = .next u ∧ Answered u pgCQE 0 ∧ SameData s u ∧ u.cqs = s.cqs ∧
                  u.sq? n = some { tenant := t, plot := h, ofs := ofs, code := BitVec.ofNat 4 code, cq := cq, chan := ch, head := 0, tail := 0,
                                   err := false, deleting := false } ∧
                  (∀ m, m ≠ n → u.sq? m = s.sq? m) ∧ u.chan ch.toNat = { c with recv := 3 } ∧
                  (∀ m, m ≠ ch.toNat → u.chan m = s.chan m)))))))) ∧
    -- CQ_CREATE
    (s0.argsBad pgCQE 0 [0x0FFF3FFF, 0x000FFFFF, 0xFFFFFFFF, 0x0FFF0000] = false → code ≤ 12 → s.tenantKnown t.toNat = true → s.cq? n = none →
      plotOk (32 * 2 ^ (code + 4)) →
      (¬chanOk → ends (.cqCreate p 0) 0x07) ∧
      (chanOk → ∀ s1, s0.devZero h ofs (32 * 2 ^ (code + 4)) = (.ok [], s1) → s1.chan ch.toNat = c →
        ∃ u, exec (.cqCreate p 0) s = .next u ∧ Answered u pgCQE 0 ∧ u.mem = s1.mem ∧ u.wmeta = s1.wmeta ∧ u.sqs = s1.sqs ∧
          u.cq? n = some { tenant := t, plot := h, ofs := ofs, code := BitVec.ofNat 4 code, chan := ch, head := 0, tail := 0, phase := true,
                           err := false, deleting := false } ∧
          (∀ m, m ≠ n → u.cq? m = s1.cq? m) ∧ u.chan ch.toNat = { c with recv := 3 })) ∧
    -- deletion
    (s0.argsBad pgCQE 0 [0x3FFF, 0, 0, 0] = false →
      (s.sq? n = none → ends (.sqDelete p 0) 0x04) ∧
      (∀ q, s.sq? n = some q → ∃ u, exec (.sqDelete p 0) s = .next u ∧ u.sq? n = some { q with deleting := true } ∧ u.busy pgCQE = true ∧
        (∃ w, Tab.find? u.wait pgCQE = some w ∧ w.op = 3 ∧ w.h = n.setWidth 16) ∧ SameData s u) ∧
      (s.cq? n = none → ends (.cqDelete p 0) 0x04) ∧
      ((s.cq? n).isSome = true → (∃ x ∈ s.sqs, x.2.cq = n) → ends (.cqDelete p 0) 0x08) ∧
      ((s.cq? n).isSome = true → (∀ x ∈ s.sqs, x.2.cq ≠ n) → ∃ u, exec (.cqDelete p 0) s = .next u ∧ Answered u pgCQE 0 ∧ u.cq? n = none ∧
        (∀ m, m ≠ n → u.cq? m = s.cq? m) ∧ u.sqs = s.sqs ∧ u.mem = s.mem)) ∧
    -- TENANT_SET
    (s0.argsBad pgCQE 0 [0xFFFF0FFF, 0xFFFFFFFF, 0xFFFFFFFF, 0x1FFFFFFF] = false → a 0 / 65536 ≠ 0 → fieldOf (a 1) 16 16 ≠ 0 →
      fieldOf (a 2) 16 16 ≠ 0 → 1 ≤ fieldOf (a 3) 16 13 → fieldOf (a 3) 16 13 ≤ 4096 →
      let tt := BitVec.ofNat 12 (a 0)
      let k := s.share tt
      s.tenantKnown tt.toNat = true → ∃ u, exec (.tenantSet p 0) s = .next u ∧ Answered u pgCQE 0 ∧ SameData s u ∧
        (∀ x, x ≠ tt → u.share x = s.share x) ∧
        let y := u.share tt
        y.weight = a 0 / 65536 ∧ y.cmdRate = (a 1) % 65536 ∧ y.cmdBurst = a 1 / 65536 ∧ y.byteRate = (a 2) % 65536 ∧ y.byteBurst = a 2 / 65536 ∧
        y.cap = (a 3) % 65536 ∧ y.maxInflight = fieldOf (a 3) 16 13 ∧ y.tag = k.tag ∧ y.drops = k.drops ∧
        y.cmdTok = (if k.cmdRate = 0 ∨ a 1 / 65536 * tokUnit < k.cmdTok then a 1 / 65536 * tokUnit else k.cmdTok) ∧
        y.byteTok = (if k.byteRate = 0 ∨ ((a 2 / 65536 * mib * tokUnit : Nat) : Int) < k.byteTok then ((a 2 / 65536 * mib * tokUnit : Nat) : Int)
                     else k.byteTok) ∧
        y.elig = (if k.cap = 0 ∧ (a 3) % 65536 ≠ 0 then s.time else k.elig) ∧
        ((a 3) % 65536 = 0 → u.calHeld tt = false)) ∧
    -- queries
    (s0.argsBad pgCQE 0 [0xFFFF0FFF] = false → s.tenantKnown (BitVec.ofNat 12 (a 0)).toNat = true →
      let tt := BitVec.ofNat 12 (a 0)
      ∃ u, exec (.tenantQuery p 0) s = .next u ∧ Answered u pgCQE 0 ∧ SameData s u ∧ u.shares = s.shares ∧
        u.arg pgCQE 0 = (tt.toNat + 65536 * (s.share tt).weight) % 2 ^ 32 ∧ u.arg pgCQE 1 = (s.share tt).drops % 2 ^ 32 ∧
        u.arg pgCQE 2 = s.inExec tt % 2 ^ 32 ∧ u.arg pgCQE 3 = (s.sqs.filter (fun x => x.2.tenant == tt)).length % 2 ^ 32) ∧
    (∀ q, s0.argsBad pgCQE 0 [0x33FFF] = false → s.sq? n = some q →
      ∃ u, exec (.sqQuery p 0) s = .next u ∧ Answered u pgCQE 0 ∧ SameData s u ∧ u.sqs = s.sqs ∧
        u.arg pgCQE 0 = n.toNat + 65536 * ofBool q.err ∧ u.arg pgCQE 1 = (q.head + 65536 * q.tail) % 2 ^ 32 ∧ u.arg pgCQE 2 = q.cq.toNat)

/-- R162, R165, R185, R188 to R200, R202, R203, R205: the course of the engine. A doorbell moves the tail of an SQ or the head of
a CQ, or is discarded and counted; a fetch copies the descriptor at the head, writes the head record, and admits it against
one token or drops and counts it; an accrual adds what 256 ns give, up to the burst; dispatch takes the eligible tenant with
the lowest start tag, then the lowest ID, and its next queue, raises VT to the tag and charges one credit; the calendar lets
tenants go; an entry is written at the CQ's tail with its PHASE, and the command is gone and charged. A full CQ holds it.
Where a clause rests on a choice of the model's own, log entries 12, 62, 63 say so. -/
def Obligations.QueueEngineRuns : Prop :=
  ∀ (s : State),
    s.phase = .running → s.dormant = false →
    -- DOORBELL
    (∀ (ch : BitVec 12) (w : W64) (st : Stamp), (s.chan ch.toNat).word = some (w, st) → (s.chan ch.toNat).recv = 3 →
      let qid := BitVec.ofNat 14 (w.toNat / 65536)
      let idx := w.toNat % 65536
      let known (t : BitVec 12) : Prop := s.tenantOpen t = true ∧ (st.path = 2 → s.jobTenant st.job = some t)
      ∃ u, exec (.doorbell ch) s = .next u ∧ (u.chan ch.toNat).word = none ∧ u.mem = s.mem ∧ u.cmds = s.cmds ∧
        (∀ q, s.sq? qid = some q → w.getLsbD 30 = false → w.toNat < 2 ^ 31 → q.chan = ch → q.err = false → q.deleting = false →
          idx < qSize q.code → known q.tenant → u.sq? qid = some { q with tail := idx } ∧ u.cqs = s.cqs ∧ u.regs = s.regs) ∧
        (∀ q, s.cq? qid = some q → w.getLsbD 30 = false → w.getLsbD 31 = true → w.toNat < 2 ^ 32 → q.chan = ch → q.err = false → q.deleting = false →
          idx < qSize q.code → known q.tenant → (idx + qSize q.code - q.head) % qSize q.code ≤ (q.tail + qSize q.code - q.head) % qSize q.code →
          u.cq? qid = some { q with head := idx } ∧ u.sqs = s.sqs ∧ u.regs = s.regs) ∧
        ((w.getLsbD 30 = true ∨ 2 ^ 32 ≤ w.toNat ∨ (w.getLsbD 31 = false ∧ (s.sq? qid = none ∨ ∃ q, s.sq? qid = some q ∧
            (q.chan ≠ ch ∨ q.err = true ∨ q.deleting = true ∨ qSize q.code ≤ idx ∨ ¬known q.tenant)))) →
          u.sqs = s.sqs ∧ u.cqs = s.cqs ∧ CountedOnce s u pgCQE 0x064)) ∧
    -- DESCRIPTOR_FETCH
    (∀ (n : BitVec 14) (q : Sq) (d : Bytes) s1 s2, s.sq? n = some q → q.err = false → q.deleting = false → q.head ≠ q.tail → s.storesStopped = false →
      s.devRead q.plot (q.ofs + 128 * q.head) 128 = (.ok d, s1) →
      s1.devWrite q.plot (q.ofs + 128 * qSize q.code) (leBytes 64 ((q.head + 1) % qSize q.code)) = (.ok [], s2) →
      let c : Cmd := { desc := d, sq := n, tenant := q.tenant }
      let k := s2.share q.tenant
      (admits k = true → c.descBad s2.ep.toNat = false → (s2.jobTenant c.job = none ∨ s2.jobTenant c.job = some q.tenant) →
        ∃ u, exec (.descriptorFetch n) s = .next u ∧ u.sq? n = some { q with head := (q.head + 1) % qSize q.code } ∧
          u.cmd? s2.nextCmd = some c ∧ u.nextCmd = s2.nextCmd + 1 ∧ u.jobTenant c.job = some q.tenant ∧ u.mem = s2.mem ∧
          (u.share q.tenant).cmdTok = (if k.cmdRate = 0 then k.cmdTok else k.cmdTok - tokUnit)) ∧
      (admits k = true → c.descBad s2.ep.toNat = true → c.marked = false → s2.coll = [] →
        ∃ u, exec (.descriptorFetch n) s = .next u ∧ Ended u s2.nextCmd 0x01 []) ∧
      (admits k = true → c.descBad s2.ep.toNat = false → s2.jobTenant c.job ≠ none → s2.jobTenant c.job ≠ some q.tenant → c.marked = false → s2.coll = [] →
        ∃ u, exec (.descriptorFetch n) s = .next u ∧ Ended u s2.nextCmd 0x03 []) ∧
      (admits k = false → (∀ x, s2.cq? q.cq = some x → cqFull x = true) →
        ∃ u, exec (.descriptorFetch n) s = .next u ∧ u.cmds = s2.cmds ∧ (u.share q.tenant).drops = satAdd k.drops 1 0xFFFFFFFF ∧
          CountedOnce s2 u pgCQE 0x068 ∧ u.mem = s2.mem ∧ u.sq? n = some { q with head := (q.head + 1) % qSize q.code })) ∧
    -- TOKEN_ACCRUAL
    (∃ u, exec .tokenAccrual s = .next u ∧ u.mem = s.mem ∧ u.cmds = s.cmds ∧ ∀ t k, Tab.find? s.shares t = some k →
      ∃ y, Tab.find? u.shares t = some y ∧ y = { k with cmdTok := y.cmdTok, byteTok := y.byteTok } ∧
        (k.cmdRate = 0 → y.cmdTok = k.cmdTok) ∧ (k.byteRate = 0 → y.byteTok = k.byteTok) ∧
        (k.cmdRate ≠ 0 → y.cmdTok = min (k.cmdTok + 4 * k.cmdRate) (k.cmdBurst * 15625)) ∧
        (k.byteRate ≠ 0 → y.byteTok = min (k.byteTok + 4 * k.byteRate * 1048576) (k.byteBurst * 1048576 * 15625))) ∧
    -- DISPATCH_ONE
    (∀ (t : BitVec 12) (pre post : List Nat) (q id : Nat) (c : Cmd), s.storesStopped = false → s.slotsHeld < 4096 → s.eligTenant t = true →
      (∀ x, s.eligTenant x = true → (s.share t).tag < (s.share x).tag ∨ (s.share t).tag = (s.share x).tag ∧ t.toNat ≤ x.toNat) →
      s.eligQueues t = pre ++ q :: post → (∀ x ∈ pre, x < (s.share t).nextQ) → ((s.share t).nextQ ≤ q ∨ pre = [] ∧ ∀ x ∈ post, x < (s.share t).nextQ) →
      s.candidate q = some (.cmd id) → s.cmd? id = some c → c.marked = false → libraryOp c.opcode = false → c.beds = [] →
      let k := s.share t
      ∃ u, exec .dispatchOne s = .next u ∧ u.vt = max s.vt k.tag ∧ (u.share t).tag = k.tag + (65536 + k.weight - 1) / k.weight ∧
        (u.share t).nextQ = q + 1 ∧ (k.cap ≠ 0 → (u.share t).elig = k.elig + 100000 / k.cap) ∧
        u.cmd? id = some { c with phase := .running, slot := true, order := s.nextOrder, ran := true, place := false } ∧
        (∀ x, x ≠ t → u.share x = s.share x) ∧ u.mem = s.mem) ∧
    -- the calendar
    (∀ (t : BitVec 12) slot, Tab.find? s.calendar t.toNat = some slot →
      ∃ u, exec (.calendarRelease t) s = .next u ∧ u.calHeld t = false ∧ u.calNow = max s.calNow slot ∧ u.shares = s.shares ∧ u.cmds = s.cmds) ∧
    (∀ t : BitVec 12, s.overflow = [t.toNat] → ((s.share t).elig + 255) / 256 < s.calSlot + 4096 →
      ∃ u, exec .calendarRevolution s = .next u ∧ Tab.find? u.calendar t.toNat = some (((s.share t).elig + 255) / 256) ∧ u.overflow = [] ∧
        u.shares = s.shares) ∧
    -- COMPLETION_POST
    (∀ (id : Nat) (c : Cmd) (q : Sq) (k : Cq), s.cmd? id = some c → c.phase = .posting → s.markWaits id c = false →
      s.sq? c.sq = some q → s.cq? q.cq = some k →
      (k.err = true → ∃ u, exec (.completionPost id) s = .next u ∧ u.cmd? id = none ∧ u.mem = s.mem) ∧
      (k.err = false → cqFull k = true → c.stall = false → ∃ u, exec (.completionPost id) s = .next u ∧ u.cmd? id = some { c with stall := true } ∧
        CountedOnce s u pgCQE 0x070 ∧ u.bit pgCQE oIRQS 3 = true ∧ u.cqs = s.cqs ∧ u.mem = s.mem) ∧
      (k.err = false → cqFull k = false → c.flag 1 = false → c.result.length ≤ 24 → ∀ s1,
        let entry := leBytes 2 (c.field 2 2) ++ [c.status] ++ leBytes 1 (ofBool k.phase + 2 * ofBool c.jnl) ++ leBytes 2 c.sq.toNat ++
          leBytes 1 c.opcode ++ [0] ++ c.result ++ List.replicate (24 - c.result.length) 0
        s.devWrite k.plot (k.ofs + 32 * k.tail) entry = (.ok [], s1) → s1.cmd? id = some c → s1.slotOfRank id = none →
        ∃ u, exec (.completionPost id) s = .next u ∧ u.cmd? id = none ∧ u.mem = s1.mem ∧
          u.cq? q.cq = some { k with tail := (k.tail + 1) % qSize k.code, phase := if (k.tail + 1) % qSize k.code = 0 then !k.phase else k.phase } ∧
          (u.share c.tenant).tag = (s1.share c.tenant).tag + (c.moved / 65536) * ((65536 + (s1.share c.tenant).weight - 1) / (s1.share c.tenant).weight))) ∧
    -- SQ_DELETE_COMPLETE
    (∀ (n : BitVec 14) (w : Waiting) (q : Sq), Tab.find? s.wait pgCQE = some w → w.op = 3 → w.h = n.setWidth 16 → (∀ x ∈ s.cmds, x.2.sq ≠ n) →
      s.sq? n = some q → ∃ u, exec (.sqDeleteComplete n) s = .next u ∧ u.sq? n = none ∧ (∀ m, m ≠ n → u.sq? m = s.sq? m) ∧ Answered u pgCQE 0 ∧
        u.mem = s.mem)

/-- R212 to R214, R216 to R219: the code words of a stack. A word whose summary or valid bit is clear reads as 64 zero bytes; a
whole-word write makes it valid and reads back, and leaves the bytes and the validity of every other word as they were; up to
3 symbols in error are corrected in place, and 4 give no data, count in UE_COUNT and raise UE; a narrow write reads back at
once at its bytes and keeps the others, whether it stays in the merge buffer or drains; and a drain changes no byte that a
reader sees. Where a clause rests on a choice of the model's own, log entries 11, 14 say so. -/
def Obligations.CodeWordsReadBack : Prop :=
  ∀ (s : State) (w : Nat) (h1 h2 conf : Bool),
    (s.valid w = false → ((s.readStored w h1 conf).1 = some (List.replicate 64 0) ∧ (s.readStored w h1 conf).2.mem = s.mem)) ∧
    (∀ (d : Bytes) kg td, d.length = 64 →
      let u := s.writeWord w d kg td h1
      (u.readStored w h2 conf).1 = some d ∧ u.valid w = true ∧ (u.wm w).err = 0 ∧ (u.wm w).kg = kg ∧ (u.wm w).td = td ∧
      (∀ k, (k < 64 * w ∨ 64 * w + 64 ≤ k) → u.memByte k = s.memByte k) ∧ (∀ v, v ≠ w → u.valid v = s.valid v) ∧ u.plots = s.plots) ∧
    (s.valid w = true →
      (1 ≤ (s.wm w).err → (s.wm w).err ≤ 3 →
        (s.readStored w h1 conf).1 = some (s.memBytes (w * 64) 64) ∧ ((s.readStored w h1 conf).2.wm w).err = 0 ∧
        CountedOnce s (s.readStored w h1 conf).2 (pgSTK (wordStack w)) 0x070) ∧
      ((s.wm w).err = 4 → (s.readStored w h1 conf).1 = none ∧ (s.readStored w h1 conf).2.mem = s.mem ∧
        CountedOnce s (s.readStored w h1 conf).2 (pgSTK (wordStack w)) 0x060 ∧
        (s.readStored w h1 conf).2.bit (pgSTK (wordStack w)) oIRQS 0 = true)) ∧
    (∀ (at_ : Nat) (bs : Bytes) kg (old : Bytes), at_ + bs.length ≤ 64 → ((s.wm w).err = 0 ∨ s.valid w = false) →
      (s.readWord w h1 conf).1 = some old → old.length = 64 →
      let r := s.writeNarrow w at_ bs kg
      r.1 = true ∧ ∃ new : Bytes, (r.2.readWord w h2 conf).1 = some new ∧ new.length = 64 ∧
        ∀ i < 64, new.getD i 0 = if at_ ≤ i ∧ i < at_ + bs.length then bs.getD (i - at_) 0 else old.getD i 0)

/-- R42, R55, R213, R215 to R217, R220, R222 to R230, R231, R364: what the controllers, hoes and die-to-die links do on their own.
An idle active stack enters self-refresh and leaves it; the merge window drains the oldest entry unseen; the activate tables
are emptied; the repair logs reach flash; a copy moves one chunk on, and when done its spare stands in; the corrected counts
halve; a scrub pass starts at 0, steps by one word and ends with its count and PASS_DONE; the hoe re-keys a word, or drops the
write-back, and clears the fine valid bits of a region under a clear summary; retries and repairs count; the temperature sets
HOT. Where a clause rests on a choice of the model's own, log entries 21, 79, 80 say so. -/
def Obligations.StackEventsTakeEffect : Prop :=
  ∀ (s : State) (st : BitVec 5),
    let b := st.toNat
    let stk := pgSTK b
    let hoe := pgHOE b
    b < 24 →
    (s.fld stk 0x04C 0 2 = 0 → s.fld stk 0x040 0 20 ≠ 0 → s.copying b = false →
      ∃ u, exec (.selfRefreshEntry st) s = .next u ∧ u.fld stk 0x04C 0 2 = 2 ∧ CountedOnce s u stk 0x078 ∧ SameData s u) ∧
    (s.fld stk 0x04C 0 2 = 3 → s.dormant = false → ∃ u, exec (.selfRefreshExitDone st) s = .next u ∧ u.fld stk 0x04C 0 2 = 0 ∧ SameData s u) ∧
    (∀ e rest d, (s.stk b).mb = e :: rest → wordStack e.word = b → ((s.wm e.word).err = 0 ∨ s.valid e.word = false) → e.data.length = 64 →
      (s.readWord e.word false false).1 = some d → ∃ u, exec (.mergeDrain st) s = .next u ∧ (u.readWord e.word false false).1 = some d ∧
        (u.stk b).mb = rest.filter (fun x => x.word != e.word) ∧ u.valid e.word = true ∧ u.plots = s.plots) ∧
    (∃ u, exec (.actTableReset st) s = .next u ∧ u.stk b = { s.stk b with act := [] } ∧ (∀ c, c ≠ b → u.stk c = s.stk c) ∧ SameData s u) ∧
    (∀ pc, exec (.recalibration st pc) s = .next s) ∧
    (∃ u, exec .repairLogFlush s = .next u ∧ SameData s u ∧ u.regs = s.regs ∧ u.stackTab = s.stackTab ∧
      ∀ x, x ∈ u.repairFlash ↔ ∃ y ∈ s.stackTab, y.2.repair ≠ [] ∧ x = (y.1, y.2.repair)) ∧
    (s.copying b = true → s.copyChunks b < 196608 → ∃ u, exec (.pcCopyChunk st) s = .next u ∧ u.copyChunks b = s.copyChunks b + 1 ∧
      u.copying b = true ∧ u.mem = s.mem ∧ u.plots = s.plots) ∧
    (s.copying b = true → s.copyChunks b = 196608 →
      let pc := s.fld hoe 0x068 20 5
      ∀ n, n < 2 → (n = 0 ↔ s.bit stk 0x050 6 = true ∧ s.fld stk 0x050 0 5 = pc) → s.bit stk 0x050 (8 * (1 - n) + 6) = false →
        ∃ u, exec (.pcCopyDone st) s = .next u ∧ u.bit stk 0x050 (8 * n + 5) = true ∧ u.bit stk 0x050 (8 * n + 6) = false ∧
          u.copying b = false ∧ u.bit stk oIRQS 2 = true ∧ u.bit hoe oIRQS 2 = true ∧ SameData s u) ∧
    (∃ u, exec (.pcCeDecay st) s = .next u ∧ SameData s u ∧ ∀ i < 32, u.fld stk (0x100 + 4 * i) 0 16 = s.fld stk (0x100 + 4 * i) 0 16 / 2 ∧
      u.bit stk (0x100 + 4 * i) 16 = s.bit stk (0x100 + 4 * i) 16) ∧
    ((s.stk b).pass = none → ∃ u, exec (.scrubPassStart st) s = .next u ∧ u.scrubPtr b = 0 ∧ (u.stk b).pass = some s.time ∧ SameData s u) ∧
    (∀ t0, (s.stk b).pass = some t0 →
      (∃ u, exec (.scrubPassStart st) s = .next u ∧ u.bit hoe 0x054 16 = true ∧ (u.stk b).pass = some t0 ∧ SameData s u) ∧
      (s.copying b = false → s.dormant = false → s.rekeyWords b = [] → s.zeroRegions b = [] → ∀ sym : BitVec 7, sym.toNat ≤ 4 →
        (s.scrubPtr b + 64 < stackBytes → ∃ u, exec (.hoeScrub st sym) s = .next u ∧ u.scrubPtr b = s.scrubPtr b + 64 ∧ u.plots = s.plots) ∧
        (stackBytes ≤ s.scrubPtr b + 64 → (s.stk b).passDue = none → ∃ u, exec (.hoeScrub st sym) s = .next u ∧ u.scrubPtr b = 0 ∧
          u.rd hoe 0x04C = s.rd hoe 0x04C + 1 ∧ u.bit hoe oIRQS 0 = true ∧ (u.stk b).pass = none) ∧
        (∀ w, poolWord b (s.scrubPtr b) = some w → s.valid w = true → (s.wm w).err ≤ 4 → s.scrubPtr b + 64 < stackBytes →
          let n := if sym = 0 then (s.wm w).err else sym.toNat
          ∃ u, exec (.hoeScrub st sym) s = .next u ∧ u.mem = s.mem ∧
            (1 ≤ n → n ≤ 3 → (u.wm w).err = 0 ∧ CountedOnce s u hoe 0x058) ∧ (n = 4 → (u.wm w).err = 4 ∧ CountedOnce s u hoe 0x05C)))) ∧
    (s.copying b = false → s.dormant = false → ∀ w rest, s.rekeyWords b = w :: rest →
      (∃ u, exec (.hoeRekey st false) s = .next u ∧ (u.wm w).kg = !(s.wm w).kg ∧ (u.wm w).err = 0 ∧ (∀ v, v ≠ w → u.wm v = s.wm v) ∧ u.mem = s.mem) ∧
      (∃ u, exec (.hoeRekey st true) s = .next u ∧ CountedOnce s u hoe 0x06C ∧ u.wmeta = s.wmeta ∧ u.mem = s.mem)) ∧
    (s.copying b = false → s.dormant = false → s.rekeyWords b = [] → ∀ r rest, s.zeroRegions b = r :: rest →
      ∃ u, exec (.hoeLazyZero st) s = .next u ∧ (∀ w, w / 1024 = r → (u.wm w).valid = false) ∧ (∀ w, w / 1024 ≠ r → u.wm w = s.wm w) ∧
        u.mem = s.mem ∧ u.summ = s.summ) ∧
    (∃ u, exec (.d2dRetry st false) s = .next u ∧ CountedOnce s u (pgBED b) 0x044 ∧ SameData s u ∧
      ((s.rd (pgBED b) 0x044).toNat = 1024 → u.bit (pgBED b) oIRQS 0 = true)) ∧
    (∃ u, exec (.d2dRetry st true) s = .next u ∧ u.fld (pgBED b) 0x048 0 8 = satAdd (s.fld (pgBED b) 0x048 0 8) 1 255 ∧
      u.bit (pgBED b) oIRQS 1 = true ∧ SameData s u) ∧
    (∀ temp : BitVec 8, ∃ u, exec (.stackHot st temp) s = .next u ∧ u.fld stk 0x04C 16 8 = temp.toNat ∧ SameData s u ∧
      (u.fld stk 0x04C 10 2 = if 85 < temp.toNat then 1 else 0) ∧
      (85 < temp.toNat → s.fld stk 0x04C 10 2 ≠ 1 → u.bit stk oIRQS 5 = true))

/-- R237 to R241, R243: the set-up of the tier and its drives. FORMAT is rejected while a TIERED plot exists or no drive is good;
otherwise the good drives get positions in ascending order of root port, with W, the area, the capacity and one higher
GENERATION, and every earlier content is discarded. A cache size takes an equal share of every stack or is rejected. A third
timeout fails a drive; a failed drive shows in FAILED. Deallocation of a slot ends with ZERO clear; a changed tag page reaches
flash whole. Where a clause rests on a choice of the model's own, log entry 97 says so. -/
def Obligations.TierSetUp : Prop :=
  ∀ (s : State) (p : Path),
    let good (x : Nat × Drive) : Bool := x.2.present && !s.driveFailed x.1
    let w := (s.drives.filter good).length
    let area := (4096 + w - 1) / w
    (s.served p pgTIER 0x008 = true →
      ((s.tieredExists = true ∨ w = 0) → ∃ u, exec (.format p) s = .next u ∧ u.bit pgTIER oIRQS 2 = true ∧ u.drives = s.drives ∧ u.tags = s.tags ∧
        u.flash = s.flash ∧ u.cmem = s.cmem ∧ u.rd pgTIER 0x054 = s.rd pgTIER 0x054 ∧ SameData s u) ∧
      (s.tieredExists = false → 0 < w → ∃ (u : State) (b : TierSb), exec (.format p) s = .next u ∧
        b.w = w ∧ b.area = area ∧ (∀ x ∈ s.drives, good x = true → ∀ o, x.2.sb = some o → o.gen < b.gen) ∧
        (∀ c, (∃ x ∈ s.drives, good x = true ∧ x.2.lbas = c) → (∀ x ∈ s.drives, good x = true → c ≤ x.2.lbas) →
          b.slots = min ((c - 37120) / (16 * area)) 8388608 ∧ u.fld pgTIER 0x058 0 24 = min ((c - 37120) / (16 * area)) 8388608) ∧
        b.serials = (s.drives.filter good).map (fun x => x.2.serial) ∧
        (∀ pre x post, s.drives = pre ++ x :: post → (∀ y ∈ pre, y.1 < x.1) →
          u.drives[pre.length]? = some (x.1, if good x then { x.2 with sb := some { b with pos := (pre.filter good).length } } else x.2)) ∧
        u.tags = [] ∧ u.tagsFlash = [] ∧ u.plotRecs = [] ∧ u.flash = [] ∧ u.cache = [] ∧ u.bit pgTIER 0x054 5 = true ∧ u.bit pgTIER oIRQS 3 = true ∧
        SameData s u)) ∧
    (s.served p pgTIER 0x040 = true → ∀ v : BitVec 32,
      let n := v.toNat % 2 ^ 14
      let share (st : Nat) : List Nat := (({ s with cacheGrans := [] } : State).freeOn st).take (n / 24)
      ((n % 24 ≠ 0 ∨ 8184 < n ∨ s.tieredExists = true ∨ ∃ st < 24, (share st).length < n / 24) →
        ∃ u, exec (.cacheSize p v) s = .next u ∧ u.bit pgTIER oIRQS 2 = true ∧ u.rd pgTIER 0x040 = s.rd pgTIER 0x040 ∧
          u.cacheGrans = s.cacheGrans ∧ u.cache = s.cache ∧ SameData s u) ∧
      (n % 24 = 0 → n ≤ 8184 → s.tieredExists = false → (∀ st < 24, (share st).length = n / 24) →
        ∃ u, exec (.cacheSize p v) s = .next u ∧ u.fld pgTIER 0x040 0 14 = n ∧ u.cacheGrans = (List.range 24).flatMap share ∧ u.cache = [] ∧
          SameData s u)) ∧
    (∀ d : BitVec 4,
      (s.driveFailed d.toNat = true → exec (.driveFail d) s = .next s ∧ exec (.driveCommandTimeout d) s = .next s) ∧
      (s.driveFailed d.toNat = false →
        (∃ w : State, exec (.driveFail d) s = .next (w.fills.foldl (fun (s : State) kv => if kv.2.issued && s.blockFailed kv.1 then s.failFill kv.1 else s) w).pumpFills ∧
          w.driveFailed d.toNat = true ∧ w.bit pgTIER oIRQS 0 = true ∧ w.fills = s.fills ∧ SameData s w ∧ w.cmem = s.cmem ∧
          ∀ k, (Tab.find? w.cache k).map (·.dirty) = (Tab.find? s.cache k).map (·.dirty)) ∧
        let n := Tab.get 0 s.driveTries d.toNat
        (n < 2 → exec (.driveCommandTimeout d) s = .next { s with driveTries := Tab.put s.driveTries d.toNat (n + 1) }) ∧
        (2 ≤ n → exec (.driveCommandTimeout d) s = exec (.driveFail d) { s with driveTries := Tab.del s.driveTries d.toNat }))) ∧
    (∀ slot : BitVec 23,
      (s.dealloc.contains slot.toNat = true → ∃ u : State, exec (.deallocateComplete slot) s = .next u.pumpFills ∧
        u.tag slot.toNat = { s.tag slot.toNat with zero := false } ∧ (∀ k, k ≠ slot.toNat → u.tag k = s.tag k) ∧ u.dealloc.contains slot.toNat = false ∧
        (∀ a, Tab.get 0 u.flash a = if a / unitBytes = slot.toNat then 0 else Tab.get 0 s.flash a)) ∧
      (s.dealloc.contains slot.toNat = false → exec (.deallocateComplete slot) s = .next s)) ∧
    (∃ u, exec .tagPageWrite s = .next u ∧ u.tags = s.tags ∧ u.plotRecs = s.plotRecords ∧
      (∀ pg rest, s.tagPages = pg :: rest → u.tagPages = s.tagPages.filter (· != pg) ∧
        ∀ k, Tab.find? u.tagsFlash k = if k / 256 = pg then Tab.find? s.tags k else Tab.find? s.tagsFlash k) ∧
      (s.tagPages = [] → u.tagsFlash = s.tagsFlash))

/-- R244 to R246, R248, R250, R251, R363: the blocks of the tier cache. A fill ends with the block resident under its tag and
READY to every waiter, or, on a failed position, failed with READY; the keep time ends; the oldest dirty block that a good
drive can take is copied to flash whole and nothing else of flash changes, a slot marked ZERO being deallocated first; an
acknowledgement makes the block clean unless a store has landed since; the sweep of a TIERED plot goes block by block. After
each, fills that wait for a way are tried. Where a clause rests on a choice of the model's own, log entries 22, 106 say so. -/
def Obligations.TierCacheRuns : Prop :=
  ∀ (s : State) (tb : BlockId),
    let n := BlockId.num tb
    (Tab.find? s.fills n = none → exec (.tierFillComplete tb) s = .next s) ∧
    (∀ f, Tab.find? s.fills n = some f → f.failed = false →
      ((s.blockFailed n = true ∨ (f.issued = false ∧ s.setStuck (s.tierSet n) = true)) → exec (.tierFillComplete tb) s =
        .next (({ s with fills := Tab.put s.fills n { f with failed := true } }).readyAll f.token f.waiters).pumpFills) ∧
      (f.issued = true → s.blockFailed n = false → ∃ w : State, exec (.tierFillComplete tb) s = .next (w.readyAll f.token f.waiters).pumpFills ∧
        w.fills = Tab.del s.fills n ∧ SameData s w ∧ w.flash = s.flash ∧ (∀ k, k ≠ n → Tab.find? w.cache k = Tab.find? s.cache k) ∧
        (min ((s.time - f.since) / 1000) 65535 ≤ w.fld pgTIER 0x07C 0 16) ∧
        ∃ b, Tab.find? w.cache n = some b ∧ b.owner = (s.tag (n / 4096)).owner ∧ b.unit = (s.tag (n / 4096)).unit ∧ b.blk = BitVec.ofNat 12 (n % 4096) ∧
          b.dirty = none ∧ b.wb = false ∧ b.keep = !f.waiters.isEmpty ∧ b.waiters = f.waiters)) ∧
    (∀ b, Tab.find? s.cache n = some b →
      exec (.keepTimeExpiry tb) s = .next ({ s with cache := Tab.put s.cache n { b with keep := false, waiters := [] } } : State).pumpFills) ∧
    (∀ k b m, (k, b) ∈ s.cache → b.dirty = some m → b.wb = false → s.blockFailed k = false →
      (∀ x ∈ s.cache, x ≠ (k, b) → ∀ y, x.2.dirty = some y → x.2.wb = true ∨ s.blockFailed x.1 = true ∨ m < y) →
      ((s.tag (k / 4096)).zero = false → ∃ u, exec .tierWriteback s = .next u ∧ Tab.find? u.cache k = some { b with wb := true } ∧ u.cmem = s.cmem ∧
        CountedOnce s u pgTIER 0x074 ∧ SameData s u ∧
        ∀ a, Tab.get 0 u.flash a = if 65536 * k ≤ a ∧ a < 65536 * k + 65536 then Tab.get 0 s.cmem a else Tab.get 0 s.flash a) ∧
      ((s.tag (k / 4096)).zero = true → s.dealloc.contains (k / 4096) = false → ∃ u, exec .tierWriteback s = .next u ∧
        u.out = .deallocate (k / 4096) :: s.out ∧ u.dealloc.contains (k / 4096) = true ∧ u.flash = s.flash ∧ u.cache = s.cache)) ∧
    ((∀ x ∈ s.cache, x.2.dirty = none ∨ x.2.wb = true ∨ s.blockFailed x.1 = true) → exec .tierWriteback s = .next s) ∧
    (∀ b, Tab.find? s.cache n = some b → b.wb = true →
      let w : State := { s with cache := Tab.put s.cache n { b with wb := false, dirty := if s.anyTd n then b.dirty else none } }
      (w.dirtyBlocks < w.dirtyMax → exec (.writebackAck tb) s = .next (w.holds.foldl (fun (x : State) h => x.readyAll h.token h.waiters) { w with holds := [] }).pumpFills) ∧
      (w.dirtyMax ≤ w.dirtyBlocks → exec (.writebackAck tb) s = .next w.pumpFills)) ∧
    (∀ h : BitVec 16,
      let k := s.pair h
      let e := (s.plot h).cur
      k.sweep = true → e.tiered = true → s.dormant = false →
      (s.rekeyNext e k.ptr = none → exec (.tierRekeyBlock h) s = .next (s.setPair h { k with ptr := e.slots.length * 4096 })) ∧
      (∀ i, s.rekeyNext e k.ptr = some i → ∃ u, exec (.tierRekeyBlock h) s = .next u ∧ u.pair h = { k with ptr := i + 1 } ∧
        (∀ g, g ≠ h → u.pair g = s.pair g) ∧ u.cmem = s.cmem ∧ u.mem = s.mem ∧ u.plots = s.plots))

/-- R264 to R273, R278 to R280, R282, R283: flits and timers of a link that is up. A flit that fails its checks is discarded and
counted; an accepted header frees what it acknowledges, takes XOFF and ends sleep; DATA is accepted in order, answered by NAK
beyond a gap, dropped as a duplicate, or dropped for a full buffer; a timeout or NAK replays every unacknowledged flit and
loses the link at REPLAY_MAX; sleep and wake send their flits and marker sets; TRAIN flits of INIT are answered; the
receiver's timers lose the link with their causes. Where a clause rests on a choice of the model's own, log entries 83, 84, 87
say so. -/
def Obligations.LinkFlitsAndTimers : Prop :=
  ∀ (s : State) (l : LinkNo) (fl : Flit),
    let k := s.lnk l
    let half := isHalfB l.toNat
    let acks (f : Flit) : Nat := if f.ackv = true ∧ (f.ack - k.acked).toNat ≤ k.out.length then (f.ack - k.acked).toNat else 0
    (s.linkUp l = true →
      (∀ i ∈ [(Instr.idle l fl, { fl with type := 0 }), (Instr.data l fl, { fl with type := 1 }), (Instr.nak l fl, { fl with type := 2 }),
          (Instr.sleep l fl, { fl with type := 4 })], flitOk i.2 = false → exec i.1 s = .next ((s.codewords l fl.cws).countLink l 0x068 32 1)) ∧
      (flitOk { fl with type := 0 } = true → fl.sreq = false →
        ∃ u more, exec (.idle l fl) s = .next u ∧ (u.lnk l).out = k.out.drop (acks fl) ++ more ∧ (u.lnk l).acked = (if 0 < acks fl then fl.ack else k.acked) ∧
          (u.lnk l).xoff = fl.xoff ∧ (u.lnk l).expect = k.expect ∧ (u.lnk l).rxAsleep = false ∧ (u.lnk l).waking = false ∧ SameData s u) ∧
      (flitOk { fl with type := 4 } = true → fl.sreq = false →
        ∃ u more, exec (.sleep l fl) s = .next u ∧ (u.lnk l).out = k.out.drop (acks fl) ++ more ∧ (u.lnk l).rxAsleep = true ∧ (u.lnk l).waking = false ∧
          SameData s u) ∧
      (flitOk { fl with type := 1 } = true → fl.sreq = false →
        let d := (fl.seq - k.expect).toNat
        let n := Tab.get 0 k.rx fl.vc.toNat
        (d = 0 → s.bufFlits l ≤ n → exec (.data l fl) s = .next ((s.codewords l fl.cws).countLink l 0x080 32 1)) ∧
        (d = 0 → n < s.bufFlits l → ∃ u more, exec (.data l fl) s = .next u ∧ (u.lnk l).expect = k.expect + 1 ∧ (u.lnk l).ackv = true ∧ (u.lnk l).nakAt = none ∧
          Tab.get 0 (u.lnk l).rx fl.vc.toNat = n + 1 ∧ (u.lnk l).out = k.out.drop (acks fl) ++ more ∧ CountedOnce s u (linkPage l) (linkOff l 0x084) ∧
          (s.bufFlits l - (n + 1) ≤ s.linkFld l 0x050 0 12 → (u.lnk l).off.getLsbD fl.vc.toNat = true) ∧
          (k.txAsleep = false → ∃ g rest, u.out = .flit l g :: rest ∧ g.type = 0 ∧ g.ackv = true ∧ g.ack = fl.seq)) ∧
        (1 ≤ d → d ≤ 2047 → ∃ u, exec (.data l fl) s = .next u ∧ (u.lnk l).expect = k.expect ∧ (u.lnk l).rx = k.rx ∧
          (k.nakAt = none → k.txAsleep = false → ∃ g rest, u.out = .flit l g :: rest ∧ g.type = 2 ∧ g.ack = k.expect - 1 ∧ (u.lnk l).nakAt = some s.time ∧
            CountedOnce s u (linkPage l) (linkOff l 0x074)) ∧
          (∀ t, k.nakAt = some t → s.time < t + 2 * s.linkFld l 0x048 0 8 * 100 → (u.lnk l).nakAt = some t)) ∧
        (2048 ≤ d → ∃ u, exec (.data l fl) s = .next u ∧ (u.lnk l).expect = k.expect ∧ (u.lnk l).rx = k.rx ∧ (u.lnk l).nakAt = k.nakAt)) ∧
      (flitOk { fl with type := 2 } = true → ∀ w, w = (s.codewords l fl.cws).flitHeader l { fl with type := 2 } →
        w.linkUp l = true → (w.lnk l).out ≠ [] → (w.lnk l).ackHold ≤ w.time → exec (.nak l fl) s = exec (.ackTimeout l) w) ∧
      (k.out ≠ [] → k.ackHold ≤ s.time →
        (k.moved = false → s.linkFld l 0x048 8 6 ≤ k.tries + 1 → ∃ w : State, exec (.ackTimeout l) s = .next (w.afterLoss l) ∧ LostWith s w l 2) ∧
        ((k.moved = true ∨ k.tries + 1 < s.linkFld l 0x048 8 6) → ∃ u, exec (.ackTimeout l) s = .next u ∧
          u.lnk l = { k with moved := false, ackOwed := false, tries := if k.moved then k.tries else k.tries + 1 } ∧
          CountedOnce s u (linkPage l) (linkOff l 0x064) ∧
          u.out = (k.out.map (fun f => Output.flit l { (k.stamp half f) with replay := true })).reverse ++ s.out)) ∧
      (s.time < k.ackHold → exec (.ackTimeout l) s = .next s) ∧
      (k.rxAsleep = false → k.waking = false → k.sreq = none → k.rxHold ≤ s.time → ∃ w : State, exec (.noflitTimeout l) s = .next (w.afterLoss l) ∧ LostWith s w l 1) ∧
      (k.rxAsleep = true → exec (.noflitTimeout l) s = .next s) ∧
      (k.sreq ≠ none → ∃ w : State, exec (.substTimeout l) s = .next (w.afterLoss l) ∧ LostWith s w l 3) ∧
      (k.sreq = none → exec (.substTimeout l) s = .next s) ∧
      (k.waking = true → ∃ w : State, exec (.wakeTimeout l) s = .next (w.afterLoss l) ∧ LostWith s w l 4) ∧
      (k.waking = false → exec (.wakeTimeout l) s = .next s) ∧
      (k.txAsleep = false → s.linkBit l 0x044 3 = true → k.out = [] → k.ackOwed = false →
        ∃ u g, exec (.txSleep l) s = .next u ∧ u.lnk l = { k with txAsleep := true } ∧ g.type = 4 ∧ g.ack = k.expect - 1 ∧
          u.out = .markers l k.spareTx :: .flit l g :: .flit l g :: .flit l g :: .flit l g :: s.out) ∧
      ((s.linkBit l 0x044 3 = false ∨ k.out ≠ [] ∨ k.ackOwed = true) → exec (.txSleep l) s = .next s) ∧
      (k.txAsleep = true → (k.ackOwed = true ∨ k.waking = true ∨ k.sreq ≠ none ∨ ∃ p ∈ k.held, k.xoff.getLsbD p.vc.toNat = false) →
        ∃ u g post, exec (.txWake l) s = .next u ∧ (u.lnk l).txAsleep = false ∧ g.type = 0 ∧ u.out = post ++ .flit l g :: .markers l k.spareTx :: s.out)) ∧
    (s.linkExists l = true → k.state = 4 → flitOk { fl with type := 3 } = true → ∀ rtt : BitVec 12,
      let b (i n : Nat) : Nat := leNat ((fl.payload.drop i).take n)
      (b 0 1 = 0 → ∃ u, exec (.train l fl rtt) s = .next u ∧ (u.lnk l).partner = some (BitVec.ofNat 13 (b 1 2), BitVec.ofNat 6 (b 3 1))) ∧
      (b 0 1 = 1 → ∃ u g, exec (.train l fl rtt) s = .next u ∧ u.out = .flit l g :: s.out ∧ g.type = 3 ∧ leNat (g.payload.take 1) = 2 ∧
        leNat ((g.payload.drop 7).take 1) = b 7 1) ∧
      (b 0 1 = 2 → k.echoSent = true → b 7 1 = 0 → ∃ u, exec (.train l fl rtt) s = .next u ∧ (u.lnk l).rtt = rtt ∧ (u.lnk l).echoSent = false) ∧
      (b 0 1 = 3 → k.readySent = true → ∃ u, exec (.train l fl rtt) s = .next u ∧ (u.lnk l).state = 5 ∧ (u.lnk l).readyRecv = true))

/-- R258, R259, R262, R263, R275 to R277, R279, R281, R283, R286, R287: lanes, training and substitution. Lock, markers and error
ratios move a lane to its spare or lose the link; a port trains on its lowest working lanes, at x8 or x4; commands of the PORT
page act on their link, and SPLIT changes only while the port is held down. Where a clause rests on a choice of the model's
own, log entries 85, 86, 88 say so. -/
def Obligations.LanesTrainAndSubstitute : Prop :=
  ∀ (s : State) (l : LinkNo),
    let k := s.lnk l
    let port := portOf l.toNat
    (s.linkExists l = true → k.state = 1 → ∃ u, exec (.partnerSignalDetect l) s = .next u ∧ u.lnk l = { k with state := 2 } ∧ SameData s u) ∧
    (s.linkExists l = true → k.state = 7 → ∃ u, exec (.retrainStart l) s = .next u ∧ u.lnk l = { state := s.trainsFrom l, lost := k.lost } ∧ SameData s u) ∧
    (k.state ≠ 7 → exec (.retrainStart l) s = .next s) ∧
    (∀ die : BitVec 3, die.toNat < 6 → l.toNat < 48 → ∃ u, exec (.lanePowerGood die) s = .next u ∧
      (port / 4 = die.toNat → s.linkExists l = true → s.linkUp l = false → u.lnk l = { state := s.trainsFrom l, lost := k.lost }) ∧
      ((port / 4 ≠ die.toNat ∨ s.linkUp l = true) → u.lnk l = k) ∧ SameData s u) ∧
    (∀ (die : BitVec 3) (n : BitVec 6), die.toNat < 6 → n.toNat < 36 →
      let p := diePort die n
      let i := diePhys n
      let x := s.lane p i
      (∃ u, exec (.blockLock die n) s = .next u ∧ u.lane p i = { x with lock := true, bad := false, lostMk := 0 } ∧ u.links = s.links ∧ u.regs = s.regs) ∧
      (x.lock = false → exec (.lockLoss die n) s = .next s) ∧
      (x.lock = true → s.laneLink p i = some l →
        (s.linkUp l = false → ∃ u, exec (.lockLoss die n) s = .next u ∧ u.lane p i = { x with lock := false, bad := true } ∧ u.links = s.links ∧
          u.fld (pgLANE die.toNat) (0x10C + 0x10 * n.toNat) 0 32 = satAdd (s.fld (pgLANE die.toNat) (0x10C + 0x10 * n.toNat) 0 32) 16 0xFFFFFFFF ∧
          u.bit (pgLANE die.toNat) oIRQS 0 = true) ∧
        (s.linkUp l = true → x.rxRole = 1 → k.sreq = none → k.spareRx = none → s.linkBit l 0x044 2 = true → s.spareOpen l = true →
          ∃ u, exec (.lockLoss die n) s = .next u ∧ (u.lnk l).sreq = some (x.rxLog.setWidth 3) ∧ (u.lnk l).state = 6 ∧ (u.lnk l).out = k.out) ∧
        (s.linkUp l = true → x.rxRole = 1 → k.sreq = none → k.spareRx ≠ none →
          ∃ w : State, exec (.lockLoss die n) s = .next (w.afterLoss l) ∧ LostWith s w l 3) ∧
        (s.linkUp l = true → x.rxRole = 2 ∨ x.rxRole = 3 → ∃ w : State, exec (.lockLoss die n) s = .next (w.afterLoss l) ∧ LostWith s w l 3)) ∧
      (∀ ratio : BitVec 16, s.laneLink p i = some l → s.linkUp l = true → x.rxRole = 1 ∨ x.rxRole = 3 → s.linkFld l 0x054 0 16 ≠ 0 →
        (ratio.toNat ≤ s.linkFld l 0x054 0 16 → exec (.serWindow die n ratio) s = .next s) ∧
        (s.linkFld l 0x054 0 16 < ratio.toNat → ∃ u, exec (.serWindow die n ratio) s = .next u ∧ u.bit (pgLANE die.toNat) oIRQS 1 = true ∧
          (k.spareRx ≠ none → u.lnk l = k ∧ u.bit (linkPage l) oIRQS (if isHalfB l.toNat then 11 else 3) = true) ∧
          (k.spareRx = none → s.linkBit l 0x044 2 = true → k.sreq = none → s.spareOpen l = true →
            (u.lnk l).sreq = some (x.rxLog.setWidth 3) ∧ (u.lnk l).state = 6)))) ∧
    (∀ m : MarkerSet, s.linkExists l = true →
      (k.state = 2 → m.skew ≤ 64 →
        let g := (s.candidates l).filter (s.workingLane port m)
        let act := if s.isSplit port = false ∧ 8 ≤ g.length then g.take 8 else g.take 4
        (act.length < 4 → ∃ u, exec (.markerSet l m) s = .next u ∧ u.lnk l = { k with state := 9 } ∧ u.out = s.out) ∧
        (4 ≤ act.length → ∃ u g1 g2 rest, exec (.markerSet l m) s = .next u ∧
          u.lnk l = { state := 4, width := BitVec.ofNat 4 act.length, lost := k.lost, echoSent := true } ∧
          u.out = .flit l g2 :: .flit l g1 :: rest ∧ g1.type = 3 ∧ leNat (g1.payload.take 1) = 0 ∧ g2.type = 3 ∧ leNat (g2.payload.take 1) = 1 ∧
          (act.length < 8 → s.isSplit port = false → u.bit (linkPage l) oIRQS 4 = true))) ∧
      (s.linkUp l = true → (∀ x ∈ m.markers, x.badBits ≤ 4) →
        (∀ lane : BitVec 3, k.sreq = some lane → k.rxAsleep = false → m.skew ≤ 64 →
          (∃ x ∈ m.markers, x.standsIn = true ∧ x.logical = lane.setWidth 4 ∧ (s.lane port x.lane.toNat).rxRole = 2) →
          ∃ u, exec (.markerSet l m) s = .next u ∧ (u.lnk l).sreq = none ∧ (u.lnk l).spareRx = some lane ∧ (u.lnk l).state = 5 ∧
            (u.lnk l).rxHold = s.time + 5000 ∧ (u.lnk l).out = k.out) ∧
        (k.sreq = none → k.rxAsleep = true → ∃ u, exec (.markerSet l m) s = .next u ∧
          u.lnk l = (if k.rxQuiet then { k with rxAsleep := false, rxQuiet := false, waking := true } else { k with rxQuiet := true })))) ∧
    (∀ p : Path, l.toNat < 48 →
      (s.served p (linkPage l) (linkOff l 0x040) = true →
        (∀ lane : BitVec 3,
          (s.linkUp l = true → lane.toNat < k.width.toNat → s.spareOpen l = true →
            ∃ u, exec (.subst p l lane) s = .next u ∧ (u.lnk l).sreq = some lane ∧ (u.lnk l).state = 6 ∧ SameData s u) ∧
          ((s.linkUp l = false ∨ k.width.toNat ≤ lane.toNat ∨ s.spareOpen l = false) → exec (.subst p l lane) s = .next s)) ∧
        (s.linkUp l = true → ∃ w : State, exec (.retrain p l) s = .next (w.afterLoss l) ∧ LostWith s w l 5) ∧
        (s.linkExists l = true → s.linkUp l = false → k.state ≠ 0 → k.state ≠ 7 → ∃ u, exec (.retrain p l) s = .next u ∧
          u.lnk l = { state := s.trainsFrom l, lost := k.lost }) ∧
        (s.linkExists l = true → ∃ u, exec (.injCrc p l) s = .next u ∧ u.lnk l = { k with injCrc := true } ∧ SameData s u)) ∧
      (s.served p (linkPage l) (linkOff l 0x044) = true → l.toNat < 24 → ∀ v : BitVec 32, s.linkUp l = false →
        let b : LinkNo := BitVec.ofNat 6 (l.toNat + 24)
        let was := s.isSplit l.toNat
        let down := k.state = 0 ∧ (was = false ∨ (s.lnk b).state = 0)
        ∃ u, exec (.portCfg p l v) s = .next u ∧ u.linkFld l 0x044 1 4 = fieldOf v.toNat 1 4 ∧
          (down → u.isSplit l.toNat = v.getLsbD 0 ∧ (v.getLsbD 0 = true → was = false → u.rd (linkPage l) 0x050 = 0x02800200 ∧ u.rd (linkPage l) 0x450 = 0x02800200) ∧
            (v.getLsbD 0 = false → was = true → u.rd (linkPage l) 0x050 = 0x05000400)) ∧
          (¬down → u.isSplit l.toNat = was ∧ u.rd (linkPage l) 0x050 = s.rd (linkPage l) 0x050) ∧
          (v.getLsbD 1 = true → (u.lnk l).state = 0) ∧ (k.state = 0 → v.getLsbD 1 = false → (u.lnk l).state = u.trainsFrom l)))

/-- R291, R293 to R296, R298, R300 to R302, R306, R307, R356, R473: the crossbar. A packet row acts as TRANSIT with its opcode; a
packet that is not for the device is forwarded with the way back recorded, or meets NO_ROUTE; one for it is checked, opened
and delivered; an unflagged request counts in its flow, a flagged one is performed, parked or turned away; park, transit and
duty limits, snapshots and probes take their effects. Where a clause rests on a choice of the model's own, log entries 36, 38
say so. -/
def Obligations.PacketsForwardAndFence : Prop :=
  ∀ (s : State) (l : LinkNo) (p : Packet),
    (∀ i ∈ [(Instr.read l p [], 0x01), (Instr.write l p, 0x02), (Instr.atomic l p, 0x03), (Instr.chanWrite l p, 0x04), (Instr.rdS l p, 0x30),
        (Instr.rdE l p, 0x31), (Instr.upgrade l p, 0x32), (Instr.evictClean l p, 0x33), (Instr.writeback l p, 0x34), (Instr.invAck l p, 0x3E),
        (Instr.recallRsp l p, 0x3F), (Instr.probe l p, 0x60), (Instr.cmapRead l p, 0x62)], exec i.1 s = exec (.transit l { p with opcode := i.2 }) s) ∧
    (s.linkUp l = true → s.forMe p = false → s.dormant = false →
      let h := p.hop.toNat
      let out := pathEntry p.path h
      let w := s.takeRx l p
      let good := h ≠ 0 ∧ out ≤ 47 ∧ out ≠ l.toNat ∧ (s.emask p.e).testBit out = true ∧ s.linkUp (BitVec.ofNat 6 out) = true
      (good → ∃ (v : State) (q : Packet), exec (.transit l p) s = .next (v.enqueue (BitVec.ofNat 6 out) q) ∧ SameData s v ∧ v.links = w.links ∧ v.fences = s.fences ∧
        (∀ i < 8, pathEntry q.path i = if i = h then l.toNat else pathEntry p.path i) ∧ q.hop = p.hop + 1 ∧
        q = { p with path := q.path, hop := q.hop, ce := q.ce } ∧
        (q.ce = true ↔ p.ce = true ∨ s.fld pgXBAR 0x060 0 12 < w.queued (BitVec.ofNat 6 out) p.vc ∨ (w.lnk (BitVec.ofNat 6 out)).xoff.getLsbD p.vc.toNat = true)) ∧
      (¬good → exec (.transit l p) s =
        .next (if (rspOpcode p.opcode.toNat).isSome then w.noRoute.answer l p 0x23 else w.noRoute))) ∧
    (s.linkUp l = true → s.forMe p = true →
      (pktValid p = false → exec (.transit l p) s =
        .next (if (rspOpcode p.opcode.toNat).isSome then (s.takeRx l p).answer l p 0x01 else (s.takeRx l p).badPkt)) ∧
      (pktValid p = true → p.enc = true → s.openPkt p = none → ∃ u : State, exec (.transit l p) s = .next u ∧ CountedOnce s u pgSEC 0x07C ∧
        u.bit pgSEC oIRQS 2 = true ∧ SameData s u) ∧
      (pktValid p = true → p.enc = false → (rspOpcode p.opcode.toNat).isSome = true → p.opcode ≠ 0x60 → p.opcode ≠ 0x62 →
        let c := s.fence p.srcEp p.fp
        let w := s.takeRx l p
        let parked := (s.park.filter (fun k => k.link == l)).length
        (p.f = false → s.park = [] → ∃ v, v = s.arrived l p ∧ v.fence p.srcEp p.fp = (c + 1) % 1024 ∧ ((v.performReq l p).park = [] → exec (.transit l p) s = .next (v.performReq l p))) ∧
        (p.f = true → c = p.fcount.toNat → exec (.transit l p) s = .next ((w.setFence p.srcEp p.fp 0).performReq l p)) ∧
        (p.f = true → p.fcount.toNat < c → ∃ v : State, exec (.transit l p) s = .next (v.performReq l p) ∧ v.fence p.srcEp p.fp = 0 ∧ CountedOnce s v pgXBAR 0x07C) ∧
        (p.f = true → c < p.fcount.toNat → parked < s.parkSize l →
          ∃ u : State, exec (.transit l p) s = .next u ∧ u.park = s.park ++ [{ link := l, pkt := p }] ∧ u.fences = s.fences ∧ SameData s u) ∧
        (p.f = true → c < p.fcount.toNat → s.parkSize l ≤ parked →
          ∃ v : State, exec (.transit l p) s = .next (v.answer l p 0x21) ∧ v.park = s.park ∧ v.fences = s.fences ∧ CountedOnce s v pgXBAR 0x074)) ∧
      (pktValid p = true → p.enc = false → p.opcode = 0x60 → ∃ d : Bytes, exec (.transit l p) s =
          .next ((s.takeRx l p).sendRsp l p (fun r => { r with opcode := 0x61, status := if s.fwReady then 0 else 0x24, data := d })) ∧
        d.length = 64 ∧ leNat (d.take 2) = s.ep.toNat ∧ leNat ((d.drop 2).take 3) = 0x080B06 ∧ leNat ((d.drop 5).take 1) = l.toNat ∧
        leNat ((d.drop 32).take 6) = s.emask p.e % 2 ^ 48 ∧ (s.fwReady = false → (d.drop 40).take 8 = List.replicate 8 0)) ∧
      (pktValid p = true → p.enc = false → p.opcode = 0x62 → ∃ (v : State) (d : Bytes), exec (.transit l p) s =
          .next (v.sendRsp l p (fun r => { r with opcode := 0x61, status := if s.fwReady then 0 else 0x24, mod := 1, data := d })) ∧
        v.marks = [] ∧ v.xoffUs = [] ∧ d.length = 192 ∧ ∀ n < 48, leNat ((d.drop (4 * n)).take 2) = Tab.get 0 s.marks n % 65536)) ∧
    (∀ k rest, s.park.filter (fun k => k.link == l) = k :: rest → ∃ v : State, exec (.fenceTimeout l) s = .next (v.answer k.link k.pkt 0x22) ∧ v.park = s.park.erase k ∧
      v.fence k.pkt.srcEp k.pkt.fp = 0 ∧ CountedOnce s v pgXBAR 0x078 ∧ v.bit pgXBAR oIRQS 0 = true ∧ SameData s v) ∧
    (∀ q rest, (s.lnk l).held.filter (fun q => q.srcEp != s.ep) = q :: rest → ∃ u : State, exec (.transitAge l) s = .next u ∧ (u.lnk l).held = (s.lnk l).held.erase q ∧
      CountedOnce s u pgXBAR 0x084 ∧ u.bit pgXBAR oIRQS 2 = true ∧ SameData s u) ∧
    (∀ q ∈ s.homeq, (∀ r ∈ s.homeq, r.rq = q.rq → r = q) →
      (s.newToken = none → ∃ v : State, exec (.dutyDefer q.rq) s = .next (v.answerDefer q.link q.pkt noToken).pump ∧ v.homeq = s.homeq.erase q ∧
        CountedOnce s v pgXBAR 0x088 ∧ CountedOnce s v pgTIER 0x070) ∧
      (∀ t s2, s.newToken = some (t, s2) → ∃ v : State, exec (.dutyDefer q.rq) s = .next (v.answerDefer q.link q.pkt t).pump ∧ v.homeq = s.homeq.erase q ∧
        v.deferred = s.deferred ++ [(t.toNat, q.link, { q.pkt with data := [], gtag := [] })] ∧ CountedOnce s v pgXBAR 0x088)) ∧
    (∀ (path : Path) (v : BitVec 32), s.served path pgXBAR 0x090 = true → ∃ u : State, exec (.cmapSnap path v) s = .next u ∧ (v.getLsbD 0 = false → u = s) ∧
      (v.getLsbD 0 = true → u.marks = [] ∧ u.xoffUs = [] ∧ SameData s u ∧ ∀ n < 48, u.fld pgXBAR (0x100 + 4 * n) 0 16 = Tab.get 0 s.marks n % 65536))

/-- R312, R315, R318 to R326, R329: the home. An ordered READ answers the data of its line; a WRITE stores; an atomic stores its
new value and answers the old; RD_S adds a sharer; RD_E and UPGRADE grant with a hold; the owner's EVICT_CLEAN or WRITEBACK
frees the line and any other is REVOKED; an answered or timed-out snoop settles its line; a line in another owner's hands is
recalled first; the region acknowledgement, the end of a hold and PRED.CLEAR let waiting work go on. Where a clause rests on a
choice of the model's own, log entries 35, 37 say so. -/
def Obligations.HomeOrdersRequests : Prop :=
  ∀ (s w : State) (l : LinkNo) (p : Packet) (e : PlotEntry),
    let ofs := pktOfs p
    let line := lineOf (pktHandle p) ofs
    let h := pktHandle p
    (s.atHome l p e w →
      (∀ d w2, p.opcode = 0x01 → (∀ x ∈ pktLines p, ∀ o, w.rec_ x ≠ some (.em o)) → w.readPlot h e ofs p.length.toNat (hintOf e p.ph) = (.ok d, w2) →
        exec (.read l p []) s = .next (w2.answerOk l p 0 d)) ∧
      (∀ w2, p.opcode = 0x02 → (∀ x ∈ pktLines p, w.rec_ x = none) → w.writePlot h e ofs (p.data.take p.length.toNat) (hintOf e p.ph) = (0, w2) →
        exec (.write l p) s = .next (w2.answerOk l p 0 [])) ∧
      (∀ k wide old v w2 w3, p.opcode = 0x03 → w.rec_ line = none → w.runsFar e p = false → atomOfMinor p.mod.toNat = some (k, wide) →
        w.readPlot h e ofs (pktLen p) false = (.ok old, w2) →
        atomicNew k (8 * pktLen p) (leNat old) (leNat (p.data.take (pktLen p))) (leNat (p.data.drop (pktLen p))) = .ok v →
        (w2.drainWord (plotWord e ofs)).runsFar e p = false →
        (w2.drainWord (plotWord e ofs)).writePlot h e ofs (leBytes (pktLen p) v) false = (0, w3) →
        ∃ u : State, exec (.atomic l p) s = .next (u.answerOk l p 0 old) ∧ u.mem = w3.mem ∧ u.plots = w3.plots ∧ CountedOnce w3 u pgHOME 0x07C) ∧
      (Tab.get 0 w.regionBits (regionOf e (lineOfs line)) = 2 → w.mayCache e p.srcEp = true →
        (∀ d w2, p.opcode = 0x30 → (∀ o, w.rec_ line ≠ some (.em o)) → w.readPlot h e ofs 128 (hintOf e p.ph) = (.ok d, w2) →
          ∃ u : State, exec (.rdS l p) s = .next (u.answerOk l p 0 d) ∧ u.mem = w2.mem ∧
            (w2.rec_ line = none → u.rec_ line = some (.s [p.srcEp])) ∧
            (∀ ps, w2.rec_ line = some (.s ps) → p.srcEp ∉ ps → ps.length < 4 → u.rec_ line = some (.s (ps ++ [p.srcEp]))) ∧
            (∀ v, w2.rec_ line = some (.sc v) → u.rec_ line = some (.sc (v ||| 1#128 <<< (p.srcEp.toNat / 64))))) ∧
        (∀ d w2, p.opcode = 0x31 → w.rec_ line = none → w.readPlot h e ofs 128 (hintOf e p.ph) = (.ok d, w2) →
          ∃ u : State, exec (.rdE l p) s = .next (u.answerOk l p 0 d) ∧ u.rec_ line = some (.em (.ep p.srcEp)) ∧ u.held line = true ∧ u.mem = w2.mem) ∧
        (p.opcode = 0x32 → w.rec_ line = some (.s [p.srcEp]) →
          ∃ u : State, exec (.upgrade l p) s = .next (u.sendRsp l p (fun r => { r with opcode := 0x3A })) ∧ u.rec_ line = some (.em (.ep p.srcEp)) ∧ u.held line = true ∧
            u.mem = w.mem) ∧
        (∀ d w2, p.opcode = 0x32 → w.rec_ line = none → w.readPlot h e ofs 128 (hintOf e p.ph) = (.ok d, w2) →
          ∃ u : State, exec (.upgrade l p) s = .next (u.sendRsp l p (fun r => { r with opcode := 0x39, data := d })) ∧ u.rec_ line = some (.em (.ep p.srcEp)))) ∧
      (∀ o : BitVec 13, p.opcode = 0x01 → pktLines p = [line] → w.rec_ line = some (.em (.ep o)) → o ≠ p.srcEp → Tab.get 0 w.regionBits (regionOf e (lineOfs line)) = 2 →
        ∃ u t n, exec (.read l p []) s = .next u ∧ Tab.find? u.txns line = some t ∧ t.snoops = [n] ∧ n.ep = o ∧ n.isRecall = true ∧ n.keep = true ∧
          t.after_ = some (.s [o]) ∧ CountedOnce w u pgHOME 0x074 ∧ u.mem = w.mem ∧
          u.homeq = [{ rq := s.nextRq, link := l, pkt := p, kh := h, entry := e }])) ∧
    (s.arrives l p = true → p.f = false → s.homeIdle = true → Tab.find? s.txns line = none → ∀ e w,
      (s.arrived l p).plotCheck (hubOfLink l.toNat) h (.port p.srcEp p.job p.enc) (reqNeed p) (reqRights p) ofs (if p.opcode = 0x34 then 128 else 0) = (0, e, w) →
      e.tiered = false →
      (p.opcode = 0x33 → w.rec_ line = some (.em (.ep p.srcEp)) → ∃ u : State, exec (.evictClean l p) s = .next (u.answerOk l p 0 []).pump ∧ u.rec_ line = none ∧ u.mem = w.mem) ∧
      (p.opcode = 0x34 → w.rec_ line = some (.em (.ep p.srcEp)) → ∃ u : State, exec (.writeback l p) s = .next (u.answerOk l p 0 []).pump ∧ u.rec_ line = none ∧
        u.mem = (w.writePlot h e ofs p.data false).2.mem) ∧
      (w.rec_ line ≠ some (.em (.ep p.srcEp)) → (p.opcode = 0x33 ∨ p.opcode = 0x34) → ∃ u : State, exec (if p.opcode = 0x33 then .evictClean l p else .writeback l p) s =
        .next (u.answer l p 0x04) ∧ CountedOnce w u pgHOME 0x08C ∧ u.mem = w.mem)) ∧
    (s.arrives l p = true → ∀ ln t n, s.txnOf p.srcEp p.tag = some (ln, t, n) → Tab.find? s.txns ln = some t → t.snoops = [n] →
      (p.opcode = 0x3E → n.isRecall = false → exec (.invAck l p) s = .next (((s.takeRx l p).endTxn ln t).pump)) ∧
      (p.opcode = 0x3F → n.isRecall = true → p.mod.getLsbD 0 = false → exec (.recallRsp l p) s = .next (((s.takeRx l p).endTxn ln t).pump))) ∧
    (s.arrives l p = true → s.txnOf p.srcEp p.tag = none → s.crossed = [] → (p.opcode = 0x3E ∨ p.opcode = 0x3F) →
      ∃ u : State, exec (if p.opcode = 0x3E then .invAck l p else .recallRsp l p) s = .next u ∧ CountedOnce s u pgHOME 0x08C ∧ SameData s u) ∧
    (∀ ln t (n : Snoop), s.txns.find? (fun kv => kv.2.snoops.any (fun x => x.tag == n.tag)) = some (ln, t) → Tab.find? s.txns ln = some t → t.snoops = [n] →
      t.cause = .evict →
      (n.isRecall = true → ∃ v : State, exec (.recallTimeout n.tag) s = .next (v.endTxn ln { t with after_ := none }).pump ∧ CountedOnce s v pgHOME 0x084 ∧
        v.bit pgHOME oIRQS 0 = true ∧ SameData s v) ∧
      (n.isRecall = false → ∃ v : State, exec (.recallTimeout n.tag) s = .next (v.endTxn ln t).pump ∧ CountedOnce s v pgHOME 0x088 ∧ v.bit pgHOME oIRQS 1 = true ∧ SameData s v)) ∧
    (∀ (bed : BitVec 5) (region : Nat), region < 2 ^ 40 → wordStack (region * 1024) = bed.toNat → Tab.get 0 s.regionBits region = 1 →
      exec (.regionSetAck bed region) s = .next ({ s with regionBits := Tab.put s.regionBits region 2 } : State).pump) ∧
    (∀ (ln : BitVec 53) hd, Tab.find? s.lineHolds ln.toNat = some hd → hd.active = true →
      exec (.holdEnd ln) s = .next ({ s with lineHolds := Tab.put s.lineHolds ln.toNat { hd with active := false } } : State).pump) ∧
    (∀ path : Path, s.served path pgHOME 0x048 = true → ∃ u : State, exec (.predClear path) s = .next u ∧ (∀ ln, u.predAt ln = 4) ∧ SameData s u)

/-- R336 to R338, R342, R343, R345 to R350, R476, R477, R479: the translator. The XLT commands end with the first status that
applies; MAP adds exactly its pages; UNMAP and SET_REMOTE start a shootdown; RESOLVE closes a fault; FQ_SET clears and sets a
ring; QUERY shows the leaf entry. A fill caches a translation, or joins a fault; a migration ends with the page resident or a
MIGRATE_FAIL record; a shootdown withdraws entries, aborts what is left at its limit, and completes. Where a clause rests on a
choice of the model's own, log entries 24, 25, 26, 27, 29, 55 say so. -/
def Obligations.TranslatorRuns : Prop :=
  ∀ (s : State),
    let a (n : Nat) : Nat := s.arg pgXLT n
    let t := BitVec.ofNat 12 (fieldOf (a 0) 0 12)
    let tva := s.xltTva
    (∀ (p : Path) (rsv : BitVec 28), s.takes p pgXLT = true →
      let s0 := s.started pgXLT
      let known := s.tenantKnown t.toNat = true
      let ends (i : Instr) (st : Nat) : Prop := ∃ u, exec i s = .next u ∧ Answered u pgXLT st ∧ SameData s u ∧ u.leaves = s.leaves ∧ u.faults = s.faults
      -- MAP
      (let h := BitVec.ofNat 16 (fieldOf (a 2) 16 16)
       let e := (s.plot h).cur
       let sz := pageBytes e.pgsz
       let n := fieldOf (a 4) 0 24
       let ofs := fieldOf (a 3) 0 28
       let page (i : Nat) : Leaf := { tva := BitVec.ofNat 57 (tva + i * sz), size := e.pgsz, rights := BitVec.ofNat 4 (fieldOf (a 0) 16 4),
                                      enc := (a 0).testBit 21, handle := h, offset := BitVec.ofNat 28 (ofs + i * (sz / 65536)) }
       let bad := s0.argsBad pgXLT rsv.toNat [0x2F0FFF, 0xFFFFFFFF, 0xFFFF01FF, 0x0FFFFFFF, 0x00FFFFFF, 0] = true ∨ n = 0
       let gone := e.state = .unused ∨ e.state = .released
       let skew := tva % sz ≠ 0 ∨ ofs * 65536 % sz ≠ 0 ∨ 2 ^ 57 < tva + n * sz
       let out := plotBytes e < ofs * 65536 + n * sz
       let ovl := ∃ lf ∈ s.tree t, lf.tva.toNat < tva + n * sz ∧ tva < lf.tva.toNat + pageBytes lf.size
       (bad → ends (.map p rsv) 0x01) ∧ (¬bad → ¬known → ends (.map p rsv) 0x02) ∧ (¬bad → known → gone → ends (.map p rsv) 0x03) ∧
       (¬bad → known → ¬gone → skew → ends (.map p rsv) 0x01) ∧ (¬bad → known → ¬gone → ¬skew → out → ends (.map p rsv) 0x04) ∧
       (¬bad → known → ¬gone → ¬skew → ¬out → ovl → ends (.map p rsv) 0x05) ∧
       (¬bad → known → ¬gone → ¬skew → ¬out → ¬ovl →
         let room := treeUnits ((s.tree t).filter (fun x => x.tva.toNat < tva) ++ (List.range n).map page ++ (s.tree t).filter (fun x => tva ≤ x.tva.toNat)) ≤
           s.tableFree + (if Tab.has s.leaves t.toNat then treeUnits (s.tree t) else 0)
         (¬room → ends (.map p rsv) 0x07) ∧
         (room → ∃ u, exec (.map p rsv) s = .next u ∧ Answered u pgXLT 0 ∧ SameData s u ∧
           (∀ lf, lf ∈ u.tree t ↔ lf ∈ s.tree t ∨ ∃ i < n, lf = page i) ∧ (∀ x, x ≠ t → u.tree x = s.tree x) ∧
           ∀ i < n, ∀ b < sz, u.leafAt t (tva + i * sz + b) = some (page i)))) ∧
      -- UNMAP, SET_REMOTE
      (let n := fieldOf (a 4) 0 24
       (s0.argsBad pgXLT rsv.toNat [0xFFF, 0xFFFFFFFF, 0x1FF, 0, 0xFFFFFF, 0] = true ∨ n = 0 → ends (.unmap p rsv) 0x01) ∧
       (s0.argsBad pgXLT rsv.toNat [0xFFF, 0xFFFFFFFF, 0x1FF, 0, 0xFFFFFF, 0] = false → n ≠ 0 →
         (¬known → ends (.unmap p rsv) 0x02) ∧ (known → ∀ st, pageRange (s.tree t) false n tva = .error st → ends (.unmap p rsv) st) ∧
         (known → ∀ hi, pageRange (s.tree t) false n tva = .ok hi → ∃ u, exec (.unmap p rsv) s = .next u ∧ u.busy pgXLT = true ∧ SameData s u ∧ u.leaves = s.leaves ∧
           Tab.find? u.shoots s.nextShoot = some { by_ := .unmap, tenant := some t, lo := tva, hi := hi, plots := [] }))) ∧
      (let n := fieldOf (a 3) 16 16
       s0.argsBad pgXLT rsv.toNat [0xFFF, 0xFFFFFFFF, 0x1FF, 0xFFFF1FFF, 0xFFFFFFFF, 0xFFFF] = false → n ≠ 0 →
         (¬known → ends (.setRemote p rsv) 0x02) ∧ (known → ∀ st, pageRange (s.tree t) true n tva = .error st → ends (.setRemote p rsv) st) ∧
         (known → ∀ hi, pageRange (s.tree t) true n tva = .ok hi → ∃ u, exec (.setRemote p rsv) s = .next u ∧ u.busy pgXLT = true ∧ SameData s u ∧ u.leaves = s.leaves ∧
           Tab.find? u.shoots s.nextShoot = some { by_ := .setRemote, tenant := some t, lo := tva, hi := hi, plots := [], remote := some (BitVec.ofNat 13 (fieldOf (a 3) 0 13), BitVec.ofNat 48 (a 4 + fieldOf (a 5) 0 16 * 2 ^ 32)) })) ∧
      -- RESOLVE
      (s0.argsBad pgXLT rsv.toNat [0xFFFFFFFF, 1, 0, 0, 0, 0] = false →
        (Tab.find? s.faults (a 0) = none → ends (.resolve p rsv) 0x08) ∧
        (∀ f, Tab.find? s.faults (a 0) = some f → (f.mig.isSome = true ∨ f.joined = true) → ends (.resolve p rsv) 0x08) ∧
        (∀ f, Tab.find? s.faults (a 0) = some f → f.mig = none → f.joined = false →
          ((a 1).testBit 0 = true → exec (.resolve p rsv) s = .next ((s0.closeUnmappable (a 0)).complete pgXLT 0)) ∧
          ((a 1).testBit 0 = false → ∃ u, exec (.resolve p rsv) s = .next u ∧ Answered u pgXLT 0 ∧ u.faults = Tab.del s.faults (a 0) ∧ u.mem = s.mem ∧
            ∀ c n th tv, (s.cell c).thread? n = some th → th.run = .fault (a 0) tv → ((u.cell c).thread? n).map (·.run) = some .ready))) ∧
      -- FQ_SET
      (let h := BitVec.ofNat 16 (fieldOf (a 1) 0 16)
       let e := (s.plot h).cur
       let code := fieldOf (a 0) 16 4
       let ch := fieldOf (a 0) 20 12
       let n := 2 ^ (code + 4)
       let bad := s0.argsBad pgXLT rsv.toNat [0xFFFF0FFF, 0xFFFF, 0xFFFFFFFF, 0, 0, 0] = true ∨ 12 < code
       let gone := e.state = .unused ∨ e.state = .released
       let ours := (s.chan ch).granted = true ∧ (s.chan ch).tenant = t ∧ e.tiered = false ∧ e.owner = t ∧ e.state = .active
       (bad → ends (.fqSet p rsv) 0x01) ∧ (¬bad → ¬known → ends (.fqSet p rsv) 0x02) ∧ (¬bad → known → gone → ends (.fqSet p rsv) 0x03) ∧
       (¬bad → known → ¬gone → ¬ours → ends (.fqSet p rsv) 0x01) ∧
       (¬bad → known → ¬gone → ours → plotBytes e < a 2 * 4096 + 32 * n + 64 → ends (.fqSet p rsv) 0x04) ∧
       (¬bad → known → ¬gone → ours → a 2 * 4096 + 32 * n + 64 ≤ plotBytes e → ∀ s1, s0.devWrite h (a 2 * 4096) (List.replicate (32 * n + 64) 0) = (.ok [], s1) →
         ∃ u, exec (.fqSet p rsv) s = .next u ∧ Answered u pgXLT 0 ∧ u.mem = s1.mem ∧
           Tab.find? u.faultQs t.toNat = some { plot := h, ofs := a 2 * 4096, code := BitVec.ofNat 4 code, chan := BitVec.ofNat 12 ch, tail := 0, phase := true })) ∧
      -- QUERY
      (s0.argsBad pgXLT rsv.toNat [0xFFF, 0xFFFFFFFF, 0x1FF] = false → known →
        (s.leafAt t tva = none → ends (.xltQuery p rsv) 0x06) ∧
        (∀ lf, s.leafAt t tva = some lf → ∃ u, exec (.xltQuery p rsv) s = .next u ∧ Answered u pgXLT 0 ∧ SameData s u ∧
          u.arg pgXLT 3 = leafWord0 lf % 2 ^ 32 ∧ u.arg pgXLT 4 = leafWord0 lf / 2 ^ 32 % 2 ^ 32 ∧ u.arg pgXLT 5 = leafWord1 lf % 2 ^ 32 ∧
          u.arg pgXLT 1 = leafWord1 lf / 2 ^ 32 % 2 ^ 32))) ∧
    -- fills
    (∀ (c : BitVec 9) (n : BitVec 10) q th (va : BitVec 57) need, s.cellReq c.toNat none = some q → (s.cell c.toNat).thread? n.toNat = some th → th.canIssue = true →
      (∀ lf e s1, s.leafAt q.tenant va.toNat = some lf → q.cache = some (cellBed c.toNat) →
        (s.inc pgXLT 0x074).plotCheck (hubOfBed (cellBed c.toNat)) lf.handle (.inside q.job q.ident) (needOf need) need (lf.offset.toNat * 65536) (pageBytes lf.size) = (0, e, s1) →
        cellBed c.toNat < 24 → need &&& lf.rights = need → (lf.remote = false ∨ lf.resident = true) → s1.returning q.tenant va.toNat = false →
        ∃ u x, exec (.translationFill (.cell c n) q.job va need) s = .next u ∧ x ∈ u.tlb ∧ x.cache = cellBed c.toNat ∧ x.job = q.job ∧ x.tva = lf.tva ∧ x.handle = lf.handle ∧
          x.ofs = lf.offset.toNat * 65536 ∧ x.rights = s1.keptRights q lf e (lf.offset.toNat * 65536) (pageBytes lf.size) ∧ u.cells = s.cells ∧ u.mem = s.mem) ∧
      (∀ fid f, s.leafAt q.tenant va.toNat = none → s.faultOf q.tenant (regionTva va.toNat) = some (fid, f) →
        ∃ u, exec (.translationFill (.cell c n) q.job va need) s = .next u ∧ Tab.find? u.faults fid = some { f with waiters := f.waiters + 1 } ∧
          ((u.cell c.toNat).thread? n.toNat).map (·.run) = some (.fault fid (va.setWidth 64)) ∧ u.mem = s.mem)) ∧
    -- faults and migrations
    (∀ (fid : BitVec 32) f, Tab.find? s.faults fid.toNat = some f →
      (∀ m, f.mig = some m → m.failed = none → m.got.length < 16 → exec (.migrationComplete fid) s = .next s) ∧
      (∀ m, f.mig = some m → m.failed = none → 16 ≤ m.got.length → ∃ u, exec (.migrationComplete fid) s = .next u ∧ u.faults = Tab.del s.faults fid.toNat ∧
        u.tree f.tenant = (s.tree f.tenant).map (fun x => if x.tva.toNat == f.region.toNat then { x with resident := true } else x) ∧
        CountedOnce s u pgXLT 0x088 ∧ u.mem = s.mem) ∧
      (∀ m st, f.mig = some m → ∀ i ∈ [(Instr.migrationComplete fid, st), (Instr.migrationTimeout fid, 0)], (i.1 = .migrationComplete fid → m.failed = some st) →
        ∃ w : State, exec i.1 s = .next (w.record_ fid.toNat 2 (i.2 + 65536 * ((s.leafAt f.tenant f.region.toNat).map (fun x => x.owner.toNat)).getD 0)).pumpOwn ∧
          CountedOnce s w pgXLT 0x08C ∧ w.bit pgXLT oIRQS 3 = true ∧ SameData s w ∧ w.leaves = s.leaves) ∧
      (f.posted = true → exec (.faultTimeout fid) s = .next (s.closeUnmappable fid.toNat)) ∧ (f.posted = false → exec (.faultTimeout fid) s = .next s)) ∧
    -- shootdowns
    (∀ sd d, Tab.find? s.shoots sd = some d →
      (s.shootBlocked d = true → exec (.shootdownPoint sd) s = .next s) ∧
      (d.point = false → s.shootBlocked d = false → ∃ u d', exec (.shootdownPoint sd) s = .next u ∧ u.tlb = s.tlb.filter (fun x => !s.shot d x) ∧
        Tab.find? u.shoots sd = some d' ∧ d'.point = true ∧ d'.ents = s.tlb.filter (s.shot d) ∧ SameData s u ∧
        (∀ tn, d.by_ = .unmap → d.tenant = some tn → u.tree tn = (s.tree tn).filter (fun x => !(d.lo ≤ x.tva.toNat && x.tva.toNat < d.hi))) ∧
        (∀ tn o r, d.by_ = .setRemote → d.tenant = some tn → d.remote = some (o, r) → ∀ x ∈ s.tree tn, d.lo ≤ x.tva.toNat → x.tva.toNat < d.hi →
          { x with remote := true, resident := false, owner := o, raddr := BitVec.ofNat 48 (r.toNat + (x.tva.toNat - d.lo) / 65536) } ∈ u.tree tn)) ∧
      (d.point = true → d.limit = false → ∃ u, exec (.drainLimit sd) s = .next u ∧
        Tab.find? u.shoots sd = some { d with limit := true, aborted := d.aborted + (d.users.filter s.copyLive).length } ∧ u.mem = s.mem ∧
        ((d.users.filter s.copyLive) = [] → u.cells = s.cells)) ∧
      (d.point = true → (d.limit = true ∨ d.users.any s.copyLive = false) →
        (d.by_ = .unmap → ∃ u, exec (.shootdownComplete sd) s = .next u ∧ Answered u pgXLT 0 ∧ u.bit pgXLT 0x05C 16 = decide (0 < d.aborted) ∧ u.shoots = Tab.del s.shoots sd ∧ SameData s u) ∧
        (d.by_ = .setRemote → ∃ u, exec (.shootdownComplete sd) s = .next u ∧ Answered u pgXLT 0 ∧ u.shoots = Tab.del s.shoots sd ∧ SameData s u) ∧
        (∀ x y, d.by_ = .publish x y → ∃ u, exec (.shootdownComplete sd) s = .next u ∧ u.shoots = Tab.del s.shoots sd ∧ CountedOnce s u pgXLT 0x094 ∧ SameData s u) ∧
        (∀ h, d.by_ = .revoke h → ∃ u, exec (.shootdownComplete sd) s = .next u ∧ u.shoots = Tab.del s.shoots sd ∧
          (u.plot h).rev = (s.plot h).rev.map (fun r => { r with xfer := r.xfer || decide (0 < d.aborted) }) ∧ u.mem = s.mem) ∧
        (∀ id tv, d.by_ = .returnPage id tv → ∃ w : State, exec (.shootdownComplete sd) s = .next (w.returnStep id) ∧ w.shoots = Tab.del s.shoots sd ∧ SameData s w)) ∧
      ((d.point = false ∨ (d.limit = false ∧ d.users.any s.copyLive = true)) → exec (.shootdownComplete sd) s = .next s)) ∧
    (∀ id c pg, s.cmd? id = some c → (s.xfer id).cur = some pg →
      ((s.xfer id).got.length < 16 → exec (.returnPageConfirmed id) s = .next (s.returnStep id)) ∧
      (16 ≤ (s.xfer id).got.length → ∃ w : State, exec (.returnPageConfirmed id) s = .next ((w.endJoined c.tenant pg).returnStep id) ∧
        w.xfer id = { s.xfer id with cur := none, got := [], count := (s.xfer id).count + 1 } ∧ SameData s w ∧
        w.tree c.tenant = (s.tree c.tenant).map (fun x => if x.tva.toNat == pg.toNat then { x with resident := false } else x)))

/-- R351, R353, R357, R363, R365, R367, R369, R372, R375, Tables 14-3, 14-7 and 16-6: the commands of the security engine over
Horore. Each runs as the message in front and ends in one response; its statuses come in the order of Table 14-3; a key goes
into a free slot of its job, which the job's tenant then holds; a rotation makes the current key the previous one, inverts the
parity and restarts the counters; a release binds the slot and the plot's key pair to the list that checks use; a transport
key serves one command; a removal marks the tenant and revokes its plots, and after the drain leaves no tenant, job, slot,
queue, key or journal of it. Where a clause rests on a choice of the model's own, log entries 12, 30, 76 say so. -/
def Obligations.TenantsAndKeys : Prop :=
  (∀ (w : State) (h : W64) (st : Nat) (ws : List W64), HoAnswered w (w.hoEnd h st ws) h st ws ∧ SameData w (w.hoEnd h st ws)) ∧
  (∀ (s : State) (m : HororeMsg) (rest : List HororeMsg) (code : Nat), s.mailAt m rest code →
    let h := hoHdr m
    let w : State := { s with taken := rest }
    let fin (st : Nat) : Host.Outcome State Fault Refusal := .next (w.hoEnd h st [])
    let done (i : Instr) (good : State → Prop) : Prop := ∃ v : State, exec i s = .next (v.hoEnd h hoOK []) ∧ v.rxq = s.rxq ∧ v.mem = s.mem ∧ good v
    let job := keyJob m
    let t := keyTen m
    let input (n k : Nat) : Bytes := (s.pbufRead (hoIn h) (n + k)).drop n
    (code = 0x05 →
      let t := fieldOf (hoWord m 1) 0 12
      let conf := (hoWord m 1).testBit 12
      let barred := conf = true ∧ s.bit pgSEC 0x044 13 = false
      (barred → exec .tenantCreate s = fin hoInvalid) ∧
      (¬barred → s.locked = false → exec .tenantCreate s = fin hoNotLocked) ∧
      (¬barred → s.locked = true → Tab.has s.tenants t = true → exec .tenantCreate s = fin hoExists) ∧
      (¬barred → s.locked = true → Tab.has s.tenants t = false → s.fld pgSEC 0x044 0 13 ≤ s.tenants.length → exec .tenantCreate s = fin hoLimit) ∧
      (¬barred → s.locked = true → Tab.has s.tenants t = false → s.tenants.length < s.fld pgSEC 0x044 0 13 → done .tenantCreate (fun v =>
        (∃ k, Tab.find? v.tenants t = some k ∧ k.conf = conf ∧ k.spill.isSome = conf ∧ k.removing = false ∧
          k.pubKey = (if (hoWord m 1).testBit 13 then some (input 0 133) else none)) ∧
        (∀ x, x ≠ t → Tab.find? v.tenants x = Tab.find? s.tenants x) ∧ v.plots = s.plots ∧ v.slots = s.slots ∧ v.regs = s.regs))) ∧
    (code = 0x06 →
      let t := BitVec.ofNat 12 (hoWord m 1)
      ((∀ k, Tab.find? s.tenants t.toNat = some k → k.removing = true) → exec .tenantRemove s = fin hoNoTenant) ∧
      (∀ k, Tab.find? s.tenants t.toNat = some k → k.removing = false → ∃ u, exec .tenantRemove s = .next u ∧
        Tab.find? u.tenants t.toNat = some { k with removing := true, aborted := 0, lost := 0 } ∧
        u.running = some { hdr := h, words := m.words } ∧ u.rxq = s.rxq ∧ u.mem = s.mem ∧
        (∀ d, (s.plot d).cur.owner = t → freeState (s.plot d).cur = false → (s.plot d).cur.state ≠ .revoked → (s.plot d).rev = none →
          s.pubTarget d = false → s.pubShadow d = false → ∃ r, (u.plot d).rev = some r ∧ r.final = .revoked ∧ r.entry = revokedEntry (s.plot d).cur) ∧
        (∀ d x, (s.plot d).cur.owner ≠ t → Tab.find? s.tenants (s.plot d).cur.owner.toNat = some x → x.removing = false → u.plot d = s.plot d))) ∧
    (code = 0x02 →
      let plain := (hoWord m 1).testBit 48 = false
      ((∀ k, Tab.find? s.tenants t.toNat = some k → k.removing = true) → exec .keyInstall s = fin hoNoTenant) ∧
      (∀ k, s.keyTenant t = some k →
        let barred := (k.conf = true ∧ plain) ∨ ∃ x, s.jobTenant job = some x ∧ x ≠ t
        (barred → exec .keyInstall s = fin hoInvalid) ∧
        (¬barred → (s.slotOf job).isSome = true → exec .keyInstall s = fin hoSlotInUse) ∧
        (¬barred → s.slotOf job = none → s.freeKeySlot = none → exec .keyInstall s = fin hoNoSlot) ∧
        (∀ n, ¬barred → s.slotOf job = none → s.freeKeySlot = some n →
          let put (key : Bytes) : State → Prop := fun v => (∃ z, v.slotOf job = some (n, z) ∧ z.tenant = t ∧ z.cur = BitVec.ofNat 256 (leNat key) ∧
            z.prev = none ∧ z.parity = false ∧ z.attested = false ∧ z.ctr0 = 0 ∧ z.ctr1 = 0) ∧ v.jobTenant job = some t ∧ v.plots = s.plots
          (plain → done .keyInstall (fun v => put (input 0 32) v ∧ v.transport = s.transport)) ∧
          (¬plain → (s.usableKey (keyKid m) none = none ∨ k.pubKey = none) → exec .keyInstall s = fin hoNoKey) ∧
          (∀ tk pub, ¬plain → s.usableKey (keyKid m) none = some tk → k.pubKey = some pub →
            (unwrapKey tk pub job 0 (input 0 40) = none → exec .keyInstall s = .next ((w.dropTransport tk.id).hoEnd h hoUnwrap [])) ∧
            (∀ key, unwrapKey tk pub job 0 (input 0 40) = some key →
              done .keyInstall (fun v => put key v ∧ v.transport? tk.id = none)))))) ∧
    (code = 0x03 →
      let d := BitVec.ofNat 16 (fieldOf (hoWord m 2) 0 16)
      let life := fieldOf (hoWord m 2) 32 17
      let e := (s.plot d).cur
      let formed := (hoWord m 1).testBit 48 = true ∧ 1 ≤ life ∧ life ≤ 86400 ∧ input 133 3 = [0, 0, 0]
      (¬formed → exec .keyWrapRelease s = fin hoInvalid) ∧
      (formed → s.keyTenant t = none → exec .keyWrapRelease s = fin hoNoTenant) ∧
      (∀ k n, formed → s.keyTenant t = some k → s.foreignJob job t = false → s.slotOf job = none → s.freeKeySlot = some n →
        (freeState e = true → exec .keyWrapRelease s = fin hoNoPlot) ∧
        (freeState e = false → (e.owner ≠ t ∨ e.conf = false ∨ e.state ≠ .active) → exec .keyWrapRelease s = fin hoDenied) ∧
        (e.owner = t → e.conf = true → e.state = .active →
          (s.sealList d e = none → exec .keyWrapRelease s = fin hoNotSealed) ∧
          (s.sealList d e ≠ none → s.usableKey (keyKid m) (some d) = none → exec .keyWrapRelease s = fin hoNoKey) ∧
          (∀ tk, s.sealList d e ≠ none → s.usableKey (keyKid m) (some d) = some tk →
            (unwrapKey tk (input 0 133) job d (input 136 40) = none → exec .keyWrapRelease s = .next ((w.dropTransport tk.id).hoEnd h hoUnwrap [])) ∧
            (∀ key, unwrapKey tk (input 0 133) job d (input 136 40) = some key → done .keyWrapRelease (fun v =>
              (∃ z, v.slotOf job = some (n, z) ∧ z.tenant = t ∧ z.cur = BitVec.ofNat 256 (leNat key) ∧ z.attested = true ∧ z.bound = d ∧
                z.lifetime = s.time / 1000000000 + life) ∧
              v.pair d = { s.pair d with attested := true, list := s.checkList d } ∧ v.transport? tk.id = none ∧ v.plots = s.plots)))))) ∧
    (code = 0x04 → (hoWord m 1).testBit 63 = false →
      (s.slotOf job = none → exec .keyRotateJob s = fin hoNoSlot) ∧
      (∀ n k x, s.slotOf job = some (n, k) → s.keyTenant k.tenant = some x →
        (k.prev.isSome = true → exec .keyRotateJob s = fin hoKeyBusy) ∧
        (k.prev = none → (s.usableKey (keyKid m) none = none ∨ x.pubKey = none) → exec .keyRotateJob s = fin hoNoKey) ∧
        (∀ tk pub, k.prev = none → s.usableKey (keyKid m) none = some tk → x.pubKey = some pub →
          (unwrapKey tk pub job 0 (input 0 40) = none → exec .keyRotateJob s = .next ((w.dropTransport tk.id).hoEnd h hoUnwrap [])) ∧
          (∀ key, unwrapKey tk pub job 0 (input 0 40) = some key → done .keyRotateJob (fun v =>
            Tab.find? v.slots n = some { k with prev := some k.cur, cur := BitVec.ofNat 256 (leNat key), parity := !k.parity, ctr0 := 0, ctr1 := 0 } ∧
            v.transport? tk.id = none ∧ v.pairs = s.pairs))))) ∧
    (code = 0x04 → (hoWord m 1).testBit 63 = true →
      let d := BitVec.ofNat 16 (fieldOf (hoWord m 1) 0 16)
      let e := (s.plot d).cur
      let k := s.pair d
      (freeState e = true → exec .keyRotatePlot s = fin hoNoPlot) ∧
      (freeState e = false → (s.keyTenant e.owner).isSome = true →
        ((k.prev.isSome = true ∨ k.sweep = true) → exec .keyRotatePlot s = fin hoKeyBusy) ∧
        (k.prev = none → k.sweep = false → e.conf = false → exec .keyRotatePlot s = fin hoNoKey) ∧
        (k.prev = none → k.sweep = false → e.conf = true → done .keyRotatePlot (fun v =>
          (∃ c, v.pair d = { k with prev := k.cur, cur := some c, parity := !k.parity, sweep := true, ptr := 0 }) ∧ v.plots = s.plots ∧
          (∀ x, x ≠ d → v.pair x = s.pair x))))) ∧
    (code = 0x01 →
      let pick := if (hoWord m 1).testBit 16 then some (BitVec.ofNat 16 (fieldOf (hoWord m 1) 0 16)) else none
      let r := w.report pick (input 0 32) measIndices.length measIndices
      let g := r.2.sign (aliasOf s.fwDigest) (spdmSigned measContext r.1)
      (if pbufSize < hoOut h + (r.1 ++ g.1).length then exec .attestReport s = fin hoInvalid
      else ∃ v : State, exec .attestReport s = .next (v.hoEnd h hoOK [BitVec.ofNat 64 (r.1 ++ g.1).length]) ∧
        v.pbufRead (hoOut h) (r.1 ++ g.1).length = r.1 ++ g.1 ∧ v.transport.length = (if s.transport.length < 16 then s.transport.length + 1 else s.transport.length) ∧
        (∃ k, v.transport.getLast? = some k ∧ k.handle = pick ∧ k.nonce = input 0 32) ∧ SameData s v))) ∧
  (∀ (s : State) (t : BitVec 12) (r : HororeRun), s.running = some r → hoCode r.hdr = 0x06 → fieldOf ((r.words[1]?).getD 0).toNat 0 12 = t.toNat →
    s.hqServed = true →
    (s.removalDrained t = false → exec (.tenantRemoveDrained t) s = .next s) ∧
    (s.removalDrained t = true → ∃ (u : State) (x : W64), exec (.tenantRemoveDrained t) s = .next u ∧ HoAnswered s u r.hdr hoOK [x] ∧
      Tab.find? u.tenants t.toNat = none ∧ (∀ kv ∈ u.jobs, kv.2.tenant ≠ t) ∧ (∀ kv ∈ u.slots, kv.2.tenant ≠ t) ∧
      (∀ q x, u.sq? q = some x → x.tenant ≠ t) ∧ (∀ q x, u.cq? q = some x → x.tenant ≠ t) ∧ u.tree t = [] ∧ Tab.has u.journals t.toNat = false ∧
      (Tab.find? s.wait pgPLM = none → ∀ d, (s.plot d).cur.owner = t → freeState (s.plot d).cur = false →
        (u.plot d).cur.state = .released ∧ u.pair d = {}))) ∧
  (∀ (s : State) (d : BitVec 16) (job : BitVec 20) (kid : BitVec 16),
    ((s.pair d).sweep = true → s.rekeyLeft d = 0 → ∃ u, exec (.rekeyDone d) s = .next u ∧
      u.pair d = { s.pair d with prev := none, sweep := false, ptr := 0 } ∧ u.bit pgSEC oIRQS 1 = true ∧ (∀ x, x ≠ d → u.pair x = s.pair x) ∧ u.mem = s.mem) ∧
    (((s.pair d).sweep = false ∨ s.rekeyLeft d ≠ 0) → exec (.rekeyDone d) s = .next s) ∧
    (∀ n k, s.slotOf job = some (n, k) →
      (exec (.rotGraceExpiry job) s = .next { s with slots := Tab.put s.slots n { k with prev := none } }) ∧
      (k.attested = true → ∃ u, exec (.keyLifetimeExpiry job) s = .next u ∧ Tab.find? u.slots n = none ∧ u.pairs = s.pairs ∧ u.plots = s.plots) ∧
      (k.attested = false → exec (.keyLifetimeExpiry job) s = .next s)) ∧
    (∃ u, exec (.transportKeyExpiry kid) s = .next u ∧ u.transport? kid = none ∧ ∀ x, x ≠ kid → u.transport? x = s.transport? x))

/-- R366, R371, R373, R377, Tables 14-9 and 14-10: the commands of the SEC page and the SPDM responder. A list is made at the
lowest free number, takes identities until it is frozen or full, and is freed only when nothing names it; queries show lists,
key pairs and slots; LOCKED takes 1 with its complement and stays; each SPDM request of a connection that has reached its
stage is answered, and others with an error. Where a clause rests on a choice of the model's own, log entries 12, 19, 30, 78
say so. -/
def Obligations.SecCommandsAndSpdm : Prop :=
  ∀ (s : State) (p : Path),
    let same (u : State) : Prop := SameData s u ∧ u.slots = s.slots
    (s.takes p pgSEC = true → ∀ rsv : BitVec 28,
      let s0 := s.started pgSEC
      let n := s.arg pgSEC 0
      let ids : BitVec 512 := s.hashRegs
      let ans (i : Instr) (st : Nat) (good : State → Prop) : Prop := ∃ u, exec i s = .next u ∧ Answered u pgSEC st ∧ same u ∧ good u
      (s0.argsBad pgSEC rsv.toNat [0xFFFFFFFF, 0, 0, 0] = false →
        (∀ k, k < 1024 → Tab.has s.allow k = false → (∀ j, j < k → Tab.has s.allow j = true) →
          ans (.allowNew p rsv) 0 (fun u => Tab.find? u.allow k = some { frozen := false, ids := [] } ∧ u.arg pgSEC 0 = k ∧
            ∀ x, x ≠ k → Tab.find? u.allow x = Tab.find? s.allow x)) ∧
        ((∀ k, k < 1024 → Tab.has s.allow k = true) → ans (.allowNew p rsv) seNoSpace (fun u => u.allow = s.allow))) ∧
      (s0.argsBad pgSEC rsv.toNat [0x3FF, 0, 0, 0] = false →
        (Tab.find? s.allow n = none → ans (.allowAdd p rsv) seNoList (fun u => u.allow = s.allow) ∧
          ans (.allowFreeze p rsv) seNoList (fun u => u.allow = s.allow) ∧ ans (.allowFree p rsv) seNoList (fun u => u.allow = s.allow)) ∧
        (∀ l, Tab.find? s.allow n = some l →
          (l.frozen = true → ans (.allowAdd p rsv) seFrozen (fun u => u.allow = s.allow)) ∧
          (l.frozen = false → 64 ≤ l.ids.length → ans (.allowAdd p rsv) seFull (fun u => u.allow = s.allow)) ∧
          (l.frozen = false → l.ids.length < 64 → ans (.allowAdd p rsv) 0 (fun u => Tab.find? u.allow n = some { l with ids := l.ids ++ [ids] } ∧
            ∀ x, x ≠ n → Tab.find? u.allow x = Tab.find? s.allow x)) ∧
          ans (.allowFreeze p rsv) 0 (fun u => Tab.find? u.allow n = some { l with frozen := true } ∧
            ∀ x, x ≠ n → Tab.find? u.allow x = Tab.find? s.allow x) ∧
          (s.listNames n ≠ 0 → ans (.allowFree p rsv) seInUse (fun u => u.allow = s.allow)) ∧
          (s.listNames n = 0 → ans (.allowFree p rsv) 0 (fun u => Tab.find? u.allow n = none ∧ ∀ x, x ≠ n → Tab.find? u.allow x = Tab.find? s.allow x)))) ∧
      (s0.argsBad pgSEC rsv.toNat [0x3FF, 0x3F, 0xFFFFFFFF, 0] = false → ∀ l, Tab.find? s.allow n = some l →
        ans (.allowQuery p rsv) 0 (fun u => u.allow = s.allow ∧ u.hashRegs = (l.ids[s.arg pgSEC 1]?).getD 0 ∧
          (l.ids.length ≤ 64 → fieldOf (u.arg pgSEC 2) 0 7 = l.ids.length ∧ (u.arg pgSEC 2).testBit 8 = l.frozen ∧
            fieldOf (u.arg pgSEC 2) 16 16 = satAdd 0 (s.listNames n) 65535))) ∧
      (s0.argsBad pgSEC rsv.toNat [0xFFFF, 0xFFFFFFFF, 0xFFFFFFFF, 0] = false →
        let d := BitVec.ofNat 16 n
        let k := s.pair d
        (freeState (s.plot d).cur = true → ans (.keyQuery p rsv) seNoPlot (fun u => u.pairs = s.pairs)) ∧
        (freeState (s.plot d).cur = false → ans (.keyQuery p rsv) 0 (fun u => u.pairs = s.pairs ∧
          (u.arg pgSEC 1).testBit 0 = (s.plot d).cur.conf ∧ (u.arg pgSEC 1).testBit 1 = k.prev.isSome ∧ (u.arg pgSEC 1).testBit 2 = k.parity ∧
          (u.arg pgSEC 1).testBit 3 = k.attested ∧ fieldOf (u.arg pgSEC 1) 4 10 = (k.list.map BitVec.toNat).getD 0 ∧
          (u.arg pgSEC 1).testBit 16 = k.sweep))) ∧
      (s0.argsBad pgSEC rsv.toNat [0xFFFFF, 0xFFFFFFFF, 0xFFFFFFFF, 0xFFFFFFFF] = false →
        (s.slotOf (BitVec.ofNat 20 n) = none → ans (.slotQuery p rsv) seNoSlot (fun u => u.allow = s.allow)) ∧
        (∀ i k, s.slotOf (BitVec.ofNat 20 n) = some (i, k) → i < 16384 → ans (.slotQuery p rsv) 0 (fun u =>
          fieldOf (u.arg pgSEC 1) 0 14 = i ∧ (u.arg pgSEC 1).testBit 14 = k.prev.isSome ∧ (u.arg pgSEC 1).testBit 15 = k.parity ∧
          (u.arg pgSEC 1).testBit 16 = k.attested ∧ u.arg pgSEC 2 = k.bound.toNat ∧
          (k.attested = false → u.arg pgSEC 3 = 0))))) ∧
    (s.served p pgSEC 0x040 = true → s.served p pgSEC 0x840 = true →
      (s.locked = false → ∀ twin : BitVec 32, ∃ u, exec (.lock p twin) s = .next u ∧ SameData s u ∧
        (u.locked = decide (twin = ~~~(1 : BitVec 32))) ∧
        (twin ≠ ~~~(1 : BitVec 32) → u.latched pgSEC 0x040 = none)) ∧
      (s.locked = true → ∀ twin : BitVec 32, ∃ u, exec (.lock p twin) s = .next u ∧ u.locked = true ∧ same u)) ∧
    (∀ (c : Option (BitVec 13)) (rq : SpdmRequest), s.phase = .running → s.spdmFull c = false →
      (∃ v : State, exec (.getVersion c rq) s = .next (v.spdmSend c [0x10, 0x04, 0, 0, 0, 1, 0x00, 0x12]) ∧ (v.spdmConn? c).map (·.stage) = some 1 ∧ same v) ∧
      (s.spdmConn? c = none → ∀ i ∈ [Instr.getCapabilities c rq, .negotiateAlgorithms c rq, .getDigests c rq, .getCertificate c rq, .challenge c rq,
        .getMeasurements c rq], exec i s = .next (s.spdmSend c (spdmError 0x04))) ∧
      (∀ k, s.spdmConn? c = some k →
        (1 ≤ k.stage → ∃ (v : State) (m : Bytes), exec (.getCapabilities c rq) s = .next (v.spdmSend c m) ∧ m.take 2 = [0x12, 0x61] ∧ (m.drop 8).take 4 = [0x16, 0, 0, 0] ∧
          (v.spdmConn? c).map (·.stage) = some 2 ∧ same v) ∧
        (2 ≤ k.stage → ∃ (v : State) (m : Bytes), exec (.negotiateAlgorithms c rq) s = .next (v.spdmSend c m) ∧ m.take 2 = [0x12, 0x63] ∧
          (m.drop 12).take 4 = [0, 1, 0, 0] ∧ (m.drop 16).take 4 = [4, 0, 0, 0] ∧ (v.spdmConn? c).map (·.stage) = some 3 ∧ same v) ∧
        (3 ≤ k.stage →
          (∃ v : State, exec (.getDigests c rq) s = .next (v.spdmSend c ([0x12, 0x01, 0, 0x01] ++ sha512 s.certChain)) ∧ same v) ∧
          (rq.slot = 0 → rq.offset.toNat < s.certChain.length → ∃ (v : State) (m : Bytes), exec (.getCertificate c rq) s = .next (v.spdmSend c m) ∧
            m.take 2 = [0x12, 0x02] ∧ m.drop 8 = (s.certChain.drop rq.offset.toNat).take rq.length.toNat ∧ same v) ∧
          (rq.slot ≠ 0 → exec (.getCertificate c rq) s = .next (s.spdmSend c (spdmError 0x01)) ∧ exec (.challenge c rq) s = .next (s.spdmSend c (spdmError 0x01))) ∧
          (rq.slot = 0 → ∃ (v : State) (m sig : Bytes) (nonce : Nat), exec (.challenge c rq) s = .next (v.spdmSend c (m ++ sig)) ∧ m.take 4 = [0x12, 0x03, 0, 0x01] ∧
            (m.drop 4).take 64 = sha512 s.certChain ∧
            sig = ecdsaSign (aliasOf s.fwDigest) nonce (spdmSigned authContext (k.vca ++ k.certs ++ rq.raw ++ m)) ∧ same v) ∧
          (rq.slot = 0 → (rq.index = 0xFF ∨ rq.index = 0 ∨ rq.index.toNat ∈ measIndices) →
            ∃ (v : State) (m : Bytes), exec (.getMeasurements c rq) s = .next (v.spdmSend c m) ∧ m.take 2 = [0x12, 0x60] ∧ v.certChain = s.certChain ∧ same v))))

/-- R378 to R382, R385 to R391, R394, Tables 15-1 to 15-8: the journal. OPEN answers its statuses, or stages an OPEN record that
follows what stands on the plot; CLOSE, the timer and JOURNAL_SIGN_NOW stage a checkpoint with the next counter value; a
command that has finished hashing stages one record that takes the next number and chains to the one before, and every 4,096th
a checkpoint; a record committed lets its completion be posted; a failed write closes the journal and ends its commands
JOURNAL_UNAVAILABLE. Where a clause rests on a choice of the model's own, log entries 81, 82 say so. -/
def Obligations.JournalRecords : Prop :=
  ∀ (s : State) (p : Path),
    (s.takes p pgJNL = true → ∀ rsv : BitVec 28,
      let s0 := s.started pgJNL
      let t := s.arg pgJNL 0
      let h := BitVec.ofNat 16 (s.arg pgJNL 1)
      let e := (s.plot h).cur
      let ans (i : Instr) (st : Nat) : Prop := ∃ u, exec i s = .next u ∧ Answered u pgJNL st ∧ u.journals = s.journals ∧ u.mem = s.mem ∧ u.cells = s.cells
      let opens (j : Journal) (c : BitVec 64) (raised : Bool) : Prop := ∃ (w u : State) (r : StagedRec) (z : Journal), exec (.jnlOpen p rsv) s = .next u ∧
        u.busy pgJNL = true ∧ Tab.find? u.journals t = some z ∧ z.plot = h ∧ z.next = j.next + 1 ∧ z.staged = [r] ∧ z.key = s.journalKey ∧ z.closing = false ∧
        w.backup = { s.backup with counter := c } ∧ SignedRec w j 3 raised r ∧ u.backup.counter = c + 1 ∧ (∀ x ∈ u.tlb, x.handle ≠ h) ∧
        ∀ x, x ≠ t → Tab.find? u.journals x = Tab.find? s.journals x
      let fresh (n : Nat) (chain : Bytes) : Journal := { plot := h, next := n, chain := chain, sinceCkpt := 0, staged := [], key := s.journalKey, prevKey := none, lastSigned := [], closing := false }
      (s0.argsBad pgJNL rsv.toNat [0xFFF, 0xFFFF, 0, 0] = false →
        (s.tenantOpen (BitVec.ofNat 12 t) = false → ans (.jnlOpen p rsv) 0x02) ∧
        (s.tenantOpen (BitVec.ofNat 12 t) = true →
          let bad := e.tiered = false ∨ e.owner.toNat ≠ t ∨ (s.sealList h e).isSome = true ∨ e.state ≠ .active ∨ (s.plot h).rev.isSome = true
          (bad → ans (.jnlOpen p rsv) 0x03) ∧
          (¬bad → Tab.has s.journals t = true → ans (.jnlOpen p rsv) 0x04) ∧
          (¬bad → Tab.has s.journals t = false → ∀ w, w.backup = s.backup →
            (s0.scanJournal h = (.empty, w) → opens (fresh 0 (List.replicate 64 0)) s.backup.counter false) ∧
            (s0.scanJournal h = (.wait, w) → ∃ u, exec (.jnlOpen p rsv) s = .next u ∧ Tab.find? u.wait pgJNL = some { op := 1, auto := true, h := BitVec.ofNat 16 t }) ∧
            (s0.scanJournal h = (.corrupt, w) → ∃ u, exec (.jnlOpen p rsv) s = .next u ∧ Answered u pgJNL 0x06) ∧
            (∀ n chain c past, s0.scanJournal h = (.found n chain c past, w) →
              (c < s.backup.counter.toNat → opens (fresh n chain) s.backup.counter false) ∧
              (s.backup.counter.toNat ≤ c → s.backup.vbatLost = true → opens (fresh n chain) (BitVec.ofNat 64 c) true) ∧
              (s.backup.counter.toNat ≤ c → s.backup.vbatLost = false → ∃ u, exec (.jnlOpen p rsv) s = .next u ∧ Answered u pgJNL 0x07 ∧
                u.bit pgJNL oIRQS 3 = true))))) ∧
      (s0.argsBad pgJNL rsv.toNat [0xFFF, 0, 0, 0] = false → s.tenantOpen (BitVec.ofNat 12 t) = true →
        (Tab.find? s.journals t = none → ans (.jnlClose p rsv) 0x05) ∧
        (∀ j, Tab.find? s.journals t = some j → ∃ u r z, exec (.jnlClose p rsv) s = .next u ∧ u.busy pgJNL = true ∧ Tab.find? u.journals t = some z ∧
          z.closing = true ∧ z.staged = j.staged ++ [r] ∧ SignedRec s j 2 false r ∧ u.backup.counter = s.backup.counter + 1 ∧ u.mem = s.mem)) ∧
      (s0.argsBad pgJNL rsv.toNat [0x10FFF, 0xFFFFFFFF, 0xFFFFFFFF, 0xFFFFFFFF] = false → t < 4096 → s.tenantOpen (BitVec.ofNat 12 t) = true →
        ∃ u, exec (.jnlQuery p rsv) s = .next u ∧ Answered u pgJNL 0 ∧ u.journals = s.journals ∧ SameData s u ∧
          (Tab.find? s.journals t = none → u.arg pgJNL 0 = t) ∧
          (∀ j, Tab.find? s.journals t = some j → u.arg pgJNL 0 = t + 2 ^ 16 ∧ u.arg pgJNL 1 = j.plot.toNat ∧
            u.arg pgJNL 2 + u.arg pgJNL 3 * 2 ^ 32 = j.next % 2 ^ 64))) ∧
    (∀ (id : Nat) (c : Cmd), s.cmd? id = some c →
      (c.phase ≠ .record → exec (.recordStage id) s = .next s) ∧
      (c.phase = .record →
        let lost : Prop := ∃ u, exec (.recordStage id) s = .next u ∧ u.cmd? id = some { c with phase := .posting, status := BitVec.ofNat 8 cstJournal, result := [], place := false } ∧
          CountedOnce s u pgJNL 0x068 ∧ u.bit pgJNL oIRQS 1 = true ∧ u.mem = s.mem
        (Tab.find? s.journals c.tenant.toNat = none → lost) ∧
        (∀ j, Tab.find? s.journals c.tenant.toNat = some j →
          ((c.place = false ∨ j.closing = true) → lost) ∧
          (c.place = true → j.closing = false → (∀ r ∈ j.staged, r.cmd ≠ some id) →
            ∃ u r z, exec (.recordStage id) s = .next u ∧ Tab.find? u.journals c.tenant.toNat = some z ∧ r.seq = j.next ∧ r.cmd = some id ∧
              Chains j.chain r.bytes ∧ recField r.bytes 0 1 = 1 ∧ recField r.bytes 3 1 = c.opcode % 256 ∧ recField r.bytes 8 8 = j.next % 2 ^ 64 ∧
              recField r.bytes 0x10 4 = c.job.toNat ∧ recField r.bytes 0x16 1 = c.status.toNat ∧
              (r.bytes.drop 0x60).take 64 = sha512 (versionVector c) ∧ u.mem = s.mem ∧ u.plots = s.plots ∧
              (j.sinceCkpt + 1 < 4096 → z.staged = j.staged ++ [r] ∧ z.next = j.next + 1 ∧ z.sinceCkpt = j.sinceCkpt + 1 ∧ u.backup = s.backup) ∧
              (4096 ≤ j.sinceCkpt + 1 → ∃ (k : StagedRec) (y : Journal), z.staged = j.staged ++ [r, k] ∧ z.next = j.next + 2 ∧ z.sinceCkpt = 0 ∧
                y.next = j.next + 1 ∧ y.chain = r.bytes.drop 256 ∧ y.sinceCkpt = j.sinceCkpt + 1 ∧ SignedRec s y 2 false k))))) ∧
    (∀ (t : BitVec 12) (ok : Bool) (j : Journal), Tab.find? s.journals t.toNat = some j →
      (j.staged = [] → exec (.recordCommit t ok) s = .next s.startStaging) ∧
      (∀ r rest, j.staged = r :: rest →
        (∀ w, ok = true → s.journalWrite j.plot (320 * r.seq) r.bytes = (true, w) → w.wait = s.wait → w.running = s.running → w.cmds = s.cmds → (j.closing = false ∨ rest ≠ []) → s.running = none →
          ∃ v : State, exec (.recordCommit t ok) s = .next v.startStaging ∧ v.mem = w.mem ∧
            Tab.find? v.journals t.toNat = some { j with staged := rest, lastSigned := if (r.bytes.headD 0).toNat ≠ 1 then r.bytes else j.lastSigned } ∧
            (∀ id c, r.cmd = some id → s.cmd? id = some c → v.cmd? id = some { c with phase := .posting, jnl := true, place := false }) ∧
            CountedOnce w v pgJNL 0x060) ∧
        ((ok = false ∨ (s.journalWrite j.plot (320 * r.seq) r.bytes).1 = false) → ∃ v : State, exec (.recordCommit t ok) s = .next v.startStaging ∧
          Tab.find? v.journals t.toNat = none ∧ v.bit pgJNL oIRQS 2 = true ∧
          (ok = false → v.mem = s.mem ∧ ∀ id c, s.cmd? id = some c → c.phase = .record → c.place = true → c.tenant = t →
            v.cmd? id = some { c with phase := .posting, status := BitVec.ofNat 8 cstJournal, result := [], place := false })))) ∧
    (∀ (t : BitVec 12) (j : Journal), Tab.find? s.journals t.toNat = some j →
      (j.closing = true ∨ j.sinceCkpt = 0 → exec (.checkpointTimer t) s = .next s) ∧
      (j.closing = false → j.sinceCkpt ≠ 0 → ∃ u r, exec (.checkpointTimer t) s = .next u ∧ SignedRec s j 2 false r ∧
        (∃ z, Tab.find? u.journals t.toNat = some z ∧ z.staged = j.staged ++ [r] ∧ z.sinceCkpt = 0 ∧ z.next = j.next + 1 ∧ z.chain = r.bytes.drop 256) ∧
        u.backup.counter = s.backup.counter + 1 ∧ SameData s u)) ∧
    (∀ m rest code, s.mailAt m rest code →
      let h := hoHdr m
      let w : State := { s with taken := rest }
      let t := hoWord m 1
      (code = 0x0A ∨ code = 0x0B →
        let i : Instr := if code = 0x0A then .journalSignNow else .journalExport
        (s.tenantOpen (BitVec.ofNat 12 t) = false → exec i s = .next (w.hoEnd h hoNoTenant [])) ∧
        (s.tenantOpen (BitVec.ofNat 12 t) = true → (∀ j, Tab.find? s.journals t = some j → j.lastSigned = []) → exec i s = .next (w.hoEnd h hoNotOpen []))) ∧
      (∀ j, s.tenantOpen (BitVec.ofNat 12 t) = true → Tab.find? s.journals t = some j → j.lastSigned ≠ [] →
        (code = 0x0A → j.closing = false → ∃ u r z, exec .journalSignNow s = .next u ∧ Tab.find? u.journals t = some z ∧ z.staged = j.staged ++ [r] ∧
          SignedRec s j 2 false r ∧ u.running = some { hdr := h, words := m.words.take 2 ++ [s.backup.counter + 1, BitVec.ofNat 64 j.next] } ∧ u.rxq = s.rxq) ∧
        (code = 0x0B →
          let out := j.lastSigned ++ certPart (some j.key) ++ certPart j.prevKey
          if pbufSize < hoOut h + out.length then exec .journalExport s = .next (w.hoEnd h hoInvalid [])
          else ∃ v : State, exec .journalExport s = .next (v.hoEnd h hoOK [BitVec.ofNat 64 out.length]) ∧
            v.pbufRead (hoOut h) out.length = out ∧ v.journals = s.journals ∧ SameData s v))) ∧
    (∀ (id : Nat) (c : Cmd), s.cmd? id = some c →
      (c.phase = .staging → exec (.stagingTimeout id) s = .next (s.finish id cstJournal [] 0)) ∧ (c.phase ≠ .staging → exec (.stagingTimeout id) s = .next s))

/-- R112, R303, R305, R328, R330, R333, Table 12-4: requests of the device's own. A response that matches none is dropped; one
that matches closes the window's account, stores what was read or confirms what was written, notes a token, tries the other
path once after NO_ROUTE, or fails what the request was for; READY issues the deferred request again; a lost write has an
unknown outcome and a lost read goes once more on the other path. Where a clause rests on a choice of the model's own, log
entry 89 says so. -/
def Obligations.OwnRequestsEnd : Prop :=
  ∀ (s : State) (l : LinkNo) (p : Packet),
    let rd : Packet := { p with opcode := 0x11 }
    let wr : Packet := { p with opcode := 0x12 }
    (s.arrives l rd = true → (∀ o ∈ s.own, o.tag ≠ p.tag ∨ o.dest ≠ p.srcEp ∨ o.write = true ∨ o.sent = none) → exec (.readRsp l p) s = .next (s.takeRx l rd)) ∧
    (s.arrives l wr = true → (∀ o ∈ s.own, o.tag ≠ p.tag ∨ o.dest ≠ p.srcEp ∨ o.write = false ∨ o.sent = none) → exec (.writeRsp l p) s = .next (s.takeRx l wr)) ∧
    (∀ o ∈ s.own, (∀ x ∈ s.own, x.tag = o.tag → x = o) → o.tag = p.tag → o.dest = p.srcEp → o.sent ≠ none → o.token = none →
      let i : Instr := if o.write then .writeRsp l p else .readRsp l p
      let q : Packet := if o.write then wr else rd
      let w := (s.takeRx l q).winResponse p.srcEp (p.ece || p.ce)
      let rest := s.own.filter (fun x => x.tag != o.tag)
      let ends (good : State → Prop) : Prop := ∃ v : State, exec i s = .next (v.ownNext o.kind) ∧ v.wins = w.wins ∧ good v
      s.arrives l q = true → (o.write = true ∨ o.data = []) →
        (p.status = 0x20 → ends (fun v => v.own = s.own.map (fun x => if x.tag == o.tag then { o with token := some p.token } else x) ∧ v.mem = s.mem)) ∧
        (p.status = 0x23 → (o.again = true ∨ o.alt = true ∨ w.altRoute o.dest = none) → ends (fun v => v.own = rest ∧ v.mem = s.mem)) ∧
        (∀ path out, p.status = 0x23 → o.again = false → o.alt = false → w.altRoute o.dest = some (path, out) →
          exec i s = .next (((w.inc pgHOME 0x090).launch o path out true true).ownNext o.kind)) ∧
        (p.status ≠ 0 → p.status ≠ 0x20 → p.status ≠ 0x23 → ends (fun v => v.own = rest ∧ v.mem = s.mem ∧
          (∀ id n, (o.kind = .copyRead id n ∨ o.kind = .copyWrite id n ∨ o.kind = .returnPage id n) → (s.xfer id).failed = none →
            (v.xfer id).failed = some (cstRemoteError, o.addr.toNat, p.status.toNat)) ∧
          (∀ fid part f m, o.kind = .migrate fid part → Tab.find? s.faults fid = some f → f.mig = some m → m.failed = none →
            Tab.find? v.faults fid = some { f with mig := some { m with failed := some p.status.toNat } }))) ∧
        (p.status = 0 → o.write = true → ends (fun v => v.own = rest ∧ v.mem = s.mem ∧
          (∀ id n, o.kind = .copyWrite id n → v.xfer id = { s.xfer id with ok := (s.xfer id).ok + o.data.length }) ∧
          (∀ id n, o.kind = .returnPage id n → v.xfer id = { s.xfer id with got := insNat n (s.xfer id).got }))) ∧
        (p.status = 0 → o.write = false → p.data.length ≠ o.len → ends (fun v => v.own = s.own ∧ CountedOnce s v pgXBAR 0x08C ∧ v.bit pgXBAR oIRQS 3 = true)) ∧
        (p.status = 0 → o.write = false → p.data.length = o.len →
          (∀ id n c, o.kind = .copyRead id n → s.cmd? id = some c → ∃ (z : State) (x : OwnReq), exec i s = .next (z.pumpOwn.ownNext o.kind) ∧ z.own = rest ++ [x] ∧
            x.write = true ∧ x.kind = .copyWrite id n ∧ x.dest = BitVec.ofNat 13 (c.field 0x22 2) ∧ x.addr = BitVec.ofNat 64 (c.field 0x30 8 + n) ∧ x.data = p.data ∧
            x.job = c.job ∧ x.sent = none ∧ z.wins = w.wins ∧ z.mem = s.mem) ∧
          (∀ fid part f m lf d z, o.kind = .migrate fid part → Tab.find? s.faults fid = some f → f.mig = some m → s.leafAt f.tenant f.region.toNat = some lf →
            w.devWrite lf.handle (lf.offset.toNat * 65536 + 4096 * part) p.data = (.ok d, z) → ∃ v : State, exec i s = .next (v.ownNext o.kind) ∧ v.mem = z.mem ∧
              Tab.find? v.faults fid = some { f with mig := some { m with got := insNat part m.got } } ∧ o ∉ v.own))) ∧
    (∀ o, s.arrives l { p with opcode := 0x20 } = true → s.own.filter (fun o => o.dest == p.srcEp && o.token == some p.token) = [o] →
      let w := s.takeRx l { p with opcode := 0x20 }
      (∀ path out alt, s.route o.dest = some (path, out, alt) → exec (.ready l p) s = .next ((w.launch o path out alt o.again).ownNext o.kind)) ∧
      (s.route o.dest = none → ∃ v : State, exec (.ready l p) s = .next (v.ownNext o.kind) ∧ v.own = s.own.filter (fun x => x.tag != o.tag))) ∧
    (s.arrives l { p with opcode := 0x20 } = true → s.own.filter (fun o => o.dest == p.srcEp && o.token == some p.token) = [] →
      exec (.ready l p) s = .next (s.takeRx l { p with opcode := 0x20 })) ∧
    (∀ tag : BitVec 16, (∀ o ∈ s.own, o.tag = tag → o.sent = none) → exec (.reqTmo tag) s = .next s) ∧
    (∀ o, o ∈ s.own → (∀ x ∈ s.own, x.tag = o.tag → x = o) → o.sent ≠ none →
      let rest := s.own.filter (fun x => x.tag != o.tag)
      (∀ t, o.token = some t → t ≠ noToken → exec (.reqTmo o.tag) s = .next s) ∧
      (∀ path out alt, o.token = some noToken → s.route o.dest = some (path, out, alt) → exec (.reqTmo o.tag) s = .next ((s.launch o path out alt o.again).ownNext o.kind)) ∧
      (o.token = none → o.write = true → ∃ v : State, exec (.reqTmo o.tag) s = .next (v.ownNext o.kind) ∧ v.own = rest ∧ CountedOnce s v pgHOME 0x094 ∧
        v.bit pgHOME oIRQS 3 = true ∧ v.mem = s.mem ∧
        (∀ id n, (o.kind = .copyWrite id n ∨ o.kind = .returnPage id n) → (s.xfer id).failed = none → (v.xfer id).failed = some (cstUnknown, 0, 0))) ∧
      (∀ path out, o.token = none → o.write = false → o.again = false → o.alt = false → s.altRoute o.dest = some (path, out) →
        exec (.reqTmo o.tag) s = .next (((s.inc pgHOME 0x090).launch o path out true true).ownNext o.kind)) ∧
      (o.token = none → o.write = false → (o.again = true ∨ o.alt = true ∨ s.altRoute o.dest = none) →
        ∃ v : State, exec (.reqTmo o.tag) s = .next (v.ownNext o.kind) ∧ v.own = rest ∧ v.mem = s.mem ∧
          (∀ id n, o.kind = .copyRead id n → (s.xfer id).failed = none →
            (v.xfer id).failed = some (if ({ s with own := rest } : State).writeOut id then (cstUnknown, 0, 0) else (cstRemoteError, o.addr.toNat, 0x23)))))

/-- R395 to R400, R415 to R418, Tables 16-6 to 16-9: the control pair and its firmware. A fault of the active complex passes
control to a healthy standby or resets the platform; the new active complex goes on with what was taken; swaps exchange the
roles; boot loads a valid image or stops or awaits a download; staging verifies the whole image, activation runs it;
SPARE_INVOKE hands its target over. Where a clause rests on a choice of the model's own, log entries 93, 94, 95 say so. -/
def Obligations.ControlPairRuns : Prop :=
  ∀ s : State,
    (∀ (i : Nat) (k : CcFaultKind), s.activeCc = some i →
      let ok := s.ccRole (1 - i) = ccStandby ∧ s.standbyOk (1 - i) = true
      (ok → ∃ u, exec (.ccFault k) s = .next u ∧ u.ccRole i = ccFailed ∧ u.ccHold i = false ∧ u.fld (pgCC i) 0x04C 0 3 = ccCause k ∧ u.activeCc = none ∧
        u.ccRole (1 - i) = ccStandby ∧ u.standbyOk (1 - i) = true ∧ u.taken = s.taken ∧ u.running = s.running ∧ u.txq = s.txq ∧ u.rxq = s.rxq ∧ SameData s u) ∧
      (¬ok → exec (.ccFault k) s = .next ((s.ccFail i k).platformReset (if k = .compareState then 0x05 else 0x04) (if k = .compareState then 3 else ccCause k))) ∧
      exec (.coreSelftest false) s = exec (.ccFault .selfTest) s ∧ exec (.coreSelftest true) s = .next s ∧
      (s.ccRole (1 - i) = ccFailed → exec (.standbyFault k) s = .next s) ∧
      (s.ccRole (1 - i) ≠ ccFailed → ∃ u, exec (.standbyFault k) s = .next u ∧ u.ccRole (1 - i) = ccFailed ∧ u.fld (pgCC (1 - i)) 0x04C 0 3 = ccCause k ∧
        u.bit (pgCC i) oIRQS 2 = true ∧ u.activeCc = some i ∧ SameData s u) ∧
      (s.ccRole (1 - i) ≠ ccBooting → ∀ pass, exec (.standbyReady pass) s = .next s) ∧
      (s.ccRole (1 - i) = ccBooting → (∃ u, exec (.standbyReady true) s = .next u ∧ u.ccRole (1 - i) = ccStandby ∧ u.standbyOk (1 - i) = true ∧ SameData s u) ∧
        ∃ u, exec (.standbyReady false) s = .next u ∧ u.ccRole (1 - i) = ccFailed ∧ u.fld (pgCC (1 - i)) 0x04C 0 3 = 5 ∧ SameData s u)) ∧
    (∀ (us : BitVec 16) (j : Nat), s.activeCc = none → [0, 1].find? (fun i => s.ccRole i == ccStandby && s.standbyOk i) = some j →
      ∃ w : State, exec (.takeoverResumed us) s = .next w.hoTake.powerGo ∧ w.activeCc = some j ∧ w.bit (pgCC j) oIRQS 0 = true ∧ w.bit (pgCC j) oIRQS 2 = true ∧
        w.fld (pgCC j) 0x058 0 16 = us.toNat ∧ w.fld (pgCC j) 0x050 0 16 = satAdd (s.fld (pgCC j) 0x050 0 16) 1 0xFFFF ∧ w.taken = s.taken ∧ w.running = s.running ∧
        w.txq = s.txq ∧ w.rxq = s.rxq ∧ SameData s w) ∧
    (s.phase = .running → s.ccHold 0 = false → s.ccHold 1 = false → (s.ccRole 0 ≠ ccBooting ∨ s.ccRole 1 ≠ ccBooting) → s.bootHeld = false →
      exec .watchdogReset s = .next (s.platformReset 0x04 (if s.fld (pgCC 0) 0x04C 0 3 ≠ 0 then s.fld (pgCC 0) 0x04C 0 3 else s.fld (pgCC 1) 0x04C 0 3))) ∧
    ((s.ccHold 0 = true ∨ s.ccHold 1 = true) → exec .watchdogReset s = .next s) ∧
    (∀ (i : Nat) (us : BitVec 16), s.activeCc = some i →
      let swapped (v : State) : Prop := v.activeCc = some (1 - i) ∧ v.ccRole i = ccBooting ∧ v.bit (pgCC (1 - i)) oIRQS 1 = true ∧
        v.fld (pgCC (1 - i)) 0x054 0 16 = satAdd (s.fld (pgCC (1 - i)) 0x054 0 16) 1 0xFFFF ∧ v.fld (pgCC (1 - i)) 0x058 0 16 = us.toNat ∧ v.rxq = s.rxq ∧
        v.mem = s.mem ∧ v.plots = s.plots ∧ v.cells = s.cells
      (s.bit (pgCC 0) 0x044 8 = false → exec (.scheduledSwap us) s = .next s) ∧
      (s.bit (pgCC 0) 0x044 8 = true →
        (s.swapReady = false → exec (.scheduledSwap us) s = .next { s with swapDue := s.time + 10 * minuteNs }) ∧
        (s.swapReady = true → s.running ≠ none → exec (.scheduledSwap us) s = .next s) ∧
        (s.swapReady = true → s.running = none → ∃ w : State, exec (.scheduledSwap us) s = .next w.hoTake ∧ swapped w)) ∧
      (∀ m rest, s.mailAt m rest 0x07 →
        (s.swapReady = false → exec (.roleSwap us) s = .next (({ s with taken := rest } : State).hoEnd (hoHdr m) hoUnready [])) ∧
        (s.swapReady = true → ∃ v : State, exec (.roleSwap us) s = .next (v.hoEnd (hoHdr m) hoOK [BitVec.ofNat 64 (1 - i)]) ∧ swapped v)) ∧
      (∀ m rest d, s.mailAt m rest 0x09 → s.staged = some (d, true) → s.download = false →
        (s.swapReady = false → exec (.fwActivate us) s = .next (({ s with taken := rest } : State).hoEnd (hoHdr m) hoUnready [])) ∧
        (s.swapReady = true → ∃ v : State, exec (.fwActivate us) s = .next (v.hoEnd (hoHdr m) hoOK [(fwOf d).version.setWidth 64]) ∧ swapped v ∧
          v.fw = some (fwOf d) ∧ v.journalKey = journalOf (fwOf d).digest ∧ v.rd (pgCC 0) 0x060 = (fwOf d).version ∧ v.rd (pgCC 1) 0x060 = (fwOf d).version ∧
          v.bit (pgCC (1 - i)) oIRQS 3 = true ∧ ((hoWord m 1).testBit 0 = true → v.fwFlash = some (fwImage d))))) ∧
    (s.phase = .running → s.bootHeld = false → s.activeCc = none → s.ccHold 0 = false → s.ccHold 1 = false →
      (∃ w : State, exec (.firmwareBootLoad false false) s = .next (w.bootStop 0x23 0) ∧ w.ccRole 0 = ccFailed ∧ w.ccRole 1 = ccFailed) ∧
      (∀ ok0 ok1, ok0 = true ∨ ok1 = true →
        let i := if ok0 then 0 else 1
        let starts (w : State) : Prop := w.download = true ∧ w.ccRole i = ccBooting ∧ w.ccHold i = true ∧ w.bit (pgCC i) 0x068 0 = true ∧ SameData s w
        (s.bootSrc = 1 → ∃ w : State, exec (.firmwareBootLoad ok0 ok1) s = .next w.hoTake ∧ starts w ∧ w.bit (pgCC i) 0x068 1 = false) ∧
        (s.bootSrc ≠ 1 →
          let good := (s.flashImage.map fwValid).getD false
          let d := s.flashImage.getD []
          if good then ∃ w : State, exec (.firmwareBootLoad ok0 ok1) s = .next w.powerGo ∧
            w.activeCc = some i ∧ w.fw = some (fwOf d) ∧ w.rd (pgCC 0) 0x060 = (fwOf d).version ∧ w.rd (pgCC 1) 0x064 = (fwOf d).svn ∧
            w.journalKey = journalOf (fwOf d).digest ∧ w.fld (pgCC i) 0x068 4 4 = 0 ∧ SameData s w ∧
            (ok0 = true → ok1 = true → s.ccRole 1 ≠ ccFailed → w.ccRole 1 = ccStandby ∧ w.standbyOk 1 = true) ∧ ((ok0 = false ∨ ok1 = false) → w.ccRole (1 - i) = ccFailed)
          else if s.bootSrc = 0 then ∃ u, exec (.firmwareBootLoad ok0 ok1) s = .next u ∧ u.bootStopCause = 0x25 ∧
            u.fld (pgCC i) 0x068 4 4 = (if s.flashImage.isSome then 1 else 2)
          else ∃ w : State, exec (.firmwareBootLoad ok0 ok1) s = .next w.hoTake ∧ starts w ∧ w.bit (pgCC i) 0x068 1 = true))) ∧
    (∀ (p : Path) (cc : Bool), s.served p (pgCC (ofBool cc)) 0x068 = true →
      let st := s.fld (pgCC (ofBool cc)) 0x068 4 4
      (st = 1 ∨ st = 2 → ∃ w : State, exec (.recover p cc) s = .next w.hoTake ∧ w.download = true ∧ SameData s w) ∧ (st ≠ 1 → st ≠ 2 → exec (.recover p cc) s = .next s)) ∧
    (∀ m rest, s.mailAt m rest 0x08 →
      let w : State := { s with taken := rest }
      let h := hoHdr m
      let x := hoWord m 1
      let o := fieldOf x 0 24
      let n := fieldOf x 24 16
      let chunk := s.pbufRead (hoIn h) n
      let bad := n = 0 ∨ o % 64 ≠ 0 ∨ (n % 64 ≠ 0 ∧ x.testBit 41 = false)
      (bad → exec .fwStage s = .next (w.hoEnd h hoInvalid [])) ∧
      (¬bad → ∃ all : Bytes, (all.drop o).take n = chunk ∧ (x.testBit 40 = true → all = List.replicate o 0 ++ chunk) ∧
        (x.testBit 40 = false → ∀ old b, s.staged = some (old, b) → (∀ k < o, all[k]? = some ((old[k]?).getD 0)) ∧ all.drop (o + n) = old.drop (o + n)) ∧
        (x.testBit 41 = false → exec .fwStage s = .next (({ w with staged := some (all, false) } : State).hoEnd h hoOK [])) ∧
        (x.testBit 41 = true → exec .fwStage s = .next (if fwValid all then ({ w with staged := some (all, true) } : State).hoEnd h hoOK []
          else ({ w with staged := none } : State).hoEnd h hoFwInvalid [])))) ∧
    (∀ m rest us, s.mailAt m rest 0x09 → (∀ d, s.staged ≠ some (d, true)) → exec (.fwActivate us) s = .next (({ s with taken := rest } : State).hoEnd (hoHdr m) hoNotStaged [])) ∧
    (∀ m rest, s.mailAt m rest 0x0C →
      let w : State := { s with taken := rest }
      let h := hoHdr m
      let x := hoWord m 1
      (spareKind m = 0 →
        let c := fieldOf x 16 9
        (s.substStatus c = none → exec .spareInvokeCell s = .next ((w.replaceCell c 0x07 false).hoEnd h hoOK [])) ∧
        (s.substStatus c = some 0x09 → exec .spareInvokeCell s = .next (w.hoEnd h hoNoSpare [])) ∧
        (∀ st, s.substStatus c = some st → st ≠ 0x09 → exec .spareInvokeCell s = .next (w.hoEnd h hoInvalid []))) ∧
      (spareKind m = 1 →
        let st := fieldOf x 16 5
        let lpc := fieldOf x 24 5
        ((24 ≤ st ∨ 30 ≤ lpc) → exec .spareInvokePc s = .next (w.hoEnd h hoInvalid [])) ∧
        (st < 24 → lpc < 30 → (s.freeSpare st = none → exec .spareInvokePc s = .next (w.hoEnd h hoNoSpare [])) ∧
          (s.freeSpare st ≠ none → exec .spareInvokePc s = .next ((w.spareStart st lpc).hoEnd h hoOK [])))) ∧
      (spareKind m = 2 →
        let st := fieldOf x 16 5
        (24 ≤ st → exec .spareInvokeRow s = .next (w.hoEnd h hoInvalid [])) ∧
        (st < 24 → 64 ≤ (s.stk st).repair.length → exec .spareInvokeRow s = .next (w.hoEnd h hoNoSpare [])) ∧
        (st < 24 → (s.stk st).repair.length < 64 →
          exec .spareInvokeRow s = .next ((w.logRow st { pc := fieldOf x 24 5, bank := fieldOf x 32 5, row := fieldOf x 40 18 }).hoEnd h hoOK []))) ∧
      (spareKind m = 3 →
        let l : LinkNo := BitVec.ofNat 6 (fieldOf x 16 5 + (if x.testBit 27 then 24 else 0))
        let lane := fieldOf x 24 3
        let bad := 24 ≤ fieldOf x 16 5 ∨ s.linkExists l = false ∨ (s.linkUp l = true ∧ (s.lnk l).width.toNat ≤ lane)
        (bad → exec .spareInvokeLane s = .next (w.hoEnd h hoInvalid [])) ∧
        (¬bad → (s.linkUp l = false ∨ s.spareOpen l = false) → exec .spareInvokeLane s = .next (w.hoEnd h hoNoSpare [])) ∧
        (¬bad → s.linkUp l = true → s.spareOpen l = true → exec .spareInvokeLane s = .next ((w.portSubst l (BitVec.ofNat 3 lane)).hoEnd h hoOK []))))

/-- R402 to R412, R420, Tables 16-1 to 16-3: the mailboxes, channels, the BAR4 window and the I3C target. A word pushed joins the
request direction or ends in error when it is full; a response word is popped; a channel word is taken with its stamp or
turned away and counted; a read takes the word of a channel whose receiver is the host; discarded words are counted; a header
without its words completes INVALID_FIELD; BAR4 reads and writes the plot it shows and reports what fails; the target takes
one dynamic address. Where a clause rests on a choice of the model's own, log entries 75, 96, 98, 101 say so. -/
def Obligations.MailboxesCarryWords : Prop :=
  ∀ s : State,
    (∀ (p : Path) (w : BitVec 64), s.bar2Gate (if p = .i3c then .i3c else .pcie) = .serve →
      let half (x : W64) : Bytes := if p = .i3c then leBytes 4 (x.toNat % 2 ^ 32) else leBytes 8 x.toNat
      let rx (x : W64) (rest : List W64) : Prop := ∃ u, exec (.hqRx p) s = .next u ∧ u.rxq = rest ∧ u.out = .answer (some (half x)) :: s.out ∧ SameData s u ∧
        (p = .i3c → u.i3cUp = some (bar2Rx, x.extractLsb' 32 32))
      (s.txq.length < 16 → ∃ v : State, exec (.hqTx p w) s = .next v.hoTake ∧ v.txq = s.txq ++ [w] ∧ v.taken = s.taken ∧ SameData s v) ∧
      (16 ≤ s.txq.length → ∃ u, exec (.hqTx p w) s = .next u ∧ u.txq = s.txq ∧ u.out = .answer none :: s.out ∧ SameData s u ∧
        (p = .i3c → u.bit pgMBX 0x058 8 = true ∧ CountedOnce s u pgMBX 0x05C)) ∧
      (∀ x rest, s.rxq = x :: rest → rx x rest) ∧ (s.rxq = [] → rx 0 []) ∧
      (∀ ch : BitVec 12,
        let c := s.chan ch.toNat
        let took (v : State) : Prop := v.chan ch.toNat = { c with word := some (w, { ep := 0x1FFF, job := 0, path := if p = .i3c then 1 else 0 }) }
        (c.recv = 1 → c.word = none → ∃ u, exec (.channelWordWrite p ch w) s = .next u ∧ took u ∧ u.bit pgMBX oIRQS 1 = true ∧ SameData s u) ∧
        (c.recv = 2 → c.word = none → ∃ v : State, exec (.channelWordWrite p ch w) s = .next (v.deliver ch.toNat) ∧ took v ∧ SameData s v) ∧
        (c.recv = 3 → c.word = none → ∃ v : State, exec (.channelWordWrite p ch w) s = .next (v.wakeEvent 2) ∧ took v ∧ SameData s v) ∧
        ((c.recv = 0 ∨ c.word ≠ none) → ∃ u, exec (.channelWordWrite p ch w) s = .next u ∧ u.chan ch.toNat = c ∧ CountedOnce s u pgMBX 0x050 ∧
          u.out = .answer none :: s.out ∧ SameData s u) ∧
        (∀ x st, c.recv = 1 → c.word = some (x, st) → ∃ u, exec (.channelWordRead p ch) s = .next u ∧ u.chan ch.toNat = { c with word := none } ∧
          u.out = .answer (some (half x)) :: s.out ∧ SameData s u) ∧
        ((c.recv ≠ 1 ∨ c.word = none) → ∃ u, exec (.channelWordRead p ch) s = .next u ∧ u.chan ch.toNat = c ∧ u.out = .answer (some (half 0)) :: s.out ∧ SameData s u))) ∧
    (∀ (l : LinkNo) (q : Packet) (pkt : Packet), q = { pkt with opcode := 0x04 } → s.arrives l q = true → q.f = false → s.park = [] →
      let w := s.arrived l q
      let ch := q.addr.toNat
      let c := s.chan ch
      let mine := c.granted = true ∧ s.jobTenant q.job = some c.tenant
      (q.length ≠ 8 → exec (.chanWrite l pkt) s = .next (w.answer l q 0x01)) ∧
      (q.length = 8 → ch < 4096 → c.recv ≠ 0 → mine → c.word = none → ∃ v z : State, exec (.chanWrite l pkt) s = .next (z.answerOk l q 0 []) ∧
        v.chan ch = { c with word := some (BitVec.ofNat 64 (leNat q.data), { ep := q.srcEp, job := q.job, path := 2 }) } ∧ SameData s v ∧
        (c.recv = 1 → z = v.raise pgMBX 1) ∧ (c.recv = 2 → z = v.deliver ch) ∧ (c.recv = 3 → z = v.wakeEvent 2)) ∧
      (q.length = 8 → (4096 ≤ ch ∨ c.recv = 0 ∨ ¬mine ∨ c.word ≠ none) → ∃ v : State, exec (.chanWrite l pkt) s = .next (v.answer l q 0x03) ∧ v.channels = s.channels ∧
        CountedOnce s v pgMBX 0x050 ∧ SameData s v)) ∧
    (∀ (p : Path) (v : BitVec 32), s.served p pgMBX 0x044 = true →
      let ch := s.fld pgMBX 0x040 0 12
      let c := s.chan ch
      ((fieldOf v.toNat 13 2 = 3 ∨ (c.recv = 3 ∧ s.queueNames ch = true)) → exec (.chCfg p v) s = .next s) ∧
      (fieldOf v.toNat 13 2 ≠ 3 → (c.recv ≠ 3 ∨ s.queueNames ch = false) → ∃ w : State, exec (.chCfg p v) s = .next (w.deliver ch) ∧ SameData s w ∧
        w.chan ch = { c with tenant := BitVec.ofNat 12 v.toNat, granted := v.getLsbD 12, recv := BitVec.ofNat 2 (fieldOf v.toNat 13 2), ep := BitVec.ofNat 13 (fieldOf v.toNat 16 13) } ∧
        ∀ x, x ≠ ch → w.chan x = s.chan x)) ∧
    (∀ i ∈ [Instr.functionLevelReset, .upstreamLinkDown], ∃ u, exec i s = .next u ∧ u.plots = s.plots ∧ u.mem = s.mem ∧ u.cells = s.cells ∧
      (∀ ch, (s.chan ch).recv = 1 → (u.chan ch).word = none) ∧ (∀ ch, (∀ kv ∈ s.channels, kv.1 = ch → kv.2.recv ≠ 1) → u.chan ch = s.chan ch) ∧
      (∀ ch x st, (s.chan ch).recv = 1 → (s.chan ch).word = some (x, st) → st.path ≠ 2 → u.bit pgMBX 0x048 31 = true ∧ u.bit pgMBX oIRQS 2 = true)) ∧
    (∀ h rest, s.txq = h :: rest → s.hqServed = true → ∃ w : State, exec .hororeWordTimeout s = .next w.hoNext ∧ w.txq = [] ∧
      w.taken = s.taken ++ [{ words := [h], timedOut := true }] ∧ SameData s w ∧
      (s.running = none → s.taken = [] → s.download = false → HoAnswered s w.hoNext h hoInvalid [])) ∧
    ((s.txq = [] ∨ s.hqServed = false) → exec .hororeWordTimeout s = .next s) ∧
    (∀ (off : BitVec 36) (n : Nat) (wr : Option (List (BitVec 8))),
      let len := (wr.map List.length).getD n
      let r := s.bar4Do off len wr
      let go := s.phase = .running ∧ s.dormant = false ∧ s.bar4Q = []
      (go → ∀ d, r.1 = .data d → exec (.bar4Access off n wr) s = .next (r.2.emit (.answer (some d)))) ∧
      (go → r.1 = .stored → exec (.bar4Access off n wr) s = .next r.2) ∧
      (go → ∀ st, r.1 = .failed st → ∃ u, exec (.bar4Access off n wr) s = .next u ∧ u.out = .answer none :: r.2.out ∧ SameData r.2 u) ∧
      (go → r.1 = .wait → exec (.bar4Access off n wr) s = .next { r.2 with bar4Q := r.2.bar4Q ++ [(off, len, wr)] }) ∧
      (s.phase ≠ .running → exec (.bar4Access off n wr) s = .next (s.emit (.answer none))) ∧
      (s.phase = .running → s.dormant = true → exec (.bar4Access off n wr) s =
        .next (if wr.isSome then s else s.emit (.answer (some (List.replicate len 0))))) ∧
      (s.phase = .running → s.dormant = false → s.bar4Q ≠ [] → exec (.bar4Access off n wr) s = .next { s with bar4Q := s.bar4Q ++ [(off, len, wr)] })) ∧
    (∀ (st a : BitVec 7), s.phase = .running →
      (s.dynAddr = 0 → exec (.entdaa a) s = exec (.setdasa 0x2C a) s ∧ ∃ u, exec (.entdaa a) s = .next u ∧ u.dynAddr = a.toNat ∧ SameData s u) ∧
      (s.dynAddr ≠ 0 → exec (.entdaa a) s = .next s ∧ exec (.setdasa st a) s = .next s) ∧ (st ≠ 0x2C → exec (.setdasa st a) s = .next s)) ∧
    (∀ (a v : BitVec 32),
      let off := fieldOf a.toNat 0 26
      (a.getLsbD 31 = true → exec (.i3cPrivateWrite a v) s = .next (s.i3cBar2Write (fieldOf a.toNat 0 18) v) ∧ exec (.i3cPrivateRead a) s = .next (s.i3cBar2Read (fieldOf a.toNat 0 18))) ∧
      (a.getLsbD 31 = false → off % 4 ≠ 0 → ∃ u, exec (.i3cPrivateWrite a v) s = .next u ∧ u.bit pgMBX 0x058 8 = true ∧ CountedOnce s u pgMBX 0x05C ∧ u.out = .answer none :: s.out ∧
        SameData s u) ∧
      (a.getLsbD 31 = false → off % 4 = 0 → exec (.i3cPrivateWrite a v) s = .next (s.regWrite .i3c (pageOf off) (offOf off) v)) ∧
      (a.getLsbD 31 = false → exec (.i3cPrivateRead a) s = .next (s.readOff .i3c off)))

/-- R424, R425, R427 to R432, R438, R464, Tables 17-5 to 17-7: power states, clocks and the inputs that steer them. The power
manager carries out one command at a time: to a state in force, between PS0 and PS1, into PS2 after the flush with stacks in
self-refresh, out of PS2 by a wake; ramps go one step at a time and end with an interrupt; unlisted points are ignored; a
thermal hold caps the clocks and its end lets them back; throttling steps by points; a poll shows the rails; a qualified wake
is taken once and masked. Where a clause rests on a choice of the model's own, log entries 92, 107 say so. -/
def Obligations.PowerStatesAndClocks : Prop :=
  ∀ s : State,
    (∀ p : Path, s.served p pgPWR 0x040 = true → ∀ x ∈ [(Instr.returnPs0 p, 0), (Instr.enterPs1 p, 1), (Instr.enterPs2 p, 2), (Instr.enterPs3 p, 3)],
      let c := pwrCur s
      let idle := s.busy pgPWR = false ∧ pwrStep s = 0
      (¬idle → ∃ u, exec x.1 s = .next u ∧ u.bit pgPWR 0x044 1 = true ∧ pwrCur u = c ∧ u.frozen = s.frozen ∧ SameData s u ∧
        (pwrStep s ≠ 0 → pwrExiting s = false → x.2 < 2 → u.bit pgPWR 0x048 6 = true ∧ u.fld pgPWR 0x048 8 4 = 4)) ∧
      (idle → s.activeCc = none → ∃ u, exec x.1 s = .next u ∧ u.busy pgPWR = true ∧ Tab.find? u.wait pgPWR = some { op := BitVec.ofNat 4 x.2, auto := false, h := 0 } ∧
        pwrCur u = c ∧ pwrStep u = 0 ∧ SameData s u) ∧
      (idle → s.activeCc ≠ none →
        (c = x.2 → ∃ u, exec x.1 s = .next u ∧ Answered u pgPWR 0 ∧ pwrCur u = c ∧ pwrStep u = 0 ∧ SameData s u) ∧
        (c ≠ x.2 → c ≠ 2 → x.2 < 2 → ∃ u, exec x.1 s = .next u ∧ Answered u pgPWR 0 ∧ pwrCur u = x.2 ∧ pwrStep u = 0 ∧ CountedOnce s u pgPWR 0x06C ∧ SameData s u) ∧
        (c = 2 → x.2 < 2 → ∃ u, exec x.1 s = .next u ∧ u.busy pgPWR = true ∧ pwrExiting u = true ∧ pwrStep u = 1 ∧ u.fld pgPWR 0x048 8 4 = 4 ∧
          u.bit pgPWR oIRQS 2 = true ∧ SameData s u) ∧
        (c ≠ 2 → x.2 = 2 → ∃ u, exec x.1 s = .next u ∧ u.busy pgPWR = true ∧ u.frozen = true ∧ pwrStep u = 5 ∧ pwrExiting u = false ∧ u.flushSeq.isSome = true ∧
          (∀ b < 24, u.fld (pgSTK b) 0x04C 0 2 = 2) ∧
          (s.bit pgPWR 0x04C 0 = true → ∀ l : LinkNo, l.toNat < 48 → u.linkBit l 0x044 3 = true)) ∧
        (c ≠ 3 → x.2 = 3 → ∃ u, exec x.1 s = .next u ∧ u.busy pgPWR = true ∧ u.frozen = true ∧ pwrStep u = 3 ∧ pwrExiting u = false ∧ u.flushSeq.isSome = true))) ∧
    (∀ dur : BitVec 16,
      ((pwrStep s ≠ 5 ∨ pwrExiting s = true) → exec (.ps2EntryComplete dur) s = .next s) ∧
      (pwrStep s = 5 → pwrExiting s = false → ∃ u, exec (.ps2EntryComplete dur) s = .next u ∧ pwrCur u = 2 ∧ CountedOnce s u pgPWR 0x06C ∧ u.fld pgPWR 0x070 0 16 = dur.toNat ∧ SameData s u ∧
        (s.bit pgPWR 0x048 6 = false → Answered u pgPWR 0 ∧ pwrStep u = 0) ∧
        (s.bit pgPWR 0x048 6 = true → pwrStep u = 1 ∧ pwrExiting u = true ∧ u.bit pgPWR 0x048 6 = false)) ∧
      ((pwrExiting s = false ∨ s.pwrFailed = true) → exec (.ps2ExitComplete dur) s = .next s) ∧
      (pwrExiting s = true → s.pwrFailed = false → ∃ u, exec (.ps2ExitComplete dur) s = .next u ∧ u.frozen = false ∧ u.flushSeq = none ∧ pwrStep u = 0 ∧ pwrExiting u = false ∧
        u.fld pgPWR 0x070 16 16 = dur.toNat ∧ (∀ b < 24, u.fld (pgSTK b) 0x04C 0 2 = 0) ∧ SameData s u ∧
        (s.powerToken ≠ none → u.powerToken = none ∧ u.powerWait = []) ∧
        pwrCur u = (if (Tab.find? s.wait pgPWR).map (·.op) = some 1 then 1 else 0) ∧
        (∀ w, Tab.find? s.wait pgPWR = some w → Answered u pgPWR (if w.op = 0 ∨ w.op = 1 then 0 else 2)))) ∧
    ((pwrStep s ≠ 3 ∨ pwrExiting s = true) → exec .ps3EntryComplete s = .next s) ∧
    (pwrStep s = 3 → pwrExiting s = false → ∃ w : State, w.phase = .ps3 ∧ w.pins = { s.pins with stkPwrEn := false, stkPg := false } ∧ pwrCur w = 3 ∧ w.out = .rails false :: s.out ∧
      SameData s w ∧ exec .ps3EntryComplete s = .next (if s.bit pgPWR 0x048 6 then w.platformReset 0x0A 0 else w)) ∧
    (let step (r : Ramp) : Ramp := if r.div > r.target then { r with div := r.div - 1 } else { r with div := r.div + 1 };
      (s.aclk.ramping = false → exec (.rampStep .aclk) s = .next s) ∧ (s.fclk.ramping = false → exec (.rampStep .fclk) s = .next s) ∧
      (s.aclk.ramping = true → (step s.aclk).div ≠ s.aclk.target → exec (.rampStep .aclk) s = .next { s with aclk := step s.aclk }) ∧
      (s.fclk.ramping = true → (step s.fclk).div ≠ s.fclk.target → exec (.rampStep .fclk) s = .next { s with fclk := step s.fclk }) ∧
      (s.aclk.ramping = true → (step s.aclk).div = s.aclk.target → ∃ u, exec (.rampStep .aclk) s = .next u ∧ u.aclk.div = s.aclk.target ∧ CountedOnce s u pgCLK 0x05C ∧
        u.bit pgCLK oIRQS 0 = true ∧ (s.aclk.next = none → u.aclk.ramping = false) ∧ (∀ n, s.aclk.next = some n → u.aclk.target = n ∨ u.aclk.div = 0) ∧ SameData s u) ∧
      (s.fclk.ramping = true → (step s.fclk).div = s.fclk.target → ∃ u, exec (.rampStep .fclk) s = .next u ∧ u.fclk.div = s.fclk.target ∧ CountedOnce s u pgCLK 0x05C ∧
        u.bit pgCLK oIRQS 0 = true ∧ (s.fclk.next = none → u.fclk.ramping = false) ∧ SameData s u)) ∧
    (∀ (p : Path) (v : BitVec 32), s.served p pgPWR 0x050 = true →
      let a := fieldOf v.toNat 0 4
      let f := fieldOf v.toNat 8 4
      ((a ∉ aclkPoints ∨ f ∉ fclkPoints) → exec (.dvfs p v) s = .next s) ∧
      (a ∈ aclkPoints → f ∈ fclkPoints → ∃ u, exec (.dvfs p v) s = .next u ∧ u.wantAclk = a ∧ u.wantFclk = f ∧ SameData s u ∧
        (s.phase = .running → s.throttled = false → u.aclk.goal = (if s.thermHeld ∧ a < 6 then 6 else a) ∧ u.fclk.goal = (if s.thermHeld then 8 else f)) ∧
        (s.phase ≠ .running → u.aclk = s.aclk ∧ u.fclk = s.fclk))) ∧
    (∃ u, exec (.thermAlertN .asserted) s = .next u ∧ u.pins.thermAlertN = false ∧ u.bit pgCLK 0x04C 17 = true ∧ u.bit pgCLK 0x050 17 = true ∧ SameData s u ∧
      (s.phase = .running → 6 ≤ u.aclk.goal ∧ u.fclk.goal = 8)) ∧
    (∃ w : State, w.pins = { s.pins with thermAlertN := true } ∧ SameData s w ∧ exec (.thermAlertN .released) s = .next (if s.thermHeld then w.wakeEvent 5 else w)) ∧
    ((s.thermHeld = false ∨ s.pins.thermAlertN = false) → exec .thermHoldEnd s = .next s) ∧
    (s.thermHeld = true → s.pins.thermAlertN = true → ∃ u, exec .thermHoldEnd s = .next u ∧ u.bit pgCLK 0x04C 17 = false ∧ u.bit pgCLK 0x050 17 = false ∧ SameData s u ∧
      (s.phase = .running → u.aclk.goal = s.wantAclk ∧ u.fclk.goal = s.wantFclk ∧ u.throttled = false)) ∧
    (∀ logic stack : BitVec 8, ((s.phase ≠ .running ∨ s.activeCc = none) → exec (.throttleStep logic stack) s = .next s) ∧
      (s.phase = .running → s.activeCc ≠ none →
        let lt := s.fld pgPWR 0x054 0 8
        let st := s.fld pgPWR 0x054 8 8
        ∃ u, exec (.throttleStep logic stack) s = .next u ∧ u.fld pgPWR 0x058 0 8 = logic.toNat ∧ u.fld pgPWR 0x058 8 8 = stack.toNat ∧ SameData s u ∧ u.fclk = s.fclk ∧
          ((lt ≤ logic.toNat ∨ st ≤ stack.toNat) → u.bit pgPWR oIRQS 1 = true ∧ pointDown s.aclk.goal ≤ u.aclk.goal) ∧
          (logic.toNat < lt → stack.toNat < st → (logic.toNat + 5 ≤ lt ∧ stack.toNat + 5 ≤ st ∧ s.throttled = true → u.aclk.goal ≤ Nat.max (pointUp s.aclk.goal) (Nat.max s.wantAclk 6)) ∧
            (¬(logic.toNat + 5 ≤ lt ∧ stack.toNat + 5 ≤ st ∧ s.throttled = true) → u.aclk = s.aclk)))) ∧
    (∀ (hub bed : BitVec 32) (watts : BitVec 16) (fault : Bool), (s.phase ≠ .running → exec (.pmbusPoll hub bed watts fault) s = .next s) ∧
      (s.phase = .running → ∃ u, exec (.pmbusPoll hub bed watts fault) s = .next u ∧ u.rd pgPWR 0x064 = hub ∧ u.rd pgPWR 0x060 = bed ∧ u.fld pgPWR 0x068 0 16 = watts.toNat ∧
        (u.rd pgTEL 0x04C ++ u.rd pgTEL 0x048) = (s.rd pgTEL 0x04C ++ s.rd pgTEL 0x048) + watts.setWidth 64 ∧ (fault = true → u.bit pgPWR oIRQS 4 = true) ∧ SameData s u)) ∧
    ((∃ w : State, exec (.wakeN .asserted) s = .next w ∧ w.pins.wakeN = false ∧ s.bit pgRSTC 0x060 2 = true ∧ SameData s w) ∨
      (∃ w : State, s.bit pgRSTC 0x060 2 = false ∧ w.bit pgRSTC 0x060 2 = true ∧ w.pins = { s.pins with wakeN := false } ∧ SameData s w ∧
        exec (.wakeN .asserted) s = .next (if s.phase = .ps3 then w.platformReset 0x0A 0 else w.wakeEvent 3))) ∧
    (∃ u, exec (.wakeN .released) s = .next u ∧ u.pins = { s.pins with wakeN := true } ∧ SameData s u) ∧
    (∃ u, exec .wakeMaskRelease s = .next u ∧ (s.pins.wakeN = true → u.bit pgRSTC 0x060 2 = false) ∧ (s.pins.wakeN = false → u = s) ∧ SameData s u) ∧
    (∀ i ∈ [Instr.wakeN .short, .thermAlertN .short, .pwrFailN .short, .platRstInN .short], ∃ u, exec i s = .next u ∧ CountedOnce s u pgRSTC 0x068 ∧ u.pins = s.pins ∧ SameData s u) ∧
    (∃ u, exec (.pwrFailN .asserted) s = .next u ∧ u.pins = { s.pins with pwrFailN := false } ∧ u.pwrFailed = true ∧ SameData s u ∧
      (s.pwrFailed = false → s.phase ≠ .inReset → s.phase ≠ .ps3 → u.flushSeq = some { deadline := true, logged := false } ∧ (pwrExiting u = true → pwrStep u = 2)) ∧
      (s.pwrFailed = true → u.flushSeq = s.flushSeq)) ∧
    (∃ u, exec (.pwrFailN .released) s = .next u ∧ u.pins = { s.pins with pwrFailN := true } ∧ SameData s u) ∧
    (∃ u, exec .pwrFailNRelease s = .next u ∧ u.pins = { s.pins with pwrFailN := true } ∧ u.bootStopCause = (if s.bootStopCause = 0x24 then 0 else s.bootStopCause) ∧ SameData s u) ∧
    (∀ f, s.flushSeq = some f → f.deadline = true → f.logged = false → ∃ u, exec .flushDeadline s = .next u ∧ u.flushSeq = some { f with logged := true } ∧
      Tab.find? u.backup.log s.backup.head.toNat = some { cause := 0x30, flushed := s.flushed, valid := true, detail := 0, count := s.backup.resets } ∧
      u.backup.head = s.backup.head + 1 ∧ SameData s u) ∧
    ((∀ f, s.flushSeq = some f → f.deadline = false ∨ f.logged = true) → exec .flushDeadline s = .next s)

/-- R222 to R224, R231, R423, R433, R435 to R437, R444, R462, Tables 17-9 to 17-11: reset and start-up. A platform reset leaves
the state of reset but for what Table 17-10 keeps, and logs its cause; each source resets with its cause and detail; release
samples the straps and may stop the boot; the source is checked over 4,096 windows; the root PLL brings the device up; the
stacks train or stop the boot. Where a clause rests on a choice of the model's own, log entries 90, 91 say so. -/
def Obligations.ResetAndStartUp : Prop :=
  ∀ s : State,
    (∀ (cause : BitVec 8) (detail : BitVec 16),
      ((cause = 0 ∨ 0x0B < cause.toNat) → exec (.platformReset cause detail) s = .next s) ∧
      (1 ≤ cause.toNat → cause.toNat ≤ 0x0B → ∃ u, exec (.platformReset cause detail) s = .next u ∧ u.phase = .inReset ∧ u.mem = [] ∧ u.plots = [] ∧ u.granules = [] ∧ u.tenants = [] ∧
        u.jobs = [] ∧ u.cells = [] ∧ u.cmds = [] ∧ u.sqs = [] ∧ u.cqs = [] ∧ u.journals = [] ∧ u.slots = [] ∧ u.pairs = [] ∧ u.links = [] ∧ u.leaves = [] ∧ u.channels = [] ∧
        u.running = none ∧ u.taken = [] ∧ u.recs = [] ∧ u.cache = [] ∧ u.pending = s.pending ∧
        u.backup.resets = s.backup.resets + 1 ∧ u.backup.counter = s.backup.counter ∧ u.backup.head = s.backup.head + 1 ∧
        Tab.find? u.backup.log s.backup.head.toNat = some { cause := cause, flushed := false, valid := true, detail := detail, count := s.backup.resets + 1 } ∧
        u.drives = s.drives ∧ u.flash = s.flash ∧ u.tags = s.tagsFlash ∧ u.tagsFlash = s.tagsFlash ∧ u.plotRecs = s.plotRecs ∧ u.repairFlash = s.repairFlash ∧ u.fwFlash = s.fwFlash ∧
        u.pins = { s.pins with platRstOutN := false, stkPwrEn := false } ∧
        (s.pins.thermAlertN = true → u.regs = []) ∧ (s.pins.thermAlertN = false → u.thermHeld = true) ∧
        u.out = (if s.phase = .ps3 then .rails true :: s.out else s.out))) ∧
    (let reset (w : State) (c d : Nat) : Host.Outcome State Fault Refusal := .next (w.platformReset c d);
      (∀ low : State, low = { s with pins := { s.pins with platRstInN := false } } →
        exec (.platRstInN .asserted) s = (if s.phase = .inReset then .next low else reset low 0x02 0)) ∧
      exec (.platRstInN .released) s = .next { s with pins := { s.pins with platRstInN := true } } ∧
      (∀ low : State, low = { s with pins := { s.pins with perstN := false } } → exec (.perst true) s = (if s.phase = .inReset then .next low else reset low 0x03 0)) ∧
      exec (.perst false) s = .next { s with pins := { s.pins with perstN := true } } ∧
      (∀ (p : Path) (twin : BitVec 32), s.served p pgRSTC 0x040 = true → s.served p pgRSTC 0x840 = true →
        (twin = 0xFFFFFFFE → ∃ w : State, SameData s w ∧ w.backup = s.backup ∧ w.pins = s.pins ∧ w.drives = s.drives ∧ exec (.platRst p twin) s = reset w 0x09 0) ∧
        (twin ≠ 0xFFFFFFFE → ∃ u, exec (.platRst p twin) s = .next u ∧ u.phase = s.phase ∧ u.backup = s.backup ∧ SameData s u)) ∧
      (∀ b : BitVec 5, (b.toNat < 24 → s.phase = .running → exec (.bedLinkLost b) s = reset s 0x07 b.toNat) ∧ ((24 ≤ b.toNat ∨ s.phase ≠ .running) → exec (.bedLinkLost b) s = .next s)) ∧
      (s.phase = .running → s.clkMode ≠ 1 → exec .clockLost s = reset s 0x0B 0) ∧ ((s.phase ≠ .running ∨ s.clkMode = 1) → exec .clockLost s = .next s) ∧
      (∀ n : BitVec 6, let known := n.toNat ≤ 19 ∨ (32 ≤ n.toNat ∧ n.toNat ≤ 55)
        (s.phase ≠ .inReset → s.phase ≠ .ps3 → known → exec (.thermalTrip n) s = reset s 0x08 n.toNat) ∧ ((s.phase = .inReset ∨ s.phase = .ps3 ∨ ¬known) → exec (.thermalTrip n) s = .next s)) ∧
      (∀ low : State, low = { s with pins := { s.pins with stkPg := false } } →
        exec .stkPgFall s = (if s.phase ≠ .inReset ∧ s.phase ≠ .ps3 ∧ s.pins.stkPg = true then reset low 0x01 7 else .next low))) ∧
    ((s.pins.stkPwrEn = false ∨ s.pins.stkPg = true) → ∀ late, exec (.stkPgRise late) s = .next s) ∧
    (s.pins.stkPwrEn = true → s.pins.stkPg = false → exec (.stkPgRise true) s = .next (s.bootStop 0x22 0xFFFF) ∧
      exec (.stkPgRise false) s = .next { s with pins := { s.pins with stkPg := true } }) ∧
    (∀ (w : State) (c d : Nat), c < 256 → ∃ u, u = w.bootStop c d ∧ u.bootStopCause = c ∧ (∀ l : LinkNo, l.toNat < 48 → (u.lnk l).state = 7) ∧ u.backup.head = w.backup.head + 1 ∧
      (Tab.find? u.backup.log w.backup.head.toNat).map (fun e => (e.cause, e.detail)) = some (BitVec.ofNat 8 c, BitVec.ofNat 16 d) ∧ SameData w u) ∧
    (∃ u, exec .vbatLow s = .next u ∧ u.backup = { s.backup with vbatLow := true } ∧ u.bit pgRSTC oIRQS 0 = true ∧ SameData s u) ∧
    (∀ (bs cm : BitVec 2) (dly : BitVec 3),
      let ready := s.phase = .inReset ∧ s.pins.platRstInN = true ∧ s.pins.perstN = true ∧ s.pins.railsGood = true
      (¬ready → exec (.internalResetRelease bs cm dly) s = .next s) ∧
      (ready → ∃ w : State, w.phase = .sourceCheck ∧ w.pins = { s.pins with platRstOutN := true, stkPwrEn := true } ∧ w.bootSrc = bs.toNat ∧ w.clkMode = cm.toNat ∧ SameData s w ∧
        exec (.internalResetRelease bs cm dly) s =
          .next (if cm = 3 ∨ bs = 3 then w.bootStop 0x21 0 else if s.pins.pwrFailN = false then w.bootStop 0x24 0 else w))) ∧
    (∀ count : BitVec 24,
      let c := count.toNat
      ((s.phase ≠ .sourceCheck ∨ s.bootHeld = true ∨ s.clkMode = 1) → exec (.xtalCheckWindow count) s = .next s) ∧
      (s.phase = .sourceCheck → s.bootHeld = false → s.clkMode ≠ 1 →
        (s.xtalCentre = none → exec (.xtalCheckWindow count) s = .next (if 4096 * 98 ≤ c * 100 ∧ c * 100 ≤ 4096 * 102 then { s with xtalCentre := some c } else s)) ∧
        (∀ m, s.xtalCentre = some m →
          let near := (if c < m then m - c else c - m) * 1000000 ≤ Config.xtalPpm.toNat * m
          (near → s.fld pgCLK 0x044 0 13 + 1 < 4096 → ∃ u, exec (.xtalCheckWindow count) s = .next u ∧ u.fld pgCLK 0x044 0 13 = s.fld pgCLK 0x044 0 13 + 1 ∧ u.phase = .sourceCheck ∧
            u.xtalCentre = some m ∧ SameData s u) ∧
          (near → s.fld pgCLK 0x044 0 13 + 1 = 4096 → ∃ u, exec (.xtalCheckWindow count) s = .next u ∧ u.phase = .pllLock ∧ u.bit pgCLK 0x040 8 = true ∧ u.bootStopCause ≠ 0x20 ∧ SameData s u) ∧
          (¬near → ∃ u, exec (.xtalCheckWindow count) s = .next u ∧ u.xtalCentre = none ∧ u.fld pgCLK 0x044 0 13 = 0 ∧ u.phase = .sourceCheck ∧
            u.fld pgCLK 0x044 16 16 = satAdd (s.fld pgCLK 0x044 16 16) 1 0xFFFF ∧ SameData s u)))) ∧
    (s.phase = .sourceCheck → s.clkMode ≠ 1 → s.bootStopCause = 0 → exec .xtalFail s = .next (s.bootStop 0x20 0)) ∧
    ((s.phase ≠ .sourceCheck ∨ s.clkMode = 1 ∨ s.bootStopCause ≠ 0) → exec .xtalFail s = .next s) ∧
    (s.phase = .sourceCheck → s.clkMode = 1 → s.bootHeld = false → ∃ u, exec .forerunnerDelayExpiry s = .next u ∧ u.phase = .pllLock ∧ u.bit pgCLK 0x040 8 = true ∧ SameData s u) ∧
    ((s.phase ≠ .sourceCheck ∨ s.clkMode ≠ 1 ∨ s.bootHeld = true) → exec .forerunnerDelayExpiry s = .next s) ∧
    ((s.phase ≠ .pllLock ∨ s.bootHeld = true) → exec .rootPllLock s = .next s) ∧
    (s.phase = .pllLock → s.bootHeld = false → ∃ u, exec .rootPllLock s = .next u ∧ u.phase = .running ∧
      u.aclk = { div := 240, target := if s.thermHeld then 6 else 4, ramping := true } ∧ u.fclk = { div := 240, target := if s.thermHeld then 8 else 6, ramping := true } ∧
      u.bit (pgHUB 0) 0x040 0 = true ∧ u.bit (pgHUB 1) 0x040 0 = true ∧ (∀ b < 24, u.bit (pgBED b) 0x040 0 = true) ∧ SameData s u) ∧
    (∀ res : List StackTrainResult,
      let of (b : Nat) : Option StackTrainResult := res.find? (fun r => r.stack.toNat == b)
      let bad (b : Nat) : Prop := ∀ r, of b = some r → 2 < (r.badPc.map (·.toNat)).eraseDups.length
      let may := s.phase = .running ∧ s.pins.stkPg = true ∧ s.bootHeld = false ∧ s.bit (pgSTK 0) 0x04C 2 = false
      (¬may → exec (.stackTraining res) s = .next s) ∧
      (∀ b < 24, may → bad b → (∀ c < b, ¬bad c) → exec (.stackTraining res) s = .next (s.bootStop 0x22 b)) ∧
      (may → (∀ b < 24, ¬bad b) → ∃ u, exec (.stackTraining res) s = .next u ∧ u.repairFlash = [] ∧ u.plots = s.plots ∧ u.mem = s.mem ∧
        ∀ b < 24, ∀ r, of b = some r → u.bit (pgSTK b) 0x04C 2 = true ∧ u.fld (pgSTK b) 0x07C 0 20 = r.us.toNat ∧
          u.fld (pgSTK b) 0x058 0 16 = r.pprLeft.toNat - Nat.min ((Tab.find? s.repairFlash b).getD []).length r.pprLeft.toNat ∧ (u.stk b).repair = []))

/-- R5, R6, R400, R426, R446 to R448, R452, Tables 17-4 and 18-2: reading and writing registers. An access to a page that does not
answer ends with an error or is dropped; a served read answers what the register shows and clears what a read clears; a
latching pair gives one value; a served write changes the RW bits of its row, clears W1C bits written 1 and leaves all else, a
value out of range changes nothing, an offset that no table names changes nothing; a pair takes effect with _HI; an 8-byte
access is two, the lower offset first, and any other size or alignment ends with an error. Where a clause rests on a choice of
the model's own, log entries 7, 24, 40, 99, 100, 105, 111 say so. -/
def Obligations.RegistersReadAndWrite : Prop :=
  ∀ (s : State) (p : Path) (off : BitVec 26) (v : BitVec 32),
    let pg := pageOf off.toNat
    let o := offOf off.toNat
    let at4 : BitVec 27 := off.setWidth 27
    let get : Instr := .readClear p at4
    let put : Instr := .registerWrite p at4 4 (v.setWidth 64)
    let answer (u : State) (x : BitVec 32) : Prop := u.out = .answer (some (leBytes 4 x.toNat)) :: s.out
    let plainPage := pg ≠ pgMsixTab ∧ pg ≠ pgMsixPba
    ((o % 4 ≠ 0 ∨ (plainPage ∧ s.gating p pg o = .error)) → exec get s = .next (s.accessError p pg o)) ∧
    (o % 4 ≠ 0 → exec put s = .next (s.accessError p pg o)) ∧
    (o % 4 = 0 → plainPage → s.gating p pg o = .drop → ∃ u, exec get s = .next u ∧ answer u (if o = 0x00C then 4 else 0) ∧ SameData s u ∧ u.regs = s.regs) ∧
    ((s.phase = .inReset ∨ s.phase = .ps3 ∨ pageBlock pg = none) → s.gating p pg o = .error) ∧
    (∀ w : State, w = s.accessError p pg o → w.out = .answer none :: s.out ∨ (p = .fw ∧ s.auxOff pg o = true)) ∧
    (o % 4 = 0 → plainPage → s.gating p pg o = .serve →
      (latchLo (pageType pg) = some o → ∃ u, exec get s = .next u ∧ exec (.latchingRead p off) s = .next u ∧ answer u (s.regValue pg o) ∧ u.regs = s.regs ∧
        u.latched pg (o + 4) = some (s.regValue pg (o + 4)) ∧ SameData s u) ∧
      (∀ x, latchLo (pageType pg) = some (o - 4) → 4 ≤ o → s.latched pg o = some x → ∃ u, exec get s = .next u ∧ answer u x ∧ u.regs = s.regs ∧ SameData s u) ∧
      (latchLo (pageType pg) ≠ some o → latchLo (pageType pg) ≠ some (o - 4) → ∃ u, exec get s = .next u ∧ answer u (s.regValue pg o) ∧ SameData s u ∧
        (o = oERRF → u.rd pg oERRF = 0 ∧ u.rd pg oERRI = 0) ∧ (o = oERRC → u.rd pg oERRC = 0) ∧
        (0x040 ≤ o → ∀ r, regRow? (pageType pg) o = some r → u.rd pg o = s.rd pg o &&& ~~~(BitVec.ofNat 32 r.rc)) ∧
        (∀ q x, q ≠ pg → x < 4096 → u.rd q x = s.rd q x))) ∧
    (latchLo (pageType pg) ≠ some o → exec (.latchingRead p off) s = .next s) ∧
    (o % 4 = 0 → s.served p pg o = true → 0x040 ≤ o → (critMask pg o).isSome = false → (0x800 ≤ o → (critMask pg (o - 0x800)).isSome = false) → cmdReg pg o = false →
      (pg ≠ pgRSTC ∨ (o ≠ 0x040 ∧ o ≠ 0x840)) → (pg ≠ pgPLM ∨ o ≠ 0x040) → (pg ≠ pgPWR ∨ o ≠ 0x040) →
      (inRange (pageType pg) (halfBOff (pageType pg) o) v.toNat = false → exec put s = .next s) ∧
      (inRange (pageType pg) (halfBOff (pageType pg) o) v.toNat = true → pairPart (pageType pg) o = true → o ∉ pairHi (pageType pg) →
        ∃ u, exec put s = .next u ∧ u.latched pg o = some v ∧ u.regs = s.regs ∧ SameData s u) ∧
      (inRange (pageType pg) (halfBOff (pageType pg) o) v.toNat = true → pairPart (pageType pg) o = false → o ∉ pairHi (pageType pg) →
        pageType pg ∈ [0x01, 0x06, 0x07, 0x08, 0x0A, 0x0B, 0x0C, 0x0D, 0x0F, 0x10, 0x11, 0x15, 0x17, 0x18, 0x19, 0x1A] →
        ∃ u, exec put s = .next u ∧ SameData s u ∧
          (∀ r, regRow? (pageType pg) o = some r → u.rd pg o =
            ((s.rd pg o &&& ~~~(BitVec.ofNat 32 r.rw)) ||| (v &&& BitVec.ofNat 32 r.rw)) &&& ~~~(v &&& BitVec.ofNat 32 r.w1c)) ∧
          (regRow? (pageType pg) o = none → u = s) ∧ (∀ q x, q * 4096 + x ≠ pg * 4096 + o → u.rd q x = s.rd q x)) ∧
      (o ∈ pairHi (pageType pg) → exec (.pairCommit p off v) s = exec put s ∧
        ((pageType pg = 0x04 ∨ pageType pg = 0x0B) → ∃ u, exec put s = .next u ∧ u.latched pg (o - 4) = none ∧ SameData s u ∧
          (∀ r, regRow? (pageType pg) o = some r → u.rd pg o = (s.rd pg o &&& ~~~(BitVec.ofNat 32 r.rw)) ||| (v &&& BitVec.ofNat 32 r.rw)) ∧
          (∀ r, regRow? (pageType pg) (o - 4) = some r → u.rd pg (o - 4) =
            (s.rd pg (o - 4) &&& ~~~(BitVec.ofNat 32 r.rw)) ||| ((s.latched pg (o - 4)).getD (s.rd pg (o - 4)) &&& BitVec.ofNat 32 r.rw))) ∧
        (pageType pg = 0x05 → ∀ x, s.latched pg 0x050 = some x → ∃ u, exec put s = .next u ∧ SameData s u ∧
          Tab.get 0 u.spt s.sptKey = (v.setWidth 17) ++ x ∧ ∀ k, k ≠ s.sptKey → Tab.get (0 : BitVec 49) u.spt k = Tab.get 0 s.spt k) ∧
        (pageType pg = 0x14 → ∀ h lo, s.latched pg 0x060 = some h → s.latched pg 0x064 = some lo → ∃ u, exec put s = .next u ∧ SameData s u ∧ u.fld pgMBX 0x060 0 16 = fieldOf h.toNat 0 16 ∧
          (lo.toNat % 4096 = 0 → u.rd pgMBX 0x064 = lo ∧ u.fld pgMBX 0x068 0 12 = fieldOf v.toNat 0 12) ∧
          (lo.toNat % 4096 ≠ 0 → u.rd pgMBX 0x064 = s.rd pgMBX 0x064 ∧ u.rd pgMBX 0x068 = s.rd pgMBX 0x068)))) ∧
    (o ∉ pairHi (pageType pg) → exec (.pairCommit p off v) s = .next s) ∧
    (∀ (k : Nat) (x : BitVec 64), ¬(k = 4 ∧ o % 4 = 0) → ¬(k = 8 ∧ o % 8 = 0 ∧ p ≠ .i3c) →
      exec (.registerWrite p at4 k x) s = .next (s.accessError p pg o)) ∧
    (∀ x : BitVec 64, o % 8 = 0 → p ≠ .i3c → plainPage → s.gating p pg o = .serve →
      exec (.registerWrite p at4 8 x) s = .next ((s.regWrite p pg o (x.setWidth 32)).regWrite p pg (o + 4) (x.extractLsb' 32 32))) ∧
    (∀ rsv : BitVec 28, (pg = pgSEC → o = 0x054 → exec (.registerWrite p at4 4 ((rsv ++ (1 : BitVec 4)).setWidth 64)) s = exec (.allowNew p rsv) s) ∧
      (pg = pgJNL → o = 0x040 → exec (.registerWrite p at4 4 ((rsv ++ (3 : BitVec 4)).setWidth 64)) s = exec (.jnlQuery p rsv) s) ∧
      (pg = pgXLT → o = 0x040 → s.takes p pgXLT = true → v.toNat % 16 = 0 ∨ 6 < v.toNat % 16 →
        ∃ u, exec put s = .next u ∧ Answered u pgXLT 0x01 ∧ SameData s u)) ∧
    (∀ (k : Nat) (x : BitVec 64) (b : BitVec 27), b.getLsbD 26 = true → exec (.registerWrite p b k x) s = .next (s.bar2Write (fieldOf b.toNat 0 26) k x))

/-- R373, R374, R399, R410, R420, R434, R448, R450, R451, R453, Tables 18-2 and 18-4: critical registers, interrupts and block
reset. A critical write waits in its latch until the twin brings its complement; a mismatch is recorded and empties the latch;
the lock and FW_RECONF refuse writes and count them; IRQ_STATUS, IRQ_ENABLE and IRQ_FORCE move a page's interrupt, whose
vector sends its message or sets its pending bit; SRST clears a page's interrupt and error registers, and what its block holds
as its row says. Where a clause rests on a choice of the model's own, log entries 20, 102, 103 say so. -/
def Obligations.CriticalInterruptsAndSrst : Prop :=
  ∀ (s : State) (p : Path),
    (∀ (off : BitVec 26) (v : BitVec 32),
      let pg := pageOf off.toNat
      let o := offOf off.toNat
      let refused := s.locked = true ∨ (p ≠ .fw ∧ protSet pg o = true)
      let shut (i : Instr) : Prop := ∃ u, exec i s = .next u ∧ CountedOnce s u pgSEC 0x08C ∧ u.bit pgSEC oIRQS 3 = true ∧ u.rd pg o = s.rd pg o ∧ u.latch = s.latch ∧ SameData s u
      ((critMask pg o).isSome = true → s.served p pg o = true →
        (refused → shut (.criticalWrite p off v)) ∧
        (¬refused → ∃ u, exec (.criticalWrite p off v) s = .next u ∧ u.latched pg o = some v ∧ u.regs = s.regs ∧ SameData s u ∧
          ∀ q x, q * 4096 + x ≠ pg * 4096 + o → u.latched q x = s.latched q x)) ∧
      ((critMask pg o).isSome = false → (pg ≠ pgRSTC ∨ o ≠ 0x040) → exec (.criticalWrite p off v) s = .next s) ∧
      (o < 0x800 → exec (.twinWrite p off v) s = .next s) ∧
      (∀ m, 0x800 ≤ o → critMask pg (o - 0x800) = some m → s.served p pg o = true →
        let r := o - 0x800
        let no := s.locked = true ∨ (p ≠ .fw ∧ protSet pg r = true)
        (no → ∃ u, exec (.twinWrite p off v) s = .next u ∧ CountedOnce s u pgSEC 0x08C ∧ u.rd pg r = s.rd pg r ∧ u.latch = s.latch ∧ SameData s u) ∧
        (¬no → recLo pg r = false → recHi pg r = false →
          (∀ x, s.latched pg r = some x → v = ~~~x → critOk pg r x.toNat = true → ∃ u, exec (.twinWrite p off v) s = .next u ∧ SameData s u ∧ u.latched pg r = none ∧
            u.rd pg r = (x &&& BitVec.ofNat 32 m) ||| (s.rd pg r &&& BitVec.ofNat 32 (stickyBits pg r)) ∧ u.regValue pg o = ~~~(u.rd pg r) ∧
            ∀ q y, q * 4096 + y ≠ pg * 4096 + r → u.rd q y = s.rd q y) ∧
          ((s.latched pg r = none ∨ ∃ x, s.latched pg r = some x ∧ (v ≠ ~~~x ∨ critOk pg r x.toNat = false)) → ∃ u, exec (.twinWrite p off v) s = .next u ∧ SameData s u ∧
            u.latched pg r = none ∧ u.rd pg r = s.rd pg r ∧ (s.bit pg oERRF 31 = false → u.rd pg oERRF = 0x80000001 ∧ u.rd pg oERRI = BitVec.ofNat 32 r))) ∧
        (¬no → recHi pg r = true → ∀ lo hi, s.latched pgSEC 0x84C = some lo → s.latched pgSEC 0x050 = some hi →
          (v = ~~~hi → ∃ u, exec (.twinWrite p off v) s = .next u ∧ u.rd pgSEC 0x04C = lo ∧ u.rd pgSEC 0x050 = hi ∧ u.latched pgSEC 0x84C = none ∧ u.latched pgSEC 0x050 = none ∧ SameData s u) ∧
          (v ≠ ~~~hi → ∃ u, exec (.twinWrite p off v) s = .next u ∧ u.rd pgSEC 0x04C = s.rd pgSEC 0x04C ∧ u.rd pgSEC 0x050 = s.rd pgSEC 0x050 ∧ u.latched pgSEC 0x84C = none ∧
            u.latched pgSEC 0x050 = none ∧ SameData s u)) ∧
        (¬no → recLo pg r = true → ∀ lo, s.latched pgSEC 0x04C = some lo → v = ~~~lo → ∃ u, exec (.twinWrite p off v) s = .next u ∧ u.latched pgSEC 0x84C = some lo ∧ u.regs = s.regs ∧ SameData s u))) ∧
    (∀ (page : BitVec 14) (v : BitVec 32),
      let pg := page.toNat
      let rows := [(Instr.irqStatusWrite p page v, oIRQS), (Instr.irqEnableWrite p page v, oIRQE), (Instr.irqForce p page v, 0x018), (Instr.srst p page, 0x008)]
      let others (u : State) (o : Nat) : Prop := SameData s u ∧ u.latch = s.latch ∧ ∀ q x, q * 4096 + x ≠ pg * 4096 + o → u.rd q x = s.rd q x
      (∀ x ∈ rows, pg ≠ pgMsixTab → pg ≠ pgMsixPba → (s.gating p pg x.2 = .error → exec x.1 s = .next (s.accessError p pg x.2)) ∧ (s.gating p pg x.2 = .drop → exec x.1 s = .next s) ∧
        (s.gating p pg x.2 = .serve → p = .fw → s.fwMay (pageType pg) = false → exec x.1 s = .next (s.lockReject pg x.2 0x03))) ∧
      (s.served p pg oIRQS = true →
        (∃ u, exec (.irqStatusWrite p page v) s = .next u ∧ u.rd pg oIRQS = (s.rd pg oIRQS &&& ~~~v) ||| s.keptIrq pg ∧ others u oIRQS ∧
          (u.vecCond (vectorOf pg) = true → u.msix.enabled = true → (u.vecMasked (vectorOf pg) = false → .msix (vectorOf pg) ∈ u.out) ∧
            (u.vecMasked (vectorOf pg) = true → vectorOf pg ∈ u.msix.pba)))) ∧
      (s.served p pg oIRQE = true → ∃ u, exec (.irqEnableWrite p page v) s = .next u ∧ u.rd pg oIRQE = v ∧ others u oIRQE ∧
        (u.vecCond (vectorOf pg) = true → u.msix.enabled = true → u.vecMasked (vectorOf pg) = false → .msix (vectorOf pg) ∈ u.out)) ∧
      (s.served p pg 0x018 = true → ∃ u, exec (.irqForce p page v) s = .next u ∧ u.rd pg oIRQS = s.rd pg oIRQS ||| (v &&& BitVec.ofNat 32 (irqBits (pageType pg))) ∧ others u oIRQS ∧
        (u.vecCond (vectorOf pg) = true → s.vecCond (vectorOf pg) = false → u.msix.enabled = true → u.vecMasked (vectorOf pg) = false → .msix (vectorOf pg) ∈ u.out) ∧
        (s.vecCond (vectorOf pg) = true → pg ≠ pgMBX → u.out = s.out)) ∧
      (s.served p pg 0x008 = true →
        (pageType pg ∉ [0x02, 0x03, 0x08, 0x14] → ∃ u, exec (.srst p page) s = .next u ∧ SameData s u ∧ u.latch = s.latch ∧
          (∀ o ∈ [oIRQS, oIRQE, oERRC, oERRF, oERRI], u.rd pg o = 0) ∧ ∀ q x, q ≠ pg → x < 4096 → u.rd q x = s.rd q x) ∧
        (pg = pgMBX → ∃ u, exec (.srst p page) s = .next u ∧ u.txq = [] ∧ u.rxq = [] ∧ u.dynAddr = s.dynAddr ∧ u.bit pgMBX oIRQS 2 = true ∧ u.rd pgMBX oIRQE = 0 ∧
          (∀ ch, u.chan ch = { s.chan ch with word := none }) ∧ u.mem = s.mem ∧ u.plots = s.plots) ∧
        (pg = pgCQE → ∃ u, exec (.srst p page) s = .next u ∧ u.sqs = s.sqs ∧ u.cqs = s.cqs ∧ u.busy pgCQE = s.busy pgCQE ∧ (∀ ch, (s.chan ch).recv = 3 → (u.chan ch).word = none) ∧
          u.mem = s.mem ∧ u.plots = s.plots ∧ u.cmds = s.cmds) ∧
        (pageType pg = 0x02 → ∃ u, exec (.srst p page) s = .next u ∧ u.isSplit (pageInst pg) = false ∧ u.rd pg 0x044 = 4 ∧ u.rd pg 0x050 = 0x05000400 ∧ u.rd pg oIRQE = 0) ∧
        (pageType pg = 0x03 → ∃ u, exec (.srst p page) s = .next u ∧ u.rd pg oIRQE = 0 ∧ (∀ l : LinkNo, s.linkUp l = true → portOf l.toNat / 4 = pageInst pg → u.linkUp l = false))))
end

