-- ==== Sys2Proof/Laws/Tab.lean ====
section
/-! SUPPORT. The laws of sparse tables: a key reads back what was set, every other key reads as before, and the canonical form
(keys in rising order, no entry equal to the default) is kept. The first two hold of every list, sorted or not. -/

namespace Sys2Proof.Machine

variable {α : Type}

@[simp] theorem Tab.find?_nil (k : Nat) : Tab.find? ([] : List (Nat × α)) k = none := rfl

theorem Tab.find?_cons (k' : Nat) (v : α) (l : List (Nat × α)) (k : Nat) :
    Tab.find? ((k', v) :: l) k = if k' = k then some v else Tab.find? l k := rfl

@[simp] theorem Tab.find?_del_self (l : List (Nat × α)) (k : Nat) : Tab.find? (Tab.del l k) k = none := by
  induction l with
  | nil => rfl
  | cons a l ih =>
    obtain ⟨k', v⟩ := a
    by_cases h : k' = k <;> simp [Tab.del, Tab.find?, h, ih]

theorem Tab.find?_del_ne (l : List (Nat × α)) {k j : Nat} (h : j ≠ k) : Tab.find? (Tab.del l k) j = Tab.find? l j := by
  induction l with
  | nil => rfl
  | cons a l ih =>
    obtain ⟨k', v⟩ := a
    by_cases hk : k' = k
    · subst hk
      simp [Tab.del, Tab.find?, ih, Ne.symm h]
    · by_cases hj : k' = j
      · subst hj
        simp [Tab.del, Tab.find?, hk]
      · simp [Tab.del, Tab.find?, hk, hj, ih]

theorem Tab.find?_ins_self (k : Nat) (v : α) (l : List (Nat × α)) (h : Tab.find? l k = none) :
    Tab.find? (Tab.ins k v l) k = some v := by
  induction l with
  | nil => simp [Tab.ins, Tab.find?]
  | cons a l ih =>
    obtain ⟨k', v'⟩ := a
    by_cases hk : k' = k
    · simp [Tab.find?, hk] at h
    · simp only [Tab.find?, hk, if_false] at h
      by_cases hl : k < k' <;> simp [Tab.ins, Tab.find?, hl, hk, ih h]

theorem Tab.find?_ins_ne (k : Nat) (v : α) (l : List (Nat × α)) {j : Nat} (h : j ≠ k) :
    Tab.find? (Tab.ins k v l) j = Tab.find? l j := by
  induction l with
  | nil => simp [Tab.ins, Tab.find?, Ne.symm h]
  | cons a l ih =>
    obtain ⟨k', v'⟩ := a
    by_cases hl : k < k' <;> simp [Tab.ins, Tab.find?, hl, Ne.symm h, ih]

@[simp] theorem Tab.find?_put_self (l : List (Nat × α)) (k : Nat) (v : α) : Tab.find? (Tab.put l k v) k = some v :=
  Tab.find?_ins_self k v _ (Tab.find?_del_self l k)

theorem Tab.find?_put_ne (l : List (Nat × α)) {k j : Nat} (v : α) (h : j ≠ k) :
    Tab.find? (Tab.put l k v) j = Tab.find? l j := by
  rw [Tab.put, Tab.find?_ins_ne _ _ _ h, Tab.find?_del_ne _ h]

theorem Tab.del_ins (l : List (Nat × α)) (k : Nat) (v : α) : Tab.del (Tab.ins k v l) k = Tab.del l k := by
  induction l with
  | nil => simp [Tab.ins, Tab.del]
  | cons a l ih =>
    obtain ⟨k', v'⟩ := a
    by_cases hl : k < k'
    · simp [Tab.ins, hl, Tab.del]
    · by_cases hk : k' = k <;> simp [Tab.ins, hl, Tab.del, hk, ih]

@[simp] theorem Tab.del_del (l : List (Nat × α)) (k : Nat) : Tab.del (Tab.del l k) k = Tab.del l k := by
  induction l with
  | nil => rfl
  | cons a l ih =>
    obtain ⟨k', v⟩ := a
    by_cases hk : k' = k <;> simp [Tab.del, hk, ih]

@[simp] theorem Tab.del_put (l : List (Nat × α)) (k : Nat) (v : α) : Tab.del (Tab.put l k v) k = Tab.del l k := by
  rw [Tab.put, Tab.del_ins, Tab.del_del]

@[simp] theorem Tab.put_put (l : List (Nat × α)) (k : Nat) (v w : α) : Tab.put (Tab.put l k v) k w = Tab.put l k w := by
  rw [Tab.put, Tab.del_put, ← Tab.put]

@[simp] theorem Tab.put_del (l : List (Nat × α)) (k : Nat) (w : α) : Tab.put (Tab.del l k) k w = Tab.put l k w := by
  rw [Tab.put, Tab.del_del, ← Tab.put]

variable [DecidableEq α]

@[simp] theorem Tab.get_set_self (d : α) (l : List (Nat × α)) (k : Nat) (v : α) : Tab.get d (Tab.set d l k v) k = v := by
  by_cases h : v = d <;> simp [Tab.get, Tab.set, h]

theorem Tab.get_set_ne (d : α) (l : List (Nat × α)) {k j : Nat} (v : α) (h : j ≠ k) :
    Tab.get d (Tab.set d l k v) j = Tab.get d l j := by
  by_cases hv : v = d <;> simp [Tab.get, Tab.set, hv, Tab.find?_del_ne _ h, Tab.find?_put_ne _ _ h]

/-- A key that was not set reads as before, whatever the two defaults. -/
theorem Tab.get_set_ne' (d e : α) (l : List (Nat × α)) {k j : Nat} (v : α) (h : j ≠ k) :
    Tab.get e (Tab.set d l k v) j = Tab.get e l j := by
  by_cases hv : v = d <;> simp [Tab.get, Tab.set, hv, Tab.find?_del_ne _ h, Tab.find?_put_ne _ _ h]

@[simp] theorem Tab.set_set (d : α) (l : List (Nat × α)) (k : Nat) (v w : α) :
    Tab.set d (Tab.set d l k v) k w = Tab.set d l k w := by
  by_cases hv : v = d <;> by_cases hw : w = d <;> simp [Tab.set, hv, hw]

/-! ### The canonical form -/

omit [DecidableEq α] in
/-- Every key of a sorted table's tail is larger than its first. -/
theorem Tab.sorted_cons_iff (a : Nat × α) (l : List (Nat × α)) :
    Tab.sorted (a :: l) = true ↔ (∀ b ∈ l, a.1 < b.1) ∧ Tab.sorted l = true := by
  induction l generalizing a with
  | nil => simp [Tab.sorted]
  | cons b l ih =>
    simp only [Tab.sorted, Bool.and_eq_true, decide_eq_true_eq, List.mem_cons, forall_eq_or_imp]
    rw [ih b]
    constructor
    · rintro ⟨h1, h2, h3⟩
      exact ⟨⟨h1, fun c hc => Nat.lt_trans h1 (h2 c hc)⟩, h2, h3⟩
    · rintro ⟨⟨h1, _⟩, h2, h3⟩
      exact ⟨h1, h2, h3⟩

omit [DecidableEq α] in
theorem Tab.mem_del {l : List (Nat × α)} {k : Nat} {a : Nat × α} (h : a ∈ Tab.del l k) : a ∈ l ∧ a.1 ≠ k := by
  induction l with
  | nil => simp [Tab.del] at h
  | cons b l ih =>
    obtain ⟨k', v⟩ := b
    by_cases hk : k' = k
    · simp only [Tab.del, hk, if_true] at h
      exact ⟨List.mem_cons_of_mem _ (ih h).1, (ih h).2⟩
    · simp only [Tab.del, hk, if_false, List.mem_cons] at h
      rcases h with rfl | h
      · exact ⟨List.mem_cons_self, hk⟩
      · exact ⟨List.mem_cons_of_mem _ (ih h).1, (ih h).2⟩

omit [DecidableEq α] in
theorem Tab.sorted_del {l : List (Nat × α)} (k : Nat) (h : Tab.sorted l = true) : Tab.sorted (Tab.del l k) = true := by
  induction l with
  | nil => rfl
  | cons b l ih =>
    obtain ⟨k', v⟩ := b
    rw [Tab.sorted_cons_iff] at h
    by_cases hk : k' = k
    · simp only [Tab.del, hk, if_true]
      exact ih h.2
    · simp only [Tab.del, hk, if_false]
      rw [Tab.sorted_cons_iff]
      exact ⟨fun b hb => h.1 b (Tab.mem_del hb).1, ih h.2⟩

omit [DecidableEq α] in
theorem Tab.mem_ins {l : List (Nat × α)} {k : Nat} {v : α} {a : Nat × α} (h : a ∈ Tab.ins k v l) : a = (k, v) ∨ a ∈ l := by
  induction l with
  | nil => simpa [Tab.ins] using h
  | cons b l ih =>
    obtain ⟨k', v'⟩ := b
    by_cases hl : k < k'
    · simpa [Tab.ins, hl] using h
    · simp only [Tab.ins, hl, if_false, List.mem_cons] at h
      rcases h with rfl | h
      · exact .inr List.mem_cons_self
      · rcases ih h with h | h
        · exact .inl h
        · exact .inr (List.mem_cons_of_mem _ h)

omit [DecidableEq α] in
theorem Tab.sorted_ins {l : List (Nat × α)} (k : Nat) (v : α) (h : Tab.sorted l = true) (hk : ∀ a ∈ l, a.1 ≠ k) :
    Tab.sorted (Tab.ins k v l) = true := by
  induction l with
  | nil => rfl
  | cons b l ih =>
    obtain ⟨k', v'⟩ := b
    have h' := (Tab.sorted_cons_iff _ _).mp h
    by_cases hl : k < k'
    · simp only [Tab.ins, hl, if_true]
      rw [Tab.sorted_cons_iff]
      refine ⟨fun a ha => ?_, h⟩
      rcases List.mem_cons.mp ha with rfl | ha
      · exact hl
      · exact Nat.lt_trans hl (h'.1 a ha)
    · simp only [Tab.ins, hl, if_false]
      rw [Tab.sorted_cons_iff]
      refine ⟨fun a ha => ?_, ih h'.2 (fun a ha => hk a (List.mem_cons_of_mem _ ha))⟩
      rcases Tab.mem_ins ha with rfl | ha
      · have : k' ≠ k := hk (k', v') List.mem_cons_self
        show k' < k
        omega
      · exact h'.1 a ha

omit [DecidableEq α] in
theorem Tab.sorted_put {l : List (Nat × α)} (k : Nat) (v : α) (h : Tab.sorted l = true) :
    Tab.sorted (Tab.put l k v) = true :=
  Tab.sorted_ins k v (Tab.sorted_del k h) (fun _ ha => (Tab.mem_del ha).2)

theorem Tab.sorted_set {l : List (Nat × α)} (d : α) (k : Nat) (v : α) (h : Tab.sorted l = true) :
    Tab.sorted (Tab.set d l k v) = true := by
  by_cases hv : v = d
  · simpa [Tab.set, hv] using Tab.sorted_del k h
  · simpa [Tab.set, hv] using Tab.sorted_put k v h

/-- No entry of a table set at a key equals the default, when none did before. -/
theorem Tab.listed_set {l : List (Nat × α)} (d : α) (k : Nat) (v : α) (h : ∀ a ∈ l, a.2 ≠ d) :
    ∀ a ∈ Tab.set d l k v, a.2 ≠ d := by
  by_cases hv : v = d
  · simp only [Tab.set, hv, if_true]
    exact fun a ha => h a (Tab.mem_del ha).1
  · simp only [Tab.set, hv, if_false, Tab.put]
    intro a ha
    rcases Tab.mem_ins ha with rfl | ha
    · exact hv
    · exact h a (Tab.mem_del ha).1

end Sys2Proof.Machine
end

