-- ==== Sys2Proof/Laws/Cells.lean ====
section
/-! SUPPORT. Laws of cells, threads and the issue of an instruction: what each update of a cell or thread reads back as, and
once, for every instruction, what State.issue answers for a thread that can run. -/

namespace Sys2Proof

open Machine

/-! ### Registers of a thread (R96) -/

@[simp] theorem Thread.getS_zero (t : Thread) : t.getS 0 = 0 := rfl

@[simp] theorem Thread.setS_zero (t : Thread) (v : W64) : t.setS 0 v = t := rfl

theorem Thread.getS_setS_self (t : Thread) {n : Nat} (v : W64) (h : n ≠ 0) : (t.setS n v).getS n = v := by
  simp [Thread.getS, Thread.setS, h]

theorem Thread.getS_setS_ne (t : Thread) {n m : Nat} (v : W64) (h : m ≠ n) : (t.setS n v).getS m = t.getS m := by
  by_cases hn : n = 0
  · simp [Thread.setS, hn]
  · simp [Thread.getS, Thread.setS, hn, Tab.get_set_ne _ _ _ h]

@[simp] theorem Thread.getV_setV_self (t : Thread) (n : Nat) (v : BitVec 2048) : (t.setV n v).getV n = v := by
  simp [Thread.getV, Thread.setV]

theorem Thread.getV_setV_ne (t : Thread) {n m : Nat} (v : BitVec 2048) (h : m ≠ n) : (t.setV n v).getV m = t.getV m := by
  simp [Thread.getV, Thread.setV, Tab.get_set_ne _ _ _ h]

@[simp] theorem Thread.getM_setM_self (t : Thread) (n : Nat) (v : BitVec 256) : (t.setM n v).getM n = v := by
  simp [Thread.getM, Thread.setM]

theorem Thread.getM_setM_ne (t : Thread) {n m : Nat} (v : BitVec 256) (h : m ≠ n) : (t.setM n v).getM m = t.getM m := by
  simp [Thread.getM, Thread.setM, Tab.get_set_ne _ _ _ h]

@[simp] theorem Thread.setS_pc (t : Thread) (n : Nat) (v : W64) : (t.setS n v).pc = t.pc := by
  unfold Thread.setS; split <;> rfl

@[simp] theorem Thread.setS_flags (t : Thread) (n : Nat) (v : W64) : (t.setS n v).flags = t.flags := by
  unfold Thread.setS; split <;> rfl

@[simp] theorem Thread.setV_pc (t : Thread) (n : Nat) (v : BitVec 2048) : (t.setV n v).pc = t.pc := rfl
@[simp] theorem Thread.setM_pc (t : Thread) (n : Nat) (v : BitVec 256) : (t.setM n v).pc = t.pc := rfl
@[simp] theorem Thread.addFlags_pc (t : Thread) (f : Fl) : (t.addFlags f).pc = t.pc := rfl
@[simp] theorem Thread.setPair_pc (t : Thread) (n v : Nat) : (t.setPair n v).pc = t.pc := by simp [Thread.setPair]

/-! ### Threads of a cell -/

@[simp] theorem Cell.thread?_setThread_self (x : Cell) (t : Nat) (y : Thread) : (x.setThread t y).thread? t = some y := by
  simp [Cell.thread?, Cell.setThread]

@[simp] theorem Cell.setThread_setThread (x : Cell) (t : Nat) (y z : Thread) :
    (x.setThread t y).setThread t z = x.setThread t z := by
  simp [Cell.setThread]

theorem Cell.modThread_of_thread? {x : Cell} {t : Nat} {y : Thread} (h : x.thread? t = some y) (f : Thread → Thread) :
    x.modThread t f = x.setThread t (f y) := by
  simp [Cell.modThread, h]

end Sys2Proof

namespace Sys2Proof.Machine

@[simp] theorem State.cell_setCell_self (s : State) (c : Nat) (x : Cell) : (s.setCell c x).cell c = x := by
  simp [State.cell, State.setCell]

theorem State.cell_setCell_ne (s : State) {c d : Nat} (x : Cell) (h : d ≠ c) : (s.setCell c x).cell d = s.cell d := by
  simp [State.cell, State.setCell, Tab.get_set_ne _ _ _ h]

@[simp] theorem State.setCell_setCell (s : State) (c : Nat) (x y : Cell) : (s.setCell c x).setCell c y = s.setCell c y := by
  simp [State.setCell]

theorem State.modThread_of_thread? {s : State} {c t : Nat} {y : Thread} (h : (s.cell c).thread? t = some y)
    (f : Thread → Thread) : s.modThread c t f = s.setCell c ((s.cell c).setThread t (f y)) := by
  simp [State.modThread, State.modCell, Cell.modThread_of_thread? h]

/-! ### Issue -/

/-- What `canRun` says. -/
theorem State.canRun_iff (s : State) (c : BitVec 9) (t : BitVec 10) (th : Thread) :
    s.canRun c t th = true ↔ s.cellRuns (s.cell c.toNat) = true ∧ (s.cell c.toNat).thread? t.toNat = some th ∧
      th.canIssue = true ∧ pastImage (s.imageLen (s.cell c.toNat)) th.pc.toNat = false := by
  simp [State.canRun, and_assoc]

@[simp] theorem State.ctx_c (s : State) (c : BitVec 9) (t : BitVec 10) (th : Thread) (f : BitVec 48) :
    (s.ctx c t th f).c = c.toNat := rfl
@[simp] theorem State.ctx_t (s : State) (c : BitVec 9) (t : BitVec 10) (th : Thread) (f : BitVec 48) :
    (s.ctx c t th f).t = t.toNat := rfl
@[simp] theorem State.ctx_x (s : State) (c : BitVec 9) (t : BitVec 10) (th : Thread) (f : BitVec 48) :
    (s.ctx c t th f).x = s.cell c.toNat := rfl
@[simp] theorem State.ctx_th (s : State) (c : BitVec 9) (t : BitVec 10) (th : Thread) (f : BitVec 48) :
    (s.ctx c t th f).th = th := rfl
@[simp] theorem State.ctx_f (s : State) (c : BitVec 9) (t : BitVec 10) (th : Thread) (f : BitVec 48) :
    (s.ctx c t th f).f = f.toNat := rfl

/-- Operand fields read alike from the word and from its number. -/
theorem fldOf_ctx (s : State) (c : BitVec 9) (t : BitVec 10) (th : Thread) (f : BitVec 48) (lo n : Nat) :
    fldOf (s.ctx c t th f) lo n = opField f lo n := by
  simp [fldOf, fieldOf, opField, BitVec.extractLsb'_toNat]

/-- What State.issue answers for a thread that can run, its fields legal: its operation's outcome. -/
theorem State.issue_of_canRun {s : State} {c : BitVec 9} {t : BitVec 10} {th : Thread} (f : BitVec 48) {bad : Ctx → Bool}
    (op : Ctx → State → Res) (h : s.canRun c t th = true) (hb : bad (s.ctx c t th f) = false) :
    s.issue c t f none bad op =
      match op (s.ctx c t th f) s with
      | .done s1 => s1.goOn c.toNat t.toNat (th.pc.toNat + 8)
      | .jump s1 target =>
        if target % 8 != 0 || pastImage (s.imageLen (s.cell c.toNat)) target then s.trapped c t 0x01 0 0
        else s1.goOn c.toNat t.toNat target
      | .wait s1 => s1
      | .trap s1 cause detail addr => s1.trapped c t cause detail addr := by
  obtain ⟨h1, h2, h3, h4⟩ := (State.canRun_iff s c t th).mp h
  simp only [State.ctx] at hb ⊢
  simp only [State.issue, h1, h2, h3, h4, hb, State.trapped]
  generalize op _ s = r
  cases r <;> simp

/-- An instruction of a thread that can run whose fields are not legal traps ILLEGAL (R99). -/
theorem State.issue_illegal {s : State} {c : BitVec 9} {t : BitVec 10} {th : Thread} (f : BitVec 48) (nd : Option Nat)
    {bad : Ctx → Bool} (op : Ctx → State → Res) (h : s.canRun c t th = true) (hb : bad (s.ctx c t th f) = true) :
    s.issue c t f nd bad op = s.trapped c t 0x02 0 0 := by
  obtain ⟨h1, h2, h3, h4⟩ := (State.canRun_iff s c t th).mp h
  simp only [State.ctx] at hb
  simp [State.issue, h1, h2, h3, h4, hb, State.trapped]

/-- A thread put in place and sent on to PC + 8 has retired. -/
theorem State.goOn_withThread (s : State) (c : BitVec 9) (t : BitVec 10) (y : Thread) {pc : BitVec 24} (hp : y.pc = pc) :
    (s.withThread c t y).goOn c.toNat t.toNat (pc.toNat + 8) = s.retire c t y := by
  subst hp
  have h : ((s.withThread c t y).cell c.toNat).thread? t.toNat = some y := by simp [State.withThread]
  rw [State.goOn, State.modThread_of_thread? h]
  simp [State.withThread, State.retire, Thread.stepped, BitVec.ofNat_add]

/-- An instruction that only changes its thread retires with the thread it gives. -/
theorem State.issue_onThread {s : State} {c : BitVec 9} {t : BitVec 10} {th : Thread} (f : BitVec 48) {bad : Ctx → Bool}
    (g : Ctx → Thread) (h : s.canRun c t th = true) (hb : bad (s.ctx c t th f) = false)
    (hpc : (g (s.ctx c t th f)).pc = th.pc) :
    s.issue c t f none bad (onThread g) = s.retire c t (g (s.ctx c t th f)) := by
  have h2 := ((State.canRun_iff s c t th).mp h).2.1
  rw [State.issue_of_canRun f _ h hb]
  simp only [onThread, State.ctx_c, State.ctx_t, State.modThread_of_thread? h2]
  exact State.goOn_withThread s c t _ hpc

/-- The same for an operation given on the state, when it is `.done` of a thread change. -/
theorem State.issue_modThread {s : State} {c : BitVec 9} {t : BitVec 10} {th : Thread} (f : BitVec 48) {bad : Ctx → Bool}
    {op : Ctx → State → Res} (g : Thread → Thread) (h : s.canRun c t th = true) (hb : bad (s.ctx c t th f) = false)
    (hop : op (s.ctx c t th f) s = .done (s.modThread c.toNat t.toNat g)) (hpc : (g th).pc = th.pc) :
    s.issue c t f none bad op = s.retire c t (g th) := by
  have h2 := ((State.canRun_iff s c t th).mp h).2.1
  rw [State.issue_of_canRun f _ h hb, hop]
  simp only [State.modThread_of_thread? h2]
  exact State.goOn_withThread s c t _ hpc

end Sys2Proof.Machine
end

