-- ==== Sys2Proof/Laws/State.lean ====
section
/-! SUPPORT. What each plain update of the state leaves as it was: one lemma per field per update, by unfolding the update.
Written from the list of fields of State. -/

namespace Sys2Proof.Machine

/-! ### State.wr changes `regs` only -/

@[simp] theorem State.wr_pending (s : State) (p o : Nat) (v : W32) : (s.wr p o v).pending = s.pending := rfl
@[simp] theorem State.wr_time (s : State) (p o : Nat) (v : W32) : (s.wr p o v).time = s.time := rfl
@[simp] theorem State.wr_cycles (s : State) (p o : Nat) (v : W32) : (s.wr p o v).cycles = s.cycles := rfl
@[simp] theorem State.wr_free (s : State) (p o : Nat) (v : W32) : (s.wr p o v).free = s.free := rfl
@[simp] theorem State.wr_out (s : State) (p o : Nat) (v : W32) : (s.wr p o v).out = s.out := rfl
@[simp] theorem State.wr_latch (s : State) (p o : Nat) (v : W32) : (s.wr p o v).latch = s.latch := rfl
@[simp] theorem State.wr_wait (s : State) (p o : Nat) (v : W32) : (s.wr p o v).wait = s.wait := rfl
@[simp] theorem State.wr_msixTab (s : State) (p o : Nat) (v : W32) : (s.wr p o v).msixTab = s.msixTab := rfl
@[simp] theorem State.wr_msix (s : State) (p o : Nat) (v : W32) : (s.wr p o v).msix = s.msix := rfl
@[simp] theorem State.wr_plots (s : State) (p o : Nat) (v : W32) : (s.wr p o v).plots = s.plots := rfl
@[simp] theorem State.wr_granules (s : State) (p o : Nat) (v : W32) : (s.wr p o v).granules = s.granules := rfl
@[simp] theorem State.wr_clearing (s : State) (p o : Nat) (v : W32) : (s.wr p o v).clearing = s.clearing := rfl
@[simp] theorem State.wr_windows (s : State) (p o : Nat) (v : W32) : (s.wr p o v).windows = s.windows := rfl
@[simp] theorem State.wr_publishing (s : State) (p o : Nat) (v : W32) : (s.wr p o v).publishing = s.publishing := rfl
@[simp] theorem State.wr_heldPublish (s : State) (p o : Nat) (v : W32) : (s.wr p o v).heldPublish = s.heldPublish := rfl
@[simp] theorem State.wr_mem (s : State) (p o : Nat) (v : W32) : (s.wr p o v).mem = s.mem := rfl
@[simp] theorem State.wr_wmeta (s : State) (p o : Nat) (v : W32) : (s.wr p o v).wmeta = s.wmeta := rfl
@[simp] theorem State.wr_summ (s : State) (p o : Nat) (v : W32) : (s.wr p o v).summ = s.summ := rfl
@[simp] theorem State.wr_stackTab (s : State) (p o : Nat) (v : W32) : (s.wr p o v).stackTab = s.stackTab := rfl
@[simp] theorem State.wr_repairFlash (s : State) (p o : Nat) (v : W32) : (s.wr p o v).repairFlash = s.repairFlash := rfl
@[simp] theorem State.wr_drives (s : State) (p o : Nat) (v : W32) : (s.wr p o v).drives = s.drives := rfl
@[simp] theorem State.wr_tags (s : State) (p o : Nat) (v : W32) : (s.wr p o v).tags = s.tags := rfl
@[simp] theorem State.wr_tagsFlash (s : State) (p o : Nat) (v : W32) : (s.wr p o v).tagsFlash = s.tagsFlash := rfl
@[simp] theorem State.wr_tagPages (s : State) (p o : Nat) (v : W32) : (s.wr p o v).tagPages = s.tagPages := rfl
@[simp] theorem State.wr_plotRecs (s : State) (p o : Nat) (v : W32) : (s.wr p o v).plotRecs = s.plotRecs := rfl
@[simp] theorem State.wr_cache (s : State) (p o : Nat) (v : W32) : (s.wr p o v).cache = s.cache := rfl
@[simp] theorem State.wr_cacheGrans (s : State) (p o : Nat) (v : W32) : (s.wr p o v).cacheGrans = s.cacheGrans := rfl
@[simp] theorem State.wr_cmem (s : State) (p o : Nat) (v : W32) : (s.wr p o v).cmem = s.cmem := rfl
@[simp] theorem State.wr_fills (s : State) (p o : Nat) (v : W32) : (s.wr p o v).fills = s.fills := rfl
@[simp] theorem State.wr_holds (s : State) (p o : Nat) (v : W32) : (s.wr p o v).holds = s.holds := rfl
@[simp] theorem State.wr_flash (s : State) (p o : Nat) (v : W32) : (s.wr p o v).flash = s.flash := rfl
@[simp] theorem State.wr_dealloc (s : State) (p o : Nat) (v : W32) : (s.wr p o v).dealloc = s.dealloc := rfl
@[simp] theorem State.wr_driveTries (s : State) (p o : Nat) (v : W32) : (s.wr p o v).driveTries = s.driveTries := rfl
@[simp] theorem State.wr_lruClock (s : State) (p o : Nat) (v : W32) : (s.wr p o v).lruClock = s.lruClock := rfl
@[simp] theorem State.wr_nextToken (s : State) (p o : Nat) (v : W32) : (s.wr p o v).nextToken = s.nextToken := rfl
@[simp] theorem State.wr_flushSeq (s : State) (p o : Nat) (v : W32) : (s.wr p o v).flushSeq = s.flushSeq := rfl
@[simp] theorem State.wr_tenants (s : State) (p o : Nat) (v : W32) : (s.wr p o v).tenants = s.tenants := rfl
@[simp] theorem State.wr_slots (s : State) (p o : Nat) (v : W32) : (s.wr p o v).slots = s.slots := rfl
@[simp] theorem State.wr_pairs (s : State) (p o : Nat) (v : W32) : (s.wr p o v).pairs = s.pairs := rfl
@[simp] theorem State.wr_allow (s : State) (p o : Nat) (v : W32) : (s.wr p o v).allow = s.allow := rfl
@[simp] theorem State.wr_transport (s : State) (p o : Nat) (v : W32) : (s.wr p o v).transport = s.transport := rfl
@[simp] theorem State.wr_nextKid (s : State) (p o : Nat) (v : W32) : (s.wr p o v).nextKid = s.nextKid := rfl
@[simp] theorem State.wr_spdm (s : State) (p o : Nat) (v : W32) : (s.wr p o v).spdm = s.spdm := rfl
@[simp] theorem State.wr_cells (s : State) (p o : Nat) (v : W32) : (s.wr p o v).cells = s.cells := rfl
@[simp] theorem State.wr_jobs (s : State) (p o : Nat) (v : W32) : (s.wr p o v).jobs = s.jobs := rfl
@[simp] theorem State.wr_kslots (s : State) (p o : Nat) (v : W32) : (s.wr p o v).kslots = s.kslots := rfl
@[simp] theorem State.wr_kload (s : State) (p o : Nat) (v : W32) : (s.wr p o v).kload = s.kload := rfl
@[simp] theorem State.wr_substs (s : State) (p o : Nat) (v : W32) : (s.wr p o v).substs = s.substs := rfl
@[simp] theorem State.wr_sqs (s : State) (p o : Nat) (v : W32) : (s.wr p o v).sqs = s.sqs := rfl
@[simp] theorem State.wr_cqs (s : State) (p o : Nat) (v : W32) : (s.wr p o v).cqs = s.cqs := rfl
@[simp] theorem State.wr_shares (s : State) (p o : Nat) (v : W32) : (s.wr p o v).shares = s.shares := rfl
@[simp] theorem State.wr_cmds (s : State) (p o : Nat) (v : W32) : (s.wr p o v).cmds = s.cmds := rfl
@[simp] theorem State.wr_nextCmd (s : State) (p o : Nat) (v : W32) : (s.wr p o v).nextCmd = s.nextCmd := rfl
@[simp] theorem State.wr_nextOrder (s : State) (p o : Nat) (v : W32) : (s.wr p o v).nextOrder = s.nextOrder := rfl
@[simp] theorem State.wr_vt (s : State) (p o : Nat) (v : W32) : (s.wr p o v).vt = s.vt := rfl
@[simp] theorem State.wr_calNow (s : State) (p o : Nat) (v : W32) : (s.wr p o v).calNow = s.calNow := rfl
@[simp] theorem State.wr_calendar (s : State) (p o : Nat) (v : W32) : (s.wr p o v).calendar = s.calendar := rfl
@[simp] theorem State.wr_overflow (s : State) (p o : Nat) (v : W32) : (s.wr p o v).overflow = s.overflow := rfl
@[simp] theorem State.wr_coll (s : State) (p o : Nat) (v : W32) : (s.wr p o v).coll = s.coll := rfl
@[simp] theorem State.wr_own (s : State) (p o : Nat) (v : W32) : (s.wr p o v).own = s.own := rfl
@[simp] theorem State.wr_nextTag (s : State) (p o : Nat) (v : W32) : (s.wr p o v).nextTag = s.nextTag := rfl
@[simp] theorem State.wr_wins (s : State) (p o : Nat) (v : W32) : (s.wr p o v).wins = s.wins := rfl
@[simp] theorem State.wr_xfers (s : State) (p o : Nat) (v : W32) : (s.wr p o v).xfers = s.xfers := rfl
@[simp] theorem State.wr_links (s : State) (p o : Nat) (v : W32) : (s.wr p o v).links = s.links := rfl
@[simp] theorem State.wr_lanes (s : State) (p o : Nat) (v : W32) : (s.wr p o v).lanes = s.lanes := rfl
@[simp] theorem State.wr_fences (s : State) (p o : Nat) (v : W32) : (s.wr p o v).fences = s.fences := rfl
@[simp] theorem State.wr_park (s : State) (p o : Nat) (v : W32) : (s.wr p o v).park = s.park := rfl
@[simp] theorem State.wr_marks (s : State) (p o : Nat) (v : W32) : (s.wr p o v).marks = s.marks := rfl
@[simp] theorem State.wr_xoffUs (s : State) (p o : Nat) (v : W32) : (s.wr p o v).xoffUs = s.xoffUs := rfl
@[simp] theorem State.wr_homeq (s : State) (p o : Nat) (v : W32) : (s.wr p o v).homeq = s.homeq := rfl
@[simp] theorem State.wr_deferred (s : State) (p o : Nat) (v : W32) : (s.wr p o v).deferred = s.deferred := rfl
@[simp] theorem State.wr_crossed (s : State) (p o : Nat) (v : W32) : (s.wr p o v).crossed = s.crossed := rfl
@[simp] theorem State.wr_recs (s : State) (p o : Nat) (v : W32) : (s.wr p o v).recs = s.recs := rfl
@[simp] theorem State.wr_txns (s : State) (p o : Nat) (v : W32) : (s.wr p o v).txns = s.txns := rfl
@[simp] theorem State.wr_lineHolds (s : State) (p o : Nat) (v : W32) : (s.wr p o v).lineHolds = s.lineHolds := rfl
@[simp] theorem State.wr_regionBits (s : State) (p o : Nat) (v : W32) : (s.wr p o v).regionBits = s.regionBits := rfl
@[simp] theorem State.wr_pred (s : State) (p o : Nat) (v : W32) : (s.wr p o v).pred = s.pred := rfl
@[simp] theorem State.wr_nearBy (s : State) (p o : Nat) (v : W32) : (s.wr p o v).nearBy = s.nearBy := rfl
@[simp] theorem State.wr_atomBuf (s : State) (p o : Nat) (v : W32) : (s.wr p o v).atomBuf = s.atomBuf := rfl
@[simp] theorem State.wr_spt (s : State) (p o : Nat) (v : W32) : (s.wr p o v).spt = s.spt := rfl
@[simp] theorem State.wr_nextRq (s : State) (p o : Nat) (v : W32) : (s.wr p o v).nextRq = s.nextRq := rfl
@[simp] theorem State.wr_leaves (s : State) (p o : Nat) (v : W32) : (s.wr p o v).leaves = s.leaves := rfl
@[simp] theorem State.wr_tlb (s : State) (p o : Nat) (v : W32) : (s.wr p o v).tlb = s.tlb := rfl
@[simp] theorem State.wr_faults (s : State) (p o : Nat) (v : W32) : (s.wr p o v).faults = s.faults := rfl
@[simp] theorem State.wr_nextFault (s : State) (p o : Nat) (v : W32) : (s.wr p o v).nextFault = s.nextFault := rfl
@[simp] theorem State.wr_faultQs (s : State) (p o : Nat) (v : W32) : (s.wr p o v).faultQs = s.faultQs := rfl
@[simp] theorem State.wr_shoots (s : State) (p o : Nat) (v : W32) : (s.wr p o v).shoots = s.shoots := rfl
@[simp] theorem State.wr_nextShoot (s : State) (p o : Nat) (v : W32) : (s.wr p o v).nextShoot = s.nextShoot := rfl
@[simp] theorem State.wr_journals (s : State) (p o : Nat) (v : W32) : (s.wr p o v).journals = s.journals := rfl
@[simp] theorem State.wr_channels (s : State) (p o : Nat) (v : W32) : (s.wr p o v).channels = s.channels := rfl
@[simp] theorem State.wr_txq (s : State) (p o : Nat) (v : W32) : (s.wr p o v).txq = s.txq := rfl
@[simp] theorem State.wr_rxq (s : State) (p o : Nat) (v : W32) : (s.wr p o v).rxq = s.rxq := rfl
@[simp] theorem State.wr_taken (s : State) (p o : Nat) (v : W32) : (s.wr p o v).taken = s.taken := rfl
@[simp] theorem State.wr_running (s : State) (p o : Nat) (v : W32) : (s.wr p o v).running = s.running := rfl
@[simp] theorem State.wr_pbuf (s : State) (p o : Nat) (v : W32) : (s.wr p o v).pbuf = s.pbuf := rfl
@[simp] theorem State.wr_staged (s : State) (p o : Nat) (v : W32) : (s.wr p o v).staged = s.staged := rfl
@[simp] theorem State.wr_fw (s : State) (p o : Nat) (v : W32) : (s.wr p o v).fw = s.fw := rfl
@[simp] theorem State.wr_fwFlash (s : State) (p o : Nat) (v : W32) : (s.wr p o v).fwFlash = s.fwFlash := rfl
@[simp] theorem State.wr_swapDue (s : State) (p o : Nat) (v : W32) : (s.wr p o v).swapDue = s.swapDue := rfl
@[simp] theorem State.wr_bar4Q (s : State) (p o : Nat) (v : W32) : (s.wr p o v).bar4Q = s.bar4Q := rfl
@[simp] theorem State.wr_i3cUp (s : State) (p o : Nat) (v : W32) : (s.wr p o v).i3cUp = s.i3cUp := rfl
@[simp] theorem State.wr_phase (s : State) (p o : Nat) (v : W32) : (s.wr p o v).phase = s.phase := rfl
@[simp] theorem State.wr_pins (s : State) (p o : Nat) (v : W32) : (s.wr p o v).pins = s.pins := rfl
@[simp] theorem State.wr_aclk (s : State) (p o : Nat) (v : W32) : (s.wr p o v).aclk = s.aclk := rfl
@[simp] theorem State.wr_fclk (s : State) (p o : Nat) (v : W32) : (s.wr p o v).fclk = s.fclk := rfl
@[simp] theorem State.wr_xtalCentre (s : State) (p o : Nat) (v : W32) : (s.wr p o v).xtalCentre = s.xtalCentre := rfl
@[simp] theorem State.wr_backup (s : State) (p o : Nat) (v : W32) : (s.wr p o v).backup = s.backup := rfl
@[simp] theorem State.wr_powerToken (s : State) (p o : Nat) (v : W32) : (s.wr p o v).powerToken = s.powerToken := rfl
@[simp] theorem State.wr_powerWait (s : State) (p o : Nat) (v : W32) : (s.wr p o v).powerWait = s.powerWait := rfl
@[simp] theorem State.wr_savedSleep (s : State) (p o : Nat) (v : W32) : (s.wr p o v).savedSleep = s.savedSleep := rfl
@[simp] theorem State.wr_frozen (s : State) (p o : Nat) (v : W32) : (s.wr p o v).frozen = s.frozen := rfl
@[simp] theorem State.wr_journalKey (s : State) (p o : Nat) (v : W32) : (s.wr p o v).journalKey = s.journalKey := rfl

/-! ### State.emit changes `out` only -/

@[simp] theorem State.emit_pending (s : State) (o : Output) : (s.emit o).pending = s.pending := rfl
@[simp] theorem State.emit_time (s : State) (o : Output) : (s.emit o).time = s.time := rfl
@[simp] theorem State.emit_cycles (s : State) (o : Output) : (s.emit o).cycles = s.cycles := rfl
@[simp] theorem State.emit_free (s : State) (o : Output) : (s.emit o).free = s.free := rfl
@[simp] theorem State.emit_regs (s : State) (o : Output) : (s.emit o).regs = s.regs := rfl
@[simp] theorem State.emit_latch (s : State) (o : Output) : (s.emit o).latch = s.latch := rfl
@[simp] theorem State.emit_wait (s : State) (o : Output) : (s.emit o).wait = s.wait := rfl
@[simp] theorem State.emit_msixTab (s : State) (o : Output) : (s.emit o).msixTab = s.msixTab := rfl
@[simp] theorem State.emit_msix (s : State) (o : Output) : (s.emit o).msix = s.msix := rfl
@[simp] theorem State.emit_plots (s : State) (o : Output) : (s.emit o).plots = s.plots := rfl
@[simp] theorem State.emit_granules (s : State) (o : Output) : (s.emit o).granules = s.granules := rfl
@[simp] theorem State.emit_clearing (s : State) (o : Output) : (s.emit o).clearing = s.clearing := rfl
@[simp] theorem State.emit_windows (s : State) (o : Output) : (s.emit o).windows = s.windows := rfl
@[simp] theorem State.emit_publishing (s : State) (o : Output) : (s.emit o).publishing = s.publishing := rfl
@[simp] theorem State.emit_heldPublish (s : State) (o : Output) : (s.emit o).heldPublish = s.heldPublish := rfl
@[simp] theorem State.emit_mem (s : State) (o : Output) : (s.emit o).mem = s.mem := rfl
@[simp] theorem State.emit_wmeta (s : State) (o : Output) : (s.emit o).wmeta = s.wmeta := rfl
@[simp] theorem State.emit_summ (s : State) (o : Output) : (s.emit o).summ = s.summ := rfl
@[simp] theorem State.emit_stackTab (s : State) (o : Output) : (s.emit o).stackTab = s.stackTab := rfl
@[simp] theorem State.emit_repairFlash (s : State) (o : Output) : (s.emit o).repairFlash = s.repairFlash := rfl
@[simp] theorem State.emit_drives (s : State) (o : Output) : (s.emit o).drives = s.drives := rfl
@[simp] theorem State.emit_tags (s : State) (o : Output) : (s.emit o).tags = s.tags := rfl
@[simp] theorem State.emit_tagsFlash (s : State) (o : Output) : (s.emit o).tagsFlash = s.tagsFlash := rfl
@[simp] theorem State.emit_tagPages (s : State) (o : Output) : (s.emit o).tagPages = s.tagPages := rfl
@[simp] theorem State.emit_plotRecs (s : State) (o : Output) : (s.emit o).plotRecs = s.plotRecs := rfl
@[simp] theorem State.emit_cache (s : State) (o : Output) : (s.emit o).cache = s.cache := rfl
@[simp] theorem State.emit_cacheGrans (s : State) (o : Output) : (s.emit o).cacheGrans = s.cacheGrans := rfl
@[simp] theorem State.emit_cmem (s : State) (o : Output) : (s.emit o).cmem = s.cmem := rfl
@[simp] theorem State.emit_fills (s : State) (o : Output) : (s.emit o).fills = s.fills := rfl
@[simp] theorem State.emit_holds (s : State) (o : Output) : (s.emit o).holds = s.holds := rfl
@[simp] theorem State.emit_flash (s : State) (o : Output) : (s.emit o).flash = s.flash := rfl
@[simp] theorem State.emit_dealloc (s : State) (o : Output) : (s.emit o).dealloc = s.dealloc := rfl
@[simp] theorem State.emit_driveTries (s : State) (o : Output) : (s.emit o).driveTries = s.driveTries := rfl
@[simp] theorem State.emit_lruClock (s : State) (o : Output) : (s.emit o).lruClock = s.lruClock := rfl
@[simp] theorem State.emit_nextToken (s : State) (o : Output) : (s.emit o).nextToken = s.nextToken := rfl
@[simp] theorem State.emit_flushSeq (s : State) (o : Output) : (s.emit o).flushSeq = s.flushSeq := rfl
@[simp] theorem State.emit_tenants (s : State) (o : Output) : (s.emit o).tenants = s.tenants := rfl
@[simp] theorem State.emit_slots (s : State) (o : Output) : (s.emit o).slots = s.slots := rfl
@[simp] theorem State.emit_pairs (s : State) (o : Output) : (s.emit o).pairs = s.pairs := rfl
@[simp] theorem State.emit_allow (s : State) (o : Output) : (s.emit o).allow = s.allow := rfl
@[simp] theorem State.emit_transport (s : State) (o : Output) : (s.emit o).transport = s.transport := rfl
@[simp] theorem State.emit_nextKid (s : State) (o : Output) : (s.emit o).nextKid = s.nextKid := rfl
@[simp] theorem State.emit_spdm (s : State) (o : Output) : (s.emit o).spdm = s.spdm := rfl
@[simp] theorem State.emit_cells (s : State) (o : Output) : (s.emit o).cells = s.cells := rfl
@[simp] theorem State.emit_jobs (s : State) (o : Output) : (s.emit o).jobs = s.jobs := rfl
@[simp] theorem State.emit_kslots (s : State) (o : Output) : (s.emit o).kslots = s.kslots := rfl
@[simp] theorem State.emit_kload (s : State) (o : Output) : (s.emit o).kload = s.kload := rfl
@[simp] theorem State.emit_substs (s : State) (o : Output) : (s.emit o).substs = s.substs := rfl
@[simp] theorem State.emit_sqs (s : State) (o : Output) : (s.emit o).sqs = s.sqs := rfl
@[simp] theorem State.emit_cqs (s : State) (o : Output) : (s.emit o).cqs = s.cqs := rfl
@[simp] theorem State.emit_shares (s : State) (o : Output) : (s.emit o).shares = s.shares := rfl
@[simp] theorem State.emit_cmds (s : State) (o : Output) : (s.emit o).cmds = s.cmds := rfl
@[simp] theorem State.emit_nextCmd (s : State) (o : Output) : (s.emit o).nextCmd = s.nextCmd := rfl
@[simp] theorem State.emit_nextOrder (s : State) (o : Output) : (s.emit o).nextOrder = s.nextOrder := rfl
@[simp] theorem State.emit_vt (s : State) (o : Output) : (s.emit o).vt = s.vt := rfl
@[simp] theorem State.emit_calNow (s : State) (o : Output) : (s.emit o).calNow = s.calNow := rfl
@[simp] theorem State.emit_calendar (s : State) (o : Output) : (s.emit o).calendar = s.calendar := rfl
@[simp] theorem State.emit_overflow (s : State) (o : Output) : (s.emit o).overflow = s.overflow := rfl
@[simp] theorem State.emit_coll (s : State) (o : Output) : (s.emit o).coll = s.coll := rfl
@[simp] theorem State.emit_own (s : State) (o : Output) : (s.emit o).own = s.own := rfl
@[simp] theorem State.emit_nextTag (s : State) (o : Output) : (s.emit o).nextTag = s.nextTag := rfl
@[simp] theorem State.emit_wins (s : State) (o : Output) : (s.emit o).wins = s.wins := rfl
@[simp] theorem State.emit_xfers (s : State) (o : Output) : (s.emit o).xfers = s.xfers := rfl
@[simp] theorem State.emit_links (s : State) (o : Output) : (s.emit o).links = s.links := rfl
@[simp] theorem State.emit_lanes (s : State) (o : Output) : (s.emit o).lanes = s.lanes := rfl
@[simp] theorem State.emit_fences (s : State) (o : Output) : (s.emit o).fences = s.fences := rfl
@[simp] theorem State.emit_park (s : State) (o : Output) : (s.emit o).park = s.park := rfl
@[simp] theorem State.emit_marks (s : State) (o : Output) : (s.emit o).marks = s.marks := rfl
@[simp] theorem State.emit_xoffUs (s : State) (o : Output) : (s.emit o).xoffUs = s.xoffUs := rfl
@[simp] theorem State.emit_homeq (s : State) (o : Output) : (s.emit o).homeq = s.homeq := rfl
@[simp] theorem State.emit_deferred (s : State) (o : Output) : (s.emit o).deferred = s.deferred := rfl
@[simp] theorem State.emit_crossed (s : State) (o : Output) : (s.emit o).crossed = s.crossed := rfl
@[simp] theorem State.emit_recs (s : State) (o : Output) : (s.emit o).recs = s.recs := rfl
@[simp] theorem State.emit_txns (s : State) (o : Output) : (s.emit o).txns = s.txns := rfl
@[simp] theorem State.emit_lineHolds (s : State) (o : Output) : (s.emit o).lineHolds = s.lineHolds := rfl
@[simp] theorem State.emit_regionBits (s : State) (o : Output) : (s.emit o).regionBits = s.regionBits := rfl
@[simp] theorem State.emit_pred (s : State) (o : Output) : (s.emit o).pred = s.pred := rfl
@[simp] theorem State.emit_nearBy (s : State) (o : Output) : (s.emit o).nearBy = s.nearBy := rfl
@[simp] theorem State.emit_atomBuf (s : State) (o : Output) : (s.emit o).atomBuf = s.atomBuf := rfl
@[simp] theorem State.emit_spt (s : State) (o : Output) : (s.emit o).spt = s.spt := rfl
@[simp] theorem State.emit_nextRq (s : State) (o : Output) : (s.emit o).nextRq = s.nextRq := rfl
@[simp] theorem State.emit_leaves (s : State) (o : Output) : (s.emit o).leaves = s.leaves := rfl
@[simp] theorem State.emit_tlb (s : State) (o : Output) : (s.emit o).tlb = s.tlb := rfl
@[simp] theorem State.emit_faults (s : State) (o : Output) : (s.emit o).faults = s.faults := rfl
@[simp] theorem State.emit_nextFault (s : State) (o : Output) : (s.emit o).nextFault = s.nextFault := rfl
@[simp] theorem State.emit_faultQs (s : State) (o : Output) : (s.emit o).faultQs = s.faultQs := rfl
@[simp] theorem State.emit_shoots (s : State) (o : Output) : (s.emit o).shoots = s.shoots := rfl
@[simp] theorem State.emit_nextShoot (s : State) (o : Output) : (s.emit o).nextShoot = s.nextShoot := rfl
@[simp] theorem State.emit_journals (s : State) (o : Output) : (s.emit o).journals = s.journals := rfl
@[simp] theorem State.emit_channels (s : State) (o : Output) : (s.emit o).channels = s.channels := rfl
@[simp] theorem State.emit_txq (s : State) (o : Output) : (s.emit o).txq = s.txq := rfl
@[simp] theorem State.emit_rxq (s : State) (o : Output) : (s.emit o).rxq = s.rxq := rfl
@[simp] theorem State.emit_taken (s : State) (o : Output) : (s.emit o).taken = s.taken := rfl
@[simp] theorem State.emit_running (s : State) (o : Output) : (s.emit o).running = s.running := rfl
@[simp] theorem State.emit_pbuf (s : State) (o : Output) : (s.emit o).pbuf = s.pbuf := rfl
@[simp] theorem State.emit_staged (s : State) (o : Output) : (s.emit o).staged = s.staged := rfl
@[simp] theorem State.emit_fw (s : State) (o : Output) : (s.emit o).fw = s.fw := rfl
@[simp] theorem State.emit_fwFlash (s : State) (o : Output) : (s.emit o).fwFlash = s.fwFlash := rfl
@[simp] theorem State.emit_swapDue (s : State) (o : Output) : (s.emit o).swapDue = s.swapDue := rfl
@[simp] theorem State.emit_bar4Q (s : State) (o : Output) : (s.emit o).bar4Q = s.bar4Q := rfl
@[simp] theorem State.emit_i3cUp (s : State) (o : Output) : (s.emit o).i3cUp = s.i3cUp := rfl
@[simp] theorem State.emit_phase (s : State) (o : Output) : (s.emit o).phase = s.phase := rfl
@[simp] theorem State.emit_pins (s : State) (o : Output) : (s.emit o).pins = s.pins := rfl
@[simp] theorem State.emit_aclk (s : State) (o : Output) : (s.emit o).aclk = s.aclk := rfl
@[simp] theorem State.emit_fclk (s : State) (o : Output) : (s.emit o).fclk = s.fclk := rfl
@[simp] theorem State.emit_xtalCentre (s : State) (o : Output) : (s.emit o).xtalCentre = s.xtalCentre := rfl
@[simp] theorem State.emit_backup (s : State) (o : Output) : (s.emit o).backup = s.backup := rfl
@[simp] theorem State.emit_powerToken (s : State) (o : Output) : (s.emit o).powerToken = s.powerToken := rfl
@[simp] theorem State.emit_powerWait (s : State) (o : Output) : (s.emit o).powerWait = s.powerWait := rfl
@[simp] theorem State.emit_savedSleep (s : State) (o : Output) : (s.emit o).savedSleep = s.savedSleep := rfl
@[simp] theorem State.emit_frozen (s : State) (o : Output) : (s.emit o).frozen = s.frozen := rfl
@[simp] theorem State.emit_journalKey (s : State) (o : Output) : (s.emit o).journalKey = s.journalKey := rfl

/-! ### State.setCell changes `cells` only -/

@[simp] theorem State.setCell_pending (s : State) (c : Nat) (x : Cell) : (s.setCell c x).pending = s.pending := rfl
@[simp] theorem State.setCell_time (s : State) (c : Nat) (x : Cell) : (s.setCell c x).time = s.time := rfl
@[simp] theorem State.setCell_cycles (s : State) (c : Nat) (x : Cell) : (s.setCell c x).cycles = s.cycles := rfl
@[simp] theorem State.setCell_free (s : State) (c : Nat) (x : Cell) : (s.setCell c x).free = s.free := rfl
@[simp] theorem State.setCell_out (s : State) (c : Nat) (x : Cell) : (s.setCell c x).out = s.out := rfl
@[simp] theorem State.setCell_regs (s : State) (c : Nat) (x : Cell) : (s.setCell c x).regs = s.regs := rfl
@[simp] theorem State.setCell_latch (s : State) (c : Nat) (x : Cell) : (s.setCell c x).latch = s.latch := rfl
@[simp] theorem State.setCell_wait (s : State) (c : Nat) (x : Cell) : (s.setCell c x).wait = s.wait := rfl
@[simp] theorem State.setCell_msixTab (s : State) (c : Nat) (x : Cell) : (s.setCell c x).msixTab = s.msixTab := rfl
@[simp] theorem State.setCell_msix (s : State) (c : Nat) (x : Cell) : (s.setCell c x).msix = s.msix := rfl
@[simp] theorem State.setCell_plots (s : State) (c : Nat) (x : Cell) : (s.setCell c x).plots = s.plots := rfl
@[simp] theorem State.setCell_granules (s : State) (c : Nat) (x : Cell) : (s.setCell c x).granules = s.granules := rfl
@[simp] theorem State.setCell_clearing (s : State) (c : Nat) (x : Cell) : (s.setCell c x).clearing = s.clearing := rfl
@[simp] theorem State.setCell_windows (s : State) (c : Nat) (x : Cell) : (s.setCell c x).windows = s.windows := rfl
@[simp] theorem State.setCell_publishing (s : State) (c : Nat) (x : Cell) : (s.setCell c x).publishing = s.publishing := rfl
@[simp] theorem State.setCell_heldPublish (s : State) (c : Nat) (x : Cell) : (s.setCell c x).heldPublish = s.heldPublish := rfl
@[simp] theorem State.setCell_mem (s : State) (c : Nat) (x : Cell) : (s.setCell c x).mem = s.mem := rfl
@[simp] theorem State.setCell_wmeta (s : State) (c : Nat) (x : Cell) : (s.setCell c x).wmeta = s.wmeta := rfl
@[simp] theorem State.setCell_summ (s : State) (c : Nat) (x : Cell) : (s.setCell c x).summ = s.summ := rfl
@[simp] theorem State.setCell_stackTab (s : State) (c : Nat) (x : Cell) : (s.setCell c x).stackTab = s.stackTab := rfl
@[simp] theorem State.setCell_repairFlash (s : State) (c : Nat) (x : Cell) : (s.setCell c x).repairFlash = s.repairFlash := rfl
@[simp] theorem State.setCell_drives (s : State) (c : Nat) (x : Cell) : (s.setCell c x).drives = s.drives := rfl
@[simp] theorem State.setCell_tags (s : State) (c : Nat) (x : Cell) : (s.setCell c x).tags = s.tags := rfl
@[simp] theorem State.setCell_tagsFlash (s : State) (c : Nat) (x : Cell) : (s.setCell c x).tagsFlash = s.tagsFlash := rfl
@[simp] theorem State.setCell_tagPages (s : State) (c : Nat) (x : Cell) : (s.setCell c x).tagPages = s.tagPages := rfl
@[simp] theorem State.setCell_plotRecs (s : State) (c : Nat) (x : Cell) : (s.setCell c x).plotRecs = s.plotRecs := rfl
@[simp] theorem State.setCell_cache (s : State) (c : Nat) (x : Cell) : (s.setCell c x).cache = s.cache := rfl
@[simp] theorem State.setCell_cacheGrans (s : State) (c : Nat) (x : Cell) : (s.setCell c x).cacheGrans = s.cacheGrans := rfl
@[simp] theorem State.setCell_cmem (s : State) (c : Nat) (x : Cell) : (s.setCell c x).cmem = s.cmem := rfl
@[simp] theorem State.setCell_fills (s : State) (c : Nat) (x : Cell) : (s.setCell c x).fills = s.fills := rfl
@[simp] theorem State.setCell_holds (s : State) (c : Nat) (x : Cell) : (s.setCell c x).holds = s.holds := rfl
@[simp] theorem State.setCell_flash (s : State) (c : Nat) (x : Cell) : (s.setCell c x).flash = s.flash := rfl
@[simp] theorem State.setCell_dealloc (s : State) (c : Nat) (x : Cell) : (s.setCell c x).dealloc = s.dealloc := rfl
@[simp] theorem State.setCell_driveTries (s : State) (c : Nat) (x : Cell) : (s.setCell c x).driveTries = s.driveTries := rfl
@[simp] theorem State.setCell_lruClock (s : State) (c : Nat) (x : Cell) : (s.setCell c x).lruClock = s.lruClock := rfl
@[simp] theorem State.setCell_nextToken (s : State) (c : Nat) (x : Cell) : (s.setCell c x).nextToken = s.nextToken := rfl
@[simp] theorem State.setCell_flushSeq (s : State) (c : Nat) (x : Cell) : (s.setCell c x).flushSeq = s.flushSeq := rfl
@[simp] theorem State.setCell_tenants (s : State) (c : Nat) (x : Cell) : (s.setCell c x).tenants = s.tenants := rfl
@[simp] theorem State.setCell_slots (s : State) (c : Nat) (x : Cell) : (s.setCell c x).slots = s.slots := rfl
@[simp] theorem State.setCell_pairs (s : State) (c : Nat) (x : Cell) : (s.setCell c x).pairs = s.pairs := rfl
@[simp] theorem State.setCell_allow (s : State) (c : Nat) (x : Cell) : (s.setCell c x).allow = s.allow := rfl
@[simp] theorem State.setCell_transport (s : State) (c : Nat) (x : Cell) : (s.setCell c x).transport = s.transport := rfl
@[simp] theorem State.setCell_nextKid (s : State) (c : Nat) (x : Cell) : (s.setCell c x).nextKid = s.nextKid := rfl
@[simp] theorem State.setCell_spdm (s : State) (c : Nat) (x : Cell) : (s.setCell c x).spdm = s.spdm := rfl
@[simp] theorem State.setCell_jobs (s : State) (c : Nat) (x : Cell) : (s.setCell c x).jobs = s.jobs := rfl
@[simp] theorem State.setCell_kslots (s : State) (c : Nat) (x : Cell) : (s.setCell c x).kslots = s.kslots := rfl
@[simp] theorem State.setCell_kload (s : State) (c : Nat) (x : Cell) : (s.setCell c x).kload = s.kload := rfl
@[simp] theorem State.setCell_substs (s : State) (c : Nat) (x : Cell) : (s.setCell c x).substs = s.substs := rfl
@[simp] theorem State.setCell_sqs (s : State) (c : Nat) (x : Cell) : (s.setCell c x).sqs = s.sqs := rfl
@[simp] theorem State.setCell_cqs (s : State) (c : Nat) (x : Cell) : (s.setCell c x).cqs = s.cqs := rfl
@[simp] theorem State.setCell_shares (s : State) (c : Nat) (x : Cell) : (s.setCell c x).shares = s.shares := rfl
@[simp] theorem State.setCell_cmds (s : State) (c : Nat) (x : Cell) : (s.setCell c x).cmds = s.cmds := rfl
@[simp] theorem State.setCell_nextCmd (s : State) (c : Nat) (x : Cell) : (s.setCell c x).nextCmd = s.nextCmd := rfl
@[simp] theorem State.setCell_nextOrder (s : State) (c : Nat) (x : Cell) : (s.setCell c x).nextOrder = s.nextOrder := rfl
@[simp] theorem State.setCell_vt (s : State) (c : Nat) (x : Cell) : (s.setCell c x).vt = s.vt := rfl
@[simp] theorem State.setCell_calNow (s : State) (c : Nat) (x : Cell) : (s.setCell c x).calNow = s.calNow := rfl
@[simp] theorem State.setCell_calendar (s : State) (c : Nat) (x : Cell) : (s.setCell c x).calendar = s.calendar := rfl
@[simp] theorem State.setCell_overflow (s : State) (c : Nat) (x : Cell) : (s.setCell c x).overflow = s.overflow := rfl
@[simp] theorem State.setCell_coll (s : State) (c : Nat) (x : Cell) : (s.setCell c x).coll = s.coll := rfl
@[simp] theorem State.setCell_own (s : State) (c : Nat) (x : Cell) : (s.setCell c x).own = s.own := rfl
@[simp] theorem State.setCell_nextTag (s : State) (c : Nat) (x : Cell) : (s.setCell c x).nextTag = s.nextTag := rfl
@[simp] theorem State.setCell_wins (s : State) (c : Nat) (x : Cell) : (s.setCell c x).wins = s.wins := rfl
@[simp] theorem State.setCell_xfers (s : State) (c : Nat) (x : Cell) : (s.setCell c x).xfers = s.xfers := rfl
@[simp] theorem State.setCell_links (s : State) (c : Nat) (x : Cell) : (s.setCell c x).links = s.links := rfl
@[simp] theorem State.setCell_lanes (s : State) (c : Nat) (x : Cell) : (s.setCell c x).lanes = s.lanes := rfl
@[simp] theorem State.setCell_fences (s : State) (c : Nat) (x : Cell) : (s.setCell c x).fences = s.fences := rfl
@[simp] theorem State.setCell_park (s : State) (c : Nat) (x : Cell) : (s.setCell c x).park = s.park := rfl
@[simp] theorem State.setCell_marks (s : State) (c : Nat) (x : Cell) : (s.setCell c x).marks = s.marks := rfl
@[simp] theorem State.setCell_xoffUs (s : State) (c : Nat) (x : Cell) : (s.setCell c x).xoffUs = s.xoffUs := rfl
@[simp] theorem State.setCell_homeq (s : State) (c : Nat) (x : Cell) : (s.setCell c x).homeq = s.homeq := rfl
@[simp] theorem State.setCell_deferred (s : State) (c : Nat) (x : Cell) : (s.setCell c x).deferred = s.deferred := rfl
@[simp] theorem State.setCell_crossed (s : State) (c : Nat) (x : Cell) : (s.setCell c x).crossed = s.crossed := rfl
@[simp] theorem State.setCell_recs (s : State) (c : Nat) (x : Cell) : (s.setCell c x).recs = s.recs := rfl
@[simp] theorem State.setCell_txns (s : State) (c : Nat) (x : Cell) : (s.setCell c x).txns = s.txns := rfl
@[simp] theorem State.setCell_lineHolds (s : State) (c : Nat) (x : Cell) : (s.setCell c x).lineHolds = s.lineHolds := rfl
@[simp] theorem State.setCell_regionBits (s : State) (c : Nat) (x : Cell) : (s.setCell c x).regionBits = s.regionBits := rfl
@[simp] theorem State.setCell_pred (s : State) (c : Nat) (x : Cell) : (s.setCell c x).pred = s.pred := rfl
@[simp] theorem State.setCell_nearBy (s : State) (c : Nat) (x : Cell) : (s.setCell c x).nearBy = s.nearBy := rfl
@[simp] theorem State.setCell_atomBuf (s : State) (c : Nat) (x : Cell) : (s.setCell c x).atomBuf = s.atomBuf := rfl
@[simp] theorem State.setCell_spt (s : State) (c : Nat) (x : Cell) : (s.setCell c x).spt = s.spt := rfl
@[simp] theorem State.setCell_nextRq (s : State) (c : Nat) (x : Cell) : (s.setCell c x).nextRq = s.nextRq := rfl
@[simp] theorem State.setCell_leaves (s : State) (c : Nat) (x : Cell) : (s.setCell c x).leaves = s.leaves := rfl
@[simp] theorem State.setCell_tlb (s : State) (c : Nat) (x : Cell) : (s.setCell c x).tlb = s.tlb := rfl
@[simp] theorem State.setCell_faults (s : State) (c : Nat) (x : Cell) : (s.setCell c x).faults = s.faults := rfl
@[simp] theorem State.setCell_nextFault (s : State) (c : Nat) (x : Cell) : (s.setCell c x).nextFault = s.nextFault := rfl
@[simp] theorem State.setCell_faultQs (s : State) (c : Nat) (x : Cell) : (s.setCell c x).faultQs = s.faultQs := rfl
@[simp] theorem State.setCell_shoots (s : State) (c : Nat) (x : Cell) : (s.setCell c x).shoots = s.shoots := rfl
@[simp] theorem State.setCell_nextShoot (s : State) (c : Nat) (x : Cell) : (s.setCell c x).nextShoot = s.nextShoot := rfl
@[simp] theorem State.setCell_journals (s : State) (c : Nat) (x : Cell) : (s.setCell c x).journals = s.journals := rfl
@[simp] theorem State.setCell_channels (s : State) (c : Nat) (x : Cell) : (s.setCell c x).channels = s.channels := rfl
@[simp] theorem State.setCell_txq (s : State) (c : Nat) (x : Cell) : (s.setCell c x).txq = s.txq := rfl
@[simp] theorem State.setCell_rxq (s : State) (c : Nat) (x : Cell) : (s.setCell c x).rxq = s.rxq := rfl
@[simp] theorem State.setCell_taken (s : State) (c : Nat) (x : Cell) : (s.setCell c x).taken = s.taken := rfl
@[simp] theorem State.setCell_running (s : State) (c : Nat) (x : Cell) : (s.setCell c x).running = s.running := rfl
@[simp] theorem State.setCell_pbuf (s : State) (c : Nat) (x : Cell) : (s.setCell c x).pbuf = s.pbuf := rfl
@[simp] theorem State.setCell_staged (s : State) (c : Nat) (x : Cell) : (s.setCell c x).staged = s.staged := rfl
@[simp] theorem State.setCell_fw (s : State) (c : Nat) (x : Cell) : (s.setCell c x).fw = s.fw := rfl
@[simp] theorem State.setCell_fwFlash (s : State) (c : Nat) (x : Cell) : (s.setCell c x).fwFlash = s.fwFlash := rfl
@[simp] theorem State.setCell_swapDue (s : State) (c : Nat) (x : Cell) : (s.setCell c x).swapDue = s.swapDue := rfl
@[simp] theorem State.setCell_bar4Q (s : State) (c : Nat) (x : Cell) : (s.setCell c x).bar4Q = s.bar4Q := rfl
@[simp] theorem State.setCell_i3cUp (s : State) (c : Nat) (x : Cell) : (s.setCell c x).i3cUp = s.i3cUp := rfl
@[simp] theorem State.setCell_phase (s : State) (c : Nat) (x : Cell) : (s.setCell c x).phase = s.phase := rfl
@[simp] theorem State.setCell_pins (s : State) (c : Nat) (x : Cell) : (s.setCell c x).pins = s.pins := rfl
@[simp] theorem State.setCell_aclk (s : State) (c : Nat) (x : Cell) : (s.setCell c x).aclk = s.aclk := rfl
@[simp] theorem State.setCell_fclk (s : State) (c : Nat) (x : Cell) : (s.setCell c x).fclk = s.fclk := rfl
@[simp] theorem State.setCell_xtalCentre (s : State) (c : Nat) (x : Cell) : (s.setCell c x).xtalCentre = s.xtalCentre := rfl
@[simp] theorem State.setCell_backup (s : State) (c : Nat) (x : Cell) : (s.setCell c x).backup = s.backup := rfl
@[simp] theorem State.setCell_powerToken (s : State) (c : Nat) (x : Cell) : (s.setCell c x).powerToken = s.powerToken := rfl
@[simp] theorem State.setCell_powerWait (s : State) (c : Nat) (x : Cell) : (s.setCell c x).powerWait = s.powerWait := rfl
@[simp] theorem State.setCell_savedSleep (s : State) (c : Nat) (x : Cell) : (s.setCell c x).savedSleep = s.savedSleep := rfl
@[simp] theorem State.setCell_frozen (s : State) (c : Nat) (x : Cell) : (s.setCell c x).frozen = s.frozen := rfl
@[simp] theorem State.setCell_journalKey (s : State) (c : Nat) (x : Cell) : (s.setCell c x).journalKey = s.journalKey := rfl

/-! ### State.setPlot changes `plots` only -/

@[simp] theorem State.setPlot_pending (s : State) (h : BitVec 16) (x : Plot) : (s.setPlot h x).pending = s.pending := rfl
@[simp] theorem State.setPlot_time (s : State) (h : BitVec 16) (x : Plot) : (s.setPlot h x).time = s.time := rfl
@[simp] theorem State.setPlot_cycles (s : State) (h : BitVec 16) (x : Plot) : (s.setPlot h x).cycles = s.cycles := rfl
@[simp] theorem State.setPlot_free (s : State) (h : BitVec 16) (x : Plot) : (s.setPlot h x).free = s.free := rfl
@[simp] theorem State.setPlot_out (s : State) (h : BitVec 16) (x : Plot) : (s.setPlot h x).out = s.out := rfl
@[simp] theorem State.setPlot_regs (s : State) (h : BitVec 16) (x : Plot) : (s.setPlot h x).regs = s.regs := rfl
@[simp] theorem State.setPlot_latch (s : State) (h : BitVec 16) (x : Plot) : (s.setPlot h x).latch = s.latch := rfl
@[simp] theorem State.setPlot_wait (s : State) (h : BitVec 16) (x : Plot) : (s.setPlot h x).wait = s.wait := rfl
@[simp] theorem State.setPlot_msixTab (s : State) (h : BitVec 16) (x : Plot) : (s.setPlot h x).msixTab = s.msixTab := rfl
@[simp] theorem State.setPlot_msix (s : State) (h : BitVec 16) (x : Plot) : (s.setPlot h x).msix = s.msix := rfl
@[simp] theorem State.setPlot_granules (s : State) (h : BitVec 16) (x : Plot) : (s.setPlot h x).granules = s.granules := rfl
@[simp] theorem State.setPlot_clearing (s : State) (h : BitVec 16) (x : Plot) : (s.setPlot h x).clearing = s.clearing := rfl
@[simp] theorem State.setPlot_windows (s : State) (h : BitVec 16) (x : Plot) : (s.setPlot h x).windows = s.windows := rfl
@[simp] theorem State.setPlot_publishing (s : State) (h : BitVec 16) (x : Plot) : (s.setPlot h x).publishing = s.publishing := rfl
@[simp] theorem State.setPlot_heldPublish (s : State) (h : BitVec 16) (x : Plot) : (s.setPlot h x).heldPublish = s.heldPublish := rfl
@[simp] theorem State.setPlot_mem (s : State) (h : BitVec 16) (x : Plot) : (s.setPlot h x).mem = s.mem := rfl
@[simp] theorem State.setPlot_wmeta (s : State) (h : BitVec 16) (x : Plot) : (s.setPlot h x).wmeta = s.wmeta := rfl
@[simp] theorem State.setPlot_summ (s : State) (h : BitVec 16) (x : Plot) : (s.setPlot h x).summ = s.summ := rfl
@[simp] theorem State.setPlot_stackTab (s : State) (h : BitVec 16) (x : Plot) : (s.setPlot h x).stackTab = s.stackTab := rfl
@[simp] theorem State.setPlot_repairFlash (s : State) (h : BitVec 16) (x : Plot) : (s.setPlot h x).repairFlash = s.repairFlash := rfl
@[simp] theorem State.setPlot_drives (s : State) (h : BitVec 16) (x : Plot) : (s.setPlot h x).drives = s.drives := rfl
@[simp] theorem State.setPlot_tags (s : State) (h : BitVec 16) (x : Plot) : (s.setPlot h x).tags = s.tags := rfl
@[simp] theorem State.setPlot_tagsFlash (s : State) (h : BitVec 16) (x : Plot) : (s.setPlot h x).tagsFlash = s.tagsFlash := rfl
@[simp] theorem State.setPlot_tagPages (s : State) (h : BitVec 16) (x : Plot) : (s.setPlot h x).tagPages = s.tagPages := rfl
@[simp] theorem State.setPlot_plotRecs (s : State) (h : BitVec 16) (x : Plot) : (s.setPlot h x).plotRecs = s.plotRecs := rfl
@[simp] theorem State.setPlot_cache (s : State) (h : BitVec 16) (x : Plot) : (s.setPlot h x).cache = s.cache := rfl
@[simp] theorem State.setPlot_cacheGrans (s : State) (h : BitVec 16) (x : Plot) : (s.setPlot h x).cacheGrans = s.cacheGrans := rfl
@[simp] theorem State.setPlot_cmem (s : State) (h : BitVec 16) (x : Plot) : (s.setPlot h x).cmem = s.cmem := rfl
@[simp] theorem State.setPlot_fills (s : State) (h : BitVec 16) (x : Plot) : (s.setPlot h x).fills = s.fills := rfl
@[simp] theorem State.setPlot_holds (s : State) (h : BitVec 16) (x : Plot) : (s.setPlot h x).holds = s.holds := rfl
@[simp] theorem State.setPlot_flash (s : State) (h : BitVec 16) (x : Plot) : (s.setPlot h x).flash = s.flash := rfl
@[simp] theorem State.setPlot_dealloc (s : State) (h : BitVec 16) (x : Plot) : (s.setPlot h x).dealloc = s.dealloc := rfl
@[simp] theorem State.setPlot_driveTries (s : State) (h : BitVec 16) (x : Plot) : (s.setPlot h x).driveTries = s.driveTries := rfl
@[simp] theorem State.setPlot_lruClock (s : State) (h : BitVec 16) (x : Plot) : (s.setPlot h x).lruClock = s.lruClock := rfl
@[simp] theorem State.setPlot_nextToken (s : State) (h : BitVec 16) (x : Plot) : (s.setPlot h x).nextToken = s.nextToken := rfl
@[simp] theorem State.setPlot_flushSeq (s : State) (h : BitVec 16) (x : Plot) : (s.setPlot h x).flushSeq = s.flushSeq := rfl
@[simp] theorem State.setPlot_tenants (s : State) (h : BitVec 16) (x : Plot) : (s.setPlot h x).tenants = s.tenants := rfl
@[simp] theorem State.setPlot_slots (s : State) (h : BitVec 16) (x : Plot) : (s.setPlot h x).slots = s.slots := rfl
@[simp] theorem State.setPlot_pairs (s : State) (h : BitVec 16) (x : Plot) : (s.setPlot h x).pairs = s.pairs := rfl
@[simp] theorem State.setPlot_allow (s : State) (h : BitVec 16) (x : Plot) : (s.setPlot h x).allow = s.allow := rfl
@[simp] theorem State.setPlot_transport (s : State) (h : BitVec 16) (x : Plot) : (s.setPlot h x).transport = s.transport := rfl
@[simp] theorem State.setPlot_nextKid (s : State) (h : BitVec 16) (x : Plot) : (s.setPlot h x).nextKid = s.nextKid := rfl
@[simp] theorem State.setPlot_spdm (s : State) (h : BitVec 16) (x : Plot) : (s.setPlot h x).spdm = s.spdm := rfl
@[simp] theorem State.setPlot_cells (s : State) (h : BitVec 16) (x : Plot) : (s.setPlot h x).cells = s.cells := rfl
@[simp] theorem State.setPlot_jobs (s : State) (h : BitVec 16) (x : Plot) : (s.setPlot h x).jobs = s.jobs := rfl
@[simp] theorem State.setPlot_kslots (s : State) (h : BitVec 16) (x : Plot) : (s.setPlot h x).kslots = s.kslots := rfl
@[simp] theorem State.setPlot_kload (s : State) (h : BitVec 16) (x : Plot) : (s.setPlot h x).kload = s.kload := rfl
@[simp] theorem State.setPlot_substs (s : State) (h : BitVec 16) (x : Plot) : (s.setPlot h x).substs = s.substs := rfl
@[simp] theorem State.setPlot_sqs (s : State) (h : BitVec 16) (x : Plot) : (s.setPlot h x).sqs = s.sqs := rfl
@[simp] theorem State.setPlot_cqs (s : State) (h : BitVec 16) (x : Plot) : (s.setPlot h x).cqs = s.cqs := rfl
@[simp] theorem State.setPlot_shares (s : State) (h : BitVec 16) (x : Plot) : (s.setPlot h x).shares = s.shares := rfl
@[simp] theorem State.setPlot_cmds (s : State) (h : BitVec 16) (x : Plot) : (s.setPlot h x).cmds = s.cmds := rfl
@[simp] theorem State.setPlot_nextCmd (s : State) (h : BitVec 16) (x : Plot) : (s.setPlot h x).nextCmd = s.nextCmd := rfl
@[simp] theorem State.setPlot_nextOrder (s : State) (h : BitVec 16) (x : Plot) : (s.setPlot h x).nextOrder = s.nextOrder := rfl
@[simp] theorem State.setPlot_vt (s : State) (h : BitVec 16) (x : Plot) : (s.setPlot h x).vt = s.vt := rfl
@[simp] theorem State.setPlot_calNow (s : State) (h : BitVec 16) (x : Plot) : (s.setPlot h x).calNow = s.calNow := rfl
@[simp] theorem State.setPlot_calendar (s : State) (h : BitVec 16) (x : Plot) : (s.setPlot h x).calendar = s.calendar := rfl
@[simp] theorem State.setPlot_overflow (s : State) (h : BitVec 16) (x : Plot) : (s.setPlot h x).overflow = s.overflow := rfl
@[simp] theorem State.setPlot_coll (s : State) (h : BitVec 16) (x : Plot) : (s.setPlot h x).coll = s.coll := rfl
@[simp] theorem State.setPlot_own (s : State) (h : BitVec 16) (x : Plot) : (s.setPlot h x).own = s.own := rfl
@[simp] theorem State.setPlot_nextTag (s : State) (h : BitVec 16) (x : Plot) : (s.setPlot h x).nextTag = s.nextTag := rfl
@[simp] theorem State.setPlot_wins (s : State) (h : BitVec 16) (x : Plot) : (s.setPlot h x).wins = s.wins := rfl
@[simp] theorem State.setPlot_xfers (s : State) (h : BitVec 16) (x : Plot) : (s.setPlot h x).xfers = s.xfers := rfl
@[simp] theorem State.setPlot_links (s : State) (h : BitVec 16) (x : Plot) : (s.setPlot h x).links = s.links := rfl
@[simp] theorem State.setPlot_lanes (s : State) (h : BitVec 16) (x : Plot) : (s.setPlot h x).lanes = s.lanes := rfl
@[simp] theorem State.setPlot_fences (s : State) (h : BitVec 16) (x : Plot) : (s.setPlot h x).fences = s.fences := rfl
@[simp] theorem State.setPlot_park (s : State) (h : BitVec 16) (x : Plot) : (s.setPlot h x).park = s.park := rfl
@[simp] theorem State.setPlot_marks (s : State) (h : BitVec 16) (x : Plot) : (s.setPlot h x).marks = s.marks := rfl
@[simp] theorem State.setPlot_xoffUs (s : State) (h : BitVec 16) (x : Plot) : (s.setPlot h x).xoffUs = s.xoffUs := rfl
@[simp] theorem State.setPlot_homeq (s : State) (h : BitVec 16) (x : Plot) : (s.setPlot h x).homeq = s.homeq := rfl
@[simp] theorem State.setPlot_deferred (s : State) (h : BitVec 16) (x : Plot) : (s.setPlot h x).deferred = s.deferred := rfl
@[simp] theorem State.setPlot_crossed (s : State) (h : BitVec 16) (x : Plot) : (s.setPlot h x).crossed = s.crossed := rfl
@[simp] theorem State.setPlot_recs (s : State) (h : BitVec 16) (x : Plot) : (s.setPlot h x).recs = s.recs := rfl
@[simp] theorem State.setPlot_txns (s : State) (h : BitVec 16) (x : Plot) : (s.setPlot h x).txns = s.txns := rfl
@[simp] theorem State.setPlot_lineHolds (s : State) (h : BitVec 16) (x : Plot) : (s.setPlot h x).lineHolds = s.lineHolds := rfl
@[simp] theorem State.setPlot_regionBits (s : State) (h : BitVec 16) (x : Plot) : (s.setPlot h x).regionBits = s.regionBits := rfl
@[simp] theorem State.setPlot_pred (s : State) (h : BitVec 16) (x : Plot) : (s.setPlot h x).pred = s.pred := rfl
@[simp] theorem State.setPlot_nearBy (s : State) (h : BitVec 16) (x : Plot) : (s.setPlot h x).nearBy = s.nearBy := rfl
@[simp] theorem State.setPlot_atomBuf (s : State) (h : BitVec 16) (x : Plot) : (s.setPlot h x).atomBuf = s.atomBuf := rfl
@[simp] theorem State.setPlot_spt (s : State) (h : BitVec 16) (x : Plot) : (s.setPlot h x).spt = s.spt := rfl
@[simp] theorem State.setPlot_nextRq (s : State) (h : BitVec 16) (x : Plot) : (s.setPlot h x).nextRq = s.nextRq := rfl
@[simp] theorem State.setPlot_leaves (s : State) (h : BitVec 16) (x : Plot) : (s.setPlot h x).leaves = s.leaves := rfl
@[simp] theorem State.setPlot_tlb (s : State) (h : BitVec 16) (x : Plot) : (s.setPlot h x).tlb = s.tlb := rfl
@[simp] theorem State.setPlot_faults (s : State) (h : BitVec 16) (x : Plot) : (s.setPlot h x).faults = s.faults := rfl
@[simp] theorem State.setPlot_nextFault (s : State) (h : BitVec 16) (x : Plot) : (s.setPlot h x).nextFault = s.nextFault := rfl
@[simp] theorem State.setPlot_faultQs (s : State) (h : BitVec 16) (x : Plot) : (s.setPlot h x).faultQs = s.faultQs := rfl
@[simp] theorem State.setPlot_shoots (s : State) (h : BitVec 16) (x : Plot) : (s.setPlot h x).shoots = s.shoots := rfl
@[simp] theorem State.setPlot_nextShoot (s : State) (h : BitVec 16) (x : Plot) : (s.setPlot h x).nextShoot = s.nextShoot := rfl
@[simp] theorem State.setPlot_journals (s : State) (h : BitVec 16) (x : Plot) : (s.setPlot h x).journals = s.journals := rfl
@[simp] theorem State.setPlot_channels (s : State) (h : BitVec 16) (x : Plot) : (s.setPlot h x).channels = s.channels := rfl
@[simp] theorem State.setPlot_txq (s : State) (h : BitVec 16) (x : Plot) : (s.setPlot h x).txq = s.txq := rfl
@[simp] theorem State.setPlot_rxq (s : State) (h : BitVec 16) (x : Plot) : (s.setPlot h x).rxq = s.rxq := rfl
@[simp] theorem State.setPlot_taken (s : State) (h : BitVec 16) (x : Plot) : (s.setPlot h x).taken = s.taken := rfl
@[simp] theorem State.setPlot_running (s : State) (h : BitVec 16) (x : Plot) : (s.setPlot h x).running = s.running := rfl
@[simp] theorem State.setPlot_pbuf (s : State) (h : BitVec 16) (x : Plot) : (s.setPlot h x).pbuf = s.pbuf := rfl
@[simp] theorem State.setPlot_staged (s : State) (h : BitVec 16) (x : Plot) : (s.setPlot h x).staged = s.staged := rfl
@[simp] theorem State.setPlot_fw (s : State) (h : BitVec 16) (x : Plot) : (s.setPlot h x).fw = s.fw := rfl
@[simp] theorem State.setPlot_fwFlash (s : State) (h : BitVec 16) (x : Plot) : (s.setPlot h x).fwFlash = s.fwFlash := rfl
@[simp] theorem State.setPlot_swapDue (s : State) (h : BitVec 16) (x : Plot) : (s.setPlot h x).swapDue = s.swapDue := rfl
@[simp] theorem State.setPlot_bar4Q (s : State) (h : BitVec 16) (x : Plot) : (s.setPlot h x).bar4Q = s.bar4Q := rfl
@[simp] theorem State.setPlot_i3cUp (s : State) (h : BitVec 16) (x : Plot) : (s.setPlot h x).i3cUp = s.i3cUp := rfl
@[simp] theorem State.setPlot_phase (s : State) (h : BitVec 16) (x : Plot) : (s.setPlot h x).phase = s.phase := rfl
@[simp] theorem State.setPlot_pins (s : State) (h : BitVec 16) (x : Plot) : (s.setPlot h x).pins = s.pins := rfl
@[simp] theorem State.setPlot_aclk (s : State) (h : BitVec 16) (x : Plot) : (s.setPlot h x).aclk = s.aclk := rfl
@[simp] theorem State.setPlot_fclk (s : State) (h : BitVec 16) (x : Plot) : (s.setPlot h x).fclk = s.fclk := rfl
@[simp] theorem State.setPlot_xtalCentre (s : State) (h : BitVec 16) (x : Plot) : (s.setPlot h x).xtalCentre = s.xtalCentre := rfl
@[simp] theorem State.setPlot_backup (s : State) (h : BitVec 16) (x : Plot) : (s.setPlot h x).backup = s.backup := rfl
@[simp] theorem State.setPlot_powerToken (s : State) (h : BitVec 16) (x : Plot) : (s.setPlot h x).powerToken = s.powerToken := rfl
@[simp] theorem State.setPlot_powerWait (s : State) (h : BitVec 16) (x : Plot) : (s.setPlot h x).powerWait = s.powerWait := rfl
@[simp] theorem State.setPlot_savedSleep (s : State) (h : BitVec 16) (x : Plot) : (s.setPlot h x).savedSleep = s.savedSleep := rfl
@[simp] theorem State.setPlot_frozen (s : State) (h : BitVec 16) (x : Plot) : (s.setPlot h x).frozen = s.frozen := rfl
@[simp] theorem State.setPlot_journalKey (s : State) (h : BitVec 16) (x : Plot) : (s.setPlot h x).journalKey = s.journalKey := rfl

end Sys2Proof.Machine
end

