-- ==== Sys2Proof/Laws/Ops.lean ====
section
/-! SUPPORT. Laws of the register operations: words and fields read back what was written, and what an interrupt, an error record
and the completion of a command can change. -/

namespace Sys2Proof.Machine

/-! ### Words -/

@[simp] theorem State.rd_wr_self (s : State) (p o : Nat) (v : W32) : (s.wr p o v).rd p o = v := by
  simp [State.rd, State.wr]

theorem State.rd_wr_ne (s : State) {p o q r : Nat} (v : W32) (h : q * 4096 + r ≠ p * 4096 + o) :
    (s.wr p o v).rd q r = s.rd q r := by
  simp only [State.rd, State.wr, Tab.get_set_ne' _ _ _ _ h]

/-- Offsets of one page that differ are different registers, and so are offsets below 4096 of different pages. -/
theorem State.rd_wr_off (s : State) {p o r : Nat} (v : W32) (h : r ≠ o) : (s.wr p o v).rd p r = s.rd p r :=
  s.rd_wr_ne v (by omega)

theorem State.rd_wr_page (s : State) {p o q r : Nat} (v : W32) (h : q ≠ p) (ho : o < 4096) (hr : r < 4096) :
    (s.wr p o v).rd q r = s.rd q r :=
  s.rd_wr_ne v (by omega)

@[simp] theorem State.emit_rd (s : State) (x : Output) (p o : Nat) : (s.emit x).rd p o = s.rd p o := rfl

/-! ### Fields -/

theorem fieldOf_lt (n lo len : Nat) : fieldOf n lo len < 2 ^ len := Nat.mod_lt _ (Nat.two_pow_pos _)

theorem testBit_fieldOf (n lo len i : Nat) : (fieldOf n lo len).testBit i = (decide (i < len) && n.testBit (lo + i)) := by
  simp [fieldOf, Nat.testBit_mod_two_pow, Nat.testBit_shiftRight]

/-- A field replaced, bit by bit. -/
theorem withField_testBit (w : W32) (lo len v i : Nat) (h : lo + len ≤ 32) :
    (withField w lo len v).getLsbD i =
      if lo ≤ i ∧ i < lo + len then v.testBit (i - lo) else w.getLsbD i := by
  have hw := w.isLt
  have hx : fieldOf w.toNat lo len < 2 ^ len := fieldOf_lt _ _ _
  have hv : v % 2 ^ len < 2 ^ len := Nat.mod_lt _ (Nat.two_pow_pos _)
  -- w = high * 2^(lo+len) + field * 2^lo + low
  have hsplit : w.toNat = w.toNat / 2 ^ (lo + len) * 2 ^ (lo + len) + (fieldOf w.toNat lo len * 2 ^ lo + w.toNat % 2 ^ lo) := by
    have h1 := (Nat.div_add_mod' w.toNat (2 ^ lo)).symm
    have h2 := (Nat.div_add_mod' (w.toNat / 2 ^ lo) (2 ^ len)).symm
    have h3 : w.toNat / 2 ^ lo / 2 ^ len = w.toNat / 2 ^ (lo + len) := by rw [Nat.div_div_eq_div_mul, ← Nat.pow_add]
    have h4 : fieldOf w.toNat lo len = w.toNat / 2 ^ lo % 2 ^ len := by simp [fieldOf, Nat.shiftRight_eq_div_pow]
    rw [h3, ← h4] at h2
    calc w.toNat = w.toNat / 2 ^ lo * 2 ^ lo + w.toNat % 2 ^ lo := h1
      _ = (w.toNat / 2 ^ (lo + len) * 2 ^ len + fieldOf w.toNat lo len) * 2 ^ lo + w.toNat % 2 ^ lo := by rw [← h2]
      _ = _ := by rw [Nat.add_mul, Nat.mul_assoc, ← Nat.pow_add, Nat.add_comm len lo]; omega
  have hlow : w.toNat % 2 ^ lo < 2 ^ lo := Nat.mod_lt _ (Nat.two_pow_pos _)
  have hval : w.toNat - fieldOf w.toNat lo len * 2 ^ lo + v % 2 ^ len * 2 ^ lo
      = w.toNat / 2 ^ (lo + len) * 2 ^ (lo + len) + (v % 2 ^ len * 2 ^ lo + w.toNat % 2 ^ lo) := by omega
  have hb : v % 2 ^ len * 2 ^ lo + w.toNat % 2 ^ lo < 2 ^ (lo + len) := by
    have : (v % 2 ^ len + 1) * 2 ^ lo ≤ 2 ^ len * 2 ^ lo := Nat.mul_le_mul_right _ hv
    rw [Nat.pow_add, Nat.mul_comm (2 ^ lo)]
    rw [Nat.add_mul] at this
    omega
  by_cases hi : i < 32
  · rw [withField, BitVec.getLsbD_ofNat]
    simp only [hi, decide_true, Bool.true_and]
    rw [hval, Nat.mul_comm (w.toNat / 2 ^ (lo + len)), Nat.testBit_two_pow_mul_add _ hb]
    rw [Nat.mul_comm (v % 2 ^ len), Nat.testBit_two_pow_mul_add _ hlow]
    by_cases h1 : i < lo
    · simp [h1, show i < lo + len by omega, show ¬(lo ≤ i) by omega, Nat.testBit_mod_two_pow, BitVec.testBit_toNat]
    · by_cases h2 : i < lo + len
      · simp [h1, h2, show lo ≤ i by omega, Nat.testBit_mod_two_pow, show i - lo < len by omega]
      · simp [h2, Nat.testBit_div_two_pow, BitVec.testBit_toNat, show i - (lo + len) + (lo + len) = i by omega]
  · have h1 : ¬(lo ≤ i ∧ i < lo + len) := by omega
    rw [if_neg h1, BitVec.getLsbD_of_ge _ _ (by omega), BitVec.getLsbD_of_ge _ _ (by omega)]

/-- The field that was written reads back, and a disjoint field reads as before. -/
theorem fieldOf_withField_self (w : W32) (lo len v : Nat) (h : lo + len ≤ 32) :
    fieldOf (withField w lo len v).toNat lo len = v % 2 ^ len := by
  apply Nat.eq_of_testBit_eq
  intro i
  rw [testBit_fieldOf, Nat.testBit_mod_two_pow, BitVec.testBit_toNat, withField_testBit _ _ _ _ _ h]
  by_cases hi : i < len <;> simp [hi]

theorem fieldOf_withField_ne (w : W32) (lo len v lo' len' : Nat) (h : lo + len ≤ 32) (hd : lo' + len' ≤ lo ∨ lo + len ≤ lo') :
    fieldOf (withField w lo len v).toNat lo' len' = fieldOf w.toNat lo' len' := by
  apply Nat.eq_of_testBit_eq
  intro i
  rw [testBit_fieldOf, testBit_fieldOf, BitVec.testBit_toNat, BitVec.testBit_toNat, withField_testBit _ _ _ _ _ h]
  by_cases hi : i < len'
  · rw [if_neg (by omega)]
  · simp [hi]

theorem State.fld_setFld_self (s : State) (p o lo len v : Nat) (h : lo + len ≤ 32) :
    (s.setFld p o lo len v).fld p o lo len = v % 2 ^ len := by
  simp [State.fld, State.setFld, fieldOf_withField_self _ _ _ _ h]

theorem State.rd_setFld_off (s : State) {p o r : Nat} (lo len v : Nat) (h : r ≠ o) :
    (s.setFld p o lo len v).rd p r = s.rd p r := s.rd_wr_off _ h

/-! ### Interrupts, errors, completions -/

/-- A state with other MSI-X pending bits and another record of what has left the device. -/
def State.withIrq (t : State) (m : MsiState) (o : List Output) : State := { t with msix := m, out := o }

theorem State.sendMsix_frame (t : State) (v : Nat) : ∃ m o, t.sendMsix v = t.withIrq m o := by
  unfold State.sendMsix
  split
  · exact ⟨t.msix, t.out, rfl⟩
  · split
    · exact ⟨_, t.out, rfl⟩
    · exact ⟨t.msix, _, rfl⟩

theorem irqSync_frame (s t : State) (p : Nat) (a : Bool) : ∃ m o, irqSync s t p a = t.withIrq m o := by
  have h : ∃ m o, (if t.vecCond (vectorOf p) && (a || !s.vecCond (vectorOf p)) then t.sendMsix (vectorOf p) else t)
      = t.withIrq m o := by
    split
    · exact t.sendMsix_frame _
    · exact ⟨t.msix, t.out, rfl⟩
  obtain ⟨m, o, h⟩ := h
  simp only [irqSync, h]
  split
  · exact ⟨m, _, rfl⟩
  · exact ⟨m, o, rfl⟩

/-- An interrupt changes registers, the MSI-X pending bits and what has left the device; nothing else. -/
theorem State.raise_frame (s : State) (p b : Nat) : ∃ m o, s.raise p b = (s.setFld p oIRQS b 1 1).withIrq m o :=
  irqSync_frame _ _ _ _

/-- The registers after an interrupt. -/
theorem State.raise_rd (s : State) (p b q o : Nat) : (s.raise p b).rd q o = (s.setFld p oIRQS b 1 1).rd q o := by
  obtain ⟨m, x, h⟩ := s.raise_frame p b
  rw [h]; rfl

/-- The completion of a command changes registers, the MSI-X pending bits and what has left the device; nothing else. -/
theorem State.complete_frame (s : State) (p st : Nat) : ∃ m o, s.complete p st =
    ((((s.setFld p (cmdStatusOff p) 0 1 0).setFld p (cmdStatusOff p) 8 8 st).setFld p oIRQS 0 1 1).withIrq m o) :=
  State.raise_frame _ _ _

/-- A completed command: BUSY is 0 and STATUS reads as given. -/
theorem State.complete_status (s : State) (p st : Nat) (hs : st < 256) :
    (s.complete p st).busy p = false ∧ (s.complete p st).fld p (cmdStatusOff p) 8 8 = st := by
  have ho : cmdStatusOff p ≠ oIRQS := by
    unfold cmdStatusOff oIRQS
    split
    · decide
    · split
      · decide
      · split <;> decide
  constructor
  · simp only [State.busy, State.bit, State.complete, State.raise_rd, State.rd_setFld_off _ _ _ _ ho]
    simp only [State.setFld, State.rd_wr_self]
    rw [withField_testBit _ _ _ _ _ (by omega), if_neg (by omega), withField_testBit _ _ _ _ _ (by omega), if_pos (by omega)]
    rfl
  · simp only [State.fld, State.complete, State.raise_rd, State.rd_setFld_off _ _ _ _ ho]
    rw [← State.fld, State.fld_setFld_self _ _ _ _ _ _ (by omega)]
    exact Nat.mod_eq_of_lt hs

end Sys2Proof.Machine
end

