-- ==== Sys2Proof/Laws/Memory.lean ====
section
/-! SUPPORT. Laws of memory: a byte put reads back and every other byte reads as before; the canonical form is kept by every
operation that changes a memory; and what the operations of a stack controller leave of pool memory. -/

namespace Sys2Proof.Machine

/-! ### Lists of bytes -/

theorem Memory.wf_iff (l : List Host.Cell) : Memory.wf l = true ↔ Tab.sorted l = true ∧ ∀ a ∈ l, a.2 ≠ 0 := by
  simp [Memory.wf]

@[simp] theorem Memory.wf_nil : Memory.wf [] = true := rfl

/-- Setting one byte keeps the canonical form: the byte zero removes the entry. -/
theorem Memory.wf_set {l : List Host.Cell} (k : Nat) (b : BitVec 8) (h : Memory.wf l = true) :
    Memory.wf (Tab.set 0 l k b) = true := by
  rw [Memory.wf_iff] at h ⊢
  exact ⟨Tab.sorted_set 0 k b h.1, Tab.listed_set 0 k b h.2⟩

theorem Memory.wf_putBytes {l : List Host.Cell} (k : Nat) (d : Bytes) (h : Memory.wf l = true) :
    Memory.wf (putBytes l k d) = true := by
  induction d generalizing l k with
  | nil => exact h
  | cons b d ih => exact ih (k + 1) (Memory.wf_set k b h)

/-- A part of a sorted table is sorted. -/
theorem Tab.sorted_filter {α : Type} {l : List (Nat × α)} (p : Nat × α → Bool) (h : Tab.sorted l = true) :
    Tab.sorted (l.filter p) = true := by
  induction l with
  | nil => rfl
  | cons a l ih =>
    rw [Tab.sorted_cons_iff] at h
    by_cases hp : p a = true
    · rw [List.filter_cons_of_pos hp, Tab.sorted_cons_iff]
      exact ⟨fun b hb => h.1 b (List.mem_filter.mp hb).1, ih h.2⟩
    · rw [List.filter_cons_of_neg hp]
      exact ih h.2

/-- Two sorted tables one after the other are sorted when every key of the first is below every key of the second. -/
theorem Tab.sorted_append {α : Type} {l m : List (Nat × α)} (hl : Tab.sorted l = true) (hm : Tab.sorted m = true)
    (h : ∀ a ∈ l, ∀ b ∈ m, a.1 < b.1) : Tab.sorted (l ++ m) = true := by
  induction l with
  | nil => exact hm
  | cons a l ih =>
    rw [Tab.sorted_cons_iff] at hl
    rw [List.cons_append, Tab.sorted_cons_iff]
    refine ⟨fun b hb => ?_, ih hl.2 (fun c hc => h c (List.mem_cons_of_mem _ hc))⟩
    rcases List.mem_append.mp hb with hb | hb
    · exact hl.1 b hb
    · exact h a List.mem_cons_self b hb

theorem Memory.wf_filter {l : List Host.Cell} (p : Host.Cell → Bool) (h : Memory.wf l = true) :
    Memory.wf (l.filter p) = true := by
  rw [Memory.wf_iff] at h ⊢
  exact ⟨Tab.sorted_filter p h.1, fun a ha => h.2 a (List.mem_filter.mp ha).1⟩

/-- A block copied from one memory into another keeps the canonical form of the second. -/
theorem Memory.wf_copyBlock {src dst : List Host.Cell} (tb : Nat) (hs : Memory.wf src = true) (hd : Memory.wf dst = true) :
    Memory.wf (copyBlock src dst tb) = true := by
  rw [Memory.wf_iff] at hs hd ⊢
  constructor
  · refine Tab.sorted_append (Tab.sorted_append (Tab.sorted_filter _ hd.1) (Tab.sorted_filter _ hs.1) ?_)
      (Tab.sorted_filter _ hd.1) ?_
    · intro a ha b hb
      simp only [List.mem_filter, Bool.and_eq_true, decide_eq_true_eq] at ha hb
      omega
    · intro a ha b hb
      simp only [List.mem_append, List.mem_filter, Bool.and_eq_true, decide_eq_true_eq] at ha hb
      omega
  · intro a ha
    simp only [copyBlock, List.mem_append, List.mem_filter] at ha
    rcases ha with (ha | ha) | ha
    · exact hd.2 a ha.1
    · exact hs.2 a ha.1
    · exact hd.2 a ha.1

/-- What a byte reads as after consecutive bytes were put from place k. -/
theorem get_putBytes (l : List Host.Cell) (k : Nat) (d : Bytes) (j : Nat) :
    Tab.get 0 (putBytes l k d) j = if k ≤ j ∧ j < k + d.length then d.getD (j - k) 0 else Tab.get 0 l j := by
  induction d generalizing l k with
  | nil =>
    have h : ¬(k ≤ j ∧ j < k + ([] : Bytes).length) := by simp
    rw [if_neg h, putBytes]
  | cons b d ih =>
    rw [putBytes, ih]
    by_cases h1 : k + 1 ≤ j ∧ j < k + 1 + d.length
    · have h2 : k ≤ j ∧ j < k + (b :: d).length := by simp; omega
      rw [if_pos h1, if_pos h2]
      have : j - k = (j - (k + 1)) + 1 := by omega
      rw [this, List.getD_cons_succ]
    · rw [if_neg h1]
      by_cases hj : j = k
      · subst hj
        have h2 : j ≤ j ∧ j < j + (b :: d).length := by simp
        rw [if_pos h2, Tab.get_set_self, Nat.sub_self, List.getD_cons_zero]
      · have h2 : ¬(k ≤ j ∧ j < k + (b :: d).length) := by simp; omega
        rw [if_neg h2, Tab.get_set_ne 0 l b hj]

/-! ### Updates of registers leave memory -/

@[simp] theorem State.withIrq_mem (s : State) (m : MsiState) (o : List Output) : (s.withIrq m o).mem = s.mem := rfl
@[simp] theorem State.setStk_mem (s : State) (b : Nat) (k : Stack) : (s.setStk b k).mem = s.mem := rfl
@[simp] theorem State.setWm_mem (s : State) (w : Nat) (m : WordMeta) : (s.setWm w m).mem = s.mem := rfl
@[simp] theorem State.setFld_mem (s : State) (p o lo n v : Nat) : (s.setFld p o lo n v).mem = s.mem := rfl
@[simp] theorem State.count_mem (s : State) (p o lo n v : Nat) : (s.count p o lo n v).mem = s.mem := rfl
@[simp] theorem State.inc_mem (s : State) (p o : Nat) : (s.inc p o).mem = s.mem := rfl
@[simp] theorem State.raise_mem (s : State) (p b : Nat) : (s.raise p b).mem = s.mem := by
  obtain ⟨m, o, h⟩ := State.raise_frame s p b
  rw [h]; rfl
@[simp] theorem State.logErr_mem (s : State) (p c : Nat) (i : W32) : (s.logErr p c i).mem = s.mem := by
  unfold State.logErr
  dsimp only
  repeat' split
  all_goals simp
@[simp] theorem State.fresh_mem (s : State) : s.fresh.2.mem = s.mem := rfl

@[simp] theorem State.wakeStack_mem (s : State) (b : Nat) : (s.wakeStack b).mem = s.mem := by
  unfold State.wakeStack
  split <;> rfl

@[simp] theorem State.activate_mem (s : State) (b pc bank row : Nat) (h : Bool) : (s.activate b pc bank row h).mem = s.mem := by
  unfold State.activate
  dsimp only
  repeat' split
  all_goals rfl

@[simp] theorem State.vbAccess_mem (s : State) (w : Nat) : (s.vbAccess w).mem = s.mem := by
  unfold State.vbAccess
  dsimp only
  split <;> rfl

@[simp] theorem State.openRegion_mem (s : State) (w : Nat) : (s.openRegion w).mem = s.mem := by
  unfold State.openRegion
  split <;> rfl

@[simp] theorem State.logRow_mem (s : State) (b : Nat) (r : RepairRow) : (s.logRow b r).mem = s.mem := by
  unfold State.logRow
  dsimp only
  split <;> rfl

@[simp] theorem State.beginCopy_mem (s : State) (b l : Nat) : (s.beginCopy b l).mem = s.mem := by
  unfold State.beginCopy
  split
  · rfl
  · exact State.wr_mem _ _ _ _

@[simp] theorem State.spareStart_mem (s : State) (b l : Nat) : (s.spareStart b l).mem = s.mem := by
  unfold State.spareStart
  split <;> simp

@[simp] theorem State.corrected_mem (s : State) (w : Nat) : (s.corrected w).mem = s.mem := by
  unfold State.corrected State.correctedAt
  dsimp only
  repeat' split
  all_goals simp

@[simp] theorem State.uncorrectable_mem (s : State) (w : Nat) (c : Bool) : (s.uncorrectable w c).mem = s.mem := by
  unfold State.uncorrectable State.uncorrectableAt
  dsimp only
  split <;> simp

@[simp] theorem State.dropEntry_mem (s : State) (w : Nat) : (s.dropEntry w).mem = s.mem := rfl

/-! ### The canonical form through a stack controller -/

theorem State.readStored_wf {s : State} (w : Nat) (h c : Bool) (hm : Memory.wf s.mem = true) :
    Memory.wf (s.readStored w h c).2.mem = true := by
  unfold State.readStored
  dsimp only
  repeat' split
  all_goals simp [hm, Memory.wf_putBytes]

theorem State.readWord_wf {s : State} (w : Nat) (h c : Bool) (hm : Memory.wf s.mem = true) :
    Memory.wf (s.readWord w h c).2.mem = true := by
  have := State.readStored_wf w h c hm
  unfold State.readWord
  dsimp only
  split <;> exact this

theorem State.writeWord_wf {s : State} (w : Nat) (d : Bytes) (kg td h : Bool) (hm : Memory.wf s.mem = true) :
    Memory.wf (s.writeWord w d kg td h).mem = true := by
  unfold State.writeWord
  dsimp only
  exact Memory.wf_putBytes _ _ (by simpa using hm)

theorem State.drainEntry_wf {s : State} (e : MergeEntry) (kg : Bool) (hm : Memory.wf s.mem = true) :
    Memory.wf (s.drainEntry e kg).2.mem = true := by
  have h1 := State.readStored_wf (s := s) e.word false false hm
  unfold State.drainEntry
  dsimp only
  repeat' split
  all_goals simp only [State.inc_mem]
  · exact State.writeWord_wf _ _ _ _ _ hm
  · exact State.writeWord_wf _ _ _ _ _ hm
  · exact State.writeWord_wf _ _ _ _ _ h1
  · exact h1

theorem State.drainOldest_wf {s : State} (b : Nat) (hm : Memory.wf s.mem = true) : Memory.wf (s.drainOldest b).mem = true := by
  unfold State.drainOldest
  split
  · exact hm
  · exact State.drainEntry_wf _ _ (by simpa using hm)

theorem State.drainWord_wf {s : State} (w : Nat) (hm : Memory.wf s.mem = true) : Memory.wf (s.drainWord w).mem = true := by
  unfold State.drainWord
  split
  · exact State.drainEntry_wf _ _ (by simpa using hm)
  · exact hm

theorem State.writeNarrow_wf {s : State} (w k : Nat) (d : Bytes) (kg : Bool) (hm : Memory.wf s.mem = true) :
    Memory.wf (s.writeNarrow w k d kg).2.mem = true := by
  have h0 : Memory.wf (s.wakeStack (wordStack w)).mem = true := by simpa using hm
  have h1 := State.drainOldest_wf (s := s.wakeStack (wordStack w)) (wordStack w) h0
  unfold State.writeNarrow
  dsimp only
  repeat' split
  all_goals first
    | exact State.drainEntry_wf _ _ (by simpa using h1)
    | exact State.drainEntry_wf _ _ (by simpa using h0)
    | (simp only [State.setStk_mem, State.inc_mem]; first | exact h1 | exact h0)

end Sys2Proof.Machine
end

