-- ==== Sys2Proof/WellFormed.lean ====
section
/-! DEFINITION. WellFormed: the operands that a sender or the device's wiring can give a command. Numbers name things that exist
(Table 01-1), packets and flits have the lengths of their formats, accesses are aligned. -/

namespace Sys2Proof

/-- 408 cells, 24 beds and stacks, 6 lane dies of 36 lanes, 48 links (Table 01-1, R258). -/
def okCell (c : BitVec 9) : Bool := c.toNat < 408
def okBed (b : BitVec 5) : Bool := b.toNat < 24
def okDie (d : BitVec 3) : Bool := d.toNat < 6
def okLane (n : BitVec 6) : Bool := n.toNat < 36
def okLink (l : LinkNo) : Bool := l.toNat < 48

/-- A packet's LENGTH has 13 bits, and its payload ends with a tag of 16 bytes or none (R290). -/
def okPacket (p : Packet) : Bool := p.data.length < 8192 && (p.gtag.length == 0 || p.gtag.length == 16)

/-- A flit has 240 bytes of payload (Table 10-3). -/
def okFlit (f : Flit) : Bool := f.payload.length == 240

/-- Marker blocks on different lanes of nine (R262). -/
def okMarkers (m : MarkerSet) : Bool :=
  m.markers.all (fun x => x.lane.toNat < 9) && (m.markers.map (·.lane)).eraseDups.length == m.markers.length

/-- An access inside the window of 64 GiB (R405). -/
def okWindow (off : BitVec 36) (len : Nat) (wr : Option (List (BitVec 8))) : Bool :=
  match wr with
  | none => 0 < len && off.toNat + len ≤ 2 ^ 36
  | some d => 0 < d.length && d.length == len && off.toNat + len ≤ 2 ^ 36

/-- Results of training of stacks that exist (R223). -/
def okTraining (l : List StackTrainResult) : Bool := l.all (fun x => okBed x.stack)

/-- A sensor of a die or of a stack (Table 18-5). -/
def okSensor (n : BitVec 6) : Bool := n.toNat < 20 || (32 ≤ n.toNat && n.toNat ≤ 55)

/-- An access of 4 or 8 bytes, naturally aligned (R447). -/
def okSize (off : BitVec 27) (size : Nat) : Bool := (size == 4 || size == 8) && off.toNat % size == 0

/-- The engine that asks for a translation exists. -/
def okSource (src : FillSource) : Bool :=
  match src with
  | .cell c _ => okCell c
  | .engine _ => true
  | .trellis => true

/-- A well-formed command. -/
def Instr.wf (i : Instr) : Bool :=
  match i with
  | .create _ _ _ _ => true
  | .grant _ _ _ _ => true
  | .ungrant _ _ _ _ => true
  | .resize _ _ _ _ => true
  | .release _ _ _ _ => true
  | .seal _ _ _ _ => true
  | .query _ _ _ _ => true
  | .mapWindow _ _ _ _ => true
  | .restore _ _ _ _ => true
  | .revokeAll _ _ _ _ => true
  | .revocationPoint _ _ => true
  | .revokingCommandComplete _ => true
  | .granuleCleared _ => true
  | .publish _ => true
  | .publishPoint _ => true
  | .publishComplete _ => true
  | .bind _ _ => true
  | .unbind _ _ => true
  | .resetJob _ _ => true
  | .kload _ _ => true
  | .kloadComplete => true
  | .kunload _ _ => true
  | .kquery _ _ => true
  | .substitute _ _ => true
  | .selftestComplete failed => failed.all okCell
  | .hardFault c _ => okCell c
  | .heartbeatMissed c => okCell c
  | .bindingCheck c => okCell c
  | .substitutionComplete bed _ => okBed bed
  | .purgeComplete c => okCell c
  | .lentPartDone c => okCell c
  | .noCellsTimeout _ => true
  | .contextSwap c _ => okCell c
  | .add c _ _ _ => okCell c
  | .sub c _ _ _ => okCell c
  | .mul c _ _ _ => okCell c
  | .mulh c _ _ _ => okCell c
  | .mulhu c _ _ _ => okCell c
  | .div c _ _ _ => okCell c
  | .divu c _ _ _ => okCell c
  | .rem c _ _ _ => okCell c
  | .remu c _ _ _ => okCell c
  | .and c _ _ _ => okCell c
  | .or c _ _ _ => okCell c
  | .xor c _ _ _ => okCell c
  | .shl c _ _ _ => okCell c
  | .shr c _ _ _ => okCell c
  | .sar c _ _ _ => okCell c
  | .min c _ _ _ => okCell c
  | .max c _ _ _ => okCell c
  | .minu c _ _ _ => okCell c
  | .maxu c _ _ _ => okCell c
  | .slt c _ _ _ => okCell c
  | .sltu c _ _ _ => okCell c
  | .seq c _ _ _ => okCell c
  | .clz c _ _ _ => okCell c
  | .popc c _ _ _ => okCell c
  | .sel c _ _ _ => okCell c
  | .fadd c _ _ => okCell c
  | .fsub c _ _ => okCell c
  | .fmul c _ _ => okCell c
  | .ffma c _ _ => okCell c
  | .fmin c _ _ => okCell c
  | .fmax c _ _ => okCell c
  | .feq c _ _ => okCell c
  | .flt c _ _ => okCell c
  | .fle c _ _ => okCell c
  | .fcvti c _ _ => okCell c
  | .icvtf c _ _ => okCell c
  | .pcvt c _ _ => okCell c
  | .b c _ _ => okCell c
  | .bl c _ _ => okCell c
  | .jr c _ _ => okCell c
  | .jrl c _ _ => okCell c
  | .ld8u c _ _ => okCell c
  | .ld16u c _ _ => okCell c
  | .ld32u c _ _ => okCell c
  | .ld64 c _ _ => okCell c
  | .ld8s c _ _ => okCell c
  | .ld16s c _ _ => okCell c
  | .ld32s c _ _ => okCell c
  | .st8 c _ _ => okCell c
  | .st16 c _ _ => okCell c
  | .st32 c _ _ => okCell c
  | .st64 c _ _ => okCell c
  | .vld c _ _ => okCell c
  | .vst c _ _ => okCell c
  | .vldp6 c _ _ => okCell c
  | .vstp6 c _ _ => okCell c
  | .vgth4 c _ _ => okCell c
  | .vgth8 c _ _ => okCell c
  | .vgth16 c _ _ => okCell c
  | .vgth32 c _ _ => okCell c
  | .vgth64 c _ _ => okCell c
  | .vgth128 c _ _ => okCell c
  | .vgth256 c _ _ => okCell c
  | .vsct4 c _ _ => okCell c
  | .vsct8 c _ _ => okCell c
  | .vsct16 c _ _ => okCell c
  | .vsct32 c _ _ => okCell c
  | .vsct64 c _ _ => okCell c
  | .vsct128 c _ _ => okCell c
  | .vsct256 c _ _ => okCell c
  | .atomicAdd c _ _ _ => okCell c
  | .atomicFadd c _ _ _ => okCell c
  | .atomicMin c _ _ _ => okCell c
  | .atomicMinu c _ _ _ => okCell c
  | .atomicMax c _ _ _ => okCell c
  | .atomicMaxu c _ _ _ => okCell c
  | .atomicAnd c _ _ _ => okCell c
  | .atomicOr c _ _ _ => okCell c
  | .atomicXor c _ _ _ => okCell c
  | .atomicSwap c _ _ _ => okCell c
  | .atomicCas c _ _ _ => okCell c
  | .fwset c _ _ => okCell c
  | .fwget c _ _ => okCell c
  | .fwput c _ _ => okCell c
  | .fwwait c _ _ => okCell c
  | .fwclr c _ _ => okCell c
  | .furrowTileDone c _ _ _ _ => okCell c
  | .vadd c _ _ => okCell c
  | .vsub c _ _ => okCell c
  | .vmul c _ _ => okCell c
  | .vfma c _ _ => okCell c
  | .vmin c _ _ => okCell c
  | .vmax c _ _ => okCell c
  | .vabs c _ _ => okCell c
  | .vneg c _ _ => okCell c
  | .vand c _ _ => okCell c
  | .vor c _ _ => okCell c
  | .vxor c _ _ => okCell c
  | .vshl c _ _ => okCell c
  | .vshr c _ _ => okCell c
  | .vsar c _ _ => okCell c
  | .vceq c _ _ => okCell c
  | .vcne c _ _ => okCell c
  | .vclt c _ _ => okCell c
  | .vcle c _ _ => okCell c
  | .vcgt c _ _ => okCell c
  | .vcge c _ _ => okCell c
  | .vcltu c _ _ => okCell c
  | .vcgeu c _ _ => okCell c
  | .vcun c _ _ => okCell c
  | .vcvt c _ _ => okCell c
  | .exp2 c _ _ => okCell c
  | .log2 c _ _ => okCell c
  | .rcp c _ _ => okCell c
  | .rsqrt c _ _ => okCell c
  | .exp2F c _ _ => okCell c
  | .vrmax c _ _ => okCell c
  | .vrmin c _ _ => okCell c
  | .vrmaxi c _ _ => okCell c
  | .mand c _ _ => okCell c
  | .mor c _ _ => okCell c
  | .mxor c _ _ => okCell c
  | .mandn c _ _ => okCell c
  | .mnot c _ _ => okCell c
  | .mset c _ _ => okCell c
  | .mpop c _ _ => okCell c
  | .mfirst c _ _ => okCell c
  | .mfroms c _ _ => okCell c
  | .mtos c _ _ => okCell c
  | .mrange c _ _ => okCell c
  | .vmov c _ _ => okCell c
  | .vbcast c _ _ => okCell c
  | .vext c _ _ => okCell c
  | .vins c _ _ => okCell c
  | .viota c _ _ => okCell c
  | .vperm c _ _ => okCell c
  | .vdot c _ _ => okCell c
  | .vdots c _ _ => okCell c
  | .vaxpy c _ _ => okCell c
  | .accadds c _ _ => okCell c
  | .accacc c _ _ => okCell c
  | .accneg c _ _ => okCell c
  | .accclr c _ _ => okCell c
  | .accclrg c _ _ => okCell c
  | .accrnd c _ _ => okCell c
  | .accrndv c _ _ => okCell c
  | .accld c _ _ => okCell c
  | .accst c _ _ => okCell c
  | .accalloc c _ _ => okCell c
  | .accfree c _ _ => okCell c
  | .nop c _ _ => okCell c
  | .barg c _ _ => okCell c
  | .barj c _ _ => okCell c
  | .fence c _ _ => okCell c
  | .notify c _ _ => okCell c
  | .notifyw c _ _ => okCell c
  | .rdid c _ _ => okCell c
  | .rdcyc c _ _ => okCell c
  | .rdtime c _ _ => okCell c
  | .trap c _ _ => okCell c
  | .exit c _ _ => okCell c
  | .flags c _ _ => okCell c
  | .fill _ => true
  | .copy _ => true
  | .compare _ => true
  | .reduce _ => true
  | .hash _ => true
  | .gatherPool _ => true
  | .attend _ => true
  | .attendSecondPhase _ => true
  | .collect _ => true
  | .collectReduce _ => true
  | .collectTimeout _ => true
  | .remoteCopy _ => true
  | .kernel _ => true
  | .kernelTimeout _ => true
  | .returnPages _ => true
  | .returnPageConfirmed _ => true
  | .journalMark _ => true
  | .completionPost _ => true
  | .sqCreate _ _ => true
  | .cqCreate _ _ => true
  | .sqDelete _ _ => true
  | .sqDeleteComplete _ => true
  | .cqDelete _ _ => true
  | .tenantSet _ _ => true
  | .tenantQuery _ _ => true
  | .sqQuery _ _ => true
  | .doorbell _ => true
  | .descriptorFetch _ => true
  | .tokenAccrual => true
  | .dispatchOne => true
  | .calendarRelease _ => true
  | .calendarRevolution => true
  | .selfRefreshEntry st => okBed st
  | .selfRefreshExitDone st => okBed st
  | .mergeDrain bed => okBed bed
  | .actTableReset st => okBed st
  | .stackTraining res => okTraining res
  | .recalibration st _ => okBed st
  | .repairLogFlush => true
  | .pcCopyChunk bed => okBed bed
  | .pcCopyDone bed => okBed bed
  | .pcCeDecay st => okBed st
  | .scrubPassStart bed => okBed bed
  | .hoeScrub bed _ => okBed bed
  | .hoeRekey bed _ => okBed bed
  | .hoeLazyZero bed => okBed bed
  | .d2dRetry bed _ => okBed bed
  | .bedLinkLost bed => okBed bed
  | .format _ => true
  | .cacheSize _ _ => true
  | .driveFail _ => true
  | .tierFillComplete _ => true
  | .keepTimeExpiry _ => true
  | .tierWriteback => true
  | .writebackAck _ => true
  | .tagPageWrite => true
  | .pwrFailN _ => true
  | .flushDeadline => true
  | .idle l fl => okLink l && okFlit fl
  | .data l fl => okLink l && okFlit fl
  | .nak l fl => okLink l && okFlit fl
  | .train l fl _ => okLink l && okFlit fl
  | .sleep l fl => okLink l && okFlit fl
  | .ackTimeout l => okLink l
  | .noflitTimeout l => okLink l
  | .lockLoss die n => okDie die && okLane n
  | .markerSet l m => okLink l && okMarkers m
  | .serWindow die n _ => okDie die && okLane n
  | .substTimeout l => okLink l
  | .txSleep l => okLink l
  | .txWake l => okLink l
  | .wakeTimeout l => okLink l
  | .retrainStart l => okLink l
  | .blockLock die n => okDie die && okLane n
  | .subst _ l _ => okLink l
  | .retrain _ l => okLink l
  | .injCrc _ l => okLink l
  | .portCfg _ l _ => okLink l
  | .read l pkt se => okLink l && okPacket pkt && se.all (fun x => 0 < x.syms)
  | .write l pkt => okLink l && okPacket pkt
  | .atomic l pkt => okLink l && okPacket pkt
  | .chanWrite l pkt => okLink l && okPacket pkt
  | .readRsp l pkt => okLink l && okPacket pkt
  | .writeRsp l pkt => okLink l && okPacket pkt
  | .ready l pkt => okLink l && okPacket pkt
  | .transit l pkt => okLink l && okPacket pkt
  | .fenceTimeout l => okLink l
  | .transitAge l => okLink l
  | .dutyDefer _ => true
  | .reqTmo _ => true
  | .probe l pkt => okLink l && okPacket pkt
  | .cmapRead l pkt => okLink l && okPacket pkt
  | .cmapSnap _ _ => true
  | .rdS l pkt => okLink l && okPacket pkt
  | .rdE l pkt => okLink l && okPacket pkt
  | .upgrade l pkt => okLink l && okPacket pkt
  | .evictClean l pkt => okLink l && okPacket pkt
  | .writeback l pkt => okLink l && okPacket pkt
  | .invAck l pkt => okLink l && okPacket pkt
  | .recallRsp l pkt => okLink l && okPacket pkt
  | .regionSetAck bed _ => okBed bed
  | .holdEnd _ => true
  | .recallTimeout _ => true
  | .predClear _ => true
  | .translationFill src _ _ _ => okSource src
  | .migrationComplete _ => true
  | .migrationTimeout _ => true
  | .faultTimeout _ => true
  | .shootdownPoint _ => true
  | .drainLimit _ => true
  | .shootdownComplete _ => true
  | .map _ _ => true
  | .unmap _ _ => true
  | .setRemote _ _ => true
  | .resolve _ _ => true
  | .fqSet _ _ => true
  | .xltQuery _ _ => true
  | .tenantCreate => true
  | .tenantRemove => true
  | .tenantRemoveDrained _ => true
  | .keyInstall => true
  | .keyWrapRelease => true
  | .keyRotateJob => true
  | .keyRotatePlot => true
  | .rekeyDone _ => true
  | .rotGraceExpiry _ => true
  | .keyLifetimeExpiry _ => true
  | .transportKeyExpiry _ => true
  | .attestReport => true
  | .allowNew _ _ => true
  | .allowAdd _ _ => true
  | .allowFreeze _ _ => true
  | .allowFree _ _ => true
  | .allowQuery _ _ => true
  | .keyQuery _ _ => true
  | .slotQuery _ _ => true
  | .lock _ _ => true
  | .getVersion _ _ => true
  | .getCapabilities _ _ => true
  | .negotiateAlgorithms _ _ => true
  | .getDigests _ _ => true
  | .getCertificate _ _ => true
  | .challenge _ _ => true
  | .getMeasurements _ _ => true
  | .jnlOpen _ _ => true
  | .jnlClose _ _ => true
  | .jnlQuery _ _ => true
  | .recordStage _ => true
  | .recordCommit _ _ => true
  | .checkpointTimer _ => true
  | .journalSignNow => true
  | .journalExport => true
  | .ccFault _ => true
  | .takeoverResumed _ => true
  | .watchdogReset => true
  | .coreSelftest _ => true
  | .scheduledSwap _ => true
  | .roleSwap _ => true
  | .standbyReady _ => true
  | .fwStage => true
  | .fwActivate _ => true
  | .spareInvokeCell => true
  | .spareInvokePc => true
  | .spareInvokeRow => true
  | .spareInvokeLane => true
  | .hororeWordTimeout => true
  | .hqTx _ _ => true
  | .hqRx _ => true
  | .channelWordWrite _ _ _ => true
  | .channelWordRead _ _ => true
  | .chCfg _ _ => true
  | .bar4Access off len wr => okWindow off len wr
  | .functionLevelReset => true
  | .upstreamLinkDown => true
  | .entdaa a => a != 0
  | .setdasa _ a => a != 0
  | .i3cPrivateWrite addr _ => addr.toNat % 4 == 0
  | .i3cPrivateRead addr => addr.toNat % 4 == 0
  | .recover _ _ => true
  | .firmwareBootLoad _ _ => true
  | .platformReset cause _ => 1 ≤ cause.toNat && cause.toNat ≤ 0x0B
  | .internalResetRelease _ _ _ => true
  | .platRstInN _ => true
  | .perst _ => true
  | .platRst _ _ => true
  | .xtalCheckWindow _ => true
  | .xtalFail => true
  | .forerunnerDelayExpiry => true
  | .rootPllLock => true
  | .clockLost => true
  | .rampStep _ => true
  | .enterPs1 _ => true
  | .enterPs2 _ => true
  | .enterPs3 _ => true
  | .returnPs0 _ => true
  | .ps2EntryComplete _ => true
  | .ps2ExitComplete _ => true
  | .ps3EntryComplete => true
  | .wakeN _ => true
  | .wakeMaskRelease => true
  | .thermAlertN _ => true
  | .thermHoldEnd => true
  | .throttleStep _ _ => true
  | .thermalTrip sensor => okSensor sensor
  | .dvfs _ _ => true
  | .pmbusPoll _ _ _ _ => true
  | .stkPgFall => true
  | .srst _ _ => true
  | .criticalWrite _ off _ => off.toNat % 4 == 0
  | .twinWrite _ off _ => off.toNat % 4 == 0 && off.getLsbD 11
  | .pairCommit _ off _ => off.toNat % 4 == 0
  | .latchingRead _ off => off.toNat % 4 == 0
  | .readClear _ off => off.toNat % 4 == 0
  | .irqStatusWrite _ _ _ => true
  | .irqEnableWrite _ _ _ => true
  | .irqForce _ _ _ => true
  | .registerWrite _ off size _ => okSize off size
  | .standbyFault _ => true
  | .partnerSignalDetect l => okLink l
  | .lanePowerGood die => okDie die
  | .tierRekeyBlock _ => true
  | .deallocateComplete _ => true
  | .driveCommandTimeout _ => true
  | .stagingTimeout _ => true
  | .pwrFailNRelease => true
  | .vbatLow => true
  | .stkPgRise _ => true
  | .stackHot st _ => okBed st

end Sys2Proof
end

