-- ==== Sys2Proof/Tests/Slice0.lean ====
section
/-! SUPPORT. Our own checks of the model: an ill-formed operand for each check of WellFormed, small tests of one step each, and
for every statement of Certificates/Slice0/Obligations.lean that has hypotheses a state that meets them. What a test expects comes
from the rules of spec/ or, for the ciphers, from the standards that the spec names. -/

namespace Sys2Proof.Tests

set_option Elab.async false

open Sys2Proof Sys2Proof.Machine

/-! ### Small states -/

/-- The device running, as reset leaves everything else. -/
def up : State := { State.reset with phase := .running }

/-- Operand fields of an instruction word, as (lowest bit, value). -/
def word (l : List (Nat × Nat)) : BitVec 48 := BitVec.ofNat 48 (l.foldl (fun a p => a + p.2 * 2 ^ p.1) 0)

/-- A descriptor of 128 bytes from its fields, as (byte offset, value). -/
def desc (l : List (Nat × Nat)) : Bytes := leBytes 128 (l.foldl (fun a p => a + p.2 * 2 ^ (8 * p.1)) 0)

def bw : W64 := bindWord 1 2 0 1 1 2 false false false
def kern : Cmd := { desc := desc [(0, 0x30), (4, 1), (0x20, 0)], sq := 0, tenant := 2, phase := .running, slot := true, ran := true }
def ten : Tenant := { conf := false, pubKey := none, spill := none, removing := false, aborted := 0, lost := 0 }
def plotE : PlotEntry := { state := .active, owner := 2, size := 1, maxSize := 1, grans := [1] }
def leaf0 : Leaf := { tva := 0, size := 0, rights := 15, handle := 1, offset := 0 }

/-- Tenant 2 with job 1, plot 1 mapped at TVA 0, and command 0. -/
def pool : State := { up with
  tenants := [(2, ten)], jobs := [(1, { tenant := 2, groups := 1, scrMib := 1, accGroups := 2 })], plots := [(1, { cur := plotE })]
  leaves := [(2, [leaf0])], cmds := [(0, kern)], nextCmd := 1
  kslots := [(0, { job := 1, image := List.replicate 64 0, hash := 0 })] }

/-- Cell 0 bound to job 1 of tenant 2, running command 0 with the given threads. -/
def onCell (l : List (Nat × Thread)) : State := { pool with
  cells := [(0, { state := .bound, bind := bw, bindC := ~~~bw, threads := l, cmd := some 0 })] }

/-- A thread that can issue, with S1 to S4 as given. -/
def thr (a b c d : W64) : Thread := { s := [(1, a), (2, b), (3, c), (4, d)], resident := true }

def one (a b c d : W64) : State := onCell [(0, thr a b c d)]

/-- The state a command answers. -/
def after (i : Instr) (s : State) : State :=
  match exec i s with
  | .next t => t
  | _ => State.reset

/-- Register n of thread 0 of cell 0. -/
def reg (s : State) (n : Nat) : W64 := (((s.cell 0).thread? 0).map (fun t => t.getS n)).getD 0

/-- The trap cause of thread 0 of cell 0, with its detail. -/
def trapOf (s : State) : Nat × Nat :=
  let r := (((s.cell 0).thread? 0).map (·.trap)).getD 0
  ((r.extractLsb' 0 8).toNat, (r.extractLsb' 8 16).toNat)

/-! ### Well-formedness -/

theorem test_wf_cell : (Instr.hardFault 408 .regFile).wf = false ∧ (Instr.hardFault 407 .regFile).wf = true := by decide
theorem test_wf_add : (Instr.add 408 0 false 0).wf = false ∧ (Instr.vadd 500 0 0).wf = false ∧ (Instr.exit 407 0 0).wf = true := by decide
theorem test_wf_cells : (Instr.selftestComplete [1, 408]).wf = false ∧ (Instr.selftestComplete [1, 16]).wf = true := by decide
theorem test_wf_bed : (Instr.mergeDrain 24).wf = false ∧ (Instr.mergeDrain 23).wf = true := by decide
theorem test_wf_lane : (Instr.blockLock 6 0).wf = false ∧ (Instr.blockLock 5 36).wf = false ∧ (Instr.blockLock 5 35).wf = true := by decide
theorem test_wf_link : (Instr.ackTimeout 48).wf = false ∧ (Instr.ackTimeout 47).wf = true := by decide
theorem test_wf_flit : (Instr.idle 0 {}).wf = false ∧ (Instr.idle 0 { payload := List.replicate 240 0 }).wf = true := by decide +kernel
theorem test_wf_packet : (Instr.write 0 { gtag := [1] }).wf = false ∧ (Instr.write 0 {}).wf = true := by decide
theorem test_wf_markers : (Instr.markerSet 0 { markers := [⟨9, 0, 0, false, false⟩], skew := 0 }).wf = false ∧
    (Instr.markerSet 0 { markers := [⟨1, 0, 0, false, false⟩, ⟨1, 0, 1, false, false⟩], skew := 0 }).wf = false := by decide
theorem test_wf_read : (Instr.read 0 {} [⟨5, 0⟩]).wf = false ∧ (Instr.read 0 {} [⟨5, 1⟩]).wf = true := by decide
theorem test_wf_training : (Instr.stackTraining [⟨24, [], 0, 0⟩]).wf = false ∧ (Instr.stackTraining [⟨0, [], 0, 0⟩]).wf = true := by decide
theorem test_wf_sensor : (Instr.thermalTrip 20).wf = false ∧ (Instr.thermalTrip 56).wf = false ∧ (Instr.thermalTrip 55).wf = true := by decide
theorem test_wf_source : (Instr.translationFill (.cell 408 0) 0 0 0).wf = false ∧ (Instr.translationFill .trellis 0 0 0).wf = true := by decide
theorem test_wf_window : (Instr.bar4Access 0xFFFFFFFFF 2 none).wf = false ∧ (Instr.bar4Access 0 2 (some [1])).wf = false ∧
    (Instr.bar4Access 0 1 (some [1])).wf = true := by decide
theorem test_wf_address : (Instr.entdaa 0).wf = false ∧ (Instr.setdasa 1 0).wf = false ∧ (Instr.entdaa 8).wf = true := by decide
theorem test_wf_i3c : (Instr.i3cPrivateRead 2).wf = false ∧ (Instr.i3cPrivateWrite 2 0).wf = false ∧ (Instr.i3cPrivateRead 4).wf = true := by decide
theorem test_wf_cause : (Instr.platformReset 0 0).wf = false ∧ (Instr.platformReset 12 0).wf = false ∧ (Instr.platformReset 11 0).wf = true := by decide
theorem test_wf_offset : (Instr.criticalWrite .fw 2 0).wf = false ∧ (Instr.twinWrite .fw 0x40 0).wf = false ∧ (Instr.twinWrite .fw 0x840 0).wf = true ∧
    (Instr.pairCommit .fw 1 0).wf = false ∧ (Instr.latchingRead .fw 2).wf = false ∧ (Instr.readClear .fw 3).wf = false := by decide
theorem test_wf_size : (Instr.registerWrite .pcie 4 8 0).wf = false ∧ (Instr.registerWrite .pcie 4 2 0).wf = false ∧
    (Instr.registerWrite .pcie 8 8 0).wf = true := by decide

/-! ### The step -/

theorem witness_StepTakesFront : ({ up with pending := [.tokenAccrual] } : State).pending = [.tokenAccrual] ∧ up.pending = [] := by decide
theorem witness_MemoryCanonicalKept : Memory.wf [(5, 1), (9, 2)] = true ∧
    ∃ t, step ({ up with pending := [.tokenAccrual], mem := [(5, 1), (9, 2)] } : State) = .next t := ⟨by decide, _, rfl⟩

/-! ### Scalar instructions -/

theorem witness_canRun : (one 5 3 0 0).canRun 0 0 (thr 5 3 0 0) = true := by decide
/-- S4 from S1 and S2: the register form, the immediate form, and words that are not legal. -/
theorem witness_ScalarIntegerResults :
    (word [(43, 4), (38, 1), (33, 2)]).extractLsb' 0 33 = 0 ∧ (word [(43, 4), (38, 1), (0, 9)]).extractLsb' 34 4 = 0 ∧
    (word [(43, 4), (38, 1), (0, 9)]).extractLsb' 32 2 ≠ 3 ∧ ¬(word [(0, 1)]).extractLsb' 0 33 = 0 ∧ (word [(32, 3)]).extractLsb' 32 2 = 3 := by decide

theorem test_add_wraps : reg (after (.add 0 0 false (word [(43, 4), (38, 1), (33, 2)])) (one (-1) 3 0 0)) 4 = 2 := by decide
/-- R106: the quotient of -2^63 by -1. -/
theorem test_div_corner : reg (after (.div 0 0 false (word [(43, 4), (38, 1), (33, 2)])) (one 0x8000000000000000 (-1) 0 0)) 4 = 0x8000000000000000 := by
  decide
theorem test_divu_zero : reg (after (.divu 0 0 false (word [(43, 4), (38, 1), (33, 2)])) (one 7 0 0 0)) 4 = -1 := by decide
theorem test_rem_sign : reg (after (.rem 0 0 false (word [(43, 4), (38, 1), (33, 2)])) (one (-7) 3 0 0)) 4 = -1 := by decide
/-- R106: EXT 0b10 places the immediate in the high half. -/
theorem test_ext_high : reg (after (.or 0 0 true (word [(43, 4), (38, 1), (32, 2), (0, 5)])) (one 1 0 0 0)) 4 = 0x500000001 := by decide
theorem test_ext_invalid : trapOf (after (.add 0 0 true (word [(32, 3)])) (one 1 0 0 0)) = (2, 0) := by decide
theorem test_s0 : reg (after (.add 0 0 false (word [(43, 0), (38, 1), (33, 2)])) (one 1 1 0 0)) 0 = 0 := by decide
theorem test_mulh : reg (after (.mulh 0 0 false (word [(43, 4), (38, 1), (33, 2)])) (one (-1) 2 0 0)) 4 = -1 := by decide
theorem test_sar : reg (after (.sar 0 0 false (word [(43, 4), (38, 1), (33, 2)])) (one (-8) 65 0 0)) 4 = -4 := by decide

/-- Words of CLZ, SEL and PCVT, and pool pointers for each of PCVT's ends. -/
theorem witness_CountsSelectAndPointers :
    (word [(43, 4), (38, 1)]).extractLsb' 0 38 = 0 ∧ (word [(43, 4), (38, 1), (33, 2), (28, 3)]).extractLsb' 0 28 = 0 ∧
    (2 ^ 44 ≤ opField64 (0x0001F00000000000 : W64) 4 44 * 16) ∧ (one 0 0 0 0).window 2 1 = {} ∧
    ({ one 0 0 0 0 with windows := [(2 * 65536 + 1, { valid := true, base := 4096 })] } : State).window 2 1 = { valid := true, base := 4096 } ∧
    plotBytes ((one 0 0 0 0).plot 1).cur = 268435456 ∧ plotBytes ((one 0 0 0 0).plot 2).cur ≤ opField64 (0x0002000000000000 : W64) 4 44 * 16 := by
  decide
theorem test_clz : reg (after (.clz 0 0 false (word [(43, 4), (38, 1)])) (one 1 0 0 0)) 4 = 63 := by decide
theorem test_popc_imm : trapOf (after (.popc 0 0 true (word [(43, 4), (38, 1)])) (one 1 0 0 0)) = (2, 0) := by decide
theorem test_sel : reg (after (.sel 0 0 false (word [(43, 4), (38, 1), (33, 2), (28, 3)])) (one 1 2 0 0)) 4 = 2 := by decide
theorem test_pcvt : reg (after (.pcvt 0 0 (word [(43, 4), (38, 1)]))
    ({ one 0x0001000000000010 0 0 0 with windows := [(2 * 65536 + 1, { valid := true, base := 4096 })] } : State)) 4 = 4112 := by decide

/-- FFMA of FP32 words, and the zero fields of the compares and conversions. -/
theorem witness_ScalarFloatResults :
    (word [(43, 4), (38, 1), (33, 2), (28, 3)]).extractLsb' 0 26 = 0 ∧ opField (word [(43, 4), (38, 1), (33, 2)]) 28 5 = 0 ∧
    opField (word [(43, 4), (38, 1), (33, 2)]) 26 7 = 0 ∧ opField (word [(43, 4), (38, 1)]) 28 10 = 0 := by decide
theorem test_fadd : reg (after (.fadd 0 0 (word [(43, 4), (38, 1), (33, 2)])) (one 0x3F800000 0x40000000 0 0)) 4 = 0x40400000 := by decide
/-- A tie goes to even: 2^24 + 1. -/
theorem test_rne_tie : reg (after (.fadd 0 0 (word [(43, 4), (38, 1), (33, 2)])) (one 0x4B800000 0x3F800000 0 0)) 4 = 0x4B800000 := by decide
theorem test_flt_nan : reg (after (.flt 0 0 (word [(43, 4), (38, 1), (33, 2)])) (one 0x7FC00000 0 0 0)) 4 = 0 := by decide

theorem witness_RoundingIsCorrect : (0 : Nat) ≤ 9 ∧ (9 : Nat) ≤ 9 ∧ (3 : Nat) ≤ 3 := by decide

/-- B with each kind of condition; words that are not legal. -/
theorem witness_BranchResults :
    (word [(0, 2)]).extractLsb' 32 2 = 0 ∧ opField (word [(0, 2)]) 34 4 = 0 ∧ opField (word [(43, 1), (38, 2), (34, 1), (0, 2)]) 34 4 = 1 ∧
    opField (word [(43, 1), (34, 7), (0, 2)]) 43 5 < 8 ∧ ¬opField (word [(34, 9)]) 34 4 ≤ 8 ∧ (word [(43, 1), (0, 2)]).extractLsb' 32 11 = 0 ∧
    (word [(43, 1)]).extractLsb' 0 43 = 0 ∧ (word [(43, 1), (38, 2)]).extractLsb' 0 38 = 0 ∧
    (one 5 5 0 0).imageLen ((one 5 5 0 0).cell 0) = some 64 := by decide
def pcOf (s : State) : Nat := (((s.cell 0).thread? 0).map (fun t => t.pc.toNat)).getD 0
theorem test_b_taken : pcOf (after (.b 0 0 (word [(43, 1), (38, 2), (34, 1), (0, 3)])) (one 5 5 0 0)) = 24 := by decide
theorem test_b_past : trapOf (after (.b 0 0 (word [(43, 1), (38, 2), (34, 1), (0, 8)])) (one 5 5 0 0)) = (1, 0) := by decide
theorem test_bl_link : reg (after (.bl 0 0 (word [(43, 3), (0, 1)])) (one 0 0 0 0)) 3 = 8 := by decide
theorem test_jr : pcOf (after (.jr 0 0 (word [(43, 1)])) (one 40 0 0 0)) = 40 := by decide

/-! ### Loads, stores, atomics, furrows -/

/-- A scratchpad load of S4 at S1, and a pool load; the bytes can be had and the thread is as before. -/
theorem witness_ScalarLoads :
    let sp := word [(43, 1), (38, 4), (29, 1)]
    let tv := word [(43, 1), (38, 4)]
    let s := one 8 0 0 0
    memLegal sp false = true ∧ zeroFields sp [(30, 8)] = true ∧ memLegal tv false = true ∧ zeroFields tv [(30, 8)] = true ∧
    (effAddr (thr 8 0 0 0) tv).toNat = 8 ∧ ((s.fetched 0 0 sp [(8, 8)]).map (fun r => (r.1.length, (r.2.cell 0).thread? 0))) = some (8, some (thr 8 0 0 0)) ∧
    ((s.fetched 0 0 tv [(8, 8)]).map (fun r => (r.1.length, (r.2.cell 0).thread? 0))) = some (8, some (thr 8 0 0 0)) := by decide +kernel

theorem witness_ScalarStores :
    let sp := word [(43, 1), (38, 4), (29, 1)]
    let tv := word [(43, 1), (38, 4)]
    let s := one 8 0 0 0x1122
    memLegal sp true = true ∧ memLegal tv true = true ∧
    ((s.stored 0 0 sp [(8, leBytes 8 0x1122)]).map (fun u => (u.cell 0).thread? 0)) = some (some (thr 8 0 0 0x1122)) ∧
    ((s.stored 0 0 tv [(8, leBytes 8 0x1122)]).map (fun u => (u.cell 0).thread? 0)) = some (some (thr 8 0 0 0x1122)) ∧
    (effAddr (thr 1 0 0 0) tv).toNat % 2 ≠ 0 ∧ scratchSize (s.cell 0) < (effAddr (thr 0x100000 0 0 0) sp).toNat + 8 ∧
    2 ^ 57 ≤ (effAddr (thr 0x200000000000000 0 0 0) tv).toNat := by decide +kernel

/-- A byte stored in the pool is read back sign-extended. -/
theorem test_store_load : reg (after (.ld8s 0 0 (word [(43, 1), (38, 3)])) (after (.st8 0 0 (word [(43, 1), (38, 4)])) (one 5 0 0 0x1F0))) 3 =
    0xFFFFFFFFFFFFFFF0 := by decide +kernel
theorem test_ld_align : trapOf (after (.ld16u 0 0 (word [(43, 1), (38, 4)])) (one 5 0 0 0)) = (4, 0) := by decide +kernel
theorem test_ld_range : trapOf (after (.ld8u 0 0 (word [(43, 1), (38, 4), (29, 1)])) (one 0x100000 0 0 0)) = (5, 0) := by decide +kernel
theorem test_ld_high : trapOf (after (.ld8u 0 0 (word [(43, 1), (38, 4)])) (one 0x200000000000000 0 0 0)) = (8, 1) := by decide +kernel

/-- VLD, VLDP6 and a gather with every position active, in the scratchpad. -/
theorem witness_VectorLoads :
    let f := word [(43, 1), (38, 2), (29, 1)]
    let s := one 64 0 0 0
    memLegal f false = true ∧ opField f 42 1 = 0 ∧ opField f 34 4 = 0 ∧ (effAddr (thr 64 0 0 0) f).toNat % 64 = 0 ∧
    ((s.fetched 0 0 f [(64, 64), (128, 64), (192, 64), (256, 64)]).map (fun r => r.1.length)) = some 256 ∧
    ((s.fetched 0 0 f [(64, 64), (128, 64), (192, 64)]).map (fun r => (r.1.length, (r.2.cell 0).thread? 0))) = some (192, some (thr 64 0 0 0)) := by
  decide +kernel

/-- VST of the whole register; VSTP6 with no shared byte; a scatter of one segment of 256 bytes. -/
theorem witness_VectorStores :
    let f := word [(43, 1), (38, 2), (29, 1)]
    let s := one 64 0 0 0
    memLegal f true = true ∧ runsOf (memMask (thr 64 0 0 0) f) 256 0 = [(0, 256)] ∧
    ((s.stored 0 0 f [(64, List.replicate 256 0)]).map (fun u => (u.cell 0).thread? 0)) = some (some (thr 64 0 0 0)) ∧
    ((s.stored 0 0 f [(64, List.replicate 192 0)]).map (fun u => (u.cell 0).thread? 0)) = some (some (thr 64 0 0 0)) := by decide +kernel

theorem witness_AtomicValues : (64 : Nat) ∈ [64, 128] ∧ (2 ^ 64 : Nat) ≤ (2 ^ 64 : Nat) ∧
    decodeFloat (ffmt 0) 0x3F800000 = .fin false 8388608 (-23) := by decide
/-- R114: 1.0 is 2^32 units of a 64-bit word, and the sum must stay in the word's range. -/
theorem test_fadd_units : (match atomicNew .fadd 64 5 0x3F800000 0 with | .ok v => v | .error _ => 0) = 5 + 2 ^ 32 := by decide +kernel
theorem test_fadd_range : (match atomicNew .fadd 64 (2 ^ 63 - 1) 0x3F800000 0 with | .ok _ => 0 | .error d => d) = 2 := by decide +kernel

/-- Atomics on a scratchpad word and on a pool word. -/
theorem witness_AtomicResults :
    let sp := word [(38, 4), (43, 1), (29, 1)]
    let tv := word [(38, 4), (43, 1)]
    let s := one 16 0 0 7
    zeroFields sp [(30, 8)] = true ∧ opField sp 24 2 ≠ 3 ∧ opField sp 19 5 = 0 ∧ (16 : Nat) + 16 ≤ scratchSize (s.cell 0) ∧
    ((s.cellReq 0 none).map (fun q => (match (s.poolAtomic q 0 0 .add 8 16 7 0 (opField tv 24 2)).1 with | .ok o => o | _ => 99))) = some 0 := by
  decide +kernel
theorem test_atomic_old_new : reg (after (.atomicAdd 0 0 false (word [(38, 4), (43, 1)]))
    (after (.atomicAdd 0 0 false (word [(38, 4), (43, 1)])) (one 16 0 0 7))) 4 = 7 := by decide +kernel
theorem test_cas : reg (after (.ld64 0 0 (word [(43, 1), (38, 2)])) (after (.atomicCas 0 0 false (word [(38, 4), (43, 1), (19, 3)])) (one 16 0 9 0))) 2 = 9 := by
  decide +kernel

/-- A furrow of three tiles of 64 bytes; a descriptor in the scratchpad. -/
def fur : Furrow := { isSet := true, base := 0, tile := 64, count := 3, stride := 64 }
def withFur (f : Furrow) (a b : W64) : State := onCell [(0, { thr a b 0 0 with f0 := f })]
def furDesc : List (Nat × Byte) := [(9, 1), (12, 3), (16, 64)]

theorem witness_FurrowResults :
    let s := withFur fur 128 0
    let d : State := onCell [(0, thr 0 0 0 0)]
    let x : TileCopy := { id := 0, put := false, tile := 0, scratch := 128, done := false, wait := .go }
    s.canRun 0 0 { thr 128 0 0 0 with f0 := fur } = true ∧ fur.trap = none ∧ fur.copies = [] ∧ fur.isSet = true ∧ (0 : Nat) + 2 ≤ fur.count.toNat ∧
    zeroFields (word [(38, 1), (33, 2), (0, 2)]) [(24, 6), (43, 5)] = true ∧ 128 + 2 * fur.tile.toNat ≤ scratchSize (s.cell 0) ∧
    leNat ((scratchRead { (d.cell 0) with scratch := furDesc } 0 32).drop 12 |>.take 4) = 3 ∧
    leNat ((scratchRead { (d.cell 0) with scratch := furDesc } 0 32).drop 8 |>.take 4) = 256 ∧
    ((({ withFur { fur with copies := [x], next := 1 } 128 0 with pending := [] } : State).cellReq 0 (some { cell := 0, thread := 0, furrow := 0, id := 0 })).map
      (fun q => (match (s.poolRead q (.cell 0 0) false [((fur.tileTva 0).toNat, 64)]).1 with | .ok d => d.length | .error _ => 0))) = some 64 := by decide +kernel

/-- FWGET of a tile beyond COUNT is trap FURROW with detail 2; a misaligned scratchpad address is ALIGN. -/
theorem test_fwget_beyond : trapOf (after (.fwget 0 0 (word [(38, 1), (33, 2), (0, 2)])) (withFur fur 128 2)) = (13, 2) := by decide +kernel
theorem test_fwget_align : trapOf (after (.fwget 0 0 (word [(38, 1), (33, 2), (0, 1)])) (withFur fur 1 0)) = (4, 0) := by decide +kernel
theorem test_fwclr : ((((after (.fwclr 0 0 0) (withFur fur 0 0)).cell 0).thread? 0).map (fun t => t.f0.isSet)) = some false := by decide +kernel

/-! ### Vector instructions -/

/-- A thread with V1 and V2 as given. -/
def vthr (a b : BitVec 2048) : Thread := { v := [(1, a), (2, b)], resident := true }
def vec (a b : BitVec 2048) : State := onCell [(0, vthr a b)]
def vreg (s : State) (n : Nat) : BitVec 2048 := (((s.cell 0).thread? 0).map (fun t => t.getV n)).getD 0

/-- V3 from V1 and V2 in FP32, in INT8, and in MXFP4 with the scale pairs S2, S4 and S6. -/
theorem witness_ElementWise :
    let f := word [(44, 3), (40, 1), (36, 2)]
    let i8 := word [(44, 3), (40, 1), (36, 2), (23, 10)]
    let mx := word [(44, 3), (40, 1), (36, 2), (23, 9), (15, 2), (10, 4), (5, 6)]
    (vec 0 0).canRun 0 0 (vthr 0 0) = true ∧ opField f 23 4 ≤ 4 ∧ zeroFields f [(0, 20), (32, 4)] = true ∧ vvGovOk f = true ∧
    zeroFields (word [(44, 3), (40, 1)]) [(0, 20), (32, 8)] = true ∧
    opField i8 23 4 = 10 ∧ zeroFields i8 [(0, 20), (32, 4), (20, 3)] = true ∧ vvGovOk i8 = true ∧
    opField mx 23 4 = 9 ∧ zeroFields mx [(0, 5), (32, 4)] = true ∧ vvGovOk mx = true ∧ opField mx 15 5 % 2 = 0 ∧
    zeroFields (word [(44, 3), (40, 1), (23, 9), (15, 2), (5, 6)]) [(0, 5), (32, 4), (36, 4), (10, 5)] = true := by decide +kernel

theorem test_vadd_fp32 : elemAt 0 (vreg (after (.vadd 0 0 (word [(44, 3), (40, 1), (36, 2)])) (vec 0x3F800000 0x40000000)) 3) 0 = 0x40400000 := by
  decide +kernel
/-- INT8: 127 + 1 wraps, and saturates where SAT is 1. -/
theorem test_vadd_int8 : elemAt 10 (vreg (after (.vadd 0 0 (word [(44, 3), (40, 1), (36, 2), (23, 10)])) (vec 127 1)) 3) 0 = 128 ∧
    elemAt 10 (vreg (after (.vadd 0 0 (word [(44, 3), (40, 1), (36, 2), (23, 10), (20, 1)])) (vec 127 1)) 3) 0 = 127 := by decide +kernel

theorem witness_CompareAndReduce :
    let f := word [(44, 3), (40, 1), (36, 2)]
    let r := word [(40, 1), (5, 4)]
    opField f 23 4 ≤ 13 ∧ opField f 44 4 < 8 ∧ zeroFields f [(0, 10), (20, 3), (32, 4)] = true ∧ opField f 15 5 = 0 ∧ opField f 10 5 = 0 ∧
    zeroFields r [(0, 5), (10, 5), (20, 3), (27, 1), (32, 8), (44, 4)] = true ∧
    -- no element active: ME with a mask of zeros
    (List.range (fmtCount 0)).filter (vvActiveAt (vthr 0 0) (word [(40, 1), (5, 4), (31, 1)]) 0) = [] ∧
    (∀ j ∈ List.range 64, vCmpZ (decodeElem 0 0 (elemAt 0 0 j)) (decodeElem 0 0 (elemAt 0 0 0)) ≠ .gt) := by decide +kernel
theorem test_vrmaxi : reg (after (.vrmaxi 0 0 (word [(40, 1), (5, 4)])) (vec (BitVec.ofNat 2048 (0x40000000 * 2 ^ 64)) 0)) 4 = 2 := by decide +kernel

theorem witness_ConversionAndTranscendentals :
    let f := word [(44, 3), (40, 1), (23, 1), (1, 0)]
    let m := word [(44, 3), (40, 1), (23, 0), (1, 5), (5, 4)]
    let t := word [(44, 3), (40, 1), (21, 0)]
    f.getLsbD 0 = false ∧ opField f 36 4 = 0 ∧ opField f 10 5 = 0 ∧ opField f 23 4 = 1 ∧ opField f 1 4 = 0 ∧ opField f 15 5 = 0 ∧ opField f 5 5 = 0 ∧
    opField m 1 4 = 5 ∧ opField m 32 4 < 4 ∧ zeroFields t [(0, 21), (23, 4), (32, 8)] = true ∧ zeroFields t [(0, 27), (32, 8)] = true ∧
    bwReplay ((vec 0 0).cell 0).bind = false := by decide +kernel
/-- Table 05-7: RCP of 2.0 is 0.5; EXP2 of 3.0 is 8.0. -/
theorem test_rcp : elemAt 0 (vreg (after (.rcp 0 0 (word [(44, 3), (40, 1)])) (vec 0x40000000 0)) 3) 0 = 0x3F000000 := by decide +kernel
theorem test_exp2 : elemAt 0 (vreg (after (.exp2 0 0 (word [(44, 3), (40, 1)])) (vec 0x40400000 0)) 3) 0 = 0x41000000 := by decide +kernel

theorem witness_MaskAndMoveResults :
    let m := word [(44, 3), (40, 1), (36, 2)]
    opField m 44 4 < 8 ∧ opField m 40 4 < 8 ∧ zeroFields m [(0, 36)] = true ∧ zeroFields (word [(44, 3), (40, 1)]) [(0, 40)] = true ∧
    zeroFields (word [(44, 3)]) [(0, 44)] = true ∧ zeroFields (word [(40, 1), (5, 4)]) [(0, 5), (10, 30), (44, 4)] = true ∧
    (vthr 0 0).getM 1 = 0 ∧ zeroFields (word [(44, 3), (32, 3), (15, 1)]) [(0, 15), (20, 12), (36, 8)] = true ∧
    zeroFields (word [(40, 1), (32, 3), (5, 4)]) [(0, 5), (10, 22), (36, 4), (44, 4)] = true ∧
    zeroFields (word [(44, 3), (15, 1)]) [(0, 15), (20, 24)] = true ∧ zeroFields (word [(44, 3), (40, 1)]) [(0, 23), (32, 8)] = true ∧
    vvGovOk (word [(44, 3), (40, 1)]) = true ∧ zeroFields (word [(44, 3), (15, 1)]) [(0, 15), (20, 3), (32, 12)] = true ∧
    zeroFields (word [(44, 3), (23, 10)]) [(0, 23), (32, 12)] = true ∧ zeroFields (word [(44, 3), (40, 1), (36, 2)]) [(0, 23), (32, 4)] = true ∧
    zeroFields (word [(40, 1), (10, 2), (5, 4)]) [(0, 5), (15, 8), (27, 13), (44, 4)] = true ∧
    zeroFields (word [(44, 3), (15, 1), (10, 2)]) [(0, 10), (20, 3), (27, 17)] = true ∧ (0 : Nat) < fmtCount 0 ∧ ¬(64 : Nat) < fmtCount 0 := by
  decide +kernel
theorem test_mset : (((after (.mset 0 0 (word [(44, 3)])) (vec 0 0)).cell 0).thread? 0).map (fun t => t.getM 3) = some (BitVec.allOnes 256) := by
  decide +kernel
theorem test_vperm : elemAt 0 (vreg (after (.vperm 0 0 (word [(44, 3), (40, 1), (36, 2)])) (vec (BitVec.ofNat 2048 (7 * 2 ^ 32)) 1)) 3) 0 = 7 := by decide +kernel

/-! ### Accumulators -/

/-- Cell 0 with group 0 allocated by thread 0. -/
def accS (a b : BitVec 2048) (l : List (Nat × AccVal)) (x : W64) : State := { pool with
  cells := [(0, { state := .bound, bind := bw, bindC := ~~~bw, threads := [(0, { vthr a b with s := [(4, x), (5, 9)] })], cmd := some 0,
                  accOwner := [(0, 0)], accBank := [0], accs := l })] }

theorem witness_AccumulatorResults :
    let s := accS 0 0 [] 0
    let th : Thread := { vthr 0 0 with s := [(4, 0), (5, 9)] }
    let dot := word [(44, 1), (40, 2), (35, 0), (31, 3)]
    s.canRun 0 0 th = true ∧ opField dot 27 3 = 0 ∧ (s.cell 0).accOwner.any (fun a => a.1 == 0) = true ∧ opField dot 0 13 = 0 ∧ opField dot 31 4 ≤ 4 ∧
    zeroFields (word [(44, 1), (31, 1), (6, 4)]) [(0, 6), (11, 7), (27, 4), (40, 4)] = true ∧
    zeroFields (word [(31, 1), (6, 4)]) [(0, 6), (11, 12), (27, 4), (40, 8)] = true ∧
    zeroFields (word [(31, 1), (18, 4), (13, 2)]) [(0, 13), (23, 8), (40, 8)] = true ∧
    (s.cell 0).accOwner.any (fun a => a.1 == (th.getS 5).toNat) = false ∧ zeroFields (word [(31, 1)]) [(0, 31), (40, 8)] = true ∧
    zeroFields (word []) [(0, 35), (40, 8)] = true ∧ zeroFields (word [(31, 1), (6, 4)]) [(0, 5), (13, 10), (27, 4), (40, 8)] = true ∧
    zeroFields (word [(44, 1), (31, 1)]) [(0, 5), (6, 5), (13, 10), (40, 4)] = true ∧
    zeroFields (word [(31, 1), (6, 4)]) [(0, 6), (11, 20), (40, 8)] = true ∧ (th.getS 4).toNat % 16 = 0 := by decide +kernel
/-- A dot product of one pair: 2.0 times 3.0 is 6 units of 2^320. -/
theorem test_vdot : Tab.get (.fin 0) ((after (.vdot 0 0 (word [(44, 1), (40, 2)])) (accS 0x40000000 0x40400000 [] 0)).cell 0).accs 0 = .fin (6 * 2 ^ 320) := by
  decide +kernel
theorem test_accrnd : reg (after (.accrnd 0 0 (word [(6, 4)])) (accS 0 0 [(0, .fin (6 * 2 ^ 320))] 0)) 4 = 0x40C00000 := by decide +kernel
theorem test_acc_unallocated : trapOf (after (.accclr 0 0 (word [(35, 5)])) (accS 0 0 [] 0)) = (6, 2) := by decide +kernel

/-- With two groups declared: handle 1 is free while 0 is allocated; with both allocated none is. -/
theorem witness_AccumulatorHandles :
    let s := accS 0 0 [] 0
    ((s.cell 0).bind.extractLsb' 51 7).toNat = 2 ∧ (s.cell 0).accOwner.any (fun a => a.1 == 1) = false ∧
    (s.cell 0).accOwner.any (fun a => a.1 == 0) = true ∧ zeroFields (word [(6, 4)]) [(0, 6), (11, 37)] = true := by decide +kernel
theorem test_accalloc : reg (after (.accalloc 0 0 (word [(6, 4)])) (accS 0 0 [] 0)) 4 = 1 := by decide +kernel

theorem witness_ExactSumIsOrderIndependent : ([AccVal.fin 1, .inf false] : List AccVal).Perm [.inf false, .fin 1] ∧
    accumulate (.fin 0) [.fin 1] false = some (.fin 1, flIf false flNV) := ⟨.swap _ _ _, by decide +kernel⟩

/-! ### System instructions -/

/-- Two threads of a group; the other one waits at its barrier. -/
def pair2 (r : ThreadRun) : State := onCell [(0, thr 0 0 0 0), (1, { resident := true, run := r })]

theorem witness_SystemResults :
    (pair2 .ready).canRun 0 0 (thr 0 0 0 0) = true ∧ (pair2 .barG).canRun 0 0 (thr 0 0 0 0) = true ∧
    ((pair2 .ready).cell 0).threads.filter (fun kv => kv.1 / 64 == 0 && kv.1 != 0) = [(1, { resident := true })] ∧
    ((pair2 .ready).cell 0).cmd = some 0 ∧ zeroFields (word [(30, 2)]) [(0, 30), (33, 15)] = true ∧ opField (word [(30, 2)]) 30 3 ≤ 2 ∧
    zeroFields (word [(43, 4), (38, 1), (33, 2)]) [(0, 33)] = true ∧ bwReplay ((pair2 .ready).cell 0).bind = false ∧
    zeroFields (word [(43, 4), (0, 10)]) [(24, 19)] = true ∧ zeroFields (word [(43, 4)]) [(0, 43)] = true ∧ zeroFields (word [(0, 77)]) [(16, 32)] = true ∧
    (thr 0 0 0 0).f0.trap = none ∧ (thr 0 0 0 0).f1.copies = [] ∧ zeroFields (word [(43, 4), (0, 1)]) [(1, 42)] = true := by decide +kernel
/-- NOTIFY to a channel of the own tenant that is empty, full, or not granted. -/
def withChan (c : Channel) : State := { one 3 9 0 0 with channels := [(3, c)] }
theorem witness_Notify :
    (match (withChan { tenant := 2, granted := true, recv := 1 }).sendWord 3 9 ((withChan {}).ownStamp 1) true with | (.taken, _) => true | _ => false) = true ∧
    (match (withChan { tenant := 2, granted := true, recv := 1, word := some (1, ⟨0, 0, 0⟩) }).sendWord 3 9 ((withChan {}).ownStamp 1) true with
      | (.full, _) => true | _ => false) = true ∧
    (match (withChan {}).sendWord 3 9 ((withChan {}).ownStamp 1) true with | (.refused, _) => true | _ => false) = true := by decide +kernel
theorem test_barg : pcOf (after (.barg 0 0 0) (pair2 .barG)) = 8 ∧ pcOf (after (.barg 0 0 0) (pair2 .ready)) = 0 := by decide +kernel
theorem test_trap : trapOf (after (.trap 0 0 (word [(0, 77)])) (one 0 0 0 0)) = (14, 77) := by decide +kernel
theorem test_rdid : reg (after (.rdid 0 0 (word [(43, 4), (0, 8)])) (one 0 0 0 0)) 4 = 2 := by decide +kernel
theorem test_notify_full : reg (after (.notify 0 0 (word [(43, 4), (38, 1), (33, 2)]))
    (withChan { tenant := 2, granted := true, recv := 1, word := some (1, ⟨0, 0, 0⟩) })) 4 = 1 := by decide +kernel

theorem witness_TrapRecord : (0x0E : Nat) < 256 ∧ ((one 0 0 0 0).cell 0).thread? 0 = some (thr 0 0 0 0) := by decide +kernel

/-! ### Plots -/

/-- Arguments of a page's commands. -/
def withArgs (s : State) (pg : Nat) (l : List Nat) : State :=
  (l.foldl (fun (a : State × Nat) v => (a.1.setArg pg a.2 v, a.2 + 1)) (s, 0)).1

/-- STATUS of a page's last command. -/
def status (s : State) (pg : Nat) : Nat := s.fld pg (cmdStatusOff pg) 8 8

def noKids : State := { pool with cells := [], cmds := [] }
def grantE : Grant := { job := false, id := 5, live := 3, removed := 0 }
def granted : State := { noKids with plots := [(1, { cur := { plotE with grants := [grantE] } })] }
/-- One plot of two granules, sealed list 0 frozen. -/
def two : State := { noKids with plots := [(1, { cur := { plotE with size := 2, maxSize := 2, grans := [1, 2] } })], allow := [(0, { frozen := true, ids := [0] })] }

theorem witness_PlmCommandsComplete :
    let cr := withArgs noKids pgPLM [2, 1, 0]
    let re := withArgs { noKids with granules := [(9, { owner := 4, pos := 0, sealed := false })] } pgPLM [2, 1, 0]
    let gr := withArgs noKids pgPLM [0x03000005]
    let rs := withArgs noKids pgPLM [0, 2]
    let mw := withArgs noKids pgPLM [2, 0x10000, 0, 1]
    noKids.takes .pcie pgPLM = true ∧
    freeState (cr.plot 4).cur = true ∧ (cr.started pgPLM).argsBad pgPLM 0 [0x377FFF, 0x1FFFF, 0x1F, 0] = false ∧ attrBad (attrEntry 2 1 0) = false ∧
    cr.tenantOpen 2 = true ∧ cr.tenantConf 2 = false ∧ (cr.started pgPLM).overLimit 4 (attrEntry 2 1 0) = false ∧
    (∃ g k, (cr.started pgPLM).room (attrEntry 2 1 0) 1 = .ok g k) ∧ (cr.started pgPLM).freeHandle = some 0 ∧
    re.takes .pcie pgPLM = true ∧ (re.started pgPLM).recorded 4 (attrEntry 2 1 0) = some ([9], []) ∧ (attrEntry 2 1 0).tiered = false ∧
    gr.plotQuiet 1 = true ∧ (gr.started pgPLM).argsBad pgPLM 0 [0x0F1FFFFF, 0, 0, 0] = false ∧ (0x03000005 : Nat) % 2 ^ 20 < 8192 ∧
    (gr.plot 1).cur.grants.length < gr.fld pgPLM 0x084 0 9 ∧
    (rs.started pgPLM).argsBad pgPLM 0 [0, 0x1FFFF, 0, 0] = false ∧ sizeBad (rs.plot 1).cur 2 = false ∧
    (∃ g k, (rs.started pgPLM).room (rs.plot 1).cur 1 = .ok g k) ∧ freeState (rs.plot 1).cur = false ∧
    (mw.started pgPLM).argsBad pgPLM 0 [0xFFF, 0xFFFFFFFF, 0x1FFFFFF, 1] = false ∧ mw.tenantKnown 2 = true ∧ 0x10000 % pageSize (mw.plot 1).cur = 0 := by
  refine ⟨by decide, by decide, by decide, by decide, by decide, by decide, by decide, ⟨[0], [], by decide +kernel⟩, by decide +kernel, by decide, by decide, by decide,
    by decide, by decide, by decide, by decide, by decide, by decide, ⟨[0], [], by decide +kernel⟩, by decide, by decide, by decide, by decide⟩

theorem test_create : status (after (.create .pcie true 0 0) (withArgs noKids pgPLM [2, 1, 0])) pgPLM = 0 ∧
    ((after (.create .pcie true 0 0) (withArgs noKids pgPLM [2, 1, 0])).plot 0).cur.grans = [0] := by decide +kernel
/-- R471: an unknown owner is NO_TENANT. -/
theorem test_create_tenant : status (after (.create .pcie true 0 0) (withArgs noKids pgPLM [3, 1, 0])) pgPLM = 0x0A := by decide +kernel

theorem witness_RevokingCommandsDrain :
    let un := withArgs granted pgPLM [5]
    let g1 := withArgs granted pgPLM [0x01000005]
    let rs := withArgs two pgPLM [0, 1]
    let z := withArgs two pgPLM [0, 0, 0, 0]
    un.takes .pcie pgPLM = true ∧ un.plotQuiet 1 = true ∧ findGrant (un.plot 1).cur false 5 = some grantE ∧ grantE.live ≠ 0 ∧
    (un.started pgPLM).argsBad pgPLM 0 [0x1FFFFF, 0, 0, 0] = false ∧ (un.started pgPLM).argsBad pgPLM 0 [0x0F1FFFFF, 0, 0, 0] = false ∧
    (g1.started pgPLM).argsBad pgPLM 0 [0x0F1FFFFF, 0, 0, 0] = false ∧ grantE.live &&& ~~~(1 : BitVec 4) ≠ 0 ∧
    rs.plotQuiet 1 = true ∧ (rs.started pgPLM).argsBad pgPLM 0 [0, 0x1FFFF, 0, 0] = false ∧ sizeBad (rs.plot 1).cur 1 = false ∧ 1 < (rs.plot 1).cur.size ∧
    z.takes .pcie pgPLM = true ∧ z.plotQuiet 1 = true ∧ (z.started pgPLM).argsBad pgPLM 0 [0, 0, 0, 0] = false ∧
    (z.started pgPLM).argsBad pgPLM 0 [0xFFFF, 0, 0, 0] = false ∧ ((Tab.find? z.allow 0).map (·.frozen)) = some true ∧ (z.plot 1).cur.sealed = false := by
  decide +kernel

/-- A plot that is being released, at the given points. -/
def drain (a b : Bool) : Revoking := { entry := { plotE with state := .released }, at0 := a, at1 := b, final := .released, freed := [1], freedSlots := [], byCmd := true, since := 0, aborted := 0, lost := 0, xfer := false, mark := 0 }
def draining (a b : Bool) : State := ({ noKids with plots := [(1, { cur := { plotE with state := .draining }, rev := some (drain a b) })] }).started pgPLM

theorem witness_RevocationRunsToItsEnd :
    ((draining false false).plot 1).rev = some (drain false false) ∧ ((draining true false).plot 1).rev = some (drain true false) ∧
    ((draining true true).plot 1).rev = some (drain true true) ∧ (draining true false).linesAt 1 = [] ∧
    (draining true false).deniedCmds 1 (drain true false).entry = [] ∧ (draining true true).oldReqs 1 0 = false ∧
    (draining true true).shooting (.revoke 1) = false ∧ (drain true true).byCmd = true ∧
    ((Tab.find? (draining true true).tenants 2).map (·.removing)).getD false = false ∧
    (5 : Nat) ∈ ({ noKids with clearing := [5] } : State).clearing ∧ Tab.find? ({ noKids with clearing := [5] } : State).wait pgPLM = none := by decide +kernel
theorem test_revocation : ((after (.revokingCommandComplete 1) (draining true true)).plot 1).cur.state = .released ∧
    status (after (.revokingCommandComplete 1) (draining true true)) pgPLM = 0 := by decide +kernel

/-- Two plots that a PUBLISH of command 7 may exchange. -/
def pubCmd (v : Nat) : Cmd := { desc := desc [(0, 0x40), (4, 1), (0x20, 1), (0x22, 3), (0x28, v)], sq := 0, tenant := 2, phase := .running, slot := true }
def pub (v : Nat) (e : PlotEntry) : State := { noKids with plots := [(1, { cur := plotE }), (3, { cur := e })], cmds := [(7, pubCmd v)], nextCmd := 8 }
def shadowE : PlotEntry := { plotE with grans := [9] }
def published (p : Bool) : State := { pub 0 { shadowE with state := .publishing } with
  plots := [(1, { cur := { plotE with state := .publishing } }), (3, { cur := { shadowE with state := .publishing } })]
  publishing := [{ cmd := 7, target := 1, shadow := 3, point := p }] }

theorem witness_PublishExchangesTwoPlots :
    pubFields (pubCmd 0) = (1, 3, 0) ∧ (pubCmd 0).opcode = 0x40 ∧ (pub 0 shadowE).cmd? 7 = some (pubCmd 0) ∧ (pub 0 shadowE).publishing = [] ∧
    (pub 0 shadowE).pubTarget 1 = false ∧ (published true).pubTarget 1 = true ∧ freeState ((pub 0 shadowE).plot 3).cur = false ∧
    ((pub 0 shadowE).plot 3).cur.owner = (pubCmd 0).tenant ∧ pubAlike plotE shadowE = true ∧ pubAlike plotE { shadowE with size := 2 } = false ∧
    (pub 0 shadowE).pubShadow 3 = false ∧ plotE.version ≠ 5 ∧ ((pub 0 { shadowE with owner := 4 }).plot 3).cur.owner ≠ 2 ∧
    (published false).publishing.find? (fun p => p.target == 1) = some { cmd := 7, target := 1, shadow := 3, point := false } ∧
    (published false).linesAt 1 = [] ∧ (published true).oldReqs 1 0 = false ∧ (published true).shooting (.publish 1 3) = false := by decide +kernel
theorem test_publish_conflict : ((after (.publish 7) (pub 5 shadowE)).cmd? 7).map (·.status) = some 0x1A := by decide +kernel
theorem test_publish_exchange : ((after (.publishPoint 1) (published false)).plot 1).cur.grans = [9] ∧
    ((after (.publishPoint 1) (published false)).plot 1).cur.version = 1 ∧ ((after (.publishPoint 1) (published false)).plot 3).cur.grans = [1] := by
  decide +kernel

/-- Each order of Table 02-3, at the first offset that each check takes. -/
def sealedS : State := { two with plots := [], allow := [(0, { frozen := true, ids := [] })] }
def sealedE : PlotEntry := { plotE with sealed := true, allow := some 0 }
theorem witness_PlotCheckOrder :
    sealedS.sealList 1 sealedE = some [] ∧ sealedS.sealAdmits 1 [] (.inside 1 none) .read = false ∧
    (noKids.rightsOf { plotE with owner := 4, grants := [{ grantE with job := true, id := 1, live := 0, removed := 3 }] } (.inside 1 none)) = (0, 3) ∧
    noKids.jobTenant 1 = some 2 ∧ noKids.journalPlot 1 = false := by decide +kernel
theorem test_plot_check : noKids.checkEntry 1 plotE (.inside 1 none) .read rightR 268435455 1 = 0 ∧
    noKids.checkEntry 1 plotE (.inside 1 none) .read rightR 268435456 1 = 6 ∧
    noKids.checkEntry 1 { plotE with maxSize := 2 } (.inside 1 none) .read rightR 268435456 1 = 4 ∧
    noKids.checkEntry 1 { plotE with state := .revoked } (.inside 1 none) .read rightR 0 1 = 4 := by decide +kernel

/-! ### Cells and the trellis -/

def freeC : Cell := { state := .free }
def boundC : Cell := { state := .bound, bind := bw, bindC := ~~~bw }
/-- Cells 0 and 1 FREE, cell 2 BOUND to job 1, the spare of bed 0 in SPARE; nothing runs. -/
def trl : State := { noKids with cells := [(0, freeC), (1, freeC), (2, boundC), (16, { state := .spare })] }

theorem witness_TrellisCommandsComplete :
    let b := withArgs trl pgTRL [5 + 2 * 2 ^ 20, 1 + 2 * 2 ^ 24, 1 + 256 + 65536]
    let u := withArgs trl pgTRL [1, 0xFFFFFF]
    let r := withArgs trl pgTRL [1]
    let k := withArgs trl pgTRL [1, 0, 0, 4096]
    let n := withArgs trl pgTRL [7]
    let z := withArgs trl pgTRL [0]
    b.takes .pcie pgTRL = true ∧ (b.started pgTRL).argsBad pgTRL 0 [0xFFFFFFFF, 0x3FFFFFFF, 0x007F1F1F, 0] = false ∧ b.tenantOpen 2 = true ∧
    b.jobTenant 5 = none ∧ b.positions 5 = [] ∧ (b.cellsWhere (fun c x => x.state == .free && cellBed c == 0)).take 2 = [0, 1] ∧
    u.takes .pcie pgTRL = true ∧ (u.started pgTRL).argsBad pgTRL 0 [0xFFFFF, 0x1FFFFFFF, 0, 0] = false ∧ u.jobHolds 1 = true ∧ u.jobRuns 1 = false ∧
    (∀ q ∈ u.positions 1, q.2.1 < 24) ∧ u.boundCells 1 = [2] ∧ (r.started pgTRL).argsBad pgTRL 0 [0xFFFFF, 0, 0, 0] = false ∧ r.kload = none ∧
    (k.started pgTRL).argsBad pgTRL 0 [0xFFFFF, 0xFFFFFFFF, 0x1FFFFFF, 0x1FFFFFF] = false ∧ Tab.has k.kslots 1 = false ∧ Tab.has k.kslots 0 = true ∧
    (4096 + 4095) / 4096 ≤ k.storeFree ∧ (Tab.find? z.kslots 0).isSome = true ∧ z.slotRuns 0 = false ∧ (one 0 0 0 0).slotRuns 0 = true ∧
    (z.started pgTRL).argsBad pgTRL 0 [0x3FF, 0, 0, 0] = false ∧ (z.started pgTRL).argsBad pgTRL 0 [0x3FF, 0xFFFFFFFF, 0xFFFFFFFF, 0] = false ∧
    Tab.find? n.kslots 7 = none ∧ (z.started pgTRL).argsBad pgTRL 0 [0x1FF, 0, 0, 0] = false ∧ (z.cell 0).state = .free ∧ (z.cell 16).state = .spare ∧
    (z.cell 20).state = .selftest ∧ (noKids.cell 16).state ≠ .spare := by decide +kernel
theorem test_bind : ((after (.bind .pcie 0) (withArgs trl pgTRL [5 + 2 * 2 ^ 20, 1 + 2 * 2 ^ 24, 1 + 256 + 65536])).cell 1).state = .bound ∧
    bwPos ((after (.bind .pcie 0) (withArgs trl pgTRL [5 + 2 * 2 ^ 20, 1 + 2 * 2 ^ 24, 1 + 256 + 65536])).cell 1).bind = 1 := by decide +kernel
theorem test_bind_few : status (after (.bind .pcie 0) (withArgs trl pgTRL [5 + 2 * 2 ^ 20, 1 + 3 * 2 ^ 24, 1 + 256 + 65536])) pgTRL = 3 := by decide +kernel
theorem test_substitute : ((after (.substitute .pcie 0) (withArgs trl pgTRL [2])).cell 2).cause = 7 ∧
    ((after (.substitute .pcie 0) (withArgs trl pgTRL [2])).cell 16).state = .selftest := by decide +kernel

def lentC : Cell := { state := .lent, bind := bw, bindC := ~~~bw }
def substR : SubstRun := { failed := 2, spare := 16, toBound := true, bind := bw, byCmd := true }
def fullC : Cell := { boundC with threads := [(0, { resident := true, run := .barG }), (64, { since := 1 })] }
def kl : KLoadRun := { slot := 1, job := 1, tva := 0, len := 64, dead := false, fault := none }

theorem witness_CellEventsTakeEffect :
    let bad : State := { noKids with cells := [(2, { boundC with bindC := 0 })] }
    let sub : State := { trl with substs := [substR] }
    let con : State := { noKids with cells := [(2, fullC)] }
    let np : State := { noKids with cmds := [(7, { kern with beds := [0] })] }
    let kld : State := { trl with kload := some kl }
    trl.phase = .running ∧ trl.cmds = [] ∧ Tab.find? trl.wait pgTRL = none ∧ up.substs = [] ∧ (up.cell 5).state = .selftest ∧ (trl.cell 0).cmd = none ∧
    (trl.cell 2).bindOk = true ∧ (bad.cell 2).bindOk = false ∧ (trl.cell 16).state = .spare ∧
    (({ trl with cells := [(3, { state := .purging })] } : State).cell 3).state = .purging ∧ (({ trl with cells := [(3, lentC)] } : State).cell 3).state = .lent ∧
    lentC.cmd = none ∧ Cell.oldestReady (con.cell 2) = some 64 ∧ con.cellRuns (con.cell 2) = true ∧ (con.cell 2).residentCount < 64 ∧
    (((con.cell 2).thread? 0).map (·.run)) = some .barG ∧ sub.substs.find? (fun y => cellBed y.spare == 0) = some substR ∧
    (np.cmd? 7).map (·.beds) = some [0] ∧ np.boundCells 1 = [] ∧ np.cellsIn .free = [] ∧
    (match kld.engReach (kld.kloadReq kl) rightX false (cutAll [(0, 64)]) with
      | (.ok ps, s1) => (match s1.engReadPieces 0 ps with | (.ok d, _) => d.length | _ => 0) | _ => 0) = 64 := by decide +kernel
theorem test_hard_fault : ((after (.hardFault 2 .accBank) trl).cell 2).cause = 3 ∧ (after (.hardFault 2 .accBank) trl).bit (pgCELL 2) 0x060 1 = true := by
  decide +kernel
theorem test_substitution : ((after (.substitutionComplete 0 true) ({ trl with substs := [substR] } : State)).cell 16).state = .bound := by decide +kernel

/-! ### Pool operations -/

/-- A command of job 1 in execution on cells, with a descriptor. -/
def opC (l : List (Nat × Nat)) : Cmd := { desc := desc l, sq := 0, tenant := 2, phase := .running, slot := true, ran := true }
/-- Command 7 in execution, with a byte of the pool set. -/
def op (c : Cmd) : State := { noKids with cmds := [(7, c)], nextCmd := 8, plots := [(1, { cur := plotE })] }
def fillC (p : Nat) : Cmd := opC [(0, 1), (4, 1), (0x20, 0x100), (0x28, 32), (0x30, p)]
def copyC (src : Nat) : Cmd := opC [(0, 2), (4, 1), (0x20, 0x100), (0x28, 32), (0x30, src)]
def cmpC : Cmd := opC [(0, 3), (4, 1), (0x20, 0x100), (0x28, 32), (0x30, 0x200)]
def redC : Cmd := opC [(0, 4), (4, 1), (0x20, 0x100), (0x28, 2), (0x2C, 4), (0x30, 64), (0x38, 0x400)]
def hashC : Cmd := opC [(0, 5), (4, 1), (0x20, 0x100), (0x28, 32), (0x30, 0x400)]
def gatC : Cmd := opC [(0, 0x10), (4, 1), (0x20, 0x100), (0x28, 2), (0x2C, 64), (0x30, 16), (0x38, 1), (0x40, 0x1000), (0x48, 0x1100), (0x58, 0x1200)]
def okRead (s : State) (c : Cmd) (l : List (Nat × Nat)) : Nat :=
  match s.engRead 7 c.xreq l with | (.ok d, s1) => if s1.stillRuns 7 && s1.coll.isEmpty then d.length else 0 | _ => 0
def okWrite (s : State) (c : Cmd) (l : List (Nat × Bytes)) : Bool := match s.engWrite c.xreq l with | (none, s1) => s1.stillRuns 7 | _ => false

theorem witness_PoolOperationsComplete :
    (op (fillC 5)).runs 7 1 (fillC 5) = true ∧ (fillC 5).desc.length = 128 ∧ (fillC 5).desc.getD (0x30 + 0) 0 ≠ 0 ∧
    okWrite (op (fillC 5)) (fillC 5) [(0x100, List.replicate 32 5)] = true ∧
    (∀ i ∈ List.range 16, (fillC 0).desc.getD (0x30 + i) 0 = 0) ∧
    (match (op (fillC 0)).engReach (fillC 0).xreq rightW true (cutAll [(0x100, 32)]) with
      | (.ok ps, s1) => (match s1.engZero 0x100 ps with | (none, s2) => s2.stillRuns 7 | _ => false) | _ => false) = true ∧
    (op (copyC 0x200)).runs 7 2 (copyC 0x200) = true ∧ okRead (op (copyC 0x200)) (copyC 0x200) [(0x200, 32)] = 32 ∧
    (op cmpC).runs 7 3 cmpC = true ∧ okRead (op cmpC) cmpC [(0x100, 32), (0x200, 32)] = 64 ∧
    (op redC).runs 7 4 redC = true ∧ okRead (op redC) redC [(0x100, 16), (0x140, 16)] = 32 ∧ (op hashC).runs 7 5 hashC = true ∧
    (op gatC).runs 7 0x10 gatC = true ∧ gatC.field 0x38 4 = 1 ∧ (gatC.field 0x33 1).testBit 2 = false ∧ okRead (op gatC) gatC [(0x1000, 8)] = 8 := by decide +kernel
/-- Bytes 0 to 15 of PATTERN repeat. -/
theorem test_fill : ((after (.fill 7) (op (fillC 5))).cmd? 7).map (fun k => (k.status, k.phase)) = some (0, .posting) := by decide +kernel
theorem test_compare_equal : ((after (.compare 7) (op cmpC)).cmd? 7).map (·.result) = some (leBytes 8 32 ++ [1]) := by decide +kernel

theorem witness_ReductionIgnoresOrder : outFmt 0 = true ∧ gatherFmt 0 = true ∧ (0 : Nat) < 3 ∧ ([Val.fin false 1 0, .fin true 3 0] : List Val).Perm [.fin true 3 0, .fin false 1 0] :=
  ⟨by decide, by decide, by decide, .swap _ _ _⟩
/-- 1.0 + (-1.0) is +0 except in RD. -/
theorem test_reduce : reduceVals 0 0 0 false [.fin false 1 0, .fin true 1 0] = 0 ∧ reduceVals 0 0 3 false [.fin false 1 0, .fin true 1 0] = 0x80000000 ∧
    reduceVals 1 0 0 false [.fin false 1 0, .fin true 3 0] = 0x3F800000 := by decide +kernel

/-- An ATTEND of one sequence in pages of 64 places, head dimension 2, FP8 keys. -/
def attC : Cmd := opC [(0, 0x11), (4, 1), (0x20, 0x1000), (0x28, 1), (0x2A, 1), (0x2B, 1), (0x2C, 2), (0x2F, 3), (0x38, 0x3F800000)]
/-- A state with bytes in the plot of job 1. -/
def poke (s : State) (c : Cmd) (l : List (Nat × Bytes)) : State := (s.engWrite c.xreq l).2
/-- One token over a sequence of one position, whose page list holds `page`. -/
def attS (c : Cmd) (page : Nat) : State :=
  poke (op c) c [(0x1000, leBytes 64 (0x1100 + 2 ^ 64 + 2 ^ 96 + 0x1200 * 2 ^ 128 + 0x1300 * 2 ^ 192)), (0x1100, leBytes 8 page)]
theorem witness_AttendRunsInTwoPhases :
    let k : Cmd := { attC with appended := true }
    let a := attShape attC
    let e : SeqEnt := { pages := 0, len := 0, t := 1, q := 0, out := 0, newkv := 0, lse := 0 }
    (attS attC 0).runs 7 0x11 attC = true ∧ attC.appended = false ∧ okRead (attS attC 0) attC [(0x1000, 64)] = 64 ∧
    okRead (attS attC 0) attC [(0x1100, 8)] = 8 ∧ pageBad 0 = true ∧ pageBad 0x1400 = false ∧ a.append = false ∧
    (match (attS attC 0).engRead 7 attC.xreq [(0x1000, 64)] with | (.ok d, _) => seqBad a d | _ => true) = false ∧
    (match (op attC).engRead 7 attC.xreq [(0x1000, 64)] with | (.ok d, _) => seqBad a d | _ => false) = true ∧
    (attS k 0x1400).runs 7 0x11 k = true ∧ k.appended = true ∧
    (match (attS k 0x1400).attSecond 7 k with | (.done 0 [] _ _, s1) => s1.stillRuns 7 | _ => false) = true ∧ a.pages e = 0 := by decide +kernel
theorem test_attend_page : ((after (.attend 7) (attS attC 0)).cmd? 7).map (fun c => (c.status, c.result)) = some (0x13, List.replicate 8 0) := by decide +kernel
theorem test_attend_sequence : ((after (.attend 7) (op attC)).cmd? 7).map (fun c => (c.status, c.result)) =
    some (1, List.replicate 4 0 ++ List.replicate 4 255) := by decide +kernel

/-- A COLLECT of two ranks of four FP32 elements. -/
def colC (rank : Nat) : Cmd := opC [(0, 0x12), (4, 1), (0x20, 3), (0x24, 2), (0x26, rank), (0x28, 4), (0x30, 0x100), (0x38, 0x400)]
def colS : CollSlot := instOf (colC 0)
def col (i : List (Nat × CollSlot)) : State := { op (colC 1) with coll := i }
theorem witness_CollectGathersRanks :
    (col []).cmd? 7 = some (colC 1) ∧ (colC 1).opcode = 0x12 ∧ (col []).registered < 65536 ∧
    colS.phase = .open_ ∧ colS.differs (instOf (colC 1)) = false ∧ colS.differs (instOf { colC 1 with desc := desc [(0, 0x12), (4, 1), (0x20, 3), (0x24, 5)] }) = true ∧
    Tab.find? (col [(3, colS)]).coll 3 = some colS ∧ ({ colS with ranks := [(1, 7)] } : CollSlot).ranks = [(1, 7)] ∧
    (let r : CollSlot := { colS with ranks := [(1, 7)], phase := .reducing, hasSlot := true }
     (match (col [(3, r)]).engRead 7 (colC 1).xreq [(0x100, rowBytes r.ifmt.toNat r.e)] with
      | (.ok d, s1) => (match s1.engWrite (colC 1).xreq [(0x400, collectOut r [d] 1)] with
        | (none, s2) => ((s2.cmd? 7).map (·.phase), d.length) | _ => (none, 0))
      | _ => (none, 0))) = (some .running, 16) ∧
    (colC 1).beds = [] ∧ (colC 1).fault = none := by decide +kernel
theorem test_collect_opens : ((Tab.find? (after (.collect 7) (col [])).coll 3).map (fun i => (i.phase, i.ranks, i.n))) = some (.open_, [(1, 7)], 2) := by decide +kernel
theorem test_collect_again : ((after (.collect 7) (col [(3, { colS with ranks := [(1, 6)] })])).cmd? 7).map (·.status) = some 0x15 := by decide +kernel

def kerC : Cmd := opC [(0, 0x30), (4, 1), (0x20, 0), (0x24, 8)]
def ker (c : Cmd) : State := { op c with cells := [(2, boundC)] }
def rcC : Cmd := opC [(0, 0x20), (4, 1), (0x20, 9), (0x28, 0), (0x30, 0x100), (0x38, 64)]
def rpC : Cmd := opC [(0, 0x41), (4, 1), (0x20, 0), (0x28, 65536)]
theorem witness_KernelAndTransferCommands :
    let away : State := { op rpC with leaves := [(2, [{ leaf0 with remote := true, resident := true }])] }
    (ker kerC).runs 7 0x30 kerC = true ∧ (ker kerC).kernelBefore 7 kerC = false ∧ ((Tab.find? (ker kerC).jobs 1).map (·.kernel)) = some none ∧
    (Tab.find? (ker kerC).kslots 0).isSome = true ∧ Tab.find? (ker kerC).kslots 5 = none ∧ (ker kerC).boundCells 1 = [2] ∧ (op kerC).boundCells 1 = [] ∧
    kerC.field 0x24 4 < 64 ∧ kerC.desc.length = 128 ∧ (op rcC).runs 7 0x20 rcC = true ∧ Tab.find? (op rcC).xfers 7 = none ∧ 0 < ((op rcC).win 9).w ∧
    0 < rcC.field 0x38 8 ∧ (op rpC).runs 7 0x41 rpC = true ∧ ((op rpC).tree 2).filter (fun l => l.remote && l.resident) = [] ∧
    ((away.tree 2).filter (fun l => l.remote && l.resident)).length = 1 ∧
    (op (opC [(0, 0x50), (4, 1)])).runs 7 0x50 (opC [(0, 0x50), (4, 1)]) = true := by decide +kernel
theorem test_kernel : (((after (.kernel 7) (ker kerC)).cell 2).thread? 63).map (fun t => t.pc.toNat) = some 8 ∧
    (((after (.kernel 7) (ker kerC)).cell 2).thread? 64).isNone = true := by decide +kernel

/-! ### Queues -/

def chanE : Channel := { tenant := 2, granted := true, recv := 3 }
def sqE : Sq := { tenant := 2, plot := 1, ofs := 0, code := 0, cq := 4, chan := 5, tail := 1 }
def cqE : Cq := { tenant := 2, plot := 1, ofs := 65536, code := 0, chan := 5 }
def qS : State := { noKids with sqs := [(3, sqE)], cqs := [(4, cqE)], channels := [(5, chanE)] }
/-- SQ 9 with 16 entries in plot 1, bound to CQ 4 and channel 5. -/
def sqArgs (s : State) : State := withArgs s pgCQE [9 + 65536 * 2, 1, 0, 4 + 65536 * 5]
def cqArgs (s : State) : State := withArgs s pgCQE [9 + 65536 * 2, 1, 0, 65536 * 5]
def setArgs (s : State) (w : Nat) : State := withArgs s pgCQE [2 + 65536 * 3, w, w, 65536 * 16 + 7]

theorem witness_QueueCommandsComplete :
    let c := sqArgs qS
    let k := cqArgs qS
    let d := withArgs qS pgCQE [3]
    let e := withArgs qS pgCQE [4]
    let t := setArgs qS 0x00020001
    c.takes .pcie pgCQE = true ∧ (c.started pgCQE).argsBad pgCQE 0 [0x0FFF3FFF, 0x000FFFFF, 0xFFFFFFFF, 0x0FFF3FFF] = false ∧
    fieldOf (c.arg pgCQE 1) 16 4 = 0 ∧ c.tenantKnown 2 = true ∧ c.tenantKnown 3 = false ∧ c.sq? 9 = none ∧ (c.sq? 3).isSome = true ∧
    c.cq? 4 = some cqE ∧ c.cq? 9 = none ∧ (c.plot 1).cur = plotE ∧ plotE.owner = 2 ∧ c.chan 5 = chanE ∧ (c.chan 6).granted = false ∧
    (k.started pgCQE).argsBad pgCQE 0 [0x0FFF3FFF, 0x000FFFFF, 0xFFFFFFFF, 0x0FFF0000] = false ∧
    (match (k.started pgCQE).devZero 1 0 512 with | (.ok [], s1) => s1.chan 5 == chanE | _ => false) = true ∧
    (d.started pgCQE).argsBad pgCQE 0 [0x3FFF, 0, 0, 0] = false ∧ (∃ x ∈ e.sqs, x.2.cq = 4) ∧ (∀ x ∈ ({ e with sqs := [] } : State).sqs, x.2.cq ≠ 4) ∧
    (t.started pgCQE).argsBad pgCQE 0 [0xFFFF0FFF, 0xFFFFFFFF, 0xFFFFFFFF, 0x1FFFFFFF] = false ∧ t.arg pgCQE 0 / 65536 = 3 ∧
    fieldOf (t.arg pgCQE 1) 16 16 = 2 ∧ fieldOf (t.arg pgCQE 2) 16 16 = 2 ∧ fieldOf (t.arg pgCQE 3) 16 13 = 16 ∧
    ((withArgs qS pgCQE [2]).started pgCQE).argsBad pgCQE 0 [0xFFFF0FFF] = false ∧ (d.started pgCQE).argsBad pgCQE 0 [0x33FFF] = false := by decide +kernel
theorem test_sq_create : ((after (.sqCreate .pcie 0) (sqArgs qS)).sq? 9).map (fun q => (q.cq.toNat, q.chan.toNat, qSize q.code)) = some (4, 5, 16) := by decide +kernel
theorem test_sq_twice : status (after (.sqCreate .pcie 0) (withArgs qS pgCQE [3 + 65536 * 2, 1, 0, 4 + 65536 * 5])) pgCQE = 3 := by decide +kernel
theorem test_cq_busy : status (after (.cqDelete .pcie 0) (withArgs qS pgCQE [4])) pgCQE = 8 := by decide +kernel
theorem test_tenant_set : ((after (.tenantSet .pcie 0) (setArgs qS 0x00020001)).share 2).cmdTok = 31250 := by decide +kernel

def stampE : Stamp := { ep := 0, job := 0, path := 0 }
def bell (w : W64) : State := { qS with channels := [(5, { chanE with word := some (w, stampE) })] }
/-- SQ 3 with a descriptor at its head, or with none that is legal. -/
def fetchS (k : Cmd) : State := poke qS (fillC 5) [(0, k.desc)]
def fetched (s : State) : Bool × Bool × Bool × Option (BitVec 12) :=
  match s.devRead 1 0 128 with
  | (.ok d, s1) => (match s1.devWrite 1 2048 (leBytes 64 1) with
    | (.ok [], s2) => (admits (s2.share 2), ({ desc := d, sq := 3, tenant := 2 } : Cmd).descBad s2.ep.toNat, s2.coll.isEmpty, s2.jobTenant ({ desc := d, sq := 3, tenant := 2 } : Cmd).job)
    | _ => (false, false, false, none))
  | _ => (false, false, false, none)
/-- Command 7 of SQ 3 admitted, or ready to post. -/
def admS (c : Cmd) : State := { qS with cmds := [(7, c)], nextCmd := 8, shares := [(2, { weight := 3 })] }
def admC : Cmd := { fillC 5 with sq := 3, phase := .admitted, slot := false, ran := false }
def postC : Cmd := { fillC 5 with sq := 3, phase := .posting }
def fullQ : Cq := { cqE with tail := 15 }

theorem witness_QueueEngineRuns :
    qS.phase = .running ∧ qS.dormant = false ∧ ((bell 0x30001).chan 5).word = some (0x30001, stampE) ∧ ((bell 0x30001).chan 5).recv = 3 ∧
    qS.tenantOpen 2 = true ∧ stampE.path ≠ 2 ∧ (BitVec.ofNat 14 (0x80040000 / 65536) : BitVec 14) = 4 ∧
    ((0x80040000 : W64).getLsbD 31 = true) ∧ ((0x40030001 : W64).getLsbD 30 = true) ∧ (0 + qSize 0 - cqE.head) % qSize 0 ≤ (cqE.tail + qSize 0 - cqE.head) % qSize 0 ∧
    qS.storesStopped = false ∧ fetched (fetchS (fillC 5)) = (true, false, true, some 2) ∧ fetched qS = (true, true, true, none) ∧
    fetched ({ qS with shares := [(2, { cmdRate := 1 })] } : State) = (false, true, true, none) ∧ cqFull fullQ = true ∧
    fetched (fetchS (opC [(0, 1), (4, 9), (0x20, 0x100), (0x28, 32)])) = (true, false, true, none) ∧
    fetched ({ fetchS (fillC 5) with jobs := [(1, { tenant := 3 })] } : State) = (true, false, true, some 3) ∧
    (admS admC).slotsHeld < 4096 ∧ (admS admC).eligTenant 2 = true ∧ (admS admC).eligQueues 2 = [3] ∧ ((admS admC).share 2).nextQ ≤ 3 ∧
    (admS admC).candidate 3 = some (.cmd 7) ∧ (admS admC).cmd? 7 = some admC ∧ admC.marked = false ∧ libraryOp admC.opcode = false ∧ admC.beds = [] ∧
    Tab.find? ({ qS with calendar := [(2, 40)] } : State).calendar 2 = some 40 ∧ ({ qS with overflow := [2] } : State).overflow = [(2 : BitVec 12).toNat] ∧
    ((qS.share 2).elig + 255) / 256 < qS.calSlot + 4096 ∧ (admS postC).markWaits 7 postC = false ∧ (admS postC).sq? postC.sq = some sqE ∧
    (admS postC).cq? sqE.cq = some cqE ∧ cqFull cqE = false ∧ postC.stall = false ∧ postC.flag 1 = false ∧
    (match (admS postC).devWrite 1 65536 (leBytes 32 0) with | (.ok [], s1) => s1.cmd? 7 == some postC && s1.slotOfRank 7 == none | _ => false) = true ∧
    (∀ x ∈ qS.cmds, x.2.sq ≠ 3) ∧ Tab.find? ({ qS with wait := [(pgCQE, { op := 3, auto := false, h := 3 })] } : State).wait pgCQE = some { op := 3, auto := false, h := 3 } := by
  and_intros <;> decide +kernel
theorem test_doorbell : ((after (.doorbell 5) (bell 0x30002)).sq? 3).map (·.tail) = some 2 ∧ ((after (.doorbell 5) (bell 0x30010)).sq? 3).map (·.tail) = some 1 := by
  decide +kernel
theorem test_fetch_illegal : ((after (.descriptorFetch 3) qS).cmd? 1).map (·.status) = some 1 := by decide +kernel
theorem test_fetch : ((after (.descriptorFetch 3) (fetchS (fillC 5))).cmd? 1).map (·.phase) = some .admitted := by decide +kernel
/-- One entry of command 7 at the tail of CQ 4, PHASE 1. -/
theorem test_post : ((after (.completionPost 7) (admS postC)).cq? 4).map (·.tail) = some 1 ∧ (after (.completionPost 7) (admS postC)).cmd? 7 = none := by decide +kernel
/-- R200: a tenant of weight 3 is charged 21,846. -/
theorem test_charge : ((after .dispatchOne (admS admC)).share 2).tag = 21846 := by decide +kernel

/-! ### Stacks -/

/-- A granule's first word, written in the state with stack 0 in service. -/
def w1 : Nat := 4194304
def wrS : State := noKids.writeWord w1 (leBytes 64 0x1234) false false false
def errS (n : Nat) : State := { wrS with wmeta := [(w1, { valid := true, err := n })] }
def ans (r : Option Bytes × State) : Option Nat := r.1.map leNat
theorem witness_CodeWordsReadBack :
    noKids.valid w1 = false ∧ (leBytes 64 0x1234).length = 64 ∧ wrS.valid w1 = true ∧ (errS 3).valid w1 = true ∧ ((errS 3).wm w1).err = 3 ∧ ((errS 4).wm w1).err = 4 ∧
    ((errS 1).wm w1).err = 1 ∧ (wrS.wm w1).err = 0 ∧ ((wrS.readWord w1 false false).1.map (·.length)) = some 64 ∧ 62 + (leBytes 2 7).length ≤ 64 := by decide +kernel
theorem test_word : ans (wrS.readWord w1 false false) = some 0x1234 ∧ ans (noKids.readWord w1 false false) = some 0 ∧
    ans ((wrS.writeNarrow w1 1 [0x56] false).2.readWord w1 false false) = some 0x5634 := by decide +kernel
theorem test_symbols : ans ((errS 3).readStored w1 false false) = some 0x1234 ∧ ans ((errS 4).readStored w1 false false) = none := by decide +kernel

def cpy (n : Nat) : State := (noKids.setFld (pgHOE 0) 0x068 31 1 1).setFld (pgHOE 0) 0x068 0 18 n
def mergeE : MergeEntry := { word := w1, data := List.replicate 64 (some 5) }
def rekeyS : State := { wrS with pairs := [(1, { cur := some 0, prev := some 0, parity := true, sweep := true })], granules := [(1, { owner := 1, pos := 0, sealed := false })] }
def passS (p : Nat) : State := { noKids.setScrubPtr 0 p with stackTab := [(0, { pass := some 0 })] }
theorem witness_StackEventsTakeEffect :
    (noKids.fld (pgSTK 0) 0x04C 0 2 = 0) ∧ ((noKids.setFld (pgSTK 0) 0x040 0 20 5).fld (pgSTK 0) 0x040 0 20 = 5) ∧ noKids.copying 0 = false ∧
    (noKids.setFld (pgSTK 0) 0x04C 0 2 3).fld (pgSTK 0) 0x04C 0 2 = 3 ∧
    (({ noKids with stackTab := [(0, { mb := [mergeE] })] } : State).stk 0).mb = [mergeE] ∧ wordStack w1 = 0 ∧ mergeE.data.length = 64 ∧
    (({ noKids with stackTab := [(0, { mb := [mergeE] })] } : State).readWord w1 false false).1.isSome = true ∧
    (cpy 5).copying 0 = true ∧ (cpy 5).copyChunks 0 = 5 ∧ (cpy 196608).copyChunks 0 = 196608 ∧
    ((cpy 196608).setFld (pgSTK 0) 0x050 6 1 1).bit (pgSTK 0) 0x050 14 = false ∧ (noKids.stk 0).pass = none ∧ ((passS 0).stk 0).pass = some 0 ∧
    (passS 0).scrubPtr 0 + 64 < stackBytes ∧ stackBytes ≤ (passS (stackBytes - 64)).scrubPtr 0 + 64 ∧ (passS 0).rekeyWords 0 = [] ∧ (passS 0).zeroRegions 0 = [] ∧
    ((passS 0).stk 0).passDue = none ∧ rekeyS.copying 0 = false ∧ rekeyS.rekeyWords 0 = [w1] ∧ ({ wrS with summ := [] } : State).zeroRegions 0 = [4096] ∧
    ((errS 2).rekeyWords 0 = [] ∧ (errS 2).zeroRegions 0 = []) := by and_intros <;> decide +kernel

/-! ### The dense tier -/

def sbE (n : Nat) : TierSb := { gen := 1, w := 16, pos := n, area := 256, slots := 100, tierId := 9, serials := [] }
/-- A formatted tier of 16 drives with one unit, in slot 5. -/
def tierS : State := { noKids with drives := (List.range 16).map (fun n => (n, { Drive.fresh n with sb := some (sbE n) })), tags := [(5, { owner := 1, unit := 0, valid := true })] }
def blk0 : CacheBlk := { owner := 1, unit := 0, blk := 0, lru := 1, dirty := none, wb := false, keep := true, waiters := [] }
def fill0 : TierFill := { token := 3, waiters := [], issued := true, failed := false, since := 0 }
def b5 : BlockId := { slot := 5, blk := 0 }
def cacheS (b : CacheBlk) : State := { tierS with cache := [(5 * 4096, b)] }
def filling (f : TierFill) : State := { tierS with fills := [(5 * 4096, f)] }

theorem witness_TierSetUp :
    noKids.served .pcie pgTIER 0x008 = true ∧ noKids.tieredExists = false ∧
    ({ noKids with plots := [(1, { cur := { plotE with tiered := true } })] } : State).tieredExists = true ∧
    (noKids.drives.filter (fun x => x.2.present && !noKids.driveFailed x.1)).length = 16 ∧ noKids.served .pcie pgTIER 0x040 = true ∧
    (∀ st < 24, ((({ noKids with cacheGrans := [] } : State).freeOn st).take 1).length = 1) ∧
    noKids.driveFailed 3 = false ∧ (after (.driveFail 3) noKids).driveFailed 3 = true ∧
    ({ noKids with dealloc := [5] } : State).dealloc.contains 5 = true ∧ ({ noKids with tagPages := [0, 7] } : State).tagPages = [0, 7] := by
  and_intros <;> decide +kernel
/-- R238: 16 drives give positions 0 to 15. -/
theorem test_format : ((Tab.find? (after (.format .pcie) noKids).drives 7).bind (·.sb)).map (fun b => (b.w, b.pos, b.area, b.gen)) = some (16, 7, 256, 1) := by decide +kernel
theorem test_cache_size : (after (.cacheSize .pcie 24) noKids).cacheGrans.length = 24 ∧ (after (.cacheSize .pcie 25) noKids).cacheGrans = [] := by decide +kernel

theorem witness_TierCacheRuns :
    let d : State := cacheS { blk0 with dirty := some 2 }
    BlockId.num b5 = 20480 ∧ Tab.find? noKids.fills 20480 = none ∧ Tab.find? (filling fill0).fills 20480 = some fill0 ∧ (filling fill0).blockFailed 20480 = false ∧
    ({ filling fill0 with regs := noKids.regs, drives := [] } : State).blockFailed 20480 = true ∧ Tab.find? (cacheS blk0).cache 20480 = some blk0 ∧
    d.blockFailed 20480 = false ∧ (d.tag 5).zero = false ∧ (∀ x ∈ (cacheS blk0).cache, x.2.dirty = none ∨ x.2.wb = true) ∧
    Tab.find? (cacheS { blk0 with wb := true }).cache 20480 = some { blk0 with wb := true } ∧ (cacheS blk0).dirtyBlocks < (cacheS blk0).dirtyMax ∧
    (({ d with tags := [(5, { owner := 1, unit := 0, valid := true, zero := true })] } : State).tag 5).zero = true ∧ d.dealloc.contains 5 = false := by
  and_intros <;> decide +kernel
theorem test_fill_complete : ((Tab.find? (after (.tierFillComplete b5) (filling fill0)).cache 20480).map (·.dirty)) = some none := by decide +kernel
theorem test_writeback : ((Tab.find? (after .tierWriteback (cacheS { blk0 with dirty := some 2 })).cache 20480).map (·.wb)) = some true := by decide +kernel

/-! ### Links and lanes -/

def upL : Link := { state := 5, width := 8 }
/-- Link 0 as given. -/
def lk (k : Link) : State := { noKids with links := [(0, k)] }
def flE : Flit := { payload := List.replicate 240 0 }
def sentL : Link := { upL with out := [{ type := 1, seq := 0 }], seq := 1 }
/-- Retries and features of link 0 as reset leaves them, with sleep, substitution and a limit of errors allowed. -/
def cfg (s : State) : State := ((s.setFld (pgPORT 0) 0x044 2 1 1).setFld (pgPORT 0) 0x044 3 1 1).setFld (pgPORT 0) 0x054 0 16 10

theorem witness_LinkFlitsAndTimers :
    (lk upL).linkUp 0 = true ∧ flitOk { flE with type := 0, crcOk := false } = false ∧ flitOk { flE with type := 0 } = true ∧ flitOk { flE with type := 1 } = true ∧
    flitOk { flE with type := 2 } = true ∧ flitOk { flE with type := 3 } = true ∧ flitOk { flE with type := 4 } = true ∧ flE.sreq = false ∧
    (flE.seq - upL.expect).toNat = 0 ∧ Tab.get 0 upL.rx 0 < (lk upL).bufFlits 0 ∧ (lk upL).bufFlits 0 ≤ Tab.get 0 ({ upL with rx := [(0, 2048)] } : Link).rx 0 ∧
    ((5 : BitVec 12) - upL.expect).toNat = 5 ∧ 2048 ≤ ((0 : BitVec 12) - (5 : BitVec 12)).toNat ∧
    (let w := (lk sentL).flitHeader 0 { flE with type := 2, ack := 0xFFF, ackv := true }
     (w.linkUp 0 = true ∧ (w.lnk 0).out ≠ [] ∧ (w.lnk 0).ackHold ≤ w.time)) ∧ ((lk sentL).codewords 0 flE.cws).time = 0 ∧
    sentL.out ≠ [] ∧ sentL.ackHold ≤ (lk sentL).time ∧ sentL.tries + 1 < (lk sentL).linkFld 0 0x048 8 6 ∧
    (lk sentL).linkFld 0 0x048 8 6 ≤ ({ sentL with tries := 62 } : Link).tries + 1 ∧ (lk sentL).time < ({ sentL with ackHold := 5 } : Link).ackHold ∧
    upL.rxAsleep = false ∧ upL.waking = false ∧ upL.sreq = none ∧ ((cfg (lk upL)).linkBit 0 0x044 3 = true) ∧ upL.txAsleep = false ∧ upL.ackOwed = false ∧
    (lk upL).linkExists 0 = true ∧ (({ state := 4, echoSent := true } : Link).state = 4) := by and_intros <;> decide +kernel
def sent (s : State) (i : Instr) : List (Nat × Nat) := (after i s).out.filterMap (fun o => match o with | .flit _ f => some (f.type.toNat, f.ack.toNat) | _ => none)
theorem test_data_accepted : sent (lk upL) (.data 0 { flE with type := 1 }) = [(0, 0)] ∧ ((after (.data 0 { flE with type := 1 }) (lk upL)).lnk 0).expect = 1 := by decide +kernel
theorem test_data_gap : sent (lk upL) (.data 0 { flE with type := 1, seq := 5 }) = [(2, 0xFFF)] := by decide +kernel
theorem test_replay : sent (lk sentL) (.ackTimeout 0) = [(1, 0xFFF)] := by decide +kernel
theorem test_noflit : ((after (.noflitTimeout 0) (lk upL)).lnk 0).lost = 1 := by decide +kernel

/-- Every lane of port 0 locked, lanes 0 to 7 active and lane 8 the spare. -/
def lanes (f : Nat → BitVec 3) : List (Nat × Lane) := (List.range 9).map (fun n => (n, { lock := true, rxRole := f n, txRole := f n, rxLog := BitVec.ofNat 4 n, txLog := BitVec.ofNat 4 n }))
def active (n : Nat) : BitVec 3 := if n < 8 then 1 else 2
def ln (k : Link) : State := cfg { lk k with lanes := lanes active }
def mk9 : MarkerSet := { markers := (List.range 9).map (fun n => ⟨BitVec.ofNat 4 n, 0, BitVec.ofNat 4 n, false, false⟩), skew := 0 }
def mkSub : MarkerSet := { markers := [⟨8, 0, 3, false, true⟩], skew := 0 }
theorem witness_LanesTrainAndSubstitute :
    (lk { state := 1 }).linkExists 0 = true ∧ ((lk { state := 7 }).lnk 0).state = 7 ∧ (lk { state := 1 }).linkUp 0 = false ∧ portOf 0 / 4 = (0 : BitVec 3).toNat ∧
    ((lk upL).lane 0 3).lock = false ∧ ((ln upL).lane 0 3).lock = true ∧ (ln upL).laneLink 0 3 = some 0 ∧ diePort 0 3 = 0 ∧ diePhys 3 = 3 ∧ (ln { state := 2 }).linkUp 0 = false ∧
    ((ln upL).lane 0 3).rxRole = 1 ∧ ((ln upL).lane 0 8).rxRole = 2 ∧ (ln upL).linkBit 0 0x044 2 = true ∧ (ln upL).spareOpen 0 = true ∧ (ln upL).linkUp 0 = true ∧
    (ln { upL with spareRx := some 2 }).linkUp 0 = true ∧ (ln upL).linkFld 0 0x054 0 16 = 10 ∧
    (ln { state := 2 }).linkExists 0 = true ∧ (((ln { state := 2 }).candidates 0).filter ((ln { state := 2 }).workingLane 0 mk9)).length = 9 ∧
    (((lk { state := 2 }).candidates 0).filter ((lk { state := 2 }).workingLane 0 mk9)).length = 0 ∧ (∀ x ∈ mk9.markers, x.badBits ≤ 4) ∧
    (∃ x ∈ mkSub.markers, x.standsIn = true ∧ x.logical = (3 : BitVec 3).setWidth 4 ∧ ((ln { upL with sreq := some 3 }).lane 0 x.lane.toNat).rxRole = 2) ∧
    (ln upL).served .pcie (linkPage 0) (linkOff 0 0x040) = true ∧ (ln upL).served .pcie (linkPage 0) (linkOff 0 0x044) = true ∧ (3 : BitVec 3).toNat < upL.width.toNat ∧
    (lk { state := 0 }).isSplit 0 = false := by and_intros <;> decide +kernel
theorem test_lock_loss : ((after (.lockLoss 0 3) (ln upL)).lnk 0).sreq = some 3 ∧ ((after (.lockLoss 0 8) (ln upL)).lnk 0).lost = 3 := by decide +kernel
theorem test_train : ((after (.markerSet 0 mk9) (ln { state := 2 })).lnk 0).state = 4 ∧ ((after (.markerSet 0 mk9) (ln { state := 2 })).lnk 0).width = 8 ∧
    ((after (.markerSet 0 mk9) (lk { state := 2 })).lnk 0).state = 9 := by decide +kernel
theorem test_substituted : ((after (.markerSet 0 mkSub) (ln { upL with sreq := some 3 })).lnk 0).spareRx = some 3 := by decide +kernel

/-! ### Packets and the home -/

/-- Plot 1 COHERENT, with every right granted to endpoint 100, which may cache, and link 0 up. -/
def homeS : State := { (lk upL).setFld pgHOME 0x40C 4 1 1 with regionBits := [(4096, 2)], plots := [(1, { cur := { plotE with grants := [{ job := false, id := 100, live := 15, removed := 0 }] } })] }
/-- A request of endpoint 100 to the first line of plot 1. -/
def req (o : Nat) (len : Nat) : Packet := { opcode := BitVec.ofNat 8 o, srcEp := 100, dstEp := homeS.ep, length := BitVec.ofNat 13 len, tag := 3, addr := 0x0001000000000000 }
/-- A request on its way from link 0 to link 1. -/
def thru : Packet := { req 1 64 with dstEp := 77, hop := 1, path := 0xFFFFFFFFF07F }
def thruS : State := { (lk upL).setFld pgXBAR 0x048 0 32 2 with links := [(0, upL), (1, upL)] }
def flag (n : Nat) : Packet := { req 2 64 with f := true, fcount := BitVec.ofNat 10 n, data := List.replicate 64 1 }

theorem witness_PacketsForwardAndFence :
    thruS.linkUp 0 = true ∧ thruS.forMe thru = false ∧ thruS.dormant = false ∧ thru.hop ≠ 0 ∧ pathEntry thru.path 1 = 1 ∧ (thruS.emask thru.e).testBit 1 = true ∧
    thruS.linkUp 1 = true ∧ (homeS.emask false).testBit 1 = false ∧ homeS.forMe (req 1 64) = true ∧ pktValid { req 1 64 with rsv := true } = false ∧
    pktValid { req 1 64 with enc := true } = true ∧ homeS.openPkt { req 1 64 with enc := true } = none ∧ pktValid (req 2 64) = true ∧
    (rspOpcode (req 2 64).opcode.toNat).isSome = true ∧ ((homeS.arrived 0 (req 2 64)).performReq 0 (req 2 64)).park = [] ∧ homeS.fence 100 false = 0 ∧
    pktValid (flag 0) = true ∧ (homeS.setFence 100 false 2).fence 100 false = 2 ∧ pktValid (flag 3) = true ∧ 0 < homeS.parkSize 0 ∧
    homeS.parkSize 0 ≤ (({ homeS with park := List.replicate 256 { link := 0, pkt := flag 3 } } : State).park.filter (fun k => k.link == 0)).length ∧
    pktValid (req 0x60 0) = true ∧ pktValid (req 0x62 0) = true ∧ ({ homeS with park := [{ link := 0, pkt := flag 3 }] } : State).park ≠ [] ∧
    (({ thruS with links := [(0, { upL with held := [thru] })] } : State).lnk 0).held.filter (fun q => q.srcEp != thruS.ep) = [thru] ∧
    homeS.newToken.isSome = true ∧ homeS.served .pcie pgXBAR 0x090 = true := by and_intros <;> decide +kernel
def answers (s : State) : List (Nat × Nat) := s.out.filterMap (fun o => match o with | .packet l p => some (l.toNat, p.status.toNat) | _ => none)
theorem test_forward : ((after (.transit 0 thru) thruS).lnk 1).seq = 1 ∧ ((after (.transit 0 thru) thruS).lnk 0).seq = 0 := by decide +kernel
theorem test_no_route : answers (after (.transit 0 { thru with hop := 0 }) thruS) = [(0, 0x23)] := by decide +kernel
theorem test_fence : ((after (.write 0 (flag 0)) homeS).memByte (64 * 4194304)) = 1 ∧ (after (.write 0 (flag 3)) homeS).park.length = 1 := by decide +kernel

def chk (s : State) (p : Packet) : Bool × PlotEntry × State :=
  match (s.arrived 0 p).plotCheck 0 (pktHandle p) (.port p.srcEp p.job p.enc) (reqNeed p) (reqRights p) (pktOfs p) (pktLen p) with
  | (o, e, w) => (o == 0 && s.arrives 0 p && s.homeIdle && !p.f && !e.tiered, e, { w with nextRq := w.nextRq + 1 })
/-- The request meets the home with the record, and its line is free. -/
def meets (s : State) (p : Packet) (r : Option LineRec) : Bool :=
  let w := (chk s p).2.2
  (chk s p).1 && (pktLines p).all (fun x => !Tab.has w.txns x && !w.held x && w.rec_ x == r && decide ((w.recs.filter (fun kv => recSet kv.1 == recSet x)).length < 16)) &&
    decide (w.recs.length ≤ 262144)
def line1 : Nat := 2 ^ 37
def withRec (r : LineRec) : State := { homeS with recs := [(line1, { r := r, lru := 0 })] }
def em (n : Nat) : LineRec := .em (.ep (BitVec.ofNat 13 n))
def readOk (s : State) (p : Packet) (n : Nat) : Bool :=
  match (chk s p).2.2.readPlot 1 (chk s p).2.1 0 n (hintOf (chk s p).2.1 p.ph) with | (.ok d, _) => d.length == n | _ => false
def snoopE : Snoop := { ep := 100, tag := 3, isRecall := true, keep := false, link := some 0, resent := false }
def txnE (n : Snoop) : Txn := { cause := .evict, snoops := [n], after_ := none, kh := 1, entry := plotE }
def snooping (n : Snoop) : State := { withRec (em 100) with txns := [(line1, txnE n)] }

theorem witness_HomeOrdersRequests :
    meets homeS (req 1 64) none = true ∧ pktLines (req 1 64) = [line1] ∧ readOk homeS (req 1 64) 64 = true ∧ meets homeS (req 2 64) none = true ∧
    (match (chk homeS (req 2 64)).2.2.writePlot 1 (chk homeS (req 2 64)).2.1 0 (List.replicate 64 1) false with | (0, _) => true | _ => false) = true ∧
    meets homeS (req 3 8) none = true ∧ (chk homeS (req 3 8)).2.2.runsFar plotE { req 3 8 with ah := 1 } = false ∧ (atomOfMinor 0).isSome = true ∧
    meets homeS (req 0x30 0) none = true ∧ (chk homeS (req 0x30 0)).2.2.mayCache plotE 100 = true ∧ Tab.get 0 homeS.regionBits (regionOf plotE (lineOfs line1)) = 2 ∧
    meets (withRec (.s [7])) (req 0x30 0) (some (.s [7])) = true ∧ meets (withRec (.sc 1)) (req 0x30 0) (some (.sc 1)) = true ∧ readOk homeS (req 0x30 0) 128 = true ∧
    meets homeS (req 0x31 0) none = true ∧ meets (withRec (.s [100])) (req 0x32 0) (some (.s [100])) = true ∧ meets homeS (req 0x32 0) none = true ∧
    meets (withRec (em 7)) (req 1 64) (some (em 7)) = true ∧ meets (withRec (em 100)) (req 0x33 0) (some (em 100)) = true ∧
    (chk (withRec (em 100)) (req 0x34 128)).1 = true ∧ (chk homeS (req 0x33 0)).1 = true ∧
    (snooping snoopE).txnOf 100 3 = some (line1, txnE snoopE, snoopE) ∧ (snooping snoopE).arrives 0 (req 0x3F 0) = true ∧
    (snooping snoopE).arrives 0 (req 0x3E 0) = true ∧ homeS.txnOf 100 3 = none ∧ homeS.crossed = [] ∧ wordStack (4096 * 1024) = 0 ∧
    Tab.get 0 ({ homeS with regionBits := [(4096, 1)] } : State).regionBits 4096 = 1 ∧
    Tab.find? ({ homeS with lineHolds := [(line1, { since := 0, active := true, far := false })] } : State).lineHolds line1 = some { since := 0, active := true, far := false } ∧
    homeS.served .pcie pgHOME 0x048 = true := by and_intros <;> decide +kernel
theorem test_rd_s : (after (.rdS 0 (req 0x30 0)) homeS).rec_ line1 = some (.s [100]) ∧ (after (.rdE 0 (req 0x31 0)) homeS).held line1 = true := by decide +kernel
theorem test_recall : ((Tab.find? (after (.read 0 (req 1 64) []) (withRec (em 7))).txns line1).map (fun t => t.snoops.map (·.isRecall))) = some [true] := by decide +kernel
theorem test_revoked : answers (after (.evictClean 0 (req 0x33 0)) homeS) = [(0, 4)] := by decide +kernel

/-! ### Translation -/

/-- Arguments of an XLT command of tenant 2 at page `t` of 64 KiB. -/
def xargs (s : State) (hi t c d e f : Nat) : State := withArgs s pgXLT [2 + hi, t, c, d, e, f]
/-- Plot 1 of four pages at TVA 0x10000 of a tenant that has nothing mapped. -/
def bare : State := { noKids with leaves := [] }
def mapS : State := xargs bare 0xF0000 1 0x10000 0 2 0
def mapBad (s : State) : Bool := (s.started pgXLT).argsBad pgXLT 0 [0x2F0FFF, 0xFFFFFFFF, 0xFFFF01FF, 0x0FFFFFFF, 0x00FFFFFF, 0]
def rem0 : Leaf := { leaf0 with remote := true }
def fltE : OpenFault := { tenant := 2, region := 0, need := 1, job := 1, source := 0, waiters := 0, posted := true, mig := none, due := none, joined := false }
def flt (f : OpenFault) : State := { noKids with leaves := [(2, [rem0])], faults := [(9, f)] }
def migE (n : Nat) (x : Option Nat) : OpenFault := { fltE with mig := some { since := 0, got := List.range n, failed := x } }
def shE (by_ : ShootBy) : Shoot := { by_ := by_, tenant := some 2, lo := 0, hi := 65536, plots := [] }
def sh (d : Shoot) : State := { (noKids.started pgXLT) with shoots := [(4, d)] }
def fq (s : State) : State := withArgs s pgXLT [2 + 5 * 2 ^ 20, 1, 16]

theorem witness_TranslatorRuns :
    mapS.takes .pcie pgXLT = true ∧ mapBad mapS = false ∧ fieldOf (mapS.arg pgXLT 4) 0 24 = 2 ∧ mapS.tenantKnown 2 = true ∧ (mapS.plot 1).cur.state = .active ∧
    mapS.xltTva = 65536 ∧ 65536 % pageBytes plotE.pgsz = 0 ∧ mapBad (xargs bare 0x800000 0 0 0 0 0) = true ∧ mapS.tree 2 = [] ∧
    treeUnits ((List.range 2).map (fun i => ({ leaf0 with tva := BitVec.ofNat 57 (65536 * (i + 1)) } : Leaf))) ≤ mapS.tableFree ∧
    (let u := xargs noKids 0 0 0 0 1 0
     ((u.started pgXLT).argsBad pgXLT 0 [0xFFF, 0xFFFFFFFF, 0x1FF, 0, 0xFFFFFF, 0] = false ∧ (pageRange (u.tree 2) false 1 0).isOk = true ∧
      (pageRange (u.tree 2) false 1 65536).isOk = false)) ∧
    (let u := xargs noKids 0 0 0 0x10007 5 0
     ((u.started pgXLT).argsBad pgXLT 0 [0xFFF, 0xFFFFFFFF, 0x1FF, 0xFFFF1FFF, 0xFFFFFFFF, 0xFFFF] = false ∧ fieldOf (u.arg pgXLT 3) 16 16 = 1 ∧
      (pageRange (u.tree 2) true 1 0).isOk = true)) ∧
    ((withArgs (flt fltE) pgXLT [9, 1]).started pgXLT).argsBad pgXLT 0 [0xFFFFFFFF, 1, 0, 0, 0, 0] = false ∧ Tab.find? (flt fltE).faults 9 = some fltE ∧
    ((fq qS).started pgXLT).argsBad pgXLT 0 [0xFFFF0FFF, 0xFFFF, 0xFFFFFFFF, 0, 0, 0] = false ∧ (qS.chan 5).granted = true ∧
    (match ((fq qS).started pgXLT).devWrite 1 65536 (List.replicate 576 0) with | (.ok [], _) => true | _ => false) = true ∧
    ((withArgs noKids pgXLT [2]).started pgXLT).argsBad pgXLT 0 [0xFFF, 0xFFFFFFFF, 0x1FF] = false ∧ noKids.leafAt 2 0 = some leaf0 ∧ noKids.leafAt 2 65536 = none := by
  and_intros <;> decide +kernel
theorem witness_TranslatorRuns_engine :
    ((one 0 0 0 0).cellReq 0 none).map (fun q => (q.tenant, q.job, q.cache)) = some (2, 1, some 0) ∧ ((one 0 0 0 0).cell 0).thread? 0 = some (thr 0 0 0 0) ∧
    (thr 0 0 0 0).canIssue = true ∧ (one 0 0 0 0).leafAt 2 0 = some leaf0 ∧ cellBed 0 < 24 ∧
    (((one 0 0 0 0).cellReq 0 none).map (fun q => (((one 0 0 0 0).inc pgXLT 0x074).plotCheck 0 1 (.inside q.job q.ident) (needOf rightR) rightR 0 65536).1)) = some 0 ∧
    (({ one 0 0 0 0 with leaves := [], faults := [(9, fltE)] } : State).leafAt 2 0 = none) ∧
    ({ one 0 0 0 0 with leaves := [], faults := [(9, fltE)] } : State).faultOf 2 (regionTva 0) = some (9, fltE) ∧
    Tab.find? (flt (migE 3 none)).faults 9 = some (migE 3 none) ∧ Tab.find? (flt (migE 16 none)).faults 9 = some (migE 16 none) ∧
    Tab.find? (flt (migE 3 (some 4))).faults 9 = some (migE 3 (some 4)) ∧ ({ fltE with posted := false } : OpenFault).posted = false ∧
    Tab.find? (sh (shE .unmap)).shoots 4 = some (shE .unmap) ∧ (sh (shE .unmap)).shootBlocked (shE .unmap) = false ∧ (shE .unmap).users = [] ∧
    (({ op rpC with xfers := [(7, { cur := some 0 })] } : State).xfer 7).cur = some 0 ∧ (({ op rpC with xfers := [(7, { cur := some 0, got := List.range 16 })] } : State).xfer 7).got.length = 16 := by
  and_intros <;> decide +kernel
theorem test_map : status (after (.map .pcie 0) mapS) pgXLT = 0 ∧ (((after (.map .pcie 0) mapS).tree 2).map (fun l => (l.tva.toNat, l.offset.toNat))) = [(65536, 0), (131072, 1)] := by
  decide +kernel
theorem test_map_overlap : status (after (.map .pcie 0) (xargs noKids 0xF0000 0 0x10000 0 2 0)) pgXLT = 5 := by decide +kernel
theorem test_unmap : ((after (.shootdownPoint 4) (sh (shE .unmap))).tree 2) = [] ∧
    status (after (.shootdownComplete 4) (sh { shE .unmap with point := true })) pgXLT = 0 := by decide +kernel
theorem test_migration : (((after (.migrationComplete 9) (flt (migE 16 none))).tree 2).map (·.resident)) = [true] := by decide +kernel

/-! ### Keys, tenants and SPDM -/

def msg (l : List W64) : HororeMsg := { words := l, timedOut := false }
/-- Complex 0 active, with one message taken. -/
def ccS (s : State) : State := s.setFld (pgCC 0) 0x040 0 3 5
def mail (s : State) (l : List W64) : State := { ccS s with taken := [msg l] }
def atMail (s : State) (code : Nat) : Bool :=
  s.running.isNone && s.hqServed && s.phase == .running && (match s.taken with | m :: _ => hoCode (hoHdr m) == code | [] => false)
def lock (s : State) : State := s.setFld pgSEC 0x040 0 1 1
/-- KEY_INSTALL of job 9 for tenant 2, plain or wrapped by transport key 1. -/
def install (kid : Bool) : W64 := BitVec.ofNat 64 (9 + 2 * 2 ^ 20 + 2 ^ 32 + (if kid then 2 ^ 48 else 0))
/-- A transport key whose private scalar is 1, the generator as sender, and a key of 32 zero bytes wrapped for job 1. -/
def tkE (h : Option (BitVec 16)) : TransportKey := { id := 1, handle := h, nonce := [], priv := 1 }
def genE : Bytes := ecEncode ecG
def blobE : Bytes := leBytes 40 0x172AB3A52D8289287D4F2B930770B650D07B294AB93C8624F116C06060C342EF7072C0527E6454CF
def withTk (s : State) (h : Option (BitVec 16)) : State :=
  { s with transport := [tkE h], tenants := [(2, { ten with pubKey := some genE })] }
def slotE : JobSlot := { job := 1, tenant := 2, cur := 5, prev := none, parity := false, attested := false, bound := 0, lifetime := 0, ctr0 := 3, ctr1 := 4 }
/-- What KEY_WRAP_RELEASE reads: sender, three zero bytes, wrapped key. -/
def relIn : Bytes := genE ++ [0, 0, 0] ++ blobE
def relS (p : PlotEntry) : State := { withTk noKids (some 0) with plots := [(0, { cur := p })] }
def confE : PlotEntry := { plotE with conf := true, sealed := true, allow := some 0 }
def rel : List W64 := [3, BitVec.ofNat 64 (1 + 2 * 2 ^ 20 + 2 ^ 32 + 2 ^ 48), BitVec.ofNat 64 (60 * 2 ^ 32)]

/-- The wrapped key of 32 zero bytes is unwrapped. -/
theorem test_unwrap : unwrapKey (tkE none) genE 1 0 blobE = some (List.replicate 32 0) := by decide +kernel

theorem witness_TenantsAndKeys :
    let create := mail noKids [0x105, 3]
    let full := mail (noKids.setFld pgSEC 0x044 0 13 1) [0x105, 3]
    let k9 := keyJob (msg [0x102, install false])
    atMail create 5 = true ∧ (hoWord (msg [0x105, 3]) 1).testBit 12 = false ∧ (hoWord (msg [0x105, 0x1003]) 1).testBit 12 = true ∧
    (noKids.setFld pgSEC 0x044 13 1 0).bit pgSEC 0x044 13 = false ∧ create.locked = false ∧ (lock create).locked = true ∧ Tab.has create.tenants 2 = true ∧
    Tab.has create.tenants 3 = false ∧ full.fld pgSEC 0x044 0 13 ≤ full.tenants.length ∧ create.tenants.length < create.fld pgSEC 0x044 0 13 ∧
    atMail (mail noKids [0x106, 2]) 6 = true ∧ Tab.find? noKids.tenants 2 = some ten ∧ ten.removing = false ∧ Tab.find? noKids.tenants 9 = none ∧
    ((granted.plot 1).cur.owner = 2 ∧ freeState (granted.plot 1).cur = false ∧ (granted.plot 1).rev = none ∧ granted.pubTarget 1 = false) ∧
    atMail (mail noKids [0x102, install false]) 2 = true ∧ noKids.keyTenant 2 = some ten ∧ ten.conf = false ∧ noKids.jobTenant k9 = none ∧ noKids.slotOf k9 = none ∧
    noKids.freeKeySlot = some 0 ∧ (({ noKids with slots := [(0, { slotE with job := 9 })] } : State).slotOf k9).isSome = true ∧
    (withTk noKids none).usableKey 1 none = some (tkE none) ∧ noKids.usableKey 1 none = none ∧ unwrapKey (tkE none) [] 1 0 blobE = none ∧
    atMail (mail (relS confE) rel) 3 = true ∧ fieldOf (hoWord (msg rel) 2) 32 17 = 60 ∧ (relS confE).foreignJob 1 2 = false ∧ (relS confE).slotOf 1 = none ∧
    ((relS confE).plot 0).cur = confE ∧ ((relS confE).sealList 0 confE).isSome = true ∧ (relS { confE with sealed := false }).sealList 0 { confE with sealed := false } = none ∧
    (relS confE).usableKey (keyKid (msg rel)) (some 0) = some (tkE (some 0)) ∧ freeState plotE = false := by
  and_intros <;> decide +kernel
theorem witness_TenantsAndKeys_rotate :
    let rot := mail { withTk noKids none with slots := [(0, slotE)] } [0x104, BitVec.ofNat 64 (1 + 2 ^ 32)]
    let rotP := mail { noKids with plots := [(1, { cur := confE })], pairs := [(1, { cur := some 5 })] } [0x104, BitVec.ofNat 64 (1 + 2 ^ 63)]
    let gone : State := { ccS noKids with running := some { hdr := 0x106, words := [0x106, 2] }, plots := [(1, { cur := { plotE with state := .revoked } })] }
    let busy : State := { noKids with pairs := [(1, { cur := some 5, prev := some 4 })] }
    atMail rot 4 = true ∧ (hoWord (msg [0x104, BitVec.ofNat 64 (1 + 2 ^ 32)]) 1).testBit 63 = false ∧ rot.slotOf 1 = some (0, slotE) ∧ slotE.prev = none ∧
    (rot.keyTenant 2).isSome = true ∧ rot.usableKey 1 none = some (tkE none) ∧ rotP.running = none ∧ atMail rotP 4 = true ∧
    (hoWord (msg [0x104, BitVec.ofNat 64 (1 + 2 ^ 63)]) 1).testBit 63 = true ∧ ((rotP.pair 1).prev = none ∧ (rotP.pair 1).sweep = false ∧ confE.conf = true) ∧
    (busy.pair 1).prev = some 4 ∧ atMail (mail noKids [0x101, 0]) 1 = true ∧ gone.hqServed = true ∧ gone.removalDrained 2 = true ∧
    ({ gone with plots := granted.plots } : State).removalDrained 2 = false ∧ hoCode 0x106 = 6 ∧ Tab.find? gone.wait pgPLM = none ∧
    (({ noKids with pairs := [(1, { sweep := true })] } : State).pair 1).sweep = true ∧ ({ noKids with pairs := [(1, { sweep := true })] } : State).rekeyLeft 1 = 0 ∧
    rekeyS.rekeyLeft 1 ≠ 0 ∧ ({ slotE with attested := true } : JobSlot).attested = true := by and_intros <;> decide +kernel
theorem test_tenant_create : (Tab.find? (after .tenantCreate (mail (lock noKids) [0x105, 3])).tenants 3).map (·.conf) = some false ∧
    (after .tenantCreate (mail noKids [0x105, 3])).rxq = [0x300000005] := by decide +kernel
theorem test_key_install : ((after .keyInstall (mail noKids [0x102, install false])).slotOf 9).map (·.1) = some 0 := by decide +kernel

def idsOf (s : State) : List Nat := ((Tab.find? s.allow 0).map (fun l => l.ids.map BitVec.toNat)).getD []
def conn (n : Nat) : State := { noKids with spdm := [{ ep := none, stage := n }] }
theorem witness_SecCommandsAndSpdm :
    let a0 := withArgs noKids pgSEC [0, 0, 0, 0]
    let l0 (f : Bool) (ids : List (BitVec 512)) : State := { a0 with allow := [(0, { frozen := f, ids := ids })] }
    a0.takes .pcie pgSEC = true ∧ (a0.started pgSEC).argsBad pgSEC 0 [0xFFFFFFFF, 0, 0, 0] = false ∧ Tab.has a0.allow 0 = false ∧
    (a0.started pgSEC).argsBad pgSEC 0 [0x3FF, 0, 0, 0] = false ∧ Tab.find? a0.allow 0 = none ∧ Tab.find? (l0 true []).allow 0 = some { frozen := true, ids := [] } ∧
    (l0 false []).listNames 0 = 0 ∧ ({ l0 true [] with plots := [(1, { cur := sealedE })] } : State).listNames 0 ≠ 0 ∧ 64 ≤ (List.replicate 64 (0 : BitVec 512)).length ∧
    (a0.started pgSEC).argsBad pgSEC 0 [0x3FF, 0x3F, 0xFFFFFFFF, 0] = false ∧ ((withArgs noKids pgSEC [1]).started pgSEC).argsBad pgSEC 0 [0xFFFF, 0xFFFFFFFF, 0xFFFFFFFF, 0] = false ∧
    freeState (noKids.plot 1).cur = false ∧ freeState (noKids.plot 9).cur = true ∧ (a0.started pgSEC).argsBad pgSEC 0 [0xFFFFF, 0xFFFFFFFF, 0xFFFFFFFF, 0xFFFFFFFF] = false ∧
    noKids.slotOf 0 = none ∧ ({ noKids with slots := [(3, slotE)] } : State).slotOf 1 = some (3, slotE) ∧ noKids.served .pcie pgSEC 0x040 = true ∧
    noKids.served .pcie pgSEC 0x840 = true ∧ noKids.locked = false ∧ (lock noKids).locked = true ∧ noKids.phase = .running ∧ noKids.spdmFull none = false ∧
    noKids.spdmConn? none = none ∧ ((conn 3).spdmConn? none).map (·.stage) = some 3 := by and_intros <;> decide +kernel
/-- The certificate chain is not empty, whatever the maker wrote. -/
theorem witness_SecCommandsAndSpdm_chain : (0 : BitVec 16).toNat < noKids.certChain.length := by
  show 0 < _
  simp only [State.certChain, List.length_append, List.length_cons]
  omega
/-- The first n lists in use. -/
def manyLists (n : Nat) : List (Nat × AllowList) := (List.range n).map (fun n => (n, { frozen := false, ids := [] }))
theorem has_of_mem {α : Type} (l : List (Nat × α)) (k : Nat) (v : α) (h : (k, v) ∈ l) : Tab.has l k = true := by
  induction l with
  | nil => cases h
  | cons x l ih =>
    simp only [Tab.has, Tab.find?] at *
    split
    · rfl
    · rename_i hk
      rcases List.mem_cons.1 h with h | h
      · exact absurd (h ▸ rfl) hk
      · exact ih h
theorem has_manyLists (n k : Nat) (h : k < n) : Tab.has (manyLists n) k = true := by
  refine has_of_mem _ k { frozen := false, ids := [] } ?_
  rw [manyLists, List.mem_map]
  exact ⟨k, List.mem_range.2 h, rfl⟩
/-- Every list in use. -/
def fullS : State := { withArgs noKids pgSEC [0, 0, 0, 0] with allow := manyLists 1024 }
theorem fullS_allow : fullS.allow = manyLists 1024 := by rw [fullS]
theorem witness_SecCommandsAndSpdm_full (k : Nat) (h : k < 1024) : Tab.has fullS.allow k = true := by
  rw [fullS_allow]; exact has_manyLists 1024 k h
theorem test_allow_add : idsOf (after (.allowAdd .pcie 0) ({ withArgs noKids pgSEC [0, 0, 0, 0] with allow := [(0, { frozen := false, ids := [] })] } : State)) = [0] := by decide +kernel
theorem test_lock : (after (.lock .pcie 0xFFFFFFFE) noKids).locked = true ∧ (after (.lock .pcie 0) noKids).locked = false := by decide +kernel
theorem test_spdm_order : ((after (.challenge none {}) noKids).out.length, (after (.challenge none {}) noKids).spdm) = (1, []) := by decide +kernel

/-! ### Journals -/

/-- Plot 1 TIERED with its first block resident; stack 0's first granule holds the cache. -/
def jnlS : State := { cacheS blk0 with plots := [(1, { cur := { plotE with tiered := true, slots := [5], grans := [] } })], cacheGrans := [0] }
def jArgs (s : State) : State := withArgs s pgJNL [2, 1, 0, 0]
def jE : Journal := { plot := 1, next := 3, chain := List.replicate 64 0, sinceCkpt := 2, staged := [], key := [], prevKey := none, lastSigned := [3], closing := false }
def opened (j : Journal) : State := { jnlS with journals := [(2, j)] }
/-- An OPEN record with COUNTER 1 that follows no other, and one that does not stand. -/
def recBody : Bytes := leBytes 256 (3 + 2 ^ 8 + 2 ^ (8 * 0x20))
def recOk : Bytes := recBody ++ sha512 (List.replicate 64 0 ++ recBody)
def scanKind (s : State) : Nat := match ((jArgs s).started pgJNL).scanJournal 1 with
  | (.empty, w) => if w.backup = s.backup then 0 else 9
  | (.wait, _) => 1
  | (.corrupt, _) => 2
  | (.found n _ c _, w) => if w.backup = s.backup then 10 * n + c else 9
def withRecord (b : Bytes) : State := (jnlS.journalWrite 1 0 b).2
def jnlPair (b : Bytes) (n : Nat) (lost : Bool) : State := { withRecord b with backup := { counter := BitVec.ofNat 64 n, vbatLost := lost } }
def recC (p : Bool) : Cmd := { fillC 5 with sq := 3, phase := .record, place := p }
def stagedE : StagedRec := { seq := 3, bytes := recBody ++ List.replicate 64 0, cmd := some 7 }
def recS (j : Journal) (p : Bool) : State := { opened j with cmds := [(7, recC p)], nextCmd := 8 }

theorem witness_JournalRecords :
    (jArgs jnlS).takes .pcie pgJNL = true ∧ ((jArgs jnlS).started pgJNL).argsBad pgJNL 0 [0xFFF, 0xFFFF, 0, 0] = false ∧ jnlS.tenantOpen 2 = true ∧ jnlS.tenantOpen 3 = false ∧
    ((jnlS.plot 1).cur.tiered = true ∧ (jnlS.plot 1).cur.owner.toNat = 2 ∧ jnlS.sealList 1 (jnlS.plot 1).cur = none ∧ (jnlS.plot 1).cur.state = .active ∧ (jnlS.plot 1).rev = none) ∧
    (noKids.plot 1).cur.tiered = false ∧ Tab.has jnlS.journals 2 = false ∧ scanKind jnlS = 0 ∧ scanKind { jnlS with recs := [(line1, { r := em 100, lru := 0 })] } = 1 ∧
    scanKind (withRecord recBody) = 2 ∧ scanKind (jnlPair recOk 5 false) = 11 ∧ (jnlPair recOk 1 true).backup.vbatLost = true ∧
    ((withArgs jnlS pgJNL [2]).started pgJNL).argsBad pgJNL 0 [0xFFF, 0, 0, 0] = false ∧ Tab.find? (opened jE).journals 2 = some jE ∧
    ((withArgs jnlS pgJNL [2]).started pgJNL).argsBad pgJNL 0 [0x10FFF, 0xFFFFFFFF, 0xFFFFFFFF, 0xFFFFFFFF] = false ∧
    (recS jE true).cmd? 7 = some (recC true) ∧ (recC true).phase = .record ∧ (recC false).place = false ∧ jE.closing = false ∧ jE.sinceCkpt + 1 < 4096 ∧
    (({ jE with staged := [stagedE] } : Journal).staged ≠ []) ∧
    (match (opened jE).journalWrite 1 (320 * 3) stagedE.bytes with | (true, w) => w.wait.isEmpty && w.running.isNone && w.cmds.isEmpty | _ => false) = true ∧
    ((opened jE).wait.isEmpty && (opened jE).cmds.isEmpty) = true ∧
    ((opened jE).journalWrite 1 (2 ^ 28) stagedE.bytes).1 = false ∧ atMail (mail (opened jE) [0x10A, 2]) 0x0A = true ∧ atMail (mail (opened jE) [0x10B, 2]) 0x0B = true ∧
    ({ recC true with phase := .staging } : Cmd).phase = .staging := by and_intros <;> decide +kernel
theorem test_record : (((Tab.find? (after (.recordStage 7) (recS jE true)).journals 2).map (fun j => (j.next, j.staged.map (fun r => (r.seq, recField r.bytes 3 1)))))) = some (4, [(3, 1)]) := by
  decide +kernel
theorem test_no_journal : ((after (.recordStage 7) (recS jE false)).cmd? 7).map (fun c => (c.status, c.phase)) = some (0x1D, .posting) := by decide +kernel
theorem test_commit : (((after (.recordCommit 2 true) ({ recS { jE with staged := [stagedE] } true with running := none } : State)).cmd? 7).map (fun c => (c.phase, c.jnl))) = some (.posting, true) := by
  decide +kernel
theorem test_version : status (after (.jnlOpen .pcie 0) (jArgs noKids)) pgJNL = 3 := by decide +kernel

/-! ### Requests of the device's own -/

/-- A COPY part from endpoint 100 that was sent on link 0, and the answer to it. -/
def ownE (w : Bool) : OwnReq := { tag := 3, kind := if w then .copyWrite 7 0 else .copyRead 7 0, write := w, dest := 100, job := 1, enc := false, addr := 0x100, len := 64, data := if w then List.replicate 64 1 else [], sent := some 0, alt := false, again := false, token := none }
def ownS (o : OwnReq) : State := { op rcC with links := [(0, upL)], own := [o], xfers := [(7, {})], nextTag := 4 }
def rsp (st : Nat) (d : Bytes) : Packet := { opcode := 0x11, srcEp := 100, dstEp := homeS.ep, tag := 3, status := BitVec.ofNat 8 st, length := BitVec.ofNat 13 d.length, data := d, token := 9 }
/-- Endpoint 100 is reached on link 0, and on it again by its alternate path. -/
def routed (o : OwnReq) : State := { ownS o with spt := [(200, 0x1FFFFFFFFFFC0), (201, 0x1FFFFFFFFFFC0)] }
theorem witness_OwnRequestsEnd :
    let mg : OwnReq := { ownE false with kind := .migrate 9 0 }
    (ownS (ownE false)).arrives 0 (rsp 0 (List.replicate 64 1)) = true ∧ (ownS (ownE true)).arrives 0 { rsp 0 [] with opcode := 0x12 } = true ∧
    (ownE false).tag = (rsp 0 []).tag ∧ (ownE false).dest = (rsp 0 []).srcEp ∧ (ownE false).data = [] ∧ ((ownS (ownE false)).xfer 7).failed = none ∧
    (ownS (ownE false)).altRoute 100 = none ∧ ((routed (ownE false)).altRoute 100).isSome = true ∧ ((routed (ownE false)).route 100).isSome = true ∧
    (ownS (ownE false)).cmd? 7 = some rcC ∧ (rsp 0 (List.replicate 64 1)).data.length = (ownE false).len ∧ mg.kind = .migrate 9 0 ∧
    Tab.find? (flt (migE 3 none)).faults 9 = some (migE 3 none) ∧ (flt (migE 3 none)).leafAt 2 0 = some rem0 ∧
    (match (({ flt (migE 3 none) with links := [(0, upL)] } : State).takeRx 0 (rsp 0 [])).devWrite 1 0 (List.replicate 64 1) with | (.ok _, _) => true | _ => false) = true ∧
    (routed { ownE false with token := some 9 }).arrives 0 { rsp 0 [] with opcode := 0x20 } = true ∧
    (routed { ownE false with token := some 9 }).own.filter (fun o => o.dest == 100 && o.token == some 9) = [{ ownE false with token := some 9 }] ∧ (ownE false).sent ≠ none ∧
    (noToken ≠ 9) ∧ (ownE true).write = true ∧ (ownE false).again = false ∧ (ownE false).alt = false := by and_intros <;> decide +kernel
theorem test_copy_read : ((after (.readRsp 0 (rsp 0 (List.replicate 64 1))) ({ routed (ownE false) with
    cmds := [(7, opC [(0, 0x20), (4, 1), (0x20, 9), (0x22, 100), (0x30, 0x100), (0x38, 64)])] } : State)).own.map (fun o => (o.write, o.dest.toNat, o.addr.toNat))) = [(true, 100, 256)] := by
  decide +kernel
theorem test_lost_write : ((after (.reqTmo 3) (ownS (ownE true))).own) = [] := by decide +kernel

/-! ### Control pair and mailboxes -/

/-- Complex 0 active and complex 1 a healthy standby. -/
def pairS : State := (ccS noKids).setFld (pgCC 1) 0x040 0 4 0xA
def bootS : State := { up with fwFlash := some [] }
theorem witness_ControlPairRuns :
    let two_ := mail pairS [0x107]
    let st := { mail pairS [0x109, 1] with staged := some (List.replicate 64 0, true) }
    pairS.activeCc = some 0 ∧ (pairS.ccRole 1 = ccStandby ∧ pairS.standbyOk 1 = true) ∧ (ccS noKids).standbyOk 1 = false ∧ (ccS noKids).ccRole 1 = ccBooting ∧
    ((ccS noKids).setFld (pgCC 1) 0x040 0 4 3).ccRole 1 = ccFailed ∧ (pairS.setFld (pgCC 0) 0x040 0 4 3).activeCc = none ∧
    [0, 1].find? (fun i => (pairS.setFld (pgCC 0) 0x040 0 4 3).ccRole i == ccStandby && (pairS.setFld (pgCC 0) 0x040 0 4 3).standbyOk i) = some 1 ∧
    (((noKids.setFld (pgCC 0) 0x040 0 4 3).setFld (pgCC 1) 0x040 0 4 3).ccHold 0 = false) ∧ noKids.bootHeld = false ∧ pairS.ccHold 0 = true ∧
    pairS.bit (pgCC 0) 0x044 8 = true ∧ (pairS.setFld (pgCC 0) 0x044 8 1 0).bit (pgCC 0) 0x044 8 = false ∧ pairS.swapReady = true ∧ (ccS noKids).swapReady = false ∧
    pairS.running = none ∧ atMail two_ 7 = true ∧ two_.swapReady = true ∧ atMail st 9 = true ∧ st.download = false ∧ st.swapReady = true ∧
    up.bootHeld = false ∧ up.activeCc = none ∧ up.ccHold 0 = false ∧ up.ccHold 1 = false ∧ up.bootSrc ≠ 1 ∧ (up.setFld pgRSTC 0x05C 0 2 1).bootSrc = 1 ∧
    bootS.flashImage = some [] ∧ noKids.served .pcie (pgCC 0) 0x068 = true ∧ (noKids.setFld (pgCC 0) 0x068 4 4 1).fld (pgCC 0) 0x068 4 4 = 1 := by
  and_intros <;> decide +kernel
theorem witness_ControlPairRuns_spares :
    let w8 : W64 := BitVec.ofNat 64 (64 * 2 ^ 24 + 2 ^ 40)
    let cell : W64 := BitVec.ofNat 64 (2 * 2 ^ 16)
    let pc : W64 := BitVec.ofNat 64 (1 + 3 * 2 ^ 16 + 4 * 2 ^ 24)
    let row : W64 := BitVec.ofNat 64 (2 + 3 * 2 ^ 16 + 4 * 2 ^ 24)
    let lane : W64 := BitVec.ofNat 64 (3 + 2 * 2 ^ 24)
    let t := { mail trl [0x10C, cell] with cells := trl.cells }
    atMail (mail noKids [0x108, w8]) 8 = true ∧ fieldOf (hoWord (msg [0x108, w8]) 1) 24 16 = 64 ∧ (hoWord (msg [0x108, w8]) 1).testBit 40 = true ∧
    (mail noKids [0x109, 1]).staged = none ∧ atMail t 0x0C = true ∧ spareKind (msg [0x10C, cell]) = 0 ∧ t.substStatus 2 = none ∧
    (mail noKids [0x10C, cell]).substStatus 408 = some 1 ∧ ({ t with cells := [(2, boundC)] } : State).substStatus 2 = some 9 ∧
    spareKind (msg [0x10C, pc]) = 1 ∧ (mail noKids [0x10C, pc]).freeSpare 3 = some 0 ∧ ({ noKids with stackTab := [(3, { spareFailed := [30, 31] })] } : State).freeSpare 3 = none ∧
    spareKind (msg [0x10C, row]) = 2 ∧ (noKids.stk 3).repair.length < 64 ∧
    64 ≤ (({ noKids with stackTab := [(3, { repair := List.replicate 64 ⟨0, 0, 0⟩ })] } : State).stk 3).repair.length ∧
    spareKind (msg [0x10C, lane]) = 3 ∧ (ln upL).linkExists 0 = true ∧ (ln upL).linkUp 0 = true ∧ (ln upL).spareOpen 0 = true ∧ 2 < ((ln upL).lnk 0).width.toNat ∧
    (lk { state := 2 }).linkUp 0 = false := by and_intros <;> decide +kernel
theorem test_takeover : (after (.ccFault .selfTest) pairS).ccRole 0 = 3 ∧ (after (.takeoverResumed 40) (after (.ccFault .selfTest) pairS)).activeCc = some 1 := by decide +kernel
theorem test_role_swap : (after (.roleSwap 9) (mail pairS [0x107])).activeCc = some 1 ∧ (after (.roleSwap 9) (mail pairS [0x107])).rxq = [0x107, 1] := by decide +kernel
theorem test_not_staged : (after (.fwActivate 0) (mail pairS [0x109, 1])).rxq.map (fun x => x.toNat / 2 ^ 32) = [hoNotStaged] := by decide +kernel

def host (r : Nat) (w : Option (W64 × Stamp)) : State := { noKids with channels := [(5, { tenant := 2, granted := true, recv := BitVec.ofNat 2 r, word := w })] }
/-- A CHAN_WRITE of job 1 to channel 5. -/
def chanP (l : Nat) : Packet := { req 4 l with addr := 5, job := 1, data := List.replicate 8 1 }
def chanS (r : Nat) (w : Option (W64 × Stamp)) : State := { host r w with links := [(0, upL)] }
def winS : State := (noKids.setFld pgMBX 0x060 0 16 1)
theorem witness_MailboxesCarryWords :
    noKids.bar2Gate .pcie = .serve ∧ (noKids.setFld pgMBX 0x058 0 7 8).bar2Gate .i3c = .serve ∧ noKids.txq.length < 16 ∧
    16 ≤ ({ noKids with txq := List.replicate 16 0 } : State).txq.length ∧ ((host 1 none).chan 5).recv = 1 ∧ ((host 2 none).chan 5).recv = 2 ∧ ((host 3 none).chan 5).recv = 3 ∧
    (noKids.chan 5).recv = 0 ∧ ((host 1 (some (7, stampE))).chan 5).word = some (7, stampE) ∧ (chanS 1 none).arrives 0 (chanP 8) = true ∧ (chanP 8).f = false ∧
    ((chanS 1 none).chan 5).granted = true ∧ (chanS 1 none).jobTenant 1 = some 2 ∧ (chanP 8).addr.toNat < 4096 ∧ (chanP 4).length ≠ 8 ∧ (chanS 1 none).arrives 0 (chanP 4) = true ∧
    noKids.served .pcie pgMBX 0x044 = true ∧ (qS.setFld pgMBX 0x040 0 12 5).queueNames 5 = true ∧ fieldOf (0x4000 : Nat) 13 2 = 2 ∧ (host 3 none).queueNames 5 = false ∧
    stampE.path ≠ 2 ∧ (ccS { noKids with txq := [0x105] }).hqServed = true ∧ noKids.hqServed = false ∧ noKids.bar4Q = [] ∧
    (match (winS.bar4Do 0 4 none).1 with | .data d => d.length | _ => 0) = 4 ∧ (winS.bar4Do 0 1 (some [7])).1 = .stored ∧
    (match (noKids.bar4Do 0 4 none).1 with | .failed _ => true | _ => false) = true ∧
    (({ winS with recs := [(line1, { r := em 100, lru := 0 })] } : State).bar4Do 0 4 none).1 = .wait ∧ State.reset.phase ≠ .running ∧ noKids.dynAddr = 0 ∧
    (noKids.setFld pgMBX 0x058 0 7 8).dynAddr ≠ 0 ∧ (0x80000000 : BitVec 32).getLsbD 31 = true ∧ fieldOf (2 : Nat) 0 26 % 4 ≠ 0 := by and_intros <;> decide +kernel
def ansOf (s : State) : Option Nat := match s.out.head? with | some (.answer (some d)) => some (leNat d) | _ => none
theorem test_channel : ((after (.channelWordWrite .pcie 5 9) (host 1 none)).chan 5).word.map (·.1) = some 9 ∧ ansOf (after (.channelWordRead .pcie 5) (host 1 (some (7, stampE)))) = some 7 := by
  decide +kernel
theorem test_window : ansOf (after (.bar4Access 0 1 none) (after (.bar4Access 0 1 (some [0x5A])) winS)) = some 0x5A := by decide +kernel
theorem test_setdasa : (after (.setdasa 0x2C 8) noKids).dynAddr = 8 ∧ (after (.setdasa 0x2D 8) noKids).dynAddr = 0 := by decide +kernel

/-! ### Power, clocks and reset -/

/-- The power manager's STATE set. -/
def pwr (s : State) (cur stp : Nat) (ex : Nat) : State := s.setPwr cur stp ex
theorem witness_PowerStatesAndClocks :
    let p5 := pwr pairS 0 5 0
    let ex := pwr pairS 2 1 1
    let r : Ramp := { div := 9, target := 8, ramping := true }
    let held := pairS.setFld pgCLK 0x04C 17 1 1
    pairS.served .pcie pgPWR 0x040 = true ∧ pairS.busy pgPWR = false ∧ pwrStep pairS = 0 ∧ pwrStep p5 = 5 ∧ pwrExiting p5 = false ∧ noKids.activeCc = none ∧
    pairS.activeCc = some 0 ∧ pwrCur pairS = 0 ∧ pwrCur (pwr pairS 2 0 0) = 2 ∧ (p5.setFld pgPWR 0x048 6 1 1).bit pgPWR 0x048 6 = true ∧ p5.bit pgPWR 0x048 6 = false ∧
    pwrExiting ex = true ∧ ex.pwrFailed = false ∧ pwrStep (pwr pairS 0 3 0) = 3 ∧ r.div - 1 = r.target ∧ ({ r with target := 6 } : Ramp).div - 1 ≠ 6 ∧
    pairS.served .pcie pgPWR 0x050 = true ∧ (4 ∈ aclkPoints ∧ 6 ∈ fclkPoints ∧ 1 ∉ aclkPoints) ∧ pairS.thermHeld = false ∧ held.thermHeld = true ∧ held.pins.thermAlertN = true ∧
    pairS.throttled = false ∧ pairS.fld pgPWR 0x054 0 8 ≤ 200 ∧ 10 < pairS.fld pgPWR 0x054 0 8 ∧ pairS.phase = .running ∧ State.reset.phase = .inReset ∧
    (pairS.bit pgRSTC 0x060 2 = false ∧ (pairS.setFld pgRSTC 0x060 2 1 1).bit pgRSTC 0x060 2 = true) ∧ pairS.pins.wakeN = true ∧
    ({ pairS with flushSeq := some { deadline := true, logged := false } } : State).flushSeq = some { deadline := true, logged := false } := by
  and_intros <;> decide +kernel
theorem test_ps1 : pwrCur (after (.enterPs1 .pcie) pairS) = 1 ∧ status (after (.enterPs1 .pcie) pairS) pgPWR = 0 := by decide +kernel
theorem test_ps2 : pwrStep (after (.enterPs2 .pcie) pairS) = 5 ∧ pwrCur (after (.ps2EntryComplete 7) (after (.enterPs2 .pcie) pairS)) = 2 := by decide +kernel
theorem test_dvfs : (after (.dvfs .pcie 0x0806) pairS).wantAclk = 6 ∧ (after (.dvfs .pcie 0x0801) pairS).wantAclk = pairS.wantAclk := by decide +kernel

def src (mode : Nat) : State := { (State.reset.setFld pgCLK 0x040 0 2 mode) with phase := .sourceCheck, xtalCentre := some 4096 }
def stkUp : State := { noKids with pins := { stkPg := true } }
/-- Results for all 24 stacks, stack 3 with n bad pseudo-channels. -/
def badTrain (n : Nat) : List StackTrainResult :=
  (List.range 24).map (fun b => ⟨BitVec.ofNat 5 b, if b = 3 then (List.range n).map (BitVec.ofNat 5) else [], 9, 100⟩)
/-- The result for stack b of such a list. -/
def trained (n b : Nat) : Option StackTrainResult := (badTrain n).find? (fun r => r.stack.toNat == b)
theorem witness_ResetAndStartUp :
    (1 : Nat) ≤ (0x09 : BitVec 8).toNat ∧ (0x0B : Nat) < (0x0C : BitVec 8).toNat ∧ noKids.pins.thermAlertN = true ∧ noKids.served .pcie pgRSTC 0x040 = true ∧
    noKids.served .pcie pgRSTC 0x840 = true ∧ noKids.clkMode ≠ 1 ∧ (noKids.setFld pgCLK 0x040 0 2 1).clkMode = 1 ∧ stkUp.pins.stkPg = true ∧
    ({ noKids with pins := { stkPwrEn := true } } : State).pins.stkPwrEn = true ∧ noKids.pins.stkPg = false ∧
    (State.reset.pins.platRstInN = true ∧ State.reset.pins.perstN = true ∧ State.reset.pins.railsGood = true) ∧ (src 0).bootHeld = false ∧ (src 0).clkMode = 0 ∧
    (src 0).xtalCentre = some 4096 ∧ ({ src 0 with xtalCentre := none } : State).xtalCentre = none ∧ (src 0).fld pgCLK 0x044 0 13 + 1 < 4096 ∧
    ((src 0).setFld pgCLK 0x044 0 13 4095).fld pgCLK 0x044 0 13 + 1 = 4096 ∧ (src 0).bootStopCause = 0 ∧ (src 1).clkMode = 1 ∧
    ((State.reset.setFld pgRSTC 0x064 0 8 0x22).bootHeld = true) ∧ stkUp.bit (pgSTK 0) 0x04C 2 = false ∧ stkUp.bootHeld = false ∧
    stkUp.phase = .running ∧
    (trained 3 3).map (fun r => (r.badPc.map (·.toNat)).eraseDups.length) = some 3 ∧ (trained 3 2).map (fun r => (r.badPc.map (·.toNat)).eraseDups.length) = some 0 ∧
    (∀ b < 24, (trained 2 b).map (fun r => decide (2 < (r.badPc.map (·.toNat)).eraseDups.length)) = some false) := by
  and_intros <;> decide +kernel
/-- A count equal to the centre is near it, and twice the centre is not, whatever tolerance the fuses give. -/
theorem witness_ResetAndStartUp_window : (4096 - 4096) * 1000000 ≤ Config.xtalPpm.toNat * 4096 ∧ ¬(8192 - 4096) * 1000000 ≤ Config.xtalPpm.toNat * 4096 := by
  have := Config.xtalPpm.isLt
  omega
theorem test_platform_reset : (after (.platformReset 9 3) pool).plots = [] ∧ (after (.platformReset 9 3) pool).backup.resets = 1 ∧
    ((Tab.find? (after (.platformReset 9 3) pool).backup.log 0).map (fun e => (e.cause, e.detail))) = some (9, 3) := by decide +kernel
theorem test_training : (after (.stackTraining (badTrain 3)) stkUp).bootStopCause = 0x22 ∧ (after (.stackTraining (badTrain 2)) stkUp).bit (pgSTK 3) 0x04C 2 = true := by decide +kernel
theorem test_thermal_trip : (after (.thermalTrip 19) pool).phase = .inReset ∧ (after (.thermalTrip 20) pool).phase = .running := by decide +kernel

/-! ### Registers, critical registers, interrupts and block reset -/

/-- Bytes of an offset in BAR0. -/
def offB (pg o : Nat) : BitVec 26 := BitVec.ofNat 26 (pg * 4096 + o)
theorem witness_RegistersReadAndWrite_gating :
    let ps2 : State := { noKids with frozen := true }
    pageOf (offB pgHOME 0x040).toNat = pgHOME ∧ offOf (offB pgHOME 0x041).toNat % 4 ≠ 0 ∧ (pgHOME ≠ pgMsixTab ∧ pgHOME ≠ pgMsixPba) ∧ State.reset.gating .pcie pgHOME 0x040 = .error ∧
    ps2.gating .pcie (pgBED 0) 0x040 = .drop ∧ ps2.gating .i3c (pgBED 0) 0x040 = .error ∧ noKids.gating .pcie pgHOME 0x040 = .serve ∧ State.reset.phase = .inReset ∧ pageBlock 0x03F = none ∧
    latchLo (pageType pgJNL) = some 0x06C ∧ (noKids.setLatch pgJNL 0x070 5).latched pgJNL 0x070 = some 5 ∧ latchLo (pageType pgHOME) = none ∧ oERRF % 4 = 0 ∧
    (regRow? (pageType pgHOME) 0x080).isSome = true := by and_intros <;> decide +kernel
theorem witness_RegistersReadAndWrite_writes :
    let t := pageType pgHOME
    let sec : State := noKids.setLatch pgPLM 0x060 7
    let box : State := (noKids.setLatch pgMBX 0x060 3).setLatch pgMBX 0x064 0x1000
    noKids.served .pcie pgHOME 0x040 = true ∧ (critMask pgHOME 0x040).isSome = false ∧ cmdReg pgHOME 0x040 = false ∧ inRange t (halfBOff t 0x040) 10 = false ∧
    inRange t (halfBOff t 0x040) 20 = true ∧ (pairPart t 0x050 = true ∧ 0x050 ∉ pairHi t) ∧ (pairPart 0x01 0x044 = false ∧ 0x044 ∉ pairHi 0x01 ∧ pageType (pgHUB 0) = 0x01) ∧
    (regRow? 0x0B 0x044).isSome = true ∧ regRow? 0x0B 0x0F0 = none ∧ (0x064 ∈ pairHi (pageType pgPLM) ∧ pageType pgPLM = 0x0B) ∧ (0x04C ∈ pairHi (pageType pgXBAR) ∧ pageType pgXBAR = 0x04) ∧
    (0x054 ∈ pairHi (pageType pgHOME) ∧ pageType pgHOME = 0x05) ∧ (noKids.setLatch pgHOME 0x050 9).latched pgHOME 0x050 = some 9 ∧ (0x068 ∈ pairHi (pageType pgMBX) ∧ pageType pgMBX = 0x14) ∧
    (box.latched pgMBX 0x060 = some 3 ∧ box.latched pgMBX 0x064 = some 0x1000) ∧ (0x1001 : W32).toNat % 4096 ≠ 0 ∧ noKids.served .pcie pgMBX 0x068 = true ∧ sec.latched pgPLM 0x060 = some 7 ∧
    noKids.takes .pcie pgXLT = true ∧ (7 : W32).toNat % 16 = 7 ∧ (0x4000000 : BitVec 27).getLsbD 26 = true := by and_intros <;> decide +kernel
theorem test_read_header : ansOf (after (.readClear .pcie ((offB pgPLM 0).setWidth 27)) noKids) = some 0xB0008 := by decide +kernel
theorem test_read_write : ansOf (after (.readClear .pcie ((offB pgHOME 0x040).setWidth 27)) (after (.registerWrite .pcie ((offB pgHOME 0x040).setWidth 27) 4 25) noKids)) = some 25 ∧
    ansOf (after (.readClear .pcie ((offB pgHOME 0x040).setWidth 27)) (after (.registerWrite .pcie ((offB pgHOME 0x040).setWidth 27) 4 19) noKids)) = some 0x3C := by decide +kernel
theorem test_pair : (after (.pairCommit .pcie (offB pgXBAR 0x04C) 2) (after (.registerWrite .pcie ((offB pgXBAR 0x048).setWidth 27) 4 7) noKids)).regs = ((noKids.wr pgXBAR 0x048 7).wr pgXBAR 0x04C 2).regs := by
  decide +kernel

/-- A page reached over PCIe with an interrupt. -/
def irqS : State := { (noKids.wr pgXBAR oIRQS 3) with msix := { noKids.msix with enabled := true } }
theorem witness_CriticalInterruptsAndSrst :
    let lim : State := noKids.setLatch pgPLM 0x07C 0x100
    let rc : State := (noKids.setLatch pgSEC 0x84C 5).setLatch pgSEC 0x050 6
    (critMask pgPLM 0x07C).isSome = true ∧ noKids.served .fw pgPLM 0x07C = true ∧ (lock noKids).locked = true ∧ protSet pgPLM 0x07C = true ∧ (noKids.locked = false ∧ Path.fw = .fw) ∧
    (critMask pgHOME 0x040).isSome = false ∧ (pgHOME ≠ pgRSTC) ∧ (0x7FF : Nat) < 0x800 ∧ critMask pgPLM (0x87C - 0x800) = some 0x3FFF ∧ noKids.served .fw pgPLM 0x87C = true ∧
    (recLo pgPLM 0x07C = false ∧ recHi pgPLM 0x07C = false) ∧ lim.latched pgPLM 0x07C = some 0x100 ∧ critOk pgPLM 0x07C 0x100 = true ∧ noKids.latched pgPLM 0x07C = none ∧
    critOk pgPLM 0x084 0 = false ∧ noKids.bit pgPLM oERRF 31 = false ∧ (recHi pgSEC 0x050 = true ∧ recLo pgSEC 0x04C = true) ∧ critMask pgSEC 0x050 = some 0xFFFFFFFF ∧
    (rc.latched pgSEC 0x84C = some 5 ∧ rc.latched pgSEC 0x050 = some 6) ∧ (noKids.setLatch pgSEC 0x04C 5).latched pgSEC 0x04C = some 5 ∧ noKids.served .fw pgSEC 0x850 = true := by
  and_intros <;> decide +kernel
theorem witness_CriticalInterruptsAndSrst_irq :
    let on := (irqS.wr pgXBAR oIRQE 1)
    let lk : State := (lock noKids).wr pgSEC 0x04C 0
    State.reset.gating .pcie pgXBAR oIRQS = .error ∧ ({ noKids with frozen := true } : State).gating .pcie (pgBED 0) oIRQS = .drop ∧ noKids.gating .fw pgXBAR oIRQS = .serve ∧
    lk.gating .fw pgXBAR oIRQS = .serve ∧ lk.fwMay (pageType pgXBAR) = false ∧ noKids.served .pcie pgXBAR oIRQS = true ∧ noKids.served .pcie pgXBAR oIRQE = true ∧ noKids.served .pcie pgXBAR 0x018 = true ∧
    noKids.served .pcie pgXBAR 0x008 = true ∧ (after (.irqEnableWrite .pcie (BitVec.ofNat 14 pgXBAR) 1) irqS).vecCond (vectorOf pgXBAR) = true ∧ irqS.msix.enabled = true ∧
    (after (.irqStatusWrite .pcie (BitVec.ofNat 14 pgXBAR) 2) on).vecCond (vectorOf pgXBAR) = true ∧ on.vecMasked (vectorOf pgXBAR) = true ∧ irqS.vecCond (vectorOf pgXBAR) = false ∧
    ({ on with msixTab := [(16 * vectorOf pgXBAR + 12, 0)] } : State).vecMasked (vectorOf pgXBAR) = false ∧
    on.vecCond (vectorOf pgXBAR) = true ∧ pgXBAR ≠ pgMBX ∧ pageType pgXBAR ∉ [0x02, 0x03, 0x08, 0x14] ∧ noKids.served .pcie pgMBX 0x008 = true ∧ noKids.served .pcie pgCQE 0x008 = true ∧
    (noKids.served .pcie (pgPORT 1) 0x008 = true ∧ pageType (pgPORT 1) = 0x02) ∧ (noKids.served .pcie (pgLANE 1) 0x008 = true ∧ pageType (pgLANE 1) = 0x03) ∧ (qS.chan 5).recv = 3 ∧
    ({ noKids with links := [(4, upL)] } : State).linkUp 4 = true ∧ portOf (4 : LinkNo).toNat / 4 = 1 := by and_intros <;> decide +kernel
theorem test_twin : (after (.twinWrite .fw (offB pgPLM 0x87C) 0xFFFFFEFF) (after (.criticalWrite .fw (offB pgPLM 0x07C) 0x100) noKids)).rd pgPLM 0x07C = 0x100 ∧
    (after (.twinWrite .fw (offB pgPLM 0x87C) 0x100) (after (.criticalWrite .fw (offB pgPLM 0x07C) 0x100) noKids)).rd pgPLM 0x07C = 0x2000 := by decide +kernel
theorem test_irq_message : (after (.irqEnableWrite .pcie (BitVec.ofNat 14 pgXBAR) 1) { irqS with msixTab := [(16 * vectorOf pgXBAR + 12, 0)] }).out.head? = some (.msix (vectorOf pgXBAR)) := by decide +kernel
theorem test_srst : (after (.srst .pcie (BitVec.ofNat 14 pgMBX)) (qS.setFld pgMBX 0x058 0 7 9)).dynAddr = 9 := by decide +kernel

/-! ### Worked values of the standards that the keys rest on -/

/-- FIPS-197, appendix C.3: AES-256 of the block 00112233..ff. -/
theorem test_aes256 : aesEnc ((List.range 32).map (BitVec.ofNat 8)) ((List.range 16).map (fun n => BitVec.ofNat 8 (17 * n))) =
    [0x8E, 0xA2, 0xB7, 0xCA, 0x51, 0x67, 0x45, 0xBF, 0xEA, 0xFC, 0x49, 0x90, 0x4B, 0x49, 0x60, 0x89] := by decide +kernel

end Sys2Proof.Tests
end

section
/-! PROOFS. Reading and writing registers (O59): what a read clears and a write by access codes leaves, how an access ends, the pairs
and their commits, the commands of a CMD register, and the accesses by BAR0 offset. -/

namespace Sys2Proof.Machine

/-! ### The page map and BAR0 offsets -/

/-- A page of a type lies in a row of the page map of that type. -/
theorem exists_pageMap_row {pg ty : Nat} (hty : ty ≠ 0) (h : pageType pg = ty) :
    ∃ r ∈ pageMap, r.1 = ty ∧ r.2.2 ≤ pg ∧ pg < r.2.2 + r.2.1 := by
  cases hf : pageMap.find? (fun r => r.2.2 ≤ pg && pg < r.2.2 + r.2.1) with
  | none => exact absurd (by simpa [pageType, pageBlock, hf] using h.symm) hty
  | some r =>
    have hin := List.find?_some hf
    simp only [Bool.and_eq_true, decide_eq_true_eq] at hin
    exact ⟨r, List.mem_of_find?_eq_some hf, by simpa [pageType, pageBlock, hf] using h, hin⟩

/-- MBX is the one page of its type. -/
theorem eq_pgMBX_of_pageType {pg : Nat} (h : pageType pg = 0x14) : pg = pgMBX := by
  obtain ⟨r, hr, hty, hlo, hhi⟩ := exists_pageMap_row (by decide) h
  have hrow : ∀ r ∈ pageMap, r.1 = 0x14 → r.2 = (1, pgMBX) := by decide
  rw [hrow r hr hty] at hlo hhi
  simp only at hlo hhi
  omega

theorem offOf_lt (n : Nat) : offOf n < 4096 := Nat.mod_lt _ (by decide)

theorem offOf_mod (n : Nat) {m : Nat} (h : m ∣ 4096) : offOf n % m = n % m := Nat.mod_mod_of_dvd n h

/-! ### Updates that leave the data -/

@[simp] theorem SameData.refl (s : State) : SameData s s := ⟨rfl, rfl, rfl, rfl, rfl, rfl, rfl⟩

theorem SameData.trans {s t u : State} (h : SameData s t) (k : SameData t u) : SameData s u := by
  obtain ⟨h1, h2, h3, h4, h5, h6, h7⟩ := h
  obtain ⟨k1, k2, k3, k4, k5, k6, k7⟩ := k
  exact ⟨k1.trans h1, k2.trans h2, k3.trans h3, k4.trans h4, k5.trans h5, k6.trans h6, k7.trans h7⟩

theorem State.emit_sameData (s : State) (x : Output) : SameData s (s.emit x) := SameData.refl s
theorem State.setFld_sameData (s : State) (pg o lo len v : Nat) : SameData s (s.setFld pg o lo len v) := SameData.refl s
theorem State.setLatch_sameData (s : State) (pg o : Nat) (v : W32) : SameData s (s.setLatch pg o v) := SameData.refl s
theorem State.dropLatch_sameData (s : State) (pg o : Nat) : SameData s (s.dropLatch pg o) := SameData.refl s

theorem State.withIrq_sameData (s : State) (m : MsiState) (x : List Output) : SameData s (s.withIrq m x) := SameData.refl s

theorem State.complete_sameData (s : State) (pg st : Nat) : SameData s (s.complete pg st) := by
  obtain ⟨m, x, h⟩ := s.complete_frame pg st
  rw [h]
  exact (((s.setFld_sameData _ _ _ _ _).trans (State.setFld_sameData _ _ _ _ _ _)).trans
    (State.setFld_sameData _ _ _ _ _ _)).trans (State.withIrq_sameData _ _ _)

/-! ### Latches -/

@[simp] theorem State.latched_setLatch_self (s : State) (pg o : Nat) (v : W32) : (s.setLatch pg o v).latched pg o = some v := by
  simp [State.latched, State.setLatch]

@[simp] theorem State.latched_dropLatch_self (s : State) (pg o : Nat) : (s.dropLatch pg o).latched pg o = none := by
  simp [State.latched, State.dropLatch]

@[simp] theorem State.dropLatch_rd (s : State) (pg o q x : Nat) : (s.dropLatch pg o).rd q x = s.rd q x := rfl

/-! ### A completed command -/

/-- CMD_DONE is set after a completion. -/
theorem State.complete_done (s : State) (pg st : Nat) : (s.complete pg st).bit pg oIRQS 0 = true := by
  simp only [State.bit, State.complete, State.raise_rd]
  rw [State.setFld, State.rd_wr_self, withField_testBit _ _ _ _ _ (by omega), if_pos (by omega)]
  rfl

theorem State.complete_answered (s : State) (pg : Nat) {st : Nat} (h : st < 256) : Answered (s.complete pg st) pg st := by
  obtain ⟨hbusy, hst⟩ := s.complete_status pg st h
  exact ⟨hbusy, hst, s.complete_done pg st⟩

/-! ### A write by the access codes of a row (R5, R6) -/

/-- A mask without bits clears nothing. -/
theorem and_not_zero (x : W32) : x &&& ~~~(0#32) = x := BitVec.and_allOnes

theorem State.writeRow_of_none (s : State) {pg o : Nat} (v : W32) (h : regRow? (pageType pg) o = none) :
    s.writeRow pg o v = s := by
  simp [State.writeRow, h]

theorem State.writeRow_of_row (s : State) {pg o : Nat} {r : RegRow} (v : W32) (h : regRow? (pageType pg) o = some r) :
    s.writeRow pg o v = s.wr pg o (((s.rd pg o &&& ~~~(BitVec.ofNat 32 r.rw)) ||| (v &&& BitVec.ofNat 32 r.rw)) &&&
      ~~~(v &&& BitVec.ofNat 32 r.w1c)) := by
  simp [State.writeRow, h]

/-- A write by access codes changes registers only. -/
theorem State.writeRow_onlyRegs (s : State) (pg o : Nat) (v : W32) : ∃ l, s.writeRow pg o v = { s with regs := l } := by
  cases h : regRow? (pageType pg) o with
  | none => exact ⟨s.regs, s.writeRow_of_none v h⟩
  | some r => exact ⟨_, s.writeRow_of_row v h⟩

theorem State.writeRow_sameData (s : State) (pg o : Nat) (v : W32) : SameData s (s.writeRow pg o v) := by
  obtain ⟨l, h⟩ := s.writeRow_onlyRegs pg o v
  rw [h]
  exact SameData.refl s

@[simp] theorem State.writeRow_latched (s : State) (pg o : Nat) (v : W32) (q x : Nat) :
    (s.writeRow pg o v).latched q x = s.latched q x := by
  obtain ⟨l, h⟩ := s.writeRow_onlyRegs pg o v
  rw [h]; rfl

theorem State.writeRow_rd_ne (s : State) {pg o q x : Nat} (v : W32) (h : q * 4096 + x ≠ pg * 4096 + o) :
    (s.writeRow pg o v).rd q x = s.rd q x := by
  cases hr : regRow? (pageType pg) o with
  | none => rw [s.writeRow_of_none v hr]
  | some r => rw [s.writeRow_of_row v hr, s.rd_wr_ne _ h]

theorem State.writeRow_rd_off (s : State) {pg o x : Nat} (v : W32) (h : x ≠ o) :
    (s.writeRow pg o v).rd pg x = s.rd pg x :=
  s.writeRow_rd_ne v (by omega)

theorem State.writeRow_rd_self (s : State) {pg o : Nat} {r : RegRow} (v : W32) (h : regRow? (pageType pg) o = some r) :
    (s.writeRow pg o v).rd pg o = ((s.rd pg o &&& ~~~(BitVec.ofNat 32 r.rw)) ||| (v &&& BitVec.ofNat 32 r.rw)) &&&
      ~~~(v &&& BitVec.ofNat 32 r.w1c) := by
  rw [s.writeRow_of_row v h, State.rd_wr_self]

/-- A row without W1C bits takes the value in its RW bits and keeps the others. -/
theorem State.writeRow_rd_self_rw (s : State) {pg o : Nat} {r : RegRow} (v : W32) (h : regRow? (pageType pg) o = some r)
    (hw : r.w1c = 0) :
    (s.writeRow pg o v).rd pg o = (s.rd pg o &&& ~~~(BitVec.ofNat 32 r.rw)) ||| (v &&& BitVec.ofNat 32 r.rw) := by
  rw [s.writeRow_rd_self v h, hw, BitVec.and_zero, and_not_zero]

/-- What a write by access codes leaves. -/
theorem State.writeRow_spec (s : State) (pg o : Nat) (v : W32) :
    let u := s.writeRow pg o v
    SameData s u ∧
      (∀ r, regRow? (pageType pg) o = some r → u.rd pg o =
        ((s.rd pg o &&& ~~~(BitVec.ofNat 32 r.rw)) ||| (v &&& BitVec.ofNat 32 r.rw)) &&& ~~~(v &&& BitVec.ofNat 32 r.w1c)) ∧
      (regRow? (pageType pg) o = none → u = s) ∧ (∀ q x, q * 4096 + x ≠ pg * 4096 + o → u.rd q x = s.rd q x) :=
  ⟨s.writeRow_sameData _ _ _, fun _ hr => s.writeRow_rd_self v hr, fun hr => s.writeRow_of_none v hr,
    fun _ _ h => s.writeRow_rd_ne v h⟩

/-! ### What a read clears (R5, R448) -/

/-- A read clears registers only. -/
theorem State.clearOnRead_onlyRegs (s : State) (pg o : Nat) : ∃ l, s.clearOnRead pg o = { s with regs := l } := by
  unfold State.clearOnRead
  dsimp only
  repeat' split
  all_goals exact ⟨_, rfl⟩

theorem State.clearOnRead_sameData (s : State) (pg o : Nat) : SameData s (s.clearOnRead pg o) := by
  obtain ⟨l, h⟩ := s.clearOnRead_onlyRegs pg o
  rw [h]
  exact SameData.refl s

@[simp] theorem State.clearOnRead_out (s : State) (pg o : Nat) : (s.clearOnRead pg o).out = s.out := by
  obtain ⟨l, h⟩ := s.clearOnRead_onlyRegs pg o
  rw [h]

theorem State.clearOnRead_errFirst (s : State) (pg : Nat) :
    (s.clearOnRead pg oERRF).rd pg oERRF = 0 ∧ (s.clearOnRead pg oERRF).rd pg oERRI = 0 := by
  have h : s.clearOnRead pg oERRF = (s.wr pg oERRF 0).wr pg oERRI 0 := by simp [State.clearOnRead, oERRF, oERRC]
  rw [h, State.rd_wr_self, State.rd_wr_off _ _ (by decide), State.rd_wr_self]
  exact ⟨rfl, rfl⟩

theorem State.clearOnRead_errCount (s : State) (pg : Nat) : (s.clearOnRead pg oERRC).rd pg oERRC = 0 := by
  simp [State.clearOnRead]

/-- A read of a block register clears the RC bits of its row. -/
theorem State.clearOnRead_rd_row (s : State) {pg o : Nat} {r : RegRow} (ho : 0x040 ≤ o)
    (h : regRow? (pageType pg) o = some r) :
    (s.clearOnRead pg o).rd pg o = s.rd pg o &&& ~~~(BitVec.ofNat 32 r.rc) := by
  have hc : ¬o = oERRC := by simp only [oERRC]; omega
  have hf : ¬o = oERRF := by simp only [oERRF]; omega
  have hrow : ∀ t, t = (if r.rc = 0 then s else s.wr pg o (s.rd pg o &&& ~~~(BitVec.ofNat 32 r.rc))) →
      t.rd pg o = s.rd pg o &&& ~~~(BitVec.ofNat 32 r.rc) := by
    rintro t rfl
    by_cases hz : r.rc = 0
    · rw [if_pos hz, hz]
      exact (and_not_zero _).symm
    · rw [if_neg hz, State.rd_wr_self]
  by_cases hue : pageType pg = 0x0D ∧ o = 0x064
  · obtain ⟨hty, rfl⟩ := hue
    rw [hty] at h
    simp [State.clearOnRead, hc, hf, h, hty, State.rd_wr_off, hrow _ rfl]
  · simp [State.clearOnRead, hc, hf, h, hue, hrow _ rfl]

/-- A read clears nothing of another page. -/
theorem State.clearOnRead_rd_page (s : State) {pg o q x : Nat} (hq : q ≠ pg) (ho : o < 4096) (hx : x < 4096) :
    (s.clearOnRead pg o).rd q x = s.rd q x := by
  have hwr : ∀ (t : State) (y : Nat) (v : W32), y < 4096 → (t.wr pg y v).rd q x = t.rd q x :=
    fun t y v hy => t.rd_wr_page v hq hy hx
  unfold State.clearOnRead
  dsimp only
  repeat' split
  all_goals simp [hwr, ho, oERRI]

/-! ### How an access ends (R404, R426, R446, Table 17-4) -/

theorem State.gating_of_noPage {s : State} {pg : Nat} (p : Path) (o : Nat)
    (h : s.phase = .inReset ∨ s.phase = .ps3 ∨ pageBlock pg = none) : s.gating p pg o = .error := by
  unfold State.gating
  rcases h with h | h | h
  · simp [h]
  · simp [h]
  · simp only [h, Option.isNone_none, if_true, ite_self]

/-- The pages of the MSI-X table hold no block, so none of them serves. -/
theorem State.not_msixPage_of_serve {s : State} {p : Path} {pg o : Nat} (h : s.gating p pg o = .serve) :
    pg ≠ pgMsixTab ∧ pg ≠ pgMsixPba := by
  constructor <;> rintro rfl <;> rw [State.gating_of_noPage p o (.inr (.inr (by decide)))] at h <;> cases h

@[simp] theorem State.emit_out (s : State) (x : Output) : (s.emit x).out = x :: s.out := rfl

/-- An access error answers nothing; a firmware access to a gated auxiliary block is logged before. -/
theorem State.accessError_out (s : State) (p : Path) (pg o : Nat) :
    (s.accessError p pg o).out = .answer none :: s.out ∨ (p = .fw ∧ s.auxOff pg o = true) := by
  cases p with
  | pcie => exact .inl (s.emit_out _)
  | i3c => exact .inl (by simp [State.accessError, State.inc, State.count, State.setFld])
  | fw =>
    by_cases h : s.auxOff pg o = true
    · exact .inr ⟨rfl, h⟩
    · simp [State.accessError, h]

/-! ### Reads -/

theorem State.readOff_of_misaligned (s : State) (p : Path) {off : Nat} (h : offOf off % 4 ≠ 0) :
    s.readOff p off = s.accessError p (pageOf off) (offOf off) := by
  rw [offOf_mod off (by decide)] at h
  simp [State.readOff, h]

/-- The state after a read has been answered. -/
def State.answered (s : State) (v : W32) : State := s.emit (.answer (some (leBytes 4 v.toNat)))

section
variable {s : State} {p : Path} {off : Nat} (h : offOf off % 4 = 0)
include h

theorem State.readOff_of_error (hpg : pageOf off ≠ pgMsixTab ∧ pageOf off ≠ pgMsixPba)
    (hg : s.gating p (pageOf off) (offOf off) = .error) : s.readOff p off = s.accessError p (pageOf off) (offOf off) := by
  rw [offOf_mod off (by decide)] at h
  simp [State.readOff, State.regRead, h, hpg, hg]

/-- A page that drops accesses reads as zero but for STATUS.GATED (R426). -/
theorem State.readOff_of_drop (hpg : pageOf off ≠ pgMsixTab ∧ pageOf off ≠ pgMsixPba)
    (hg : s.gating p (pageOf off) (offOf off) = .drop) : s.readOff p off = s.answered (if offOf off = 0x00C then 4 else 0) := by
  rw [offOf_mod off (by decide)] at h
  simp [State.readOff, State.regRead, State.answered, h, hpg, hg]

theorem State.readOff_of_serve (hg : s.gating p (pageOf off) (offOf off) = .serve) :
    s.readOff p off = (s.readReg (pageOf off) (offOf off)).2.answered (s.readReg (pageOf off) (offOf off)).1 := by
  rw [offOf_mod off (by decide)] at h
  simp [State.readOff, State.regRead, State.answered, h, State.not_msixPage_of_serve hg, hg]

end

theorem State.readReg_latching (s : State) {pg o : Nat} (h : latchLo (pageType pg) = some o) :
    s.readReg pg o = (s.regValue pg o, s.setLatch pg (o + 4) (s.regValue pg (o + 4))) := by
  simp [State.readReg, h]

/-- The second half of a latching pair shows what the read of the first has kept (R452). -/
theorem State.readReg_latched (s : State) {pg o : Nat} {x : W32} (h : latchLo (pageType pg) = some (o - 4)) (ho : 4 ≤ o)
    (hx : s.latched pg o = some x) : s.readReg pg o = (x, s) := by
  have hne : o ≠ o - 4 := by omega
  have hhi : o - 4 + 4 = o := by omega
  simp [State.readReg, h, hne, hhi, hx]

theorem State.readReg_plain (s : State) {pg o : Nat} (hlo : latchLo (pageType pg) ≠ some o)
    (hhi : latchLo (pageType pg) ≠ some (o - 4)) : s.readReg pg o = (s.regValue pg o, s.clearOnRead pg o) := by
  cases hl : latchLo (pageType pg) with
  | none => simp [State.readReg, hl]
  | some lo =>
    rw [hl] at hlo hhi
    have h1 : o ≠ lo := fun h => hlo (by rw [h])
    have h2 : o ≠ lo + 4 := fun h => hhi (by rw [h, Nat.add_sub_cancel])
    simp [State.readReg, hl, h1, h2]

/-- What a plain read of a register leaves: the answer, the cleared bits, and every other page. -/
theorem State.plainRead_spec (s : State) {pg o : Nat} (x : W32) (ho : o < 4096) :
    let u := (s.clearOnRead pg o).answered x
    u.out = .answer (some (leBytes 4 x.toNat)) :: s.out ∧ SameData s u ∧
      (o = oERRF → u.rd pg oERRF = 0 ∧ u.rd pg oERRI = 0) ∧ (o = oERRC → u.rd pg oERRC = 0) ∧
      (0x040 ≤ o → ∀ r, regRow? (pageType pg) o = some r → u.rd pg o = s.rd pg o &&& ~~~(BitVec.ofNat 32 r.rc)) ∧
      (∀ q x, q ≠ pg → x < 4096 → u.rd q x = s.rd q x) := by
  refine ⟨?_, (s.clearOnRead_sameData _ _).trans (State.emit_sameData _ _), ?_, ?_, fun h r hr => s.clearOnRead_rd_row h hr,
    fun q y hq hy => s.clearOnRead_rd_page hq ho hy⟩
  · rw [State.answered, State.emit_out, State.clearOnRead_out]
  · rintro rfl
    exact s.clearOnRead_errFirst pg
  · rintro rfl
    exact s.clearOnRead_errCount pg

/-! ### Writes -/

/-- The offsets whose writes go by the rows of the register tables alone: no critical register nor twin of one, no CMD register,
not the platform reset. -/
def plainOffset (pg o : Nat) : Prop :=
  (critMask pg o).isSome = false ∧ (0x800 ≤ o → (critMask pg (o - 0x800)).isSome = false) ∧ cmdReg pg o = false ∧
    (pg ≠ pgRSTC ∨ (o ≠ 0x040 ∧ o ≠ 0x840)) ∧ (pg ≠ pgPLM ∨ o ≠ 0x040) ∧ (pg ≠ pgPWR ∨ o ≠ 0x040)

/-- A served write is performed. -/
theorem State.writeAt_of_served {s : State} {p : Path} {pg o : Nat} (h : s.served p pg o = true) (f : State → State) :
    s.writeAt p pg o f = f s := by
  simp only [State.served, Bool.and_eq_true, beq_iff_eq, Bool.or_eq_true, bne_iff_ne] at h
  obtain ⟨hg, hfw⟩ := h
  rw [State.writeAt, hg]
  rcases hfw with hfw | hfw <;> simp [hfw]

theorem State.gating_of_served {s : State} {p : Path} {pg o : Nat} (h : s.served p pg o = true) : s.gating p pg o = .serve := by
  simp only [State.served, Bool.and_eq_true, beq_iff_eq] at h
  exact h.1

/-- A served write of such an offset writes the register. -/
theorem State.regWrite_of_served {s : State} {p : Path} {pg o : Nat} (hs : s.served p pg o = true) (h : plainOffset pg o)
    (v : W32) : s.regWrite p pg o v = s.writeReg pg o v := by
  obtain ⟨htab, hpba⟩ := State.not_msixPage_of_serve (State.gating_of_served hs)
  obtain ⟨hcrit, htwin, hcmd, hrst, hplm, hpwr⟩ := h
  have hno : ¬(0x800 ≤ o ∧ (critMask pg (o - 0x800)).isSome = true) := fun h => Bool.false_ne_true ((htwin h.1).symm.trans h.2)
  have hlatch : ¬(pg = pgRSTC ∧ o = 0x040) := fun h => hrst.elim (· h.1) (·.1 h.2)
  have hcommit : ¬(pg = pgRSTC ∧ o = 0x840) := fun h => hrst.elim (· h.1) (·.2 h.2)
  rw [← not_and_or] at hplm hpwr
  unfold State.regWrite
  simp only [beq_iff_eq, Bool.or_eq_true, Bool.and_eq_true, decide_eq_true_eq, htab, hpba, hcrit, hno, hlatch, hcommit, hplm, hpwr,
    hcmd, or_self, Bool.false_eq_true, if_false]
  exact State.writeAt_of_served hs _

/-- The pairs that commit with _HI (R452). -/
theorem mem_pairHi_iff (ty o : Nat) : o ∈ pairHi ty ↔
    (ty = 0x0B ∧ o = 0x064) ∨ (ty = 0x04 ∧ (o = 0x04C ∨ o = 0x054)) ∨ (ty = 0x05 ∧ o = 0x054) ∨ (ty = 0x14 ∧ o = 0x068) := by
  unfold pairHi
  split <;> simp_all

/-- No range restricts the _HI of a pair. -/
theorem inRange_of_mem_pairHi {ty o : Nat} (h : o ∈ pairHi ty) (v : Nat) : inRange ty (halfBOff ty o) v = true := by
  rw [mem_pairHi_iff] at h
  rcases h with ⟨rfl, rfl⟩ | ⟨rfl, rfl | rfl⟩ | ⟨rfl, rfl⟩ | ⟨rfl, rfl⟩ <;> rfl

theorem State.writeReg_of_outOfRange (s : State) {pg o : Nat} {v : W32} (ho : 0x040 ≤ o)
    (h : inRange (pageType pg) (halfBOff (pageType pg) o) v.toNat = false) : s.writeReg pg o v = s := by
  unfold State.writeReg
  rw [if_neg (Nat.not_lt.mpr ho), h]
  rfl

theorem State.writeReg_of_pairHi (s : State) {pg o : Nat} (v : W32) (ho : 0x040 ≤ o) (h : o ∈ pairHi (pageType pg)) :
    s.writeReg pg o v = s.pairCommit pg o v := by
  unfold State.writeReg
  rw [if_neg (Nat.not_lt.mpr ho), inRange_of_mem_pairHi h, List.contains_iff_mem.mpr h]
  rfl
section
variable {pg o : Nat} {v : W32} (ho : 0x040 ≤ o) (hv : inRange (pageType pg) (halfBOff (pageType pg) o) v.toNat = true)
  (hhi : o ∉ pairHi (pageType pg))
include ho hv hhi

/-- The first half of a pair waits in its latch (R452). -/
theorem State.writeReg_of_pairPart (s : State) (h : pairPart (pageType pg) o = true) : s.writeReg pg o v = s.setLatch pg o v := by
  have hhi' : (pairHi (pageType pg)).contains o = false := by simpa using hhi
  unfold State.writeReg
  rw [if_neg (Nat.not_lt.mpr ho), hv, hhi', h]
  rfl

/-- The page types none of whose block registers does more on a write than its access codes say. -/
theorem State.writeReg_of_plainType (s : State) (h : pairPart (pageType pg) o = false)
    (hty : pageType pg ∈ [0x01, 0x06, 0x07, 0x08, 0x0A, 0x0B, 0x0C, 0x0D, 0x0F, 0x10, 0x11, 0x15, 0x17, 0x18, 0x19, 0x1A]) :
    s.writeReg pg o v = s.writeRow pg o v := by
  have hhi' : (pairHi (pageType pg)).contains o = false := by simpa using hhi
  unfold State.writeReg
  rw [if_neg (Nat.not_lt.mpr ho), hv, hhi', h]
  simp only [Bool.not_true, Bool.false_eq_true, if_false]
  split <;> simp_all
end

/-! ### The commits of the pairs (R405, R452) -/

/-! ### The commits of the pairs (R405, R452) -/

/-- The rows of the XBAR and PLM pairs hold no W1C bits. -/
theorem w1c_of_wordPair {ty o x : Nat} (hty : ty = 0x04 ∨ ty = 0x0B) (h : o ∈ pairHi ty) (hx : x = o ∨ x = o - 4) {r : RegRow}
    (hr : regRow? ty x = some r) : r.w1c = 0 := by
  have hall : ∀ q ∈ [(0x0B, 0x064), (0x04, 0x04C), (0x04, 0x054)], ∀ x ∈ [q.2, q.2 - 4],
      (regRow? q.1 x).all (·.w1c == 0) = true := by decide
  have hmem : (ty, o) ∈ [(0x0B, 0x064), (0x04, 0x04C), (0x04, 0x054)] := by
    rw [mem_pairHi_iff] at h
    rcases h with ⟨rfl, rfl⟩ | ⟨rfl, rfl | rfl⟩ | ⟨rfl, _⟩ | ⟨rfl, _⟩
    · decide
    · decide
    · decide
    · simp at hty
    · simp at hty
  simpa [hr] using hall _ hmem x (by simpa using hx)

/-- The commit of a pair of two words. -/
theorem State.pairCommit_words (s : State) {pg : Nat} (o : Nat) (v : W32) (hty : pageType pg = 0x04 ∨ pageType pg = 0x0B) :
    s.pairCommit pg o v = ((s.writeRow pg (o - 4) (s.latchedOr pg (o - 4))).dropLatch pg (o - 4)).writeRow pg o v := by
  rcases hty with h | h <;> simp [State.pairCommit, h]

theorem State.pairCommit_words_spec (s : State) {pg o : Nat} (v : W32) (hty : pageType pg = 0x04 ∨ pageType pg = 0x0B)
    (ho : o ∈ pairHi (pageType pg)) :
    let u := s.pairCommit pg o v
    u.latched pg (o - 4) = none ∧ SameData s u ∧
      (∀ r, regRow? (pageType pg) o = some r → u.rd pg o = (s.rd pg o &&& ~~~(BitVec.ofNat 32 r.rw)) ||| (v &&& BitVec.ofNat 32 r.rw)) ∧
      (∀ r, regRow? (pageType pg) (o - 4) = some r → u.rd pg (o - 4) =
        (s.rd pg (o - 4) &&& ~~~(BitVec.ofNat 32 r.rw)) ||| ((s.latched pg (o - 4)).getD (s.rd pg (o - 4)) &&& BitVec.ofNat 32 r.rw)) := by
  have hne : o ≠ o - 4 := by
    rw [mem_pairHi_iff] at ho
    omega
  rw [s.pairCommit_words o v hty]
  refine ⟨by simp, ?_, fun r hr => ?_, fun r hr => ?_⟩
  · exact ((s.writeRow_sameData _ _ _).trans (State.dropLatch_sameData _ _ _)).trans (State.writeRow_sameData _ _ _ _)
  · rw [State.writeRow_rd_self_rw _ _ hr (w1c_of_wordPair hty ho (.inl rfl) hr), State.dropLatch_rd, State.writeRow_rd_off _ _ hne]
  · rw [State.writeRow_rd_off _ _ hne.symm, State.dropLatch_rd,
      State.writeRow_rd_self_rw _ _ hr (w1c_of_wordPair hty ho (.inr rfl) hr), State.latchedOr]

/-- The number of two words one above the other. -/
theorem ofNat_eq_append (a x : W32) : BitVec.ofNat 49 (x.toNat + 2 ^ 32 * (a.toNat % 2 ^ 17)) = (a.setWidth 17) ++ x := by
  apply BitVec.eq_of_toNat_eq
  have hx := x.isLt
  have ha : a.toNat % 2 ^ 17 < 2 ^ 17 := Nat.mod_lt _ (Nat.two_pow_pos _)
  rw [BitVec.toNat_append, BitVec.toNat_ofNat, BitVec.toNat_setWidth, ← Nat.shiftLeft_add_eq_or_of_lt hx, Nat.shiftLeft_eq]
  omega

/-- The commit of SPT_HI writes the entry that SPT_INDEX names. -/
theorem State.pairCommit_spt (s : State) {pg : Nat} (o : Nat) (v : W32) (hty : pageType pg = 0x05) {x : W32}
    (hx : s.latched pg 0x050 = some x) :
    s.pairCommit pg o v = { s.dropLatch pg 0x050 with spt := Tab.set 0 s.spt s.sptKey ((v.setWidth 17) ++ x) } := by
  simp only [State.pairCommit, hty, hx, beq_self_eq_true, if_true, Option.map_some, Option.getD_some, ofNat_eq_append]

theorem State.pairCommit_spt_spec (s : State) {pg : Nat} (o : Nat) (v : W32) (hty : pageType pg = 0x05) {x : W32}
    (hx : s.latched pg 0x050 = some x) :
    let u := s.pairCommit pg o v
    SameData s u ∧ Tab.get 0 u.spt s.sptKey = (v.setWidth 17) ++ x ∧
      ∀ k, k ≠ s.sptKey → Tab.get (0 : BitVec 49) u.spt k = Tab.get 0 s.spt k := by
  rw [s.pairCommit_spt o v hty hx]
  exact ⟨SameData.refl s, Tab.get_set_self _ _ _ _, fun k hk => Tab.get_set_ne _ _ _ hk⟩

/-- The commit of BAR4_BASE_HI: the handle always, the base when it is aligned (R405). -/
theorem State.pairCommit_bar4 (s : State) (o : Nat) (v : W32) {h lo : W32} (hh : s.latched pgMBX 0x060 = some h)
    (hlo : s.latched pgMBX 0x064 = some lo) :
    s.pairCommit pgMBX o v =
      let t := ((s.writeRow pgMBX 0x060 h).dropLatch pgMBX 0x060).dropLatch pgMBX 0x064
      if lo.toNat % 4096 ≠ 0 then t else (t.writeRow pgMBX 0x064 lo).writeRow pgMBX 0x068 v := by
  have hty : pageType pgMBX = 0x14 := by decide
  simp [State.pairCommit, hty, State.latchedOr, hh, hlo]

/-- A register whose row has the RW bits below `n` and no W1C bit shows the low bits of what is written. -/
theorem State.writeRow_fld_low (s : State) {pg o n : Nat} {r : RegRow} (v : W32) (hr : regRow? (pageType pg) o = some r)
    (hw : r.w1c = 0) (hrw : r.rw = 2 ^ n - 1) (hn : n ≤ 32) : (s.writeRow pg o v).fld pg o 0 n = fieldOf v.toNat 0 n := by
  apply Nat.eq_of_testBit_eq
  intro i
  rw [State.fld, s.writeRow_rd_self_rw v hr hw, hrw, testBit_fieldOf, testBit_fieldOf, BitVec.testBit_toNat, BitVec.testBit_toNat]
  by_cases hi : i < n
  · have hmask : (BitVec.ofNat 32 (2 ^ n - 1)).getLsbD i = true := by
      rw [BitVec.getLsbD_ofNat, Nat.testBit_two_pow_sub_one]
      simp [hi, show i < 32 by omega]
    simp only [hi, Nat.zero_add, BitVec.getLsbD_or, BitVec.getLsbD_and, BitVec.getLsbD_not, hmask, Bool.not_true, Bool.and_false,
      Bool.false_or, Bool.and_true]
  · simp [hi]

theorem State.pairCommit_bar4_spec (s : State) (o : Nat) (v : W32) {h lo : W32} (hh : s.latched pgMBX 0x060 = some h)
    (hlo : s.latched pgMBX 0x064 = some lo) :
    let u := s.pairCommit pgMBX o v
    SameData s u ∧ u.fld pgMBX 0x060 0 16 = fieldOf h.toNat 0 16 ∧
      (lo.toNat % 4096 = 0 → u.rd pgMBX 0x064 = lo ∧ u.fld pgMBX 0x068 0 12 = fieldOf v.toNat 0 12) ∧
      (lo.toNat % 4096 ≠ 0 → u.rd pgMBX 0x064 = s.rd pgMBX 0x064 ∧ u.rd pgMBX 0x068 = s.rd pgMBX 0x068) := by
  have hrow60 : regRow? (pageType pgMBX) 0x060 = some ⟨0x060, 1, 4, 0x0, 0xFFFF, 0x0, 0x0, 0x0⟩ := by decide
  have hrow64 : regRow? (pageType pgMBX) 0x064 = some ⟨0x064, 1, 4, 0x0, 0xFFFFFFFF, 0x0, 0x0, 0x0⟩ := by decide
  have hrow68 : regRow? (pageType pgMBX) 0x068 = some ⟨0x068, 1, 4, 0x0, 0xFFF, 0x0, 0x0, 0x0⟩ := by decide
  rw [s.pairCommit_bar4 o v hh hlo]
  have hhandle := s.writeRow_fld_low h hrow60 rfl (n := 16) rfl (by decide)
  generalize ht : ((s.writeRow pgMBX 0x060 h).dropLatch pgMBX 0x060).dropLatch pgMBX 0x064 = t
  have hrd : ∀ x, t.rd pgMBX x = (s.writeRow pgMBX 0x060 h).rd pgMBX x := fun x => by rw [← ht, State.dropLatch_rd, State.dropLatch_rd]
  have hsame : SameData s t := by
    rw [← ht]
    exact ((s.writeRow_sameData _ _ _).trans (State.dropLatch_sameData _ _ _)).trans (State.dropLatch_sameData _ _ _)
  dsimp only
  by_cases hal : lo.toNat % 4096 = 0
  · rw [if_neg (not_not.mpr hal)]
    refine ⟨(hsame.trans (t.writeRow_sameData _ _ _)).trans (State.writeRow_sameData _ _ _ _), ?_, fun _ => ⟨?_, ?_⟩,
      fun hne => absurd hal hne⟩
    · rw [State.fld, State.writeRow_rd_off _ _ (by decide), State.writeRow_rd_off _ _ (by decide), hrd]
      exact hhandle
    · rw [State.writeRow_rd_off _ _ (by decide), State.writeRow_rd_self_rw _ _ hrow64 rfl]
      exact (congrArg (· ||| _) BitVec.and_zero).trans (BitVec.zero_or.trans BitVec.and_allOnes)
    · exact State.writeRow_fld_low _ v hrow68 rfl (n := 12) rfl (by decide)
  · rw [if_pos hal]
    refine ⟨hsame, ?_, fun h => absurd h hal, fun _ => ⟨?_, ?_⟩⟩
    · rw [State.fld, hrd]
      exact hhandle
    · rw [hrd, State.writeRow_rd_off _ _ (by decide)]
    · rw [hrd, State.writeRow_rd_off _ _ (by decide)]

/-! ### Commands (R7, R46) -/

/-- A command that its page takes is performed with BUSY at 1. -/
theorem State.command_of_takes {s : State} {p : Path} {pg : Nat} (h : s.takes p pg = true) (f : State → State) :
    s.command p pg f = f (s.started pg) := by
  simp only [State.takes, Bool.and_eq_true, Bool.not_eq_true'] at h
  obtain ⟨hserved, hbusy⟩ := h
  rw [State.command, ← cmdOff, State.writeAt_of_served hserved, hbusy]
  rfl

/-- A write of a CMD register starts the command of its code. -/
theorem State.regWrite_of_cmd (s : State) (p : Path) {pg o : Nat}
    (h : (pg, o) ∈ [(pgSEC, 0x054), (pgJNL, 0x040), (pgXLT, 0x040)]) (v : W32) :
    s.regWrite p pg o v = s.command p pg (fun s => s.pageCmd pg v) := by
  simp only [List.mem_cons, Prod.mk.injEq, List.not_mem_nil, or_false] at h
  rcases h with ⟨rfl, rfl⟩ | ⟨rfl, rfl⟩ | ⟨rfl, rfl⟩ <;> rfl

theorem aligned_of_cmd {pg o : Nat} (h : (pg, o) ∈ [(pgSEC, 0x054), (pgJNL, 0x040), (pgXLT, 0x040)]) : o % 4 = 0 := by
  simp only [List.mem_cons, Prod.mk.injEq, List.not_mem_nil, or_false] at h
  omega

theorem State.pageCmd_allowNew (s : State) {v : W32} (h : v.toNat % 16 = 1) : s.pageCmd pgSEC v = s.allowNew (v.toNat / 16) := by
  rw [State.pageCmd, h]
  rfl

theorem State.pageCmd_jnlQuery (s : State) {v : W32} (h : v.toNat % 16 = 3) : s.pageCmd pgJNL v = s.jnlQuery (v.toNat / 16) := by
  rw [State.pageCmd, h]
  rfl

/-- A code that XLT does not know completes with status 0x01. -/
theorem State.pageCmd_xlt_unknown (s : State) {v : W32} (h : v.toNat % 16 = 0 ∨ 6 < v.toNat % 16) :
    s.pageCmd pgXLT v = s.complete pgXLT 0x01 := by
  have hty : pageType pgXLT = 0x06 := by decide
  unfold State.pageCmd
  rw [hty]
  generalize v.toNat % 16 = c at h
  dsimp only
  split <;> simp_all

/-- A command word: the reserved bits above the code. -/
theorem toNat_cmdWord (rsv : BitVec 28) (c : BitVec 4) :
    (((rsv ++ c).setWidth 64).setWidth 32).toNat = 16 * rsv.toNat + c.toNat := by
  have hr := rsv.isLt
  have hc := c.isLt
  rw [BitVec.toNat_setWidth, BitVec.toNat_setWidth, BitVec.toNat_append, ← Nat.shiftLeft_add_eq_or_of_lt hc, Nat.shiftLeft_eq]
  omega

theorem toNat_cmdWord_mod (rsv : BitVec 28) (c : BitVec 4) : (((rsv ++ c).setWidth 64).setWidth 32).toNat % 16 = c.toNat := by
  have hc := c.isLt
  rw [toNat_cmdWord]
  omega

theorem toNat_cmdWord_div (rsv : BitVec 28) (c : BitVec 4) : (((rsv ++ c).setWidth 64).setWidth 32).toNat / 16 = rsv.toNat := by
  have hc := c.isLt
  rw [toNat_cmdWord]
  omega

/-! ### Accesses by BAR0 offset -/

section
variable (off : BitVec 26)

theorem getLsbD_bar0 : (off.setWidth 27).getLsbD 26 = false := by
  rw [BitVec.getLsbD_setWidth, BitVec.getLsbD_of_ge off 26 (by omega), Bool.and_false]

theorem fieldOf_bar0 : fieldOf (off.setWidth 27).toNat 0 26 = off.toNat := by
  have h := off.isLt
  simp only [fieldOf, BitVec.toNat_setWidth, Nat.shiftRight_zero]
  omega

theorem exec_readClear_bar0 (p : Path) (s : State) : exec (.readClear p (off.setWidth 27)) s = .next (s.readOff p off.toNat) := by
  change execReadClear p (off.setWidth 27) s = _
  simp only [execReadClear, getLsbD_bar0, fieldOf_bar0, Bool.false_eq_true, if_false]

theorem exec_latchingRead (p : Path) (s : State) : exec (.latchingRead p off) s =
    .next (if latchLo (pageType (pageOf off.toNat)) = some (offOf off.toNat) then s.readOff p off.toNat else s) := by
  change execLatchingRead p off s = _
  simp only [execLatchingRead, beq_iff_eq]

theorem exec_pairCommit (p : Path) (v : W32) (s : State) : exec (.pairCommit p off v) s =
    .next (if offOf off.toNat ∈ pairHi (pageType (pageOf off.toNat)) then s.regWrite p (pageOf off.toNat) (offOf off.toNat) v
      else s) := by
  change execPairCommit p off v s = _
  simp only [execPairCommit, List.contains_iff_mem]

/-- A write to BAR0: one word, two words, or an error at every other size or alignment (R447). -/
theorem exec_registerWrite_bar0 (p : Path) (k : Nat) (v : BitVec 64) (s : State) :
    exec (.registerWrite p (off.setWidth 27) k v) s =
      .next (if k = 4 ∧ offOf off.toNat % 4 = 0 then s.regWrite p (pageOf off.toNat) (offOf off.toNat) (v.setWidth 32)
        else if k = 8 ∧ offOf off.toNat % 8 = 0 ∧ p ≠ .i3c then s.regWrite8 p (pageOf off.toNat) (offOf off.toNat) v
        else s.accessError p (pageOf off.toNat) (offOf off.toNat)) := by
  change execRegisterWrite p (off.setWidth 27) k v s = _
  simp only [execRegisterWrite, getLsbD_bar0, fieldOf_bar0, Bool.false_eq_true, if_false, Bool.and_eq_true, beq_iff_eq,
    bne_iff_ne, and_assoc, offOf_mod _ (show 4 ∣ 4096 by decide), offOf_mod _ (show 8 ∣ 4096 by decide)]
  split
  · rfl
  · split <;> rfl

/-- A write of one word at a multiple of four. -/
theorem exec_registerWrite_word (p : Path) (x : BitVec 64) (s : State) (h : offOf off.toNat % 4 = 0) :
    exec (.registerWrite p (off.setWidth 27) 4 x) s =
      .next (s.regWrite p (pageOf off.toNat) (offOf off.toNat) (x.setWidth 32)) := by
  rw [exec_registerWrite_bar0, if_pos ⟨rfl, h⟩]

/-- A write of a CMD register starts a command with the page's arguments. -/
theorem exec_registerWrite_cmd (p : Path) (x : BitVec 64) (s : State)
    (h : (pageOf off.toNat, offOf off.toNat) ∈ [(pgSEC, 0x054), (pgJNL, 0x040), (pgXLT, 0x040)]) :
    exec (.registerWrite p (off.setWidth 27) 4 x) s =
      .next (s.command p (pageOf off.toNat) (fun s => s.pageCmd (pageOf off.toNat) (x.setWidth 32))) := by
  rw [exec_registerWrite_word off p x s (aligned_of_cmd h), s.regWrite_of_cmd p h]

theorem exec_registerWrite_bar2 (p : Path) (k : Nat) (x : BitVec 64) (b : BitVec 27) (s : State) (h : b.getLsbD 26 = true) :
    exec (.registerWrite p b k x) s = .next (s.bar2Write (fieldOf b.toNat 0 26) k x) := by
  change execRegisterWrite p b k x s = _
  simp only [execRegisterWrite, h, if_true]

end

theorem State.regWrite8_of_serve (s : State) (p : Path) {pg o : Nat} (x : BitVec 64) (h : s.gating p pg o = .serve) :
    s.regWrite8 p pg o x = (s.regWrite p pg o (x.setWidth 32)).regWrite p pg (o + 4) (x.extractLsb' 32 32) := by
  simp [State.regWrite8, h]

/-- A word as the low half of 64 bits. -/
theorem setWidth_word (v : W32) : (v.setWidth 64).setWidth 32 = v := by
  rw [BitVec.setWidth_setWidth_of_le _ (by decide), BitVec.setWidth_eq]

/-! ### The statement -/

/-- Settles O59: each access by BAR0 offset comes down to a read or a write of one register, whose lemma says what it leaves. -/
theorem registersReadAndWrite : Obligations.RegistersReadAndWrite := by
  intro s p off v pg o at4 get put answer plainPage
  have hget : exec get s = .next (s.readOff p off.toNat) := exec_readClear_bar0 off p s
  have hput : o % 4 = 0 → exec put s = .next (s.regWrite p pg o v) := fun h => by
    rw [exec_registerWrite_word off p _ s h, setWidth_word]
  have hmis : ∀ k x, ¬(k = 4 ∧ o % 4 = 0) → ¬(k = 8 ∧ o % 8 = 0 ∧ p ≠ .i3c) →
      exec (.registerWrite p at4 k x) s = .next (s.accessError p pg o) :=
    fun k x h4 h8 => by rw [exec_registerWrite_bar0, if_neg h4, if_neg h8]
  refine ⟨?readError, fun h => hmis 4 _ (fun k => h k.2) (by omega), ?readDropped, State.gating_of_noPage p o, ?errorOut, ?readServed,
    ?noLatching, ?writeServed, ?noPair, hmis, ?writeTwo, ?commands, fun k x b => exec_registerWrite_bar2 p k x b s⟩
  case readError =>
    intro h
    rw [hget]
    by_cases hal : o % 4 = 0
    · obtain ⟨hpg, hg⟩ := h.resolve_left (not_not.mpr hal)
      rw [State.readOff_of_error hal hpg hg]
    · rw [s.readOff_of_misaligned p hal]
  case readDropped =>
    intro hal hpg hg
    refine ⟨_, by rw [hget, State.readOff_of_drop hal hpg hg], ?_⟩
    exact ⟨State.emit_out _ _, s.emit_sameData _, rfl⟩
  case errorOut =>
    rintro w rfl
    exact s.accessError_out p pg o
  case readServed =>
    intro hal _ hg
    have hread := State.readOff_of_serve hal hg
    refine ⟨fun hlo => ?_, fun x hhi ho hx => ?_, fun hlo hhi => ?_⟩
    · rw [s.readReg_latching hlo] at hread
      refine ⟨_, by rw [hget, hread], by rw [exec_latchingRead, if_pos hlo, hread], ?_⟩
      exact ⟨State.emit_out _ _, rfl, s.latched_setLatch_self _ _ _, (s.setLatch_sameData _ _ _).trans (State.emit_sameData _ _)⟩
    · rw [s.readReg_latched hhi ho hx] at hread
      refine ⟨_, by rw [hget, hread], ?_⟩
      exact ⟨State.emit_out _ _, rfl, s.emit_sameData _⟩
    · rw [s.readReg_plain hlo hhi] at hread
      exact ⟨_, by rw [hget, hread], s.plainRead_spec _ (offOf_lt _)⟩
  case noLatching =>
    intro h
    rw [exec_latchingRead, if_neg h]
  case writeServed =>
    intro hal hs ho hcrit htwin hcmd hrst hplm hpwr
    have hreg : s.regWrite p pg o v = s.writeReg pg o v := State.regWrite_of_served hs ⟨hcrit, htwin, hcmd, hrst, hplm, hpwr⟩ v
    have hwrite : exec put s = .next (s.writeReg pg o v) := by rw [hput hal, hreg]
    rw [hwrite]
    refine ⟨fun hv => ?_, fun hv hpart hhi => ?_, fun hv hpart hhi hty => ?_, fun hhi => ?_⟩
    · rw [s.writeReg_of_outOfRange ho hv]
    · exact ⟨_, by rw [State.writeReg_of_pairPart ho hv hhi s hpart], s.latched_setLatch_self _ _ _, rfl, s.setLatch_sameData _ _ _⟩
    · exact ⟨_, by rw [State.writeReg_of_plainType ho hv hhi s hpart hty], s.writeRow_spec pg o v⟩
    · rw [exec_pairCommit, if_pos hhi, s.writeReg_of_pairHi v ho hhi]
      refine ⟨?_, fun hty => ⟨_, rfl, s.pairCommit_words_spec v hty hhi⟩, fun hty x hx => ⟨_, rfl, s.pairCommit_spt_spec o v hty hx⟩, ?_⟩
      · rw [hreg, s.writeReg_of_pairHi v ho hhi]
      · intro hty h lo hh hlo
        rw [eq_pgMBX_of_pageType hty] at hh hlo ⊢
        exact ⟨_, rfl, s.pairCommit_bar4_spec o v hh hlo⟩
  case noPair =>
    intro h
    rw [exec_pairCommit, if_neg h]
  case writeTwo =>
    intro x hal hp _ hg
    rw [exec_registerWrite_bar0, if_neg (fun h => by simp at h), if_pos ⟨rfl, hal, hp⟩, s.regWrite8_of_serve p x hg]
  case commands =>
    intro rsv
    have hcmd : ∀ x : BitVec 64, (pg, o) ∈ [(pgSEC, 0x054), (pgJNL, 0x040), (pgXLT, 0x040)] →
        exec (.registerWrite p at4 4 x) s = .next (s.command p pg (fun s => s.pageCmd pg (x.setWidth 32))) :=
      fun x => exec_registerWrite_cmd off p x s
    refine ⟨fun hpg ho => ?_, fun hpg ho => ?_, fun hpg ho htakes hcode => ?_⟩
    · rw [hcmd _ (by simp [hpg, ho]), hpg]
      simp only [State.pageCmd_allowNew _ (toNat_cmdWord_mod rsv 1), toNat_cmdWord_div]
      rfl
    · rw [hcmd _ (by simp [hpg, ho]), hpg]
      simp only [State.pageCmd_jnlQuery _ (toNat_cmdWord_mod rsv 3), toNat_cmdWord_div]
      rfl
    · refine ⟨(s.started pgXLT).complete pgXLT 0x01, ?_, State.complete_answered _ _ (by decide),
        (s.setFld_sameData _ _ _ _ _).trans (State.complete_sameData _ _ _)⟩
      rw [hcmd _ (by simp [hpg, ho]), hpg, setWidth_word, State.command_of_takes htakes, State.pageCmd_xlt_unknown _ hcode]

end Sys2Proof.Machine
end

section
/-! PROOFS. Facts about tables, threads and cells that the statements on cells and threads share: entries of a table after a map
or an update, and O11, what registers and scratchpads read back. -/

namespace Sys2Proof

theorem Thread.setS_regs (t : Thread) (n : Nat) (v : W64) : ∃ r, t.setS n v = { t with s := r } := by
  unfold Thread.setS
  split
  · exact ⟨t.s, rfl⟩
  · exact ⟨_, rfl⟩

end Sys2Proof

namespace Sys2Proof.Machine

/-! ### Tables -/

theorem Tab.find?_map {α β : Type} (g : Nat → α → β) (l : List (Nat × α)) (k : Nat) :
    Tab.find? (l.map (fun kv => (kv.1, g kv.1 kv.2))) k = (Tab.find? l k).map (g k) := by
  induction l with
  | nil => rfl
  | cons a l ih =>
    obtain ⟨k', v⟩ := a
    by_cases h : k' = k
    · simp [Tab.find?_cons, h]
    · simpa [Tab.find?_cons, h] using ih

theorem Tab.mem_of_find? {α : Type} {l : List (Nat × α)} {k : Nat} {v : α} (h : Tab.find? l k = some v) : (k, v) ∈ l := by
  induction l with
  | nil => cases h
  | cons a l ih =>
    obtain ⟨k', v'⟩ := a
    by_cases hk : k' = k
    · simp only [Tab.find?_cons, hk, if_true, Option.some.injEq] at h
      simp [hk, h]
    · simp only [Tab.find?_cons, hk, if_false] at h
      exact List.mem_cons_of_mem _ (ih h)

theorem Tab.mem_del_iff {α : Type} {l : List (Nat × α)} {k : Nat} {a : Nat × α} : a ∈ Tab.del l k ↔ a ∈ l ∧ a.1 ≠ k := by
  refine ⟨Tab.mem_del, fun h => ?_⟩
  obtain ⟨ha, hk⟩ := h
  induction l with
  | nil => cases ha
  | cons b l ih =>
    obtain ⟨k', v⟩ := b
    rcases List.mem_cons.mp ha with rfl | ha
    · rw [Tab.del, if_neg hk]
      exact List.mem_cons_self
    · rw [Tab.del]
      split
      · exact ih ha
      · exact List.mem_cons_of_mem _ (ih ha)

theorem Tab.mem_ins_iff {α : Type} {l : List (Nat × α)} {k : Nat} {v : α} {a : Nat × α} :
    a ∈ Tab.ins k v l ↔ a = (k, v) ∨ a ∈ l := by
  induction l with
  | nil => simp [Tab.ins]
  | cons b l ih =>
    obtain ⟨k', v'⟩ := b
    rw [Tab.ins]
    split
    · simp
    · simp only [List.mem_cons, ih]
      tauto

theorem Tab.mem_put_iff {α : Type} {l : List (Nat × α)} {k : Nat} {v : α} {a : Nat × α} :
    a ∈ Tab.put l k v ↔ a = (k, v) ∨ (a ∈ l ∧ a.1 ≠ k) := by
  rw [Tab.put, Tab.mem_ins_iff, Tab.mem_del_iff]

theorem Tab.mem_set_iff {α : Type} [DecidableEq α] {d : α} {l : List (Nat × α)} {k : Nat} {v : α} {a : Nat × α} :
    a ∈ Tab.set d l k v ↔ (a = (k, v) ∧ v ≠ d) ∨ (a ∈ l ∧ a.1 ≠ k) := by
  by_cases h : v = d <;> simp [Tab.set, h, Tab.mem_del_iff, Tab.mem_put_iff]

/-! ### Registers and scratchpads (O11) -/

theorem get_scratchPut (l : List (Nat × Byte)) (a : Nat) (d : Bytes) (b : Nat) :
    Tab.get 0 (scratchPut l a d) b = if a ≤ b ∧ b < a + d.length then d.getD (b - a) 0 else Tab.get 0 l b := by
  have hput : scratchPut l a d = putBytes l a d := by
    induction d generalizing l a with
    | nil => rfl
    | cons x d ih => exact ih _ _
  rw [hput, get_putBytes]

theorem State.scratchCount_regs (s : State) (c a n : Nat) : ∃ r, s.scratchCount c a n = { s with regs := r } := by
  unfold State.scratchCount
  split
  · exact ⟨_, rfl⟩
  · exact ⟨s.regs, rfl⟩

/-- Settles O11: registers by the laws of `getS` and `setS`, bytes by those of `putBytes`. -/
theorem writesReadBack : Obligations.WritesReadBack := by
  constructor
  · intro t n m v
    obtain ⟨r, hr⟩ := t.setS_regs n v
    refine ⟨t.getS_zero, t.setS_zero v, t.getS_setS_self v, t.getS_setS_ne v, ?_⟩
    rw [hr]
    exact ⟨rfl, rfl, rfl, rfl⟩
  · intro s c a d b
    obtain ⟨r, hr⟩ := (s.modCell c (fun x => { x with scratch := scratchPut x.scratch a d })).scratchCount_regs c a d.length
    have hself : (s.scratchWrite c a d).cell c = { s.cell c with scratch := scratchPut (s.cell c).scratch a d } := by
      rw [State.scratchWrite, hr]
      exact s.cell_setCell_self c _
    have hne : ∀ e, e ≠ c → (s.scratchWrite c a d).cell e = s.cell e := fun e he => by
      rw [State.scratchWrite, hr]
      exact s.cell_setCell_ne _ he
    refine ⟨?_, hne, ?_⟩
    · rw [hself]
      exact get_scratchPut _ _ _ _
    · rw [hself, State.scratchWrite, hr]
      exact ⟨rfl, rfl, rfl, rfl, rfl, rfl⟩

end Sys2Proof.Machine
end

section
/-! PROOFS. The end of an engine command and the system instructions (O26): which bits of a word are zero, what a barrier that
releases and a command that ends leave of each thread. -/

namespace Sys2Proof

open Machine

/-! ### Cells -/

theorem Cell.thread?_setThread_ne (x : Cell) {t k : Nat} (y : Thread) (h : k ≠ t) : (x.setThread t y).thread? k = x.thread? k :=
  Tab.find?_put_ne _ _ h

@[simp] theorem Cell.startPurge_state (x : Cell) : x.startPurge.state = .purging := rfl

theorem Cell.thread?_endCommand (x : Cell) (t : Nat) :
    x.endCommand.thread? t = (x.thread? t).map (fun y => { stopThread y with f0 := {}, f1 := {}, resident := false }) :=
  Tab.find?_map (fun _ (y : Thread) => ({ stopThread y with f0 := {}, f1 := {}, resident := false } : Thread)) x.threads t

/-- Every thread of a cell leaves job barrier n. -/
def Cell.leaveJob (order : Nat) (n : BitVec 3) (x : Cell) : Cell :=
  { x with threads := x.threads.map (fun y => (y.1, leaveBarrier order (.barJ n) y.2)) }

theorem Cell.thread?_leaveJob (order : Nat) (n : BitVec 3) (x : Cell) (t : Nat) :
    (x.leaveJob order n).thread? t = (x.thread? t).map (leaveBarrier order (.barJ n)) :=
  Tab.find?_map (fun _ => leaveBarrier order (.barJ n)) x.threads t

end Sys2Proof

namespace Sys2Proof.Machine

/-! ### A map over the cells -/

/-- A change of the cells that an engine command works on. -/
def onCommand (id : Nat) (g : Cell → Cell) (x : Cell) : Cell := if x.cmd = some id then g x else x

theorem cells_map_onCommand (id : Nat) (g : Cell → Cell) (l : List (Nat × Cell)) :
    l.map (fun kv => if kv.2.cmd == some id then (kv.1, g kv.2) else kv) = l.map (fun kv => (kv.1, onCommand id g kv.2)) := by
  refine List.map_congr_left fun kv _ => ?_
  by_cases h : kv.2.cmd = some id <;> simp [onCommand, h]

theorem get_map_onCommand (id : Nat) (g : Cell → Cell) (l : List (Nat × Cell)) (c : Nat) :
    Tab.get ({} : Cell) (l.map (fun kv => (kv.1, onCommand id g kv.2))) c = onCommand id g (Tab.get {} l c) := by
  have h := Tab.find?_map (fun _ => onCommand id g) l c
  rw [Tab.get, Tab.get, h]
  cases Tab.find? l c <;> rfl

/-! ### The end of a command (R79, R127, R167) -/

/-- The cells that are lent to a command begin to be purged. -/
def State.purgeLent (s : State) (id : Nat) (l : List Nat) : State :=
  l.foldl (fun s n => if (s.cell n).state == .lent && (s.cell n).cmd == some id then s.setCell n (s.cell n).startPurge else s) s

theorem State.purgeLent_frame (s : State) (id : Nat) (l : List Nat) : ∃ cl, s.purgeLent id l = { s with cells := cl } := by
  refine List.foldlRecOn (motive := fun u : State => ∃ cl, u = { s with cells := cl }) l _ ⟨s.cells, rfl⟩ fun u hu n _ => ?_
  obtain ⟨cl, rfl⟩ := hu
  split
  · exact ⟨_, rfl⟩
  · exact ⟨cl, rfl⟩

/-- A cell is purged by the end of a command only while it is lent to it. -/
theorem State.cell_purgeLent (s : State) (id : Nat) (l : List Nat) (n : Nat) :
    (s.purgeLent id l).cell n = s.cell n ∨
      ((s.cell n).state = .lent ∧ (s.cell n).cmd = some id ∧ (s.purgeLent id l).cell n = (s.cell n).startPurge) := by
  refine List.foldlRecOn (motive := fun u : State => u.cell n = s.cell n ∨
    ((s.cell n).state = .lent ∧ (s.cell n).cmd = some id ∧ u.cell n = (s.cell n).startPurge)) l _ (.inl rfl) fun u hu m _ => ?_
  split
  next hm =>
    simp only [Bool.and_eq_true, beq_iff_eq] at hm
    by_cases hn : n = m
    · subst hn
      rw [State.cell_setCell_self]
      rcases hu with hu | ⟨_, _, hu⟩
      · exact .inr ⟨hu ▸ hm.1, hu ▸ hm.2, by rw [hu]⟩
      · rw [hu] at hm
        cases hm.1
    · rwa [State.cell_setCell_ne _ _ hn]
  next => exact hu

/-- A command that has not ended comes to its end with a status other than that of the journal. -/
theorem State.finish1_of_live {s : State} {id st : Nat} {c : Cmd} (r : Bytes) (mv : Nat) (hc : s.cmd? id = some c)
    (hp : c.phase ≠ .record ∧ c.phase ≠ .posting) (hst : st ≠ cstJournal) :
    s.finish1 id st r mv =
      let s2 : State := { s with
        cmds := Tab.put s.cmds id { c with phase := if c.marked then .record else .posting, status := BitVec.ofNat 8 st, result := r,
                                           moved := c.moved + mv, fault := none, beds := [] }
        xfers := Tab.del s.xfers id }
      if st = 0 then s2 else s2.purgeLent id c.cells := by
  have h1 : (st == cstJournal) = false := beq_false_of_ne hst
  have h2 : (c.phase == .record || c.phase == .posting) = false := by simp [hp.1, hp.2]
  simp only [State.finish1, hc, h1, h2, bne, Bool.not_false, Bool.and_true, beq_iff_eq, Bool.false_eq_true, if_false]
  rfl

/-- A command that has come to its end does not end again. -/
theorem State.finish1_of_over {s : State} {id st : Nat} {c : Cmd} (r : Bytes) (mv : Nat) (hc : s.cmd? id = some c)
    (hp : c.phase = .record ∨ c.phase = .posting) : s.finish1 id st r mv = s := by
  have h2 : (c.phase == .record || c.phase == .posting) = true := by simpa using hp
  simp only [State.finish1, hc, h2, if_true]

theorem State.finish1_of_none {s : State} {id st : Nat} (r : Bytes) (mv : Nat) (hc : s.cmd? id = none) :
    s.finish1 id st r mv = s := by
  simp only [State.finish1, hc]

/-- The end of a command with a status other than that of the journal changes the command, its transfer and the cells lent to it. -/
theorem State.finish1_frame (s : State) (id : Nat) {st : Nat} (r : Bytes) (mv : Nat) (hst : st ≠ cstJournal) :
    ∃ cm xf cl, s.finish1 id st r mv = { s with cmds := cm, xfers := xf, cells := cl } ∧
      (st = 0 → cl = s.cells) ∧ (∀ j, j ≠ id → Tab.find? cm j = s.cmd? j) ∧ ∀ n, Tab.get ({} : Cell) cl n = s.cell n ∨
        ((s.cell n).state = .lent ∧ (s.cell n).cmd = some id ∧ Tab.get ({} : Cell) cl n = (s.cell n).startPurge) := by
  have hsame : ∃ cm xf cl, s = { s with cmds := cm, xfers := xf, cells := cl } ∧
      (st = 0 → cl = s.cells) ∧ (∀ j, j ≠ id → Tab.find? cm j = s.cmd? j) ∧ ∀ n, Tab.get ({} : Cell) cl n = s.cell n ∨
        ((s.cell n).state = .lent ∧ (s.cell n).cmd = some id ∧ Tab.get ({} : Cell) cl n = (s.cell n).startPurge) :=
    ⟨s.cmds, s.xfers, s.cells, rfl, fun _ => rfl, fun _ _ => rfl, fun _ => .inl rfl⟩
  cases hc : s.cmd? id with
  | none => rwa [State.finish1_of_none r mv hc]
  | some c =>
    by_cases hp : c.phase = .record ∨ c.phase = .posting
    · rwa [State.finish1_of_over r mv hc hp]
    · rw [State.finish1_of_live r mv hc (not_or.mp hp) hst]
      dsimp only
      split
      · exact ⟨_, _, s.cells, rfl, fun _ => rfl, fun j hj => Tab.find?_put_ne _ _ hj, fun _ => .inl rfl⟩
      next h0 =>
        generalize hu : ({ s with cmds := _, xfers := _ } : State) = u
        obtain ⟨cl, hcl⟩ := u.purgeLent_frame id c.cells
        refine ⟨u.cmds, u.xfers, cl, by rw [hcl, ← hu], fun h => absurd h h0, fun j hj => ?_, fun n => ?_⟩
        · rw [← hu]
          exact Tab.find?_put_ne _ _ hj
        · have h := u.cell_purgeLent id c.cells n
          have hcell : u.cell n = s.cell n := by rw [← hu]; rfl
          rw [hcl, hcell] at h
          exact h

/-- The end of a command shows its status and result, and its record or its completion entry is due. -/
theorem State.finish1_ended {s : State} {id st : Nat} {c : Cmd} (r : Bytes) (mv : Nat) (hc : s.cmd? id = some c)
    (hp : c.phase ≠ .record ∧ c.phase ≠ .posting) (hst : st ≠ cstJournal) : Ended (s.finish1 id st r mv) id st r := by
  refine ⟨{ c with phase := if c.marked then .record else .posting, status := BitVec.ofNat 8 st, result := r,
                   moved := c.moved + mv, fault := none, beds := [] }, ?_, rfl, rfl, rfl⟩
  rw [State.finish1_of_live r mv hc hp hst]
  dsimp only
  split
  · exact Tab.find?_put_self _ _ _
  · generalize hu : ({ s with cmds := _, xfers := _ } : State) = u
    obtain ⟨cl, hcl⟩ := u.purgeLent_frame id c.cells
    rw [hcl, ← hu]
    exact Tab.find?_put_self _ _ _

theorem State.finish_zero (s : State) (id : Nat) (r : Bytes) (mv : Nat) : s.finish id 0 r mv = s.finish1 id 0 r mv := by
  unfold State.finish
  dsimp only
  split
  · rfl
  · rfl

theorem State.finish_of_noColl {s : State} (h : s.coll = []) (id st : Nat) (r : Bytes) (mv : Nat) :
    s.finish id st r mv = s.finish1 id st r mv := by
  simp [State.finish, State.slotOfRank, h]

theorem State.cell_endKernel (s : State) (id c : Nat) : (s.endKernel id).cell c = onCommand id Cell.endCommand (s.cell c) := by
  simp only [State.cell, State.endKernel, cells_map_onCommand, get_map_onCommand]

/-! ### Words with zero fields -/

theorem getLsbD_of_zeroFields {f : BitVec 48} {l : List (Nat × Nat)} (h : zeroFields f l = true) {p : Nat × Nat} (hp : p ∈ l)
    {i : Nat} (hlo : p.1 ≤ i) (hhi : i < p.1 + p.2) : f.getLsbD i = false := by
  have hz : (f.extractLsb' p.1 p.2).toNat = 0 := by
    have := List.all_eq_true.mp h p hp
    rwa [beq_iff_eq, opField] at this
  have hb := congrArg (fun w => w.getLsbD (i - p.1)) (BitVec.toNat_eq.mpr hz : f.extractLsb' p.1 p.2 = 0#p.2)
  simpa [BitVec.getLsbD_extractLsb', show i - p.1 < p.2 by omega, show p.1 + (i - p.1) = i by omega] using hb

/-- A word has its bits in a mask when every bit outside the mask lies in a field that is zero. -/
theorem onlyBits_of_zeroFields {f : BitVec 48} {l : List (Nat × Nat)} {mask : Nat} (s : State) (c : BitVec 9) (t : BitVec 10)
    (th : Thread) (h : zeroFields f l = true) (hm : ∀ i < 48, mask.testBit i = true ∨ ∃ p ∈ l, p.1 ≤ i ∧ i < p.1 + p.2) :
    onlyBits (s.ctx c t th f) mask = true := by
  rw [onlyBits, beq_iff_eq, State.ctx_f]
  refine Nat.eq_of_testBit_eq fun i => ?_
  rw [Nat.testBit_and, BitVec.testBit_toNat]
  by_cases hi : i < 48
  · rcases hm i hi with hb | ⟨p, hp, hlo, hhi⟩
    · rw [hb, Bool.and_true]
    · rw [getLsbD_of_zeroFields h hp hlo hhi, Bool.false_and]
  · rw [BitVec.getLsbD_of_ge f i (by omega), Bool.false_and]

theorem zeroFields_zero (l : List (Nat × Nat)) : zeroFields 0 l = true := by
  simp [zeroFields, opField]

/-! ### Issue of the system instructions -/

theorem State.goOn_self {s : State} {c : BitVec 9} {t : BitVec 10} {th : Thread}
    (h : (s.cell c.toNat).thread? t.toNat = some th) : s.goOn c.toNat t.toNat (th.pc.toNat + 8) = s.retire c t th := by
  rw [State.goOn, State.modThread_of_thread? h]
  simp [State.retire, State.withThread, Thread.stepped, BitVec.ofNat_add]

/-- A thread of a cell that is not bound for replay executes a non-deterministic instruction like any other (R132). -/
theorem State.issue_nondet {s : State} {c : BitVec 9} (t : BitVec 10) (f : BitVec 48) (nd : Option Nat) (bad : Ctx → Bool)
    (op : Ctx → State → Res) (h : bwReplay (s.cell c.toNat).bind = false) : s.issue c t f nd bad op = s.issue c t f none bad op := by
  simp only [State.issue, h, Bool.and_false, Bool.false_eq_true, if_false]

/-- A non-deterministic instruction of a cell bound for replay is counted and traps REPLAY (R132). -/
theorem State.issue_replay {s : State} {c : BitVec 9} {t : BitVec 10} {th : Thread} (f : BitVec 48) (n : Nat) {bad : Ctx → Bool}
    (op : Ctx → State → Res) (h : s.canRun c t th = true) (hb : bad (s.ctx c t th f) = false)
    (hr : bwReplay (s.cell c.toNat).bind = true) :
    s.issue c t f (some n) bad op = (s.count pgTRL 0x070 0 16 1).trapped c t 0x03 n 0 := by
  obtain ⟨h1, h2, h3, h4⟩ := (State.canRun_iff s c t th).mp h
  simp only [State.ctx] at hb
  simp [State.issue, h1, h2, h3, h4, hb, hr, State.trapped]

/-! ### Barriers (R64, R65, R128) -/

theorem leaveBarrier_of_eq {order : Nat} {r : ThreadRun} {t : Thread} (h : t.run = r) :
    leaveBarrier order r t = { t with run := .ready, pc := t.pc + 8, since := order } := by
  simp [leaveBarrier, h]

theorem leaveBarrier_arrived (order : Nat) (r : ThreadRun) (t : Thread) :
    leaveBarrier order r { t with run := r } = { t with run := .ready, pc := t.pc + 8, since := order } := leaveBarrier_of_eq rfl

theorem leaveBarrier_of_ne {order : Nat} {r : ThreadRun} {t : Thread} (h : t.run ≠ r) : leaveBarrier order r t = t := by
  simp [leaveBarrier, h]

/-- A group has arrived with a thread that has: when each of its other threads has. -/
theorem groupArrived_setThread_iff (x : Cell) (t : Nat) (th : Thread) :
    groupArrived (x.setThread t { th with run := .barG }) (t / 64) = true ↔
      ∀ kv ∈ x.threads.filter (fun kv => kv.1 / 64 == t / 64 && kv.1 != t), kv.2.run = .barG ∨ kv.2.run = .exited := by
  simp only [groupArrived, Cell.setThread, List.all_eq_true, List.mem_filter, Tab.mem_put_iff, Bool.and_eq_true, Bool.or_eq_true,
    beq_iff_eq, bne_iff_ne]
  constructor
  · rintro h kv ⟨hmem, hgrp, hne⟩
    exact h kv ⟨.inr ⟨hmem, hne⟩, hgrp⟩
  · rintro h kv ⟨rfl | ⟨hmem, hne⟩, hgrp⟩
    · exact .inl rfl
    · exact h kv ⟨hmem, hgrp, hne⟩

theorem State.releaseGroup_of_waiting {s : State} {c g : Nat} (h : groupArrived (s.cell c) g = false) : s.releaseGroup c g = s := by
  simp [State.releaseGroup, h]

theorem State.releaseGroup_frame (s : State) (c g : Nat) : ∃ cl n, s.releaseGroup c g = { s with cells := cl, nextOrder := n } := by
  unfold State.releaseGroup
  split
  · exact ⟨s.cells, s.nextOrder, rfl⟩
  · exact ⟨_, _, rfl⟩

/-- The threads of a cell whose group is released. -/
theorem State.thread?_releaseGroup {s : State} {c g : Nat} (h : groupArrived (s.cell c) g = true) (k : Nat) :
    ((s.releaseGroup c g).cell c).thread? k =
      ((s.cell c).thread? k).map (fun y => if k / 64 = g then leaveBarrier s.nextOrder .barG y else y) := by
  have hmap : (s.cell c).threads.map (fun kv => if kv.1 / 64 == g then (kv.1, leaveBarrier s.nextOrder .barG kv.2) else kv) =
      (s.cell c).threads.map (fun kv => (kv.1, if kv.1 / 64 = g then leaveBarrier s.nextOrder .barG kv.2 else kv.2)) := by
    refine List.map_congr_left fun kv _ => ?_
    by_cases hg : kv.1 / 64 = g <;> simp [hg]
  have hcell : (s.releaseGroup c g).cell c = { s.cell c with threads := (s.cell c).threads.map (fun kv =>
      if kv.1 / 64 == g then (kv.1, leaveBarrier s.nextOrder .barG kv.2) else kv) } := by
    simp only [State.releaseGroup, h, Bool.not_true, Bool.false_eq_true, if_false]
    exact s.cell_setCell_self c _
  rw [hcell, hmap]
  exact Tab.find?_map (fun k y => if k / 64 = g then leaveBarrier s.nextOrder .barG y else y) (s.cell c).threads k

theorem State.releaseJob_of_waiting {s : State} {id : Nat} {n : BitVec 3} (h : s.jobArrived id n = false) :
    s.releaseJob id n = s := by
  simp [State.releaseJob, h]

theorem State.releaseJob_frame (s : State) (id : Nat) (n : BitVec 3) :
    ∃ cl k, s.releaseJob id n = { s with cells := cl, nextOrder := k } := by
  unfold State.releaseJob
  split
  · exact ⟨s.cells, s.nextOrder, rfl⟩
  · exact ⟨_, _, rfl⟩

theorem State.cell_releaseJob {s : State} {id : Nat} {n : BitVec 3} (h : s.jobArrived id n = true) (c : Nat) :
    (s.releaseJob id n).cell c = onCommand id (Cell.leaveJob s.nextOrder n) (s.cell c) := by
  simp only [State.releaseJob, h, Bool.not_true, Bool.false_eq_true, if_false, State.cell]
  exact (congrArg (fun l => Tab.get ({} : Cell) l c) (cells_map_onCommand id (Cell.leaveJob s.nextOrder n) s.cells)).trans
    (get_map_onCommand _ _ _ _)

/-- A command has arrived at a job barrier with a thread that has: when each of its other threads has, on its cell and elsewhere. -/
theorem State.jobArrived_withThread_iff {s : State} {c : BitVec 9} {id : Nat} (t : BitVec 10) (th : Thread) (n : BitVec 3)
    (h : (s.cell c.toNat).cmd = some id) :
    (s.withThread c t { th with run := .barJ n }).jobArrived id n = true ↔
      ∀ kv ∈ (s.cell c.toNat).threads.filter (fun kv => kv.1 != t.toNat) ++
          (s.cells.filter (fun kv => kv.1 != c.toNat && kv.2.cmd == some id)).flatMap (·.2.threads),
        ¬(kv.2.run ≠ .barJ n ∧ kv.2.run ≠ .exited) := by
  have hx : (s.cell c.toNat).setThread t.toNat { th with run := .barJ n } ≠ ({} : Cell) := fun e => by
    have := congrArg Cell.cmd e
    rw [show ((s.cell c.toNat).setThread t.toNat { th with run := .barJ n }).cmd = (s.cell c.toNat).cmd from rfl, h] at this
    cases this
  simp only [State.jobArrived, State.withThread, State.setCell, List.all_eq_true, List.mem_filter, Tab.mem_set_iff, List.mem_append,
    List.mem_flatMap, Bool.and_eq_true, Bool.or_eq_true, beq_iff_eq, bne_iff_ne, not_and_or, not_not]
  constructor
  · rintro hall kv (⟨hmem, hne⟩ | ⟨x, ⟨hx', hxc, hcmd⟩, hmem⟩)
    · exact hall (c.toNat, (s.cell c.toNat).setThread t.toNat { th with run := .barJ n }) ⟨.inl ⟨rfl, hx⟩, h⟩ kv
        (Tab.mem_put_iff.mpr (.inr ⟨hmem, hne⟩))
    · exact hall x ⟨.inr ⟨hx', hxc⟩, hcmd⟩ kv hmem
  · rintro hall x ⟨⟨rfl, _⟩ | ⟨hmem, hne⟩, hcmd⟩ y hy
    · rcases Tab.mem_put_iff.mp hy with rfl | ⟨hy, hyt⟩
      · exact .inl rfl
      · exact hall y (.inl ⟨hy, hyt⟩)
    · exact hall y (.inr ⟨x, ⟨hmem, hne, hcmd⟩, hy⟩)

/-! ### The end of a thread (R183) -/

/-- Thread t of cell c has executed EXIT at an offset. -/
def State.exitedAt (s : State) (c t : Nat) (pc : BitVec 24) : Prop :=
  ∃ y, (s.cell c).thread? t = some y ∧ y.run = .exited ∧ y.resident = false ∧ y.pc = pc

theorem State.exitedAt_releaseGroup {s : State} {c t : Nat} {pc : BitVec 24} (g : Nat) (h : s.exitedAt c t pc) :
    (s.releaseGroup c g).exitedAt c t pc := by
  cases ha : groupArrived (s.cell c) g with
  | false => rwa [State.releaseGroup_of_waiting ha]
  | true =>
    obtain ⟨y, hy, hrun, hres, hpc⟩ := h
    have hstay : (if t / 64 = g then leaveBarrier s.nextOrder .barG y else y) = y := by
      rw [leaveBarrier_of_ne (by rw [hrun]; nofun), ite_self]
    exact ⟨y, by rw [State.thread?_releaseGroup ha, hy, Option.map_some, hstay], hrun, hres, hpc⟩

/-- A change of a cell that leaves its threads that have ended as they are keeps a thread ended. -/
theorem State.exitedAt_of_onCommand {s u : State} {c t id : Nat} {pc : BitVec 24} {g : Cell → Cell} {h : Thread → Thread}
    (hs : s.exitedAt c t pc) (hu : u.cell c = onCommand id g (s.cell c))
    (hg : ∀ x : Cell, (g x).thread? t = (x.thread? t).map h)
    (hh : ∀ y : Thread, y.run = .exited → y.resident = false → (h y).run = .exited ∧ (h y).resident = false ∧ (h y).pc = y.pc) :
    u.exitedAt c t pc := by
  obtain ⟨y, hy, hrun, hres, hpc⟩ := hs
  rw [State.exitedAt, hu, onCommand]
  split
  · obtain ⟨hrun', hres', hpc'⟩ := hh y hrun hres
    exact ⟨h y, by rw [hg, hy]; rfl, hrun', hres', hpc'.trans hpc⟩
  · exact ⟨y, hy, hrun, hres, hpc⟩

theorem State.exitedAt_releaseJob {s : State} {c t : Nat} {pc : BitVec 24} (id : Nat) (n : BitVec 3) (h : s.exitedAt c t pc) :
    (s.releaseJob id n).exitedAt c t pc := by
  cases ha : s.jobArrived id n with
  | false => rwa [State.releaseJob_of_waiting ha]
  | true =>
    refine State.exitedAt_of_onCommand h (State.cell_releaseJob ha c) (Cell.thread?_leaveJob _ _ · t) fun y hrun hres => ?_
    rw [leaveBarrier_of_ne (by rw [hrun]; nofun)]
    exact ⟨hrun, hres, rfl⟩

theorem State.exitedAt_kernelDone {s : State} {c t : Nat} {pc : BitVec 24} (id : Nat) (h : s.exitedAt c t pc) :
    (s.kernelDone id).exitedAt c t pc ∧ (s.kernelDone id).mem = s.mem := by
  unfold State.kernelDone
  dsimp only
  split
  · rw [State.finish_zero]
    obtain ⟨cm, xf, cl, hf, hcl, _⟩ := (s.endKernel id).finish1_frame id (st := 0) [] 0 (by decide)
    have hcell : ((s.endKernel id).finish1 id 0 [] 0).cell c = (s.endKernel id).cell c := by rw [hf, hcl rfl]; rfl
    refine ⟨State.exitedAt_of_onCommand h (hcell.trans (s.cell_endKernel id c)) (Cell.thread?_endCommand · t) fun y hrun _ => ?_,
      by rw [hf]; rfl⟩
    have hstop : stopThread y = y := by simp [stopThread, Thread.live, hrun]
    rw [hstop]
    exact ⟨hrun, rfl, rfl⟩
  · exact ⟨h, rfl⟩

/-- All the job barriers that a thread's end may release. -/
theorem State.exitedAt_releaseJobs {s : State} {c t : Nat} {pc : BitVec 24} (id : Nat) (l : List Nat) (h : s.exitedAt c t pc) :
    (l.foldl (fun s n => s.releaseJob id (BitVec.ofNat 3 n)) s).exitedAt c t pc ∧
      (l.foldl (fun s n => s.releaseJob id (BitVec.ofNat 3 n)) s).mem = s.mem := by
  refine List.foldlRecOn (motive := fun u : State => u.exitedAt c t pc ∧ u.mem = s.mem) l _ ⟨h, rfl⟩ fun u hu n _ => ?_
  obtain ⟨hex, hmem⟩ := hu
  obtain ⟨cl, k, hf⟩ := u.releaseJob_frame id (BitVec.ofNat 3 n)
  exact ⟨State.exitedAt_releaseJob id _ hex, by rw [hf]; exact hmem⟩

end Sys2Proof.Machine
end

section
/-! PROOFS. The system instructions (O26): one lemma per instruction, each with the issue of a thread that can run. -/

namespace Sys2Proof.Machine

section
variable {s : State} {c : BitVec 9} {t : BitVec 10} {th : Thread} {f : BitVec 48}

/-! ### Instructions that retire at once -/

/-- An instruction that is done with the state as it is retires. -/
theorem State.issue_done {bad : Ctx → Bool} (h : s.canRun c t th = true) (hb : bad (s.ctx c t th f) = false) :
    s.issue c t f none bad (fun _ s => .done s) = s.retire c t th := by
  rw [State.issue_of_canRun f _ h hb]
  exact State.goOn_self ((State.canRun_iff s c t th).mp h).2.1

theorem exec_nop_of_canRun (h : s.canRun c t th = true) : exec (.nop c t 0) s = .next (s.retire c t th) := by
  change execNop c t 0 s = _
  rw [execNop, State.issue_done h]
  rw [onlyBits_of_zeroFields s c t th (zeroFields_zero [(0, 48)]) (by decide)]
  rfl

theorem exec_fence_of_canRun (h : s.canRun c t th = true) (hn : opField f 30 3 ≤ 2) (hz : zeroFields f [(0, 30), (33, 15)] = true) :
    exec (.fence c t f) s = .next (s.retire c t th) := by
  change execFence c t f s = _
  rw [execFence, State.issue_done h]
  rw [onlyBits_of_zeroFields s c t th hz (by decide), fldOf_ctx]
  simpa using hn

/-- An instruction that writes a scalar register of its thread retires with the value in it. -/
theorem State.issue_setS {bad : Ctx → Bool} (v : Ctx → State → W64) (h : s.canRun c t th = true)
    (hb : bad (s.ctx c t th f) = false) :
    s.issue c t f none bad (fun k s => .done (s.modThread k.c k.t (fun y => y.setS (fldOf k 43 5) (v k s)))) =
      s.retire c t (th.setS (opField f 43 5) (v (s.ctx c t th f) s)) := by
  rw [State.issue_modThread f (fun y => y.setS (opField f 43 5) (v (s.ctx c t th f) s)) h hb (by rw [fldOf_ctx]; rfl)
    (th.setS_pc _ _)]

/-- Table 04-15: the value of each selector. -/
theorem rdidValue_of_selector (s : State) (c : BitVec 9) (t : BitVec 10) (th : Thread) (f : BitVec 48) :
    let x := s.cell c.toNat
    let lent := x.state == .lent
    ∀ p ∈ [(0, t.toNat % 64), (1, t.toNat / 64), (2, if lent then x.part.1 else opField64 x.bind 32 9), (3, opField64 x.bind 41 5),
        (4, if lent then x.part.2 else
          (s.cells.filter (fun kv => kv.2.state == .bound && kv.2.job == some (x.bind.extractLsb' 0 20))).length),
        (5, opField64 x.bind 46 5), (6, opField64 x.bind 51 7), (7, opField64 x.bind 0 20), (8, opField64 x.bind 20 12),
        (9, opField64 x.bind 58 1), (10, opField64 x.bind 60 1)],
      p.1 ≤ 10 ∧ rdidValue s (s.ctx c t th f) p.1 = p.2 := by
  intro x lent
  have hbit : ∀ i, ofBool (x.bind.getLsbD i) = opField64 x.bind i 1 := fun i => by
    rw [opField64, BitVec.extractLsb'_toNat, BitVec.getLsbD, ofBool, Nat.testBit_eq_decide_div_mod_eq, Nat.shiftRight_eq_div_pow]
    have := Nat.mod_two_eq_zero_or_one (x.bind.toNat / 2 ^ i)
    rcases this with h | h <;> simp [h]
  have hcount : (s.boundCells (bwJob x.bind)).length =
      (s.cells.filter (fun kv => kv.2.state == .bound && kv.2.job == some (x.bind.extractLsb' 0 20))).length := List.length_map _
  simp only [List.forall_mem_cons, List.not_mem_nil, false_imp_iff, implies_true, and_true]
  exact ⟨⟨by decide, rfl⟩, ⟨by decide, rfl⟩, ⟨by decide, rfl⟩, ⟨by decide, rfl⟩,
    ⟨by decide, congrArg (fun n => if lent then x.part.2 else n) hcount⟩, ⟨by decide, rfl⟩, ⟨by decide, rfl⟩, ⟨by decide, rfl⟩,
    ⟨by decide, rfl⟩, ⟨by decide, hbit 58⟩, ⟨by decide, hbit 60⟩⟩

theorem exec_rdid_of_canRun (h : s.canRun c t th = true) (hz : zeroFields f [(24, 19)] = true) (hsel : opField f 0 24 ≤ 10) :
    exec (.rdid c t f) s =
      .next (s.retire c t (th.setS (opField f 43 5) (BitVec.ofNat 64 (rdidValue s (s.ctx c t th f) (opField f 0 24))))) := by
  change execRdid c t f s = _
  rw [execRdid, State.issue_setS (fun k s => BitVec.ofNat 64 (rdidValue s k (fldOf k 0 24))) h, fldOf_ctx]
  rw [onlyBits_of_zeroFields s c t th hz (by decide), fldOf_ctx]
  simpa using hsel

/-- The two clocks: read by a thread of a cell that is not bound for replay, a trap on one that is (R131, R132). -/
theorem exec_clocks_of_canRun (h : s.canRun c t th = true) (hz : zeroFields f [(0, 43)] = true) :
    (bwReplay (s.cell c.toNat).bind = false →
      exec (.rdcyc c t f) s = .next (s.retire c t (th.setS (opField f 43 5) (BitVec.ofNat 64 s.cycles))) ∧
      exec (.rdtime c t f) s = .next (s.retire c t (th.setS (opField f 43 5) (BitVec.ofNat 64 s.time)))) ∧
    (bwReplay (s.cell c.toNat).bind = true → ∀ p ∈ [(Instr.rdcyc c t f, 0x3807), (Instr.rdtime c t f, 0x3808)],
      exec p.1 s = .next ((s.count pgTRL 0x070 0 16 1).trapped c t 0x03 p.2 0)) := by
  have hb : (fun k => !onlyBits k mD) (s.ctx c t th f) = false := by
    dsimp only
    rw [onlyBits_of_zeroFields s c t th hz (by decide)]
    rfl
  refine ⟨fun hr => ⟨?_, ?_⟩, fun hr => ?_⟩
  · change execRdcyc c t f s = _
    rw [execRdcyc, State.issue_nondet t f _ _ _ hr, State.issue_setS (fun _ s => BitVec.ofNat 64 s.cycles) h hb]
  · change execRdtime c t f s = _
    rw [execRdtime, State.issue_nondet t f _ _ _ hr, State.issue_setS (fun _ s => BitVec.ofNat 64 s.time) h hb]
  · simp only [List.forall_mem_cons, List.not_mem_nil, false_imp_iff, implies_true, and_true]
    exact ⟨congrArg Host.Outcome.next (State.issue_replay f _ _ h hb hr), congrArg Host.Outcome.next (State.issue_replay f _ _ h hb hr)⟩

theorem exec_trap_of_canRun (h : s.canRun c t th = true) (hz : zeroFields f [(16, 32)] = true) :
    exec (.trap c t f) s = .next (s.trapped c t 0x0E (opField f 0 16) 0) := by
  change execTrap c t f s = _
  rw [execTrap, State.issue_of_canRun f _ h]
  · simp only [fldOf_ctx]
  · rw [onlyBits_of_zeroFields s c t th hz (by decide)]
    rfl

theorem exec_flags_of_canRun (h : s.canRun c t th = true) (hz : zeroFields f [(1, 42)] = true) :
    exec (.flags c t f) s = .next (s.retire c t
      { th.setS (opField f 43 5) (th.flags.setWidth 64) with flags := if f.getLsbD 0 then 0 else th.flags }) := by
  change execFlags c t f s = _
  let g (y : Thread) : Thread :=
    if f.toNat.testBit 0 then { y.setS (opField f 43 5) (y.flags.setWidth 64) with flags := 0 }
    else y.setS (opField f 43 5) (y.flags.setWidth 64)
  have hg : g th = { th.setS (opField f 43 5) (th.flags.setWidth 64) with flags := if f.getLsbD 0 then 0 else th.flags } := by
    obtain ⟨r, hr⟩ := th.setS_regs (opField f 43 5) (th.flags.setWidth 64)
    simp only [g, BitVec.testBit_toNat, hr]
    split <;> rfl
  rw [execFlags, State.issue_modThread f g h, hg]
  · rw [onlyBits_of_zeroFields s c t th hz (by decide)]
    rfl
  · rw [fldOf_ctx]
    rfl
  · rw [hg]
    exact th.setS_pc _ _

/-! ### Barriers -/

theorem State.modThread_of_canRun (h : s.canRun c t th = true) (g : Thread → Thread) :
    s.modThread c.toNat t.toNat g = s.withThread c t (g th) :=
  State.modThread_of_thread? ((State.canRun_iff s c t th).mp h).2.1 g

@[simp] theorem State.cell_withThread (y : Thread) : (s.withThread c t y).cell c.toNat = (s.cell c.toNat).setThread t.toNat y :=
  s.cell_setCell_self _ _

theorem exec_barg_of_canRun (h : s.canRun c t th = true) :
    exec (.barg c t 0) s = .next ((s.withThread c t { th with run := .barG }).releaseGroup c.toNat (t.toNat / 64)) := by
  change execBarg c t 0 s = _
  rw [execBarg, State.issue_of_canRun 0 _ h]
  · simp only [State.ctx_c, State.ctx_t, State.modThread_of_canRun h]
  · rw [onlyBits_of_zeroFields s c t th (zeroFields_zero [(0, 48)]) (by decide)]
    rfl

/-- BARG of a thread whose group has arrived lets every thread that waits at the barrier go on. -/
theorem barg_releases (h : s.canRun c t th = true)
    (hall : ∀ kv ∈ (s.cell c.toNat).threads.filter (fun kv => kv.1 / 64 == t.toNat / 64 && kv.1 != t.toNat),
      kv.2.run = .barG ∨ kv.2.run = .exited) :
    ∃ u, exec (.barg c t 0) s = .next u ∧
      (u.cell c.toNat).thread? t.toNat = some { th with run := .ready, pc := th.pc + 8, since := s.nextOrder } ∧
      ∀ k y, k ≠ t.toNat → (s.cell c.toNat).thread? k = some y → (u.cell c.toNat).thread? k =
        some (if k / 64 = t.toNat / 64 ∧ y.run = .barG then { y with run := .ready, pc := y.pc + 8, since := s.nextOrder } else y) := by
  have harr : groupArrived ((s.withThread c t { th with run := .barG }).cell c.toNat) (t.toNat / 64) = true := by
    rw [State.cell_withThread, groupArrived_setThread_iff]
    exact hall
  have hord : (s.withThread c t { th with run := .barG }).nextOrder = s.nextOrder := rfl
  refine ⟨_, exec_barg_of_canRun h, ?_, fun k y hk hy => ?_⟩
  · rw [State.thread?_releaseGroup harr, State.cell_withThread, Cell.thread?_setThread_self, Option.map_some, if_pos rfl,
      leaveBarrier_arrived, hord]
  · rw [State.thread?_releaseGroup harr, State.cell_withThread, Cell.thread?_setThread_ne _ _ hk, hy, Option.map_some, hord]
    by_cases hg : k / 64 = t.toNat / 64
    · by_cases hr : y.run = .barG
      · rw [if_pos hg, if_pos ⟨hg, hr⟩, leaveBarrier_of_eq hr]
      · rw [if_pos hg, if_neg (fun h => hr h.2), leaveBarrier_of_ne hr]
    · rw [if_neg hg, if_neg (fun h => hg h.1)]

/-- BARG of a thread of whose group another thread has not arrived waits. -/
theorem barg_waits (h : s.canRun c t th = true)
    (hlate : ∃ kv ∈ (s.cell c.toNat).threads.filter (fun kv => kv.1 / 64 == t.toNat / 64 && kv.1 != t.toNat),
      kv.2.run ≠ .barG ∧ kv.2.run ≠ .exited) :
    exec (.barg c t 0) s = .next (s.withThread c t { th with run := .barG }) := by
  rw [exec_barg_of_canRun h, State.releaseGroup_of_waiting]
  rw [State.cell_withThread, Bool.eq_false_iff, Ne, groupArrived_setThread_iff]
  obtain ⟨kv, hmem, hb, he⟩ := hlate
  exact fun hall => (hall kv hmem).elim hb he

theorem exec_barj_of_canRun (h : s.canRun c t th = true) (hz : zeroFields f [(0, 30), (33, 15)] = true) {id : Nat}
    (hid : (s.cell c.toNat).cmd = some id) :
    exec (.barj c t f) s = .next ((s.withThread c t { th with run := .barJ (BitVec.ofNat 3 (opField f 30 3)) }).releaseJob id
      (BitVec.ofNat 3 (opField f 30 3))) := by
  change execBarj c t f s = _
  rw [execBarj, State.issue_of_canRun f _ h]
  · simp only [State.ctx_c, State.ctx_t, State.ctx_x, hid, fldOf_ctx, State.modThread_of_canRun h]
  · rw [onlyBits_of_zeroFields s c t th hz (by decide)]
    rfl

/-- A thread that reaches a job barrier last goes on. -/
theorem thread?_releaseJob_withThread {id : Nat} {n : BitVec 3} (hid : (s.cell c.toNat).cmd = some id)
    (harr : (s.withThread c t { th with run := .barJ n }).jobArrived id n = true) :
    (((s.withThread c t { th with run := .barJ n }).releaseJob id n).cell c.toNat).thread? t.toNat =
      some { th with run := .ready, pc := th.pc + 8, since := s.nextOrder } := by
  have hcmd : ((s.cell c.toNat).setThread t.toNat { th with run := .barJ n }).cmd = some id := hid
  rw [State.cell_releaseJob harr, State.cell_withThread, onCommand, if_pos hcmd, Cell.thread?_leaveJob,
    Cell.thread?_setThread_self, Option.map_some, leaveBarrier_arrived]
  rfl

/-! ### Notifications (R129) -/

theorem exec_notify_of_canRun (h : s.canRun c t th = true) (hz : zeroFields f [(0, 33)] = true) :
    let r := s.sendWord (th.getS (opField f 38 5)).toNat (th.getS (opField f 33 5)) (s.ownStamp ((s.cell c.toNat).bind.extractLsb' 0 20)) true
    let at_ (u : State) (v : W64) : Host.Outcome State Fault Refusal :=
      .next ((u.modThread c.toNat t.toNat (fun y => y.setS (opField f 43 5) v)).goOn c.toNat t.toNat (th.pc.toNat + 8))
    (∀ i ∈ [Instr.notify c t f, Instr.notifyw c t f], (i = .notify c t f → (s.cell c.toNat).bind.getLsbD 58 = false) →
      (∀ u, r = (.taken, u) → exec i s = at_ u 0) ∧ (r.1 = .refused → exec i s = at_ s.reject 2)) ∧
    ((s.cell c.toNat).bind.getLsbD 58 = false → r.1 = .full → exec (.notify c t f) s = at_ s.reject 1) ∧
    (r.1 = .full → exec (.notifyw c t f) s = .next (s.withThread c t { th with run := .notify })) := by
  intro r at_
  have hb : (fun k => !onlyBits k (mD + mA + mB)) (s.ctx c t th f) = false := by
    dsimp only
    rw [onlyBits_of_zeroFields s c t th hz (by decide)]
    rfl
  have hop : ∀ waits, notifyOp waits (s.ctx c t th f) s = match r with
      | (.taken, s1) => .done (s1.modThread c.toNat t.toNat (fun y => y.setS (opField f 43 5) 0))
      | (.refused, _) => .done (s.reject.modThread c.toNat t.toNat (fun y => y.setS (opField f 43 5) 2))
      | (.full, _) => if waits then .wait (s.withThread c t { th with run := .notify })
          else .done (s.reject.modThread c.toNat t.toNat (fun y => y.setS (opField f 43 5) 1)) := fun waits => by
    rw [← State.modThread_of_canRun h (fun y => { y with run := .notify })]
    simp only [notifyOp, fldOf_ctx]
    rfl
  have hw : exec (.notifyw c t f) s = .next (s.issue c t f none (fun k => !onlyBits k (mD + mA + mB)) (notifyOp true)) := rfl
  have hn : (s.cell c.toNat).bind.getLsbD 58 = false →
      exec (.notify c t f) s = .next (s.issue c t f none (fun k => !onlyBits k (mD + mA + mB)) (notifyOp false)) := fun hr =>
    congrArg Host.Outcome.next (State.issue_nondet t f (some 0x3804) _ _ hr)
  rw [State.issue_of_canRun (bad := fun k => !onlyBits k (mD + mA + mB)) f _ h hb, hop] at hw
  rw [State.issue_of_canRun (bad := fun k => !onlyBits k (mD + mA + mB)) f _ h hb, hop] at hn
  obtain ⟨res, u⟩ := r
  refine ⟨fun i hi hr => ⟨fun v hv => ?_, fun hv => ?_⟩, fun hr hv => ?_, fun hv => ?_⟩
  · cases hv
    simp only [List.mem_cons, List.not_mem_nil, or_false] at hi
    rcases hi with rfl | rfl
    · exact hn (hr rfl)
    · exact hw
  · cases hv
    simp only [List.mem_cons, List.not_mem_nil, or_false] at hi
    rcases hi with rfl | rfl
    · exact hn (hr rfl)
    · exact hw
  · cases hv
    exact hn hr
  · cases hv
    exact hw

/-! ### EXIT (R183) -/

theorem exec_exit_of_canRun (h : s.canRun c t th = true) (h0 : th.f0.trap = none) (h1 : th.f1.trap = none)
    (hc0 : th.f0.copies = []) (hc1 : th.f1.copies = []) :
    ∃ u y, exec (.exit c t 0) s = .next u ∧ (u.cell c.toNat).thread? t.toNat = some y ∧ y.run = .exited ∧ y.resident = false ∧
      y.pc = th.pc ∧ u.mem = s.mem := by
  have hex : exitTrap th = none := by simp [exitTrap, h0, h1]
  have hrun : ∃ u, exec (.exit c t 0) s = .next u ∧ u.exitedAt c.toNat t.toNat th.pc ∧ u.mem = s.mem := by
    let s1 := (s.withThread c t { th with run := .exited, resident := false }).releaseGroup c.toNat (t.toNat / 64)
    have hs1 : s1.exitedAt c.toNat t.toNat th.pc :=
      State.exitedAt_releaseGroup _ ⟨{ th with run := .exited, resident := false },
        by rw [State.cell_withThread, Cell.thread?_setThread_self], rfl, rfl, rfl⟩
    have hm1 : s1.mem = s.mem := by
      obtain ⟨cl, n, hf⟩ := (s.withThread c t { th with run := .exited, resident := false }).releaseGroup_frame c.toNat (t.toNat / 64)
      simp only [s1, hf]
      rfl
    have hb : (fun k => !onlyBits k 0) (s.ctx c t th 0) = false := by
      dsimp only
      rw [onlyBits_of_zeroFields s c t th (zeroFields_zero [(0, 48)]) (by decide)]
      rfl
    change ∃ u, execExit c t 0 s = .next u ∧ _
    rw [execExit, State.issue_of_canRun 0 _ h hb]
    simp only [State.ctx_th, State.ctx_c, State.ctx_t, State.ctx_x, hex, hc0, hc1, List.isEmpty_nil, Bool.not_true, Bool.or_self,
      Bool.false_eq_true, if_false, State.modThread_of_canRun h]
    cases (s.cell c.toNat).cmd with
    | none => exact ⟨s1, rfl, hs1, hm1⟩
    | some id =>
      obtain ⟨hj, hmj⟩ := State.exitedAt_releaseJobs id (List.range 8) hs1
      obtain ⟨hk, hmk⟩ := State.exitedAt_kernelDone id hj
      exact ⟨_, rfl, hk, hmk.trans (hmj.trans hm1)⟩
  obtain ⟨u, hu, ⟨y, hy⟩, hm⟩ := hrun
  exact ⟨u, y, hu, hy.1, hy.2.1, hy.2.2.1, hy.2.2.2, hm⟩

end

/-- Settles O26: each instruction by its own lemma. -/
theorem systemResults : Obligations.SystemResults := by
  intro s c t th f h x d n toS replay
  refine ⟨?nop, ?barg, ?barj, exec_fence_of_canRun h, exec_notify_of_canRun h, ?rdid, exec_clocks_of_canRun h,
    exec_trap_of_canRun h, ?exit, exec_flags_of_canRun h⟩
  case nop =>
    rintro rfl
    exact exec_nop_of_canRun h
  case barg =>
    rintro rfl
    exact ⟨barg_waits h, barg_releases h⟩
  case barj =>
    intro hz id hid here away late
    have harr := State.jobArrived_withThread_iff t th (BitVec.ofNat 3 n) hid
    refine ⟨fun ⟨kv, hmem, hlate⟩ => ?_, fun hall => ?_⟩
    · rw [exec_barj_of_canRun h hz hid, State.releaseJob_of_waiting]
      rw [Bool.eq_false_iff, Ne, harr]
      exact fun hall => hall kv hmem hlate
    · exact ⟨_, exec_barj_of_canRun h hz hid, thread?_releaseJob_withThread hid (harr.mpr hall)⟩
  case rdid =>
    intro hz lent p hp hsel
    obtain ⟨hle, hval⟩ := rdidValue_of_selector s c t th f p hp
    rw [exec_rdid_of_canRun h hz (hsel ▸ hle), hsel, hval]
  case exit =>
    rintro rfl
    exact exec_exit_of_canRun h

end Sys2Proof.Machine
end

section
/-! PROOFS. What the trellis is made of: updates of registers only, the completion of a TRL command, the binding word, folds that
change one cell after the other, jobs and slots that are given up, and a cell that fails. -/

namespace Sys2Proof

open Machine

/-- A cell that is being purged: none of its threads is live (R80). -/
def Cell.beingPurged (x : Cell) : Prop := x.state = .purging ∧ ∀ y ∈ x.threads, y.2.live = false

theorem stopThread_live (y : Thread) : (stopThread y).live = false := by
  unfold stopThread
  split
  · rfl
  next h => simpa using h

theorem Cell.endCommand_stopped (x : Cell) : ∀ y ∈ x.endCommand.threads, y.2.live = false := by
  intro y hy
  obtain ⟨z, _, rfl⟩ := List.mem_map.mp hy
  exact stopThread_live z.2

theorem Cell.startPurge_beingPurged (x : Cell) : x.startPurge.beingPurged := ⟨rfl, x.endCommand_stopped⟩

end Sys2Proof

namespace Sys2Proof.Machine

/-! ### Updates of registers only -/

/-- Nothing but registers, MSI-X pending bits and the record of what has left the device differs. -/
def RegsOnly (s u : State) : Prop := ∃ r m o, u = { s with regs := r, msix := m, out := o }

@[simp] theorem RegsOnly.refl (s : State) : RegsOnly s s := ⟨s.regs, s.msix, s.out, rfl⟩

theorem RegsOnly.trans {s t u : State} (h : RegsOnly s t) (k : RegsOnly t u) : RegsOnly s u := by
  obtain ⟨_, _, _, rfl⟩ := h
  obtain ⟨r, m, o, rfl⟩ := k
  exact ⟨r, m, o, rfl⟩

section
variable {s u : State} (h : RegsOnly s u)
include h

theorem RegsOnly.sameData : SameData s u := by
  obtain ⟨_, _, _, rfl⟩ := h
  exact SameData.refl s

theorem RegsOnly.cells : u.cells = s.cells := by
  obtain ⟨_, _, _, rfl⟩ := h
  rfl

theorem RegsOnly.cell (c : Nat) : u.cell c = s.cell c := congrArg (fun l => Tab.get ({} : Cell) l c) h.cells

theorem RegsOnly.mem : u.mem = s.mem := h.sameData.1

theorem RegsOnly.plots : u.plots = s.plots := h.sameData.2.1

theorem RegsOnly.jobs : u.jobs = s.jobs := by
  obtain ⟨_, _, _, rfl⟩ := h
  rfl

theorem RegsOnly.cmds : u.cmds = s.cmds := by
  obtain ⟨_, _, _, rfl⟩ := h
  rfl

theorem RegsOnly.kslots : u.kslots = s.kslots := by
  obtain ⟨_, _, _, rfl⟩ := h
  rfl

theorem RegsOnly.substs : u.substs = s.substs := by
  obtain ⟨_, _, _, rfl⟩ := h
  rfl

theorem RegsOnly.wait : u.wait = s.wait := by
  obtain ⟨_, _, _, rfl⟩ := h
  rfl

end

section
variable (s : State)

theorem State.wr_regsOnly (p o : Nat) (v : W32) : RegsOnly s (s.wr p o v) := ⟨_, s.msix, s.out, rfl⟩
theorem State.setFld_regsOnly (p o lo len v : Nat) : RegsOnly s (s.setFld p o lo len v) := s.wr_regsOnly _ _ _
theorem State.count_regsOnly (p o lo len n : Nat) : RegsOnly s (s.count p o lo len n) := s.wr_regsOnly _ _ _

theorem State.raise_regsOnly (p b : Nat) : RegsOnly s (s.raise p b) := by
  obtain ⟨m, o, h⟩ := s.raise_frame p b
  rw [h]
  exact ⟨_, m, o, rfl⟩

theorem State.complete_regsOnly (p st : Nat) : RegsOnly s (s.complete p st) :=
  ((s.setFld_regsOnly _ _ _ _ _).trans (State.setFld_regsOnly _ _ _ _ _ _)).trans (State.raise_regsOnly _ _ _)

theorem State.trlDone_regsOnly (st n : Nat) : RegsOnly s (s.trlDone st n) :=
  (s.setFld_regsOnly _ _ _ _ _).trans (State.complete_regsOnly _ _ _)

theorem State.noteFault_regsOnly (c b : Nat) : RegsOnly s (s.noteFault c b) :=
  (s.setFld_regsOnly _ _ _ _ _).trans (State.raise_regsOnly _ _ _)

theorem State.spareUsed_regsOnly (b : Nat) : RegsOnly s (s.spareUsed b) := s.setFld_regsOnly _ _ _ _ _

theorem State.showHash_regsOnly (h : Bytes) : RegsOnly s (s.showHash h) :=
  List.foldlRecOn (motive := fun u : State => RegsOnly s u) _ _ (RegsOnly.refl s) fun u hu _ _ => hu.trans (u.wr_regsOnly _ _ _)

end

/-! ### What registers show -/

theorem State.rd_of_regs {s u : State} (h : u.regs = s.regs) (p o : Nat) : u.rd p o = s.rd p o := by
  rw [State.rd, State.rd, h]

theorem State.bit_of_regs {s u : State} (h : u.regs = s.regs) (p o b : Nat) : u.bit p o b = s.bit p o b := by
  rw [State.bit, State.bit, State.rd_of_regs h]

theorem State.busy_of_regs {s u : State} (h : u.regs = s.regs) {p : Nat} : u.busy p = s.busy p := State.bit_of_regs h _ _ _

theorem State.rd_raise_ne (s : State) {p b q r : Nat} (h : q * 4096 + r ≠ p * 4096 + oIRQS) :
    (s.raise p b).rd q r = s.rd q r := by
  rw [State.raise_rd]
  exact s.rd_wr_ne _ h

theorem State.bit_setFld (s : State) (p o lo len v b : Nat) (h : lo + len ≤ 32) :
    (s.setFld p o lo len v).bit p o b = if lo ≤ b ∧ b < lo + len then v.testBit (b - lo) else s.bit p o b := by
  rw [State.bit, State.setFld, State.rd_wr_self, withField_testBit _ _ _ _ _ h]
  rfl

/-- A bit that is set to 1 reads 1. -/
theorem State.bit_setFld_one (s : State) (p o b : Nat) (h : b < 32) : (s.setFld p o b 1 1).bit p o b = true := by
  rw [s.bit_setFld p o b 1 1 b (by omega), if_pos (by omega), Nat.sub_self]
  rfl

/-- Setting a bit clears none. -/
theorem State.bit_setFld_one_mono (s : State) {p o b q r i : Nat} (hb : b < 32) (h : s.bit q r i = true) :
    (s.setFld p o b 1 1).bit q r i = true := by
  by_cases hk : q * 4096 + r = p * 4096 + o
  · have hrd : (s.setFld p o b 1 1).rd q r = withField (s.rd p o) b 1 1 := by
      rw [State.rd, hk]
      exact (congrArg (fun d => Tab.get d _ _) (by rw [← hk])).trans (s.rd_wr_self p o _)
    have hsame : s.rd q r = s.rd p o := by rw [State.rd, State.rd, hk]
    rw [State.bit, hsame] at h
    rw [State.bit, hrd, withField_testBit _ _ _ _ _ (by omega), h]
    split
    next hi => rw [show i - b = 0 by omega]; rfl
    · rfl
  · rw [State.bit, State.setFld, s.rd_wr_ne _ hk]
    exact h

theorem State.bit_raise (s : State) (p b : Nat) (h : b < 32) : (s.raise p b).bit p oIRQS b = true := by
  rw [State.bit, State.raise_rd]
  exact s.bit_setFld_one p oIRQS b h

theorem State.bit_raise_mono (s : State) {p b q r i : Nat} (hb : b < 32) (h : s.bit q r i = true) :
    (s.raise p b).bit q r i = true := by
  rw [State.bit, State.raise_rd]
  exact s.bit_setFld_one_mono hb h

/-- The completion of a command leaves every register but CMD_STATUS and IRQ_STATUS of its page. -/
theorem State.rd_complete_ne (s : State) {p st q r : Nat} (h : q * 4096 + r ≠ p * 4096 + cmdStatusOff p)
    (hi : q * 4096 + r ≠ p * 4096 + oIRQS) : (s.complete p st).rd q r = s.rd q r := by
  rw [State.complete, State.rd_raise_ne _ hi, State.setFld, State.rd_wr_ne _ _ h, State.setFld, State.rd_wr_ne _ _ h]

/-! ### TRL commands -/

theorem State.trlDone_answered (s : State) {st : Nat} (n : Nat) (h : st < 256) : Answered (s.trlDone st n) pgTRL st :=
  State.complete_answered _ _ h

theorem State.trlDone_result (s : State) (st n : Nat) : (s.trlDone st n).fld pgTRL 0x054 16 16 = n % 65536 := by
  have hoff : ∀ t : State, (t.complete pgTRL st).fld pgTRL 0x054 16 16 = t.fld pgTRL 0x054 16 16 := fun t => by
    rw [State.fld, State.complete, State.rd_raise_ne _ (by decide), State.setFld, show cmdStatusOff pgTRL = 0x054 from rfl, State.rd_wr_self,
      fieldOf_withField_ne _ _ _ _ _ _ (by decide) (by decide), State.setFld, State.rd_wr_self,
      fieldOf_withField_ne _ _ _ _ _ _ (by decide) (by decide)]
    rfl
  rw [State.trlDone, hoff, State.fld_setFld_self _ _ _ _ _ _ (by decide)]
  exact Nat.mod_mod _ _

theorem State.rd_trlDone_ne (s : State) {st n q r : Nat} (h : q * 4096 + r ≠ pgTRL * 4096 + 0x054)
    (hi : q * 4096 + r ≠ pgTRL * 4096 + oIRQS) : (s.trlDone st n).rd q r = s.rd q r := by
  rw [State.trlDone, State.rd_complete_ne _ h hi, State.setFld, s.rd_wr_ne _ h]

/-- A bit that is set stays set when a TRL command completes, unless it is one of RESULT, STATUS and BUSY. -/
theorem State.bit_trlDone_mono (s : State) {st n q r i : Nat} (hr : q * 4096 + r ≠ pgTRL * 4096 + 0x054) (h : s.bit q r i = true) :
    (s.trlDone st n).bit q r i = true := by
  rw [State.trlDone, State.complete]
  refine State.bit_raise_mono _ (by decide) ?_
  have hc : q * 4096 + r ≠ pgTRL * 4096 + cmdStatusOff pgTRL := hr
  rw [State.bit, State.setFld, State.rd_wr_ne _ _ hc, State.setFld, State.rd_wr_ne _ _ hc, State.setFld, State.rd_wr_ne _ _ hr]
  exact h

theorem State.started_regsOnly (s : State) (pg : Nat) : RegsOnly s (s.started pg) := s.setFld_regsOnly _ _ _ _ _

theorem State.started_busy (s : State) (pg : Nat) : (s.started pg).busy pg = true := s.bit_setFld_one _ _ _ (by decide)

theorem trlArg_started (s : State) {n : Nat} (h : n < 4) : trlArg (s.started pgTRL) n = s.arg pgTRL n := by
  have hne : argOff pgTRL + 4 * n ≠ cmdStatusOff pgTRL := by
    rw [show argOff pgTRL = 0x044 from rfl, show cmdStatusOff pgTRL = 0x054 from rfl]
    omega
  rw [trlArg, State.arg, State.started, State.rd_setFld_off _ _ _ _ hne]
  rfl

/-- The arguments of a command have no bit outside their masks. -/
theorem State.argsBad_eq_false_iff (s : State) (pg : Nat) (masks : List Nat) :
    s.argsBad pg 0 masks = false ↔ ∀ i < masks.length, s.arg pg i &&& (masks[i]?).getD 0 = s.arg pg i := by
  simp [State.argsBad]

/-- Arguments that are legal for masks are legal for wider ones. -/
theorem State.argsBad_of_narrower {s : State} {pg : Nat} {masks wider : List Nat} (h : s.argsBad pg 0 masks = false)
    (hlen : wider.length = masks.length)
    (hw : ∀ i < wider.length, (masks[i]?).getD 0 &&& (wider[i]?).getD 0 = (masks[i]?).getD 0) : s.argsBad pg 0 wider = false := by
  rw [State.argsBad_eq_false_iff] at h ⊢
  intro i hi
  have hm := h i (hlen ▸ hi)
  rw [← hm, Nat.and_assoc, hw i hi]

/-- A number without bits above a mask of the low k bits is its own low field. -/
theorem fieldOf_of_mask {a k : Nat} (h : a &&& (2 ^ k - 1) = a) : fieldOf a 0 k = a := by
  rwa [Nat.and_two_pow_sub_one_eq_mod] at h

theorem ofNat_fieldOf_zero (a k : Nat) : BitVec.ofNat k (fieldOf a 0 k) = BitVec.ofNat k a := by
  apply BitVec.eq_of_toNat_eq
  simp [fieldOf]

theorem ofNat_fieldOf (a lo k : Nat) : BitVec.ofNat k (fieldOf a lo k) = BitVec.ofNat k (a / 2 ^ lo) := by
  apply BitVec.eq_of_toNat_eq
  simp [fieldOf, Nat.shiftRight_eq_div_pow]

/-! ### The binding word (Table 03-4) -/

theorem toNat_bindWord {pos groups scr acc : Nat} (job : BitVec 20) (tenant : BitVec 12) (replay conf lent : Bool)
    (hg : groups < 32) (hs : scr < 32) (ha : acc < 128) :
    (bindWord job tenant pos groups scr acc replay conf lent).toNat =
      job.toNat + 2 ^ 20 * tenant.toNat + 2 ^ 32 * (pos % 512) + 2 ^ 41 * groups + 2 ^ 46 * scr + 2 ^ 51 * acc +
        2 ^ 58 * ofBool replay + 2 ^ 59 * ofBool conf + 2 ^ 60 * ofBool lent + 2 ^ 61 := by
  have hle : ∀ b : Bool, ofBool b ≤ 1 := by decide
  have := hle replay
  have := hle conf
  have := hle lent
  have := job.isLt
  have := tenant.isLt
  rw [bindWord, BitVec.toNat_ofNat]
  omega

/-- What a binding word in force says. -/
theorem bindWord_fields {pos groups scr acc : Nat} (job : BitVec 20) (tenant : BitVec 12) (replay conf lent : Bool)
    (hp : pos < 512) (hg : groups < 32) (hs : scr < 32) (ha : acc < 128) :
    let w := bindWord job tenant pos groups scr acc replay conf lent
    bwJob w = job ∧ bwTenant w = tenant ∧ bwPos w = pos ∧ bwGroups w = groups ∧ bwScr w = scr ∧ bwAcc w = acc ∧
      bwReplay w = replay ∧ bwConf w = conf ∧ bwLent w = lent ∧ bwValid w = true := by
  intro w
  have hw : w.toNat = _ := toNat_bindWord job tenant replay conf lent hg hs ha
  have hbit : ∀ b : Bool, ofBool b = 0 ∧ b = false ∨ ofBool b = 1 ∧ b = true := by decide
  have hj := job.isLt
  have ht := tenant.isLt
  have hr := hbit replay
  have hc := hbit conf
  have hl := hbit lent
  have hfld : ∀ lo n, (w.extractLsb' lo n).toNat = w.toNat / 2 ^ lo % 2 ^ n := fun lo n => by
    rw [BitVec.extractLsb'_toNat, Nat.shiftRight_eq_div_pow]
  have hflag : ∀ i (b : Bool), w.toNat / 2 ^ i % 2 = ofBool b → w.getLsbD i = b := fun i b h => by
    rw [BitVec.getLsbD, Nat.testBit_eq_decide_div_mod_eq, h]
    cases b <;> rfl
  refine ⟨BitVec.eq_of_toNat_eq ?_, BitVec.eq_of_toNat_eq ?_, ?_, ?_, ?_, ?_, hflag _ _ ?_, hflag _ _ ?_, hflag _ _ ?_, hflag _ _ ?_⟩
  · rw [bwJob, hfld, hw]; omega
  · rw [bwTenant, hfld, hw]; omega
  · rw [bwPos, hfld, hw]; omega
  · rw [bwGroups, hfld, hw]; omega
  · rw [bwScr, hfld, hw]; omega
  · rw [bwAcc, hfld, hw]; omega
  · rw [hw]; omega
  · rw [hw]; omega
  · rw [hw]; omega
  · rw [hw, show ofBool true = 1 from rfl]; omega

/-! ### One cell after the other -/

/-- What one step of a fold makes, where the fold's invariant holds, and the others keep holds at the end. -/
theorem foldl_of_mem {σ α : Type} {P Q : σ → Prop} {f : σ → α → σ} {l : List α} {a : α} (s : σ) (ha : a ∈ l) (h0 : Q s)
    (hQ : ∀ u b, Q u → Q (f u b)) (hmake : ∀ u, Q u → P (f u a)) (hkeep : ∀ u b, Q u → P u → P (f u b)) : P (l.foldl f s) := by
  obtain ⟨l1, l2, rfl⟩ := List.append_of_mem ha
  rw [List.foldl_append, List.foldl_cons]
  have h1 : Q (l1.foldl f s) := List.foldlRecOn (motive := Q) l1 f h0 fun u hu b _ => hQ u b hu
  exact (List.foldlRecOn (motive := fun u => Q u ∧ P u) l2 f ⟨hQ _ a h1, hmake _ h1⟩
    fun u hu b _ => ⟨hQ u b hu.1, hkeep u b hu.1 hu.2⟩).2

/-- Cells changed one after the other, each with a number of its own. -/
def State.modCells (s : State) (g : Nat → Cell → Cell) (l : List (Nat × Nat)) : State :=
  l.foldl (fun s p => s.modCell p.1 (g p.2)) s

theorem State.modCells_frame (s : State) (g : Nat → Cell → Cell) (l : List (Nat × Nat)) :
    ∃ cl, s.modCells g l = { s with cells := cl } := by
  refine List.foldlRecOn (motive := fun u : State => ∃ cl, u = { s with cells := cl }) l _ ⟨s.cells, rfl⟩ fun u hu p _ => ?_
  obtain ⟨cl, rfl⟩ := hu
  exact ⟨_, rfl⟩

section
variable (s : State) (g : Nat → Cell → Cell) (l : List (Nat × Nat))

@[simp] theorem State.modCells_mem : (s.modCells g l).mem = s.mem := by
  obtain ⟨cl, h⟩ := s.modCells_frame g l
  rw [h]

@[simp] theorem State.modCells_plots : (s.modCells g l).plots = s.plots := by
  obtain ⟨cl, h⟩ := s.modCells_frame g l
  rw [h]

@[simp] theorem State.modCells_jobs : (s.modCells g l).jobs = s.jobs := by
  obtain ⟨cl, h⟩ := s.modCells_frame g l
  rw [h]

@[simp] theorem State.modCells_cmds : (s.modCells g l).cmds = s.cmds := by
  obtain ⟨cl, h⟩ := s.modCells_frame g l
  rw [h]

end

theorem State.cell_modCell_self (s : State) (c : Nat) (g : Cell → Cell) : (s.modCell c g).cell c = g (s.cell c) :=
  s.cell_setCell_self _ _

theorem State.cell_modCell_ne (s : State) {c d : Nat} (g : Cell → Cell) (h : d ≠ c) : (s.modCell c g).cell d = s.cell d :=
  s.cell_setCell_ne _ h

theorem State.cell_modCells_of_notMem (s : State) (g : Nat → Cell → Cell) {l : List (Nat × Nat)} {c : Nat} (h : c ∉ l.map (·.1)) :
    (s.modCells g l).cell c = s.cell c := by
  refine List.foldlRecOn (motive := fun u : State => u.cell c = s.cell c) l _ rfl fun u hu p hp => ?_
  have hne : c ≠ p.1 := fun e => h (List.mem_map.mpr ⟨p, hp, e.symm⟩)
  rw [State.cell_modCell_ne _ _ hne, hu]

theorem State.cell_modCells_of_mem (s : State) (g : Nat → Cell → Cell) {l : List (Nat × Nat)} (hl : (l.map (·.1)).Nodup)
    {p : Nat × Nat} (hp : p ∈ l) : (s.modCells g l).cell p.1 = g p.2 (s.cell p.1) := by
  induction l generalizing s with
  | nil => cases hp
  | cons q l ih =>
    rw [List.map_cons, List.nodup_cons] at hl
    obtain ⟨hq, hl⟩ := hl
    change ((s.modCell q.1 (g q.2)).modCells g l).cell p.1 = _
    rcases List.mem_cons.mp hp with rfl | hp
    · rw [State.cell_modCells_of_notMem _ _ hq, State.cell_modCell_self]
    · have hne : p.1 ≠ q.1 := fun e => hq (e ▸ List.mem_map_of_mem hp)
      rw [ih _ hl hp, State.cell_modCell_ne _ _ hne]

/-! ### Jobs, slots and translations that are given up -/

theorem State.dropJob_frame (s : State) (job : BitVec 20) : ∃ j, s.dropJob job = { s with jobs := j } := by
  unfold State.dropJob
  dsimp only
  split
  · exact ⟨s.jobs, rfl⟩
  · exact ⟨_, rfl⟩

theorem mem_boundCells {s : State} {job : BitVec 20} {c : Nat} :
    c ∈ s.boundCells job ↔ ∃ x, (c, x) ∈ s.cells ∧ x.state = .bound ∧ x.job = some job := by
  simp [State.boundCells]

/-! ### A cell that fails (R28, R83 to R85) -/

/-- The command of a BOUND cell that fails ends (R28). -/
def State.loseWork (s : State) (c : Nat) : State :=
  match (s.cell c).state, (s.cell c).cmd with
  | .bound, some id => (s.endKernel id).finish id 0x10 (leBytes 2 (bwPos (s.cell c).bind)) 0
  | _, _ => s

theorem State.loseWork_of_idle {s : State} {c : Nat} (h : (s.cell c).state = .bound → (s.cell c).cmd = none) :
    s.loseWork c = s := by
  unfold State.loseWork
  split
  next hb hid =>
    rw [h hb] at hid
    cases hid
  · rfl

theorem State.failCell_eq (s : State) (c : Nat) (cause : BitVec 8) :
    s.failCell c cause =
      let s2 := (s.loseWork c).setCell c { (s.cell c).purged .failed with cause := cause }
      (((s2.cmds.filter (fun kv => (kv.2.phase == .running || kv.2.phase == .ranked) && kv.2.cells.contains c)).map (·.1)).foldl
        (fun s id => s.redispatch id) s2).dropCellTlb c := rfl

/-- A cell on which nothing runs fails: it is cleared, and its translations leave the cache. -/
theorem State.failCell_of_idle {s : State} {c : Nat} (cause : BitVec 8) (hcmd : (s.cell c).state = .bound → (s.cell c).cmd = none)
    (hops : ∀ y ∈ s.cmds, c ∉ y.2.cells) :
    s.failCell c cause = (s.setCell c { (s.cell c).purged .failed with cause := cause }).dropCellTlb c := by
  have hnone : s.cmds.filter (fun kv => (kv.2.phase == .running || kv.2.phase == .ranked) && kv.2.cells.contains c) = [] := by
    refine List.filter_eq_nil_iff.mpr fun y hy => ?_
    simp [hops y hy]
  rw [State.failCell_eq, State.loseWork_of_idle hcmd]
  dsimp only
  rw [State.setCell_cmds, hnone]
  rfl

/-- No part of a command waits for a cell. -/
theorem State.lendWaiting_of_idle {s : State} (h : ∀ y ∈ s.cmds, y.2.beds = []) : s.lendWaiting = s := by
  have hids : s.cmds.filter (fun kv => (kv.2.phase == .running || kv.2.phase == .ranked) && !kv.2.beds.isEmpty) = [] := by
    refine List.filter_eq_nil_iff.mpr fun y hy => ?_
    simp [h y hy]
  rw [State.lendWaiting, hids]
  rfl

/-- The substitution of a cell that its bed's spare takes over. -/
def State.spareTakes (s : State) (c : Nat) (cause : BitVec 8) (byCmd : Bool) : State :=
  { ((s.setCell c { (s.cell c).purged .failed with cause := cause }).dropCellTlb c).setCell (spareOf (cellBed c))
      { s.cell (spareOf (cellBed c)) with state := .selftest } with
    substs := s.substs ++ [{ failed := c, spare := spareOf (cellBed c),
                             toBound := (s.cell c).state == .bound && bwValid (s.cell c).bind, bind := (s.cell c).bind, byCmd := byCmd }] }

theorem State.replaceCell_of_spare {s : State} {c : Nat} (cause : BitVec 8) (byCmd : Bool)
    (hcmd : (s.cell c).state = .bound → (s.cell c).cmd = none) (hops : ∀ y ∈ s.cmds, c ∉ y.2.cells)
    (hne : spareOf (cellBed c) ≠ c) (hsp : (s.cell (spareOf (cellBed c))).state = .spare) :
    s.replaceCell c cause byCmd = s.spareTakes c cause byCmd := by
  have hcell : ((s.setCell c { (s.cell c).purged .failed with cause := cause }).dropCellTlb c).cell (spareOf (cellBed c)) =
      s.cell (spareOf (cellBed c)) := s.cell_setCell_ne { (s.cell c).purged .failed with cause := cause } hne
  rw [State.replaceCell]
  dsimp only
  rw [State.failCell_of_idle cause hcmd hops, hcell, hsp]
  rfl

/-- A cell that no spare takes over: its bed is reduced. -/
theorem State.replaceCell_of_noSpare {s : State} {c : Nat} (cause : BitVec 8) (byCmd : Bool)
    (hcmd : (s.cell c).state = .bound → (s.cell c).cmd = none) (hops : ∀ y ∈ s.cmds, c ∉ y.2.cells)
    (hsp : spareOf (cellBed c) = c ∨ (s.cell (spareOf (cellBed c))).state ≠ .spare) :
    ∃ w, s.replaceCell c cause byCmd =
      (((s.setCell c { (s.cell c).purged .failed with cause := cause }).dropCellTlb c).loseCell (cellBed c) w).lendWaiting := by
  have hst : (((s.setCell c { (s.cell c).purged .failed with cause := cause }).dropCellTlb c).cell (spareOf (cellBed c))).state ≠
      .spare := by
    change ((s.setCell c { (s.cell c).purged .failed with cause := cause }).cell (spareOf (cellBed c))).state ≠ .spare
    by_cases he : spareOf (cellBed c) = c
    · rw [he, State.cell_setCell_self]
      nofun
    · rw [State.cell_setCell_ne _ _ he]
      exact hsp.resolve_left he
  rw [State.replaceCell]
  dsimp only
  rw [State.failCell_of_idle cause hcmd hops, if_neg (by simpa using hst)]
  exact ⟨_, rfl⟩

/-- A bed that is reduced: its bit and interrupt are set, and only registers and the jobs' lost positions differ. -/
theorem State.loseCell_spec (s : State) {bed : Nat} (w : Option W64) (h : bed < 32) :
    (∃ t j, RegsOnly s t ∧ s.loseCell bed w = { t with jobs := j }) ∧ (s.loseCell bed w).bit pgTRL 0x064 bed = true ∧
      (s.loseCell bed w).bit pgTRL oIRQS 2 = true ∧
      ∀ q r i, s.bit q r i = true → (s.loseCell bed w).bit q r i = true := by
  generalize ht : (s.bedBit 0x064 bed).raise pgTRL 2 = t
  have hreg : RegsOnly s t := ht ▸ (s.setFld_regsOnly _ _ _ _ _).trans (State.raise_regsOnly _ _ _)
  have hj : ∃ j, s.loseCell bed w = { t with jobs := j } := by
    unfold State.loseCell
    rw [ht]
    cases w with
    | none => exact ⟨t.jobs, rfl⟩
    | some w => exact ⟨_, rfl⟩
  obtain ⟨j, hj⟩ := hj
  have hbit : ∀ q r i, (s.loseCell bed w).bit q r i = t.bit q r i := fun q r i => by rw [hj]; rfl
  refine ⟨⟨t, j, hreg, hj⟩, ?_, ?_, fun q r i hb => ?_⟩
  · rw [hbit, ← ht]
    exact State.bit_raise_mono _ (by decide) (s.bit_setFld_one _ _ _ h)
  · rw [hbit, ← ht]
    exact State.bit_raise _ _ _ (by decide)
  · rw [hbit, ← ht]
    exact State.bit_raise_mono _ (by decide) (s.bit_setFld_one_mono h hb)

end Sys2Proof.Machine
end

section
/-! PROOFS. The trellis commands (O33): what each leaves when its page takes it. -/

namespace Sys2Proof.Machine

/-! ### A command that the page takes -/

/-- Answers of a command that has changed nothing: the data and the kernel slots are as before. -/
theorem State.trlDone_started_spec (s : State) {st : Nat} (n : Nat) (hst : st < 256) :
    let u := (s.started pgTRL).trlDone st n
    Answered u pgTRL st ∧ u.fld pgTRL 0x054 16 16 = n % 65536 ∧ SameData s u ∧ u.kslots = s.kslots := by
  have hr : RegsOnly s ((s.started pgTRL).trlDone st n) := (s.started_regsOnly _).trans (State.trlDone_regsOnly _ _ _)
  exact ⟨State.trlDone_answered _ _ hst, State.trlDone_result _ _ _, hr.sameData, hr.kslots⟩

/-! ### BIND (R62, R77, R78) -/

section
variable (job : BitVec 20) (t : BitVec 12) (groups scr acc : Nat) (replay conf : Bool)

/-- A cell that is bound at a position. -/
def bindAt (pos : Nat) (x : Cell) : Cell :=
  { x.purged .bound with cause := x.cause, bind := bindWord job t pos groups scr acc replay conf false,
                         bindC := ~~~(bindWord job t pos groups scr acc replay conf false) }

end

/-- Folds of steps that agree wherever a property holds that each step keeps. -/
theorem foldl_congr_of_kept {σ α : Type} {f g : σ → α → σ} {P : σ → Prop} (hfg : ∀ u a, P u → f u a = g u a)
    (hP : ∀ u a, P u → P (g u a)) (l : List α) (s : σ) (h : P s) : l.foldl f s = l.foldl g s := by
  induction l generalizing s with
  | nil => rfl
  | cons a l ih => rw [List.foldl_cons, List.foldl_cons, hfg s a h, ih _ (hP s a h)]

theorem count_flatMap_replicate (n b : Nat) (l : List Nat) :
    (l.flatMap (fun b => List.replicate n b)).count b = l.count b * n := by
  induction l with
  | nil => simp
  | cons a l ih =>
    rw [List.flatMap_cons, List.count_append, ih, List.count_replicate, List.count_cons]
    by_cases h : a = b <;> simp [h, Nat.add_mul, Nat.add_comm]

/-- The same number of cells on each of a list of beds is even. -/
theorem evenBeds_replicate {l : List Nat} (n : Nat) (hl : l.Nodup) : evenBeds (l.flatMap (fun b => List.replicate n b)) = true := by
  have hn : ∀ m ∈ ((List.range 24).map (fun b => (l.flatMap (fun b => List.replicate n b)).count b)).filter (· != 0), m = n := by
    intro m hm
    obtain ⟨hm, h0⟩ := List.mem_filter.mp hm
    obtain ⟨b, _, rfl⟩ := List.mem_map.mp hm
    have h1 := List.nodup_iff_count_le_one.mp hl b
    simp only [count_flatMap_replicate, bne_iff_ne, ne_eq, Nat.mul_eq_zero, not_or] at h0 ⊢
    rw [show l.count b = 1 by omega, Nat.one_mul]
  simp only [evenBeds]
  generalize ((List.range 24).map _).filter _ = ns at hn ⊢
  cases ns with
  | nil => rfl
  | cons a ns =>
    rw [List.all_eq_true]
    intro m hm
    rw [List.headD_cons, beq_iff_eq, hn m hm, hn a List.mem_cons_self]

/-- Lists cut to n entries that have n entries each when together they have as many as that would make. -/
theorem length_of_flatMap_take {α β : Type} (g : α → List β) (n : Nat) {l : List α}
    (h : (l.flatMap (fun a => (g a).take n)).length = n * l.length) : ∀ a ∈ l, n ≤ (g a).length := by
  induction l with
  | nil => nofun
  | cons a l ih =>
    have hle : ∀ l : List α, (l.flatMap (fun a => (g a).take n)).length ≤ n * l.length := fun l => by
      induction l with
      | nil => simp
      | cons a l ih =>
        rw [List.flatMap_cons, List.length_append, List.length_take, List.length_cons, Nat.mul_succ]
        omega
    have := hle l
    rw [List.flatMap_cons, List.length_append, List.length_take, List.length_cons, Nat.mul_succ] at h
    refine List.forall_mem_cons.mpr ⟨by omega, ih (by omega)⟩

theorem State.takeJob_spec (s : State) (job : BitVec 20) (t : BitVec 12) (h : s.jobTenant job = none ∨ s.jobTenant job = some t) :
    ∃ l, s.takeJob job t = { s with jobs := l } ∧ ((Tab.find? l job.toNat).getD { tenant := t }).tenant = t := by
  unfold State.takeJob
  by_cases hh : Tab.has s.jobs job.toNat = true
  · refine ⟨s.jobs, if_pos hh, ?_⟩
    obtain ⟨j, hj⟩ := Option.isSome_iff_exists.mp hh
    have ht : s.jobTenant job = some j.tenant := by rw [State.jobTenant, hj]; rfl
    rw [hj, Option.getD_some]
    rcases h with h | h
    · rw [h] at ht
      cases ht
    · rw [h] at ht
      exact (Option.some.inj ht).symm
  · refine ⟨_, if_neg hh, ?_⟩
    rw [Tab.find?_put_self]
    rfl

/-- The arguments of a BIND are legal and ask for n cells on each of some beds with the declared resources. -/
structure BindAsks (s : State) (job : BitVec 20) (t : BitVec 12) (beds : List Nat) (n groups scr acc : Nat) (replay : Bool) :
    Prop where
  legal : s.argsBad pgTRL 0 [0xFFFFFFFF, 0x3FFFFFFF, 0x007F1F1F, 0] = false
  job_eq : BitVec.ofNat 20 (fieldOf (trlArg s 0) 0 20) = job
  tenant_eq : BitVec.ofNat 12 (fieldOf (trlArg s 0) 20 12) = t
  beds_eq : (List.range 24).filter (fun b => bitOf (trlArg s 1) b) = beds
  n_eq : fieldOf (trlArg s 1) 24 5 = n
  replay_eq : bitOf (trlArg s 1) 29 = replay
  groups_eq : fieldOf (trlArg s 2) 0 5 = groups
  scr_eq : fieldOf (trlArg s 2) 8 5 = scr
  acc_eq : fieldOf (trlArg s 2) 16 7 = acc
  beds_ne : beds ≠ []
  n_range : 1 ≤ n ∧ n ≤ 16
  groups_range : 1 ≤ groups ∧ groups ≤ 16
  scr_range : 1 ≤ scr ∧ scr ≤ 16
  acc_range : 1 ≤ acc ∧ acc ≤ 64

/-- The lowest FREE cells of each of some beds. -/
def State.lowestFree (s : State) (beds : List Nat) (n : Nat) : List Nat :=
  beds.flatMap (fun b => (s.cellsWhere (fun c x => x.state == .free && cellBed c == b)).take n)

/-- BIND of a job that holds nothing, where there are cells enough. -/
theorem State.trlBind_of_room {s : State} {job : BitVec 20} {t : BitVec 12} {beds : List Nat} {n groups scr acc : Nat} {replay : Bool}
    (h : BindAsks s job t beds n groups scr acc replay) (ht : s.tenantOpen t = true)
    (hj : s.jobTenant job = none ∨ s.jobTenant job = some t) (hpos : s.positions job = [])
    (hroom : (s.lowestFree beds n).length = n * beds.length) :
    ∃ l, (Tab.find? l job.toNat).map (·.tenant) = some t ∧ s.trlBind 0 =
      (({ s with jobs := l } : State).modCells (bindAt job t groups scr acc replay (s.tenantConf t))
        (s.lowestFree beds n).zipIdx).trlDone 0 (s.lowestFree beds n).length := by
  obtain ⟨legal, hjob, hten, hbeds, hn, hrep, hgrp, hscr, hacc, hne, hn1, hg1, hs1, ha1⟩ := h
  have hnodup : beds.Nodup := hbeds ▸ List.nodup_range.filter _
  have hbad : (s.argsBad pgTRL 0 [0xFFFFFFFF, 0x3FFFFFFF, 0x007F1F1F, 0] || beds.isEmpty || n == 0 || decide (n > 16) ||
      groups == 0 || decide (groups > 16) || scr == 0 || decide (scr > 16) || acc == 0 || decide (acc > 64)) = false := by
    simp [legal, hne]
    omega
  have hfree : beds.any (fun b => decide ((s.cellsWhere (fun c x => x.state == .free && cellBed c == b)).length < n)) = false := by
    have := length_of_flatMap_take (fun b => s.cellsWhere (fun c x => x.state == .free && cellBed c == b)) n hroom
    simpa using this
  have hconf : (s.jobTenant job != none && s.jobTenant job != some t) = false := by
    rcases hj with hj | hj <;> simp [hj]
  obtain ⟨l, hl, hlt⟩ := s.takeJob_spec job t hj
  let j : Job := { (Tab.find? l job.toNat).getD { tenant := t } with groups := groups, scrMib := scr, accGroups := acc, replay := replay }
  refine ⟨Tab.put l job.toNat j, by rw [Tab.find?_put_self]; exact congrArg some hlt, ?_⟩
  simp only [State.trlBind, hjob, hten, hbeds, hn, hrep, hgrp, hscr, hacc, hpos, hbad, ht, hconf, hfree, hl, List.isEmpty_nil,
    List.map_nil, List.nil_append, evenBeds_replicate n hnodup, Bool.not_true, Bool.false_and, Bool.false_eq_true, if_false,
      List.foldl_nil]
  refine congrArg₂ (fun u k => State.trlDone u 0 k) ?_ rfl
  rw [State.modCells]
  refine foldl_congr_of_kept (P := fun u : State => u.tenantConf t = s.tenantConf t) (fun u p hu => ?_) (fun u p hu => ?_) _ _ ?_
  · rw [hu, Nat.zero_add]
    rfl
  · exact hu
  · rfl

/-- What BIND leaves of the cells it takes. -/
theorem State.trlBind_spec {s : State} {job : BitVec 20} {t : BitVec 12} {beds : List Nat} {n groups scr acc : Nat} {replay : Bool}
    (h : BindAsks s job t beds n groups scr acc replay) (ht : s.tenantOpen t = true)
    (hj : s.jobTenant job = none ∨ s.jobTenant job = some t) (hpos : s.positions job = [])
    (hnodup : (s.lowestFree beds n).Nodup) (hroom : (s.lowestFree beds n).length = n * beds.length) :
    let u := s.trlBind 0
    (Answered u pgTRL 0 ∧ u.fld pgTRL 0x054 16 16 = n * beds.length % 65536) ∧ u.jobTenant job = some t ∧ u.mem = s.mem ∧
      u.plots = s.plots ∧ (∀ c, c ∉ s.lowestFree beds n → u.cell c = s.cell c) ∧
      ∀ i c, (s.lowestFree beds n)[i]? = some c →
        let x := u.cell c
        x.state = .bound ∧ x.bindOk = true ∧ bwJob x.bind = job ∧ bwTenant x.bind = t ∧ bwPos x.bind = i ∧
        bwGroups x.bind = groups ∧ bwScr x.bind = scr ∧ bwAcc x.bind = acc ∧ bwReplay x.bind = replay ∧
        bwConf x.bind = s.tenantConf t ∧ bwLent x.bind = false ∧ bwValid x.bind = true ∧ x.threads = [] := by
  obtain ⟨l, hl, hu⟩ := State.trlBind_of_room h ht hj hpos hroom
  obtain ⟨_, _, _, hbeds, _, _, _, _, _, _, hn1, hg1, hs1, ha1⟩ := h
  have hlen : beds.length ≤ 24 := by
    rw [← hbeds]
    exact (List.length_filter_le _ _).trans_eq List.length_range
  have hmul : n * beds.length ≤ 16 * 24 := Nat.mul_le_mul hn1.2 hlen
  let g := bindAt job t groups scr acc replay (s.tenantConf t)
  have hkeys : ((s.lowestFree beds n).zipIdx.map (·.1)) = s.lowestFree beds n := List.zipIdx_map_fst _ _
  let v := ({ s with jobs := l } : State).modCells g (s.lowestFree beds n).zipIdx
  have hr : RegsOnly v (s.trlBind 0) := hu ▸ v.trlDone_regsOnly _ _
  have hcell : ∀ c, (s.trlBind 0).cell c = v.cell c := hr.cell
  refine ⟨?_, ?_, ?_, ?_, fun c hc => ?_, fun i c hi => ?_⟩
  · rw [hu, ← hroom]
    exact ⟨v.trlDone_answered _ (by decide), v.trlDone_result _ _⟩
  · rw [State.jobTenant, hr.jobs, State.modCells_jobs]
    exact hl
  · rw [hr.mem, State.modCells_mem]
  · rw [hr.plots, State.modCells_plots]
  · rw [hcell]
    exact State.cell_modCells_of_notMem _ _ (by rwa [hkeys])
  · have hx : (s.trlBind 0).cell c = g i (s.cell c) := by
      rw [hcell]
      exact State.cell_modCells_of_mem _ g (by rwa [hkeys]) (p := (c, i)) (List.mk_mem_zipIdx_iff_getElem?.mpr hi)
    have hi' : i < 512 := by
      have := (List.getElem?_eq_some_iff.mp hi).1
      omega
    obtain ⟨h1, h2, h3, h4, h5, h6, h7, h8, h9, h10⟩ :=
      bindWord_fields job t replay (s.tenantConf t) false hi' (show groups < 32 by omega) (show scr < 32 by omega) (show acc < 128 by omega)
    dsimp only
    rw [hx]
    exact ⟨rfl, beq_self_eq_true _, h1, h2, h3, h4, h5, h6, h7, h8, h9, h10, rfl⟩

end Sys2Proof.Machine
end

section
/-! PROOFS. UNBIND and RESET_JOB (O33): the positions that are given up, and a job that is stopped and purged. -/

namespace Sys2Proof.Machine

/-! ### UNBIND (R93) -/

/-- What holds a position is given up. -/
def State.giveUpPosition (job : BitVec 20) (s : State) (p : Nat × Nat × Holder) : State :=
  match p.2.2 with
  | .cell c => (s.modCell c Cell.startPurge).dropCellTlb c
  | .coming sp => { s with substs := s.substs.map (fun r => if r.spare == sp then { r with toBound := false } else r) }
  | .lost => { s with jobs := s.jobs.map (fun kv =>
      if kv.1 == job.toNat then (kv.1, { kv.2 with lost := kv.2.lost.filter (fun l => l.1 != p.1) }) else kv) }

/-- A position that a cell holds. -/
def Holder.isCell : Holder → Bool
  | .cell _ => true
  | _ => false

theorem State.giveUpPosition_mem (job : BitVec 20) (s : State) (p : Nat × Nat × Holder) :
    (s.giveUpPosition job p).mem = s.mem := by
  unfold State.giveUpPosition
  split <;> rfl

/-- A cell is left alone unless it holds the position. -/
theorem State.cell_giveUpPosition (job : BitVec 20) (s : State) (p : Nat × Nat × Holder) (d : Nat) :
    (s.giveUpPosition job p).cell d = if p.2.2 = .cell d then (s.cell d).startPurge else s.cell d := by
  obtain ⟨n, b, h⟩ := p
  cases h with
  | cell c =>
    change (s.modCell c Cell.startPurge).cell d = _
    by_cases hd : d = c
    · subst hd
      rw [State.cell_modCell_self, if_pos rfl]
    · rw [State.cell_modCell_ne _ _ hd, if_neg (fun e => hd (Holder.cell.inj e).symm)]
  | coming sp => rfl
  | lost => rfl

/-- A state with other kernel slots, jobs, translations and substitutions. -/
def State.withHeld (s : State) (k : List (Nat × KSlot)) (j : List (Nat × Job)) (t : List TlbEnt) (b : List SubstRun) : State :=
  { s with kslots := k, jobs := j, tlb := t, substs := b }

/-- A job that gives up its translations, and itself where it holds nothing any more. -/
theorem State.dropJobTlb_dropJob (s : State) (job : BitVec 20) :
    ∃ j t, (s.dropJobTlb job).dropJob job = s.withHeld s.kslots j t s.substs := by
  obtain ⟨j, hj⟩ := (s.dropJobTlb job).dropJob_frame job
  exact ⟨j, _, hj⟩

/-- The positions that cells of a job hold. -/
theorem mem_positions_cell {s : State} {job : BitVec 20} {p : Nat × Nat × Holder} {c : Nat} (hp : p ∈ s.positions job)
    (hc : p.2.2 = .cell c) : c ∈ s.boundCells job := by
  simp only [State.positions, List.mem_append, List.mem_map, List.mem_filter] at hp
  rcases hp with (⟨d, hd, rfl⟩ | ⟨r, _, rfl⟩) | hl
  · cases hc
    exact hd
  · cases hc
  · cases hj : Tab.find? s.jobs job.toNat with
    | none => simp [hj] at hl
    | some j =>
      rw [hj, Option.map_some, Option.getD_some, List.mem_map] at hl
      obtain ⟨q, _, rfl⟩ := hl
      cases hc

theorem exists_position_of_boundCells {s : State} {job : BitVec 20} {c : Nat} (h : c ∈ s.boundCells job) :
    ∃ p ∈ s.positions job, p.2.2 = .cell c :=
  ⟨_, List.mem_append_left _ (List.mem_append_left _ (List.mem_map_of_mem h)), rfl⟩

theorem length_positions_isCell (s : State) (job : BitVec 20) :
    ((s.positions job).filter (fun p => p.2.2.isCell)).length = (s.boundCells job).length := by
  have h1 : ∀ l : List Nat, (l.map (fun c => (bwPos (s.cell c).bind, cellBed c, Holder.cell c))).filter (fun p => p.2.2.isCell) =
      l.map (fun c => (bwPos (s.cell c).bind, cellBed c, Holder.cell c)) := fun l =>
    List.filter_eq_self.mpr fun p hp => by
      obtain ⟨c, _, rfl⟩ := List.mem_map.mp hp
      rfl
  have h2 : ∀ l : List SubstRun, (l.map (fun r => (bwPos r.bind, cellBed r.spare, Holder.coming r.spare))).filter
      (fun p => p.2.2.isCell) = [] := fun l => List.filter_eq_nil_iff.mpr fun p hp => by
    obtain ⟨r, _, rfl⟩ := List.mem_map.mp hp
    nofun
  have h3 : ((((Tab.find? s.jobs job.toNat).map (fun j => j.lost.map (fun p => (p.1, p.2, Holder.lost)))).getD []).filter
      (fun p => p.2.2.isCell)) = [] := by
    cases Tab.find? s.jobs job.toNat with
    | none => rfl
    | some j =>
      refine List.filter_eq_nil_iff.mpr fun p hp => ?_
      rw [Option.map_some, Option.getD_some] at hp
      obtain ⟨r, _, rfl⟩ := List.mem_map.mp hp
      nofun
  rw [State.positions, List.filter_append, List.filter_append, h1, h2, h3, List.append_nil, List.append_nil, List.length_map]

/-- UNBIND of every cell of a job that runs nothing. -/
theorem State.trlUnbind_all {s : State} {job : BitVec 20} (hbad : s.argsBad pgTRL 0 [0xFFFFF, 0x1FFFFFFF, 0, 0] = false)
    (hjob : BitVec.ofNat 20 (fieldOf (trlArg s 0) 0 20) = job) (hall : trlArg s 1 = 0xFFFFFF) (hholds : s.jobHolds job = true)
    (hruns : s.jobRuns job = false) (hbeds : ∀ q ∈ s.positions job, q.2.1 < 24) :
    ∃ k j t b, s.trlUnbind 0 = (((s.positions job).foldl (State.giveUpPosition job) s).withHeld k j t b).trlDone 0
      (s.boundCells job).length := by
  have hn : fieldOf 0xFFFFFF 24 5 = 0 := by decide
  have hbit : ∀ b < 24, bitOf 0xFFFFFF b = true := by decide
  have heven : evenBeds [] = true := by decide
  have hdrop : (s.positions job).filter (fun p => bitOf 0xFFFFFF p.2.1) = s.positions job :=
    List.filter_eq_self.mpr fun p hp => hbit _ (hbeds p hp)
  have hkeep : (s.positions job).filter (fun p => !(s.positions job).contains p) = [] :=
    List.filter_eq_nil_iff.mpr fun p hp => by simpa using hp
  have hu : s.trlUnbind 0 = (((if (((s.positions job).foldl (State.giveUpPosition job) s).boundCells job).isEmpty then
      ((s.positions job).foldl (State.giveUpPosition job) s).freeSlots job else
        (s.positions job).foldl (State.giveUpPosition job) s).dropJobTlb job).dropJob job).trlDone 0
          ((s.positions job).filter (fun p => p.2.2.isCell)).length := by
    simp only [State.trlUnbind, hbad, hjob, hall, hn, hholds, hruns, beq_self_eq_true, Bool.true_or, Bool.and_true, hdrop, hkeep,
      List.map_nil, heven, Bool.false_or, gt_iff_lt, Nat.not_lt_zero, decide_false, Bool.not_true, Bool.false_eq_true, if_false]
    rfl
  rw [hu, length_positions_isCell]
  generalize (s.positions job).foldl (State.giveUpPosition job) s = f
  split
  · obtain ⟨j, t, h⟩ := (f.freeSlots job).dropJobTlb_dropJob job
    exact ⟨_, j, t, _, congrArg (fun u : State => u.trlDone 0 (s.boundCells job).length) h⟩
  · obtain ⟨j, t, h⟩ := f.dropJobTlb_dropJob job
    exact ⟨_, j, t, _, congrArg (fun u : State => u.trlDone 0 (s.boundCells job).length) h⟩

theorem State.trlUnbind_spec {s : State} {job : BitVec 20} (hbad : s.argsBad pgTRL 0 [0xFFFFF, 0x1FFFFFFF, 0, 0] = false)
    (hjob : BitVec.ofNat 20 (fieldOf (trlArg s 0) 0 20) = job) (hall : trlArg s 1 = 0xFFFFFF) (hholds : s.jobHolds job = true)
    (hruns : s.jobRuns job = false) (hbeds : ∀ q ∈ s.positions job, q.2.1 < 24) :
    let u := s.trlUnbind 0
    (Answered u pgTRL 0 ∧ u.fld pgTRL 0x054 16 16 = (s.boundCells job).length % 65536) ∧ u.mem = s.mem ∧
      (∀ c ∈ s.boundCells job, (u.cell c).state = .purging ∧ ∀ y ∈ (u.cell c).threads, y.2.live = false) ∧
      (∀ c, c ∉ s.boundCells job → u.cell c = s.cell c) := by
  obtain ⟨k, j, t, b, hu⟩ := State.trlUnbind_all hbad hjob hall hholds hruns hbeds
  generalize hf : (s.positions job).foldl (State.giveUpPosition job) s = f at hu
  have hr : RegsOnly (f.withHeld k j t b) (s.trlUnbind 0) := hu ▸ State.trlDone_regsOnly _ _ _
  have hcell : ∀ c, (s.trlUnbind 0).cell c = f.cell c := hr.cell
  refine ⟨?_, ?_, fun c hc => ?_, fun c hc => ?_⟩
  · rw [hu]
    exact ⟨State.trlDone_answered _ _ (by decide), State.trlDone_result _ _ _⟩
  · refine hr.mem.trans ?_
    rw [State.withHeld, ← hf]
    exact List.foldlRecOn (motive := fun u : State => u.mem = s.mem) _ _ rfl fun u hm p _ => (u.giveUpPosition_mem job p).trans hm
  · obtain ⟨p, hp, hpc⟩ := exists_position_of_boundCells hc
    rw [hcell, ← hf]
    refine foldl_of_mem (P := fun u : State => (u.cell c).beingPurged) (Q := fun _ => True) s hp trivial (fun _ _ _ => trivial)
      (fun u _ => ?_) (fun u b _ hu => ?_)
    · rw [State.cell_giveUpPosition, if_pos hpc]
      exact Cell.startPurge_beingPurged _
    · rw [State.cell_giveUpPosition]
      split
      · exact Cell.startPurge_beingPurged _
      · exact hu
  · rw [hcell, ← hf]
    refine List.foldlRecOn (motive := fun u : State => u.cell c = s.cell c) _ _ rfl fun u hu p hp => ?_
    rw [State.cell_giveUpPosition, if_neg (fun e => hc (mem_positions_cell hp e)), hu]

/-! ### RESET_JOB (R88) -/

/-- A cell that was BOUND to a job still is, or is being purged. -/
def State.boundOrPurged (s : State) (job : BitVec 20) (c : Nat) : Prop := c ∈ s.boundCells job ∨ (s.cell c).beingPurged

section
variable {s : State} {job : BitVec 20} {c : Nat}

theorem State.boundOrPurged_startPurge (n : Nat) (h : s.boundOrPurged job c) :
    (s.setCell n (s.cell n).startPurge).boundOrPurged job c := by
  by_cases hn : c = n
  · subst hn
    exact .inr (by rw [State.cell_setCell_self]; exact Cell.startPurge_beingPurged _)
  · rcases h with h | h
    · obtain ⟨x, hx, hst⟩ := mem_boundCells.mp h
      have hmem : (c, x) ∈ Tab.set {} s.cells n (s.cell n).startPurge := Tab.mem_set_iff.mpr (.inr ⟨hx, hn⟩)
      exact .inl (mem_boundCells.mpr ⟨x, hmem, hst⟩)
    · exact .inr (by rwa [State.cell_setCell_ne _ _ hn])

theorem State.boundOrPurged_purgeLent (id : Nat) (l : List Nat) (h : s.boundOrPurged job c) :
    (s.purgeLent id l).boundOrPurged job c := by
  refine List.foldlRecOn (motive := fun u : State => u.boundOrPurged job c) l _ h fun u hu n _ => ?_
  split
  · exact State.boundOrPurged_startPurge n hu
  · exact hu

theorem State.boundOrPurged_endKernel (id : Nat) (h : s.boundOrPurged job c) : (s.endKernel id).boundOrPurged job c := by
  rcases h with h | ⟨hst, hdead⟩
  · obtain ⟨x, hx, hst, hj⟩ := mem_boundCells.mp h
    refine .inl (mem_boundCells.mpr ⟨onCommand id Cell.endCommand x, ?_, ?_⟩)
    · rw [State.endKernel, cells_map_onCommand]
      exact List.mem_map.mpr ⟨(c, x), hx, rfl⟩
    · unfold onCommand
      split
      · exact ⟨hst, hj⟩
      · exact ⟨hst, hj⟩
  · refine .inr ?_
    rw [Cell.beingPurged, State.cell_endKernel, onCommand]
    split
    · exact ⟨hst, Cell.endCommand_stopped _⟩
    · exact ⟨hst, hdead⟩

theorem State.boundOrPurged_finish1 (id : Nat) {st : Nat} (r : Bytes) (mv : Nat) (hst : st ≠ cstJournal) (h : s.boundOrPurged job c) :
    (s.finish1 id st r mv).boundOrPurged job c := by
  cases hc : s.cmd? id with
  | none => rwa [State.finish1_of_none r mv hc]
  | some k =>
    by_cases hp : k.phase = .record ∨ k.phase = .posting
    · rwa [State.finish1_of_over r mv hc hp]
    · rw [State.finish1_of_live r mv hc (not_or.mp hp) hst]
      dsimp only
      split
      · exact h
      · exact State.boundOrPurged_purgeLent _ _ h

end

/-- A command has ended JOB_RESET. -/
def State.endedByReset (s : State) (id : Nat) : Prop :=
  ∃ k, s.cmd? id = some k ∧ k.status = 0x0B ∧ (k.phase = .posting ∨ k.phase = .record)

/-- What a reset of a job works on: no collective slot and no PUBLISH is in progress; the other parts are as in a first state. -/
def ResetGoesOn (s u : State) : Prop :=
  u.coll = [] ∧ u.publishing = [] ∧ u.kload = none ∧ u.mem = s.mem ∧ u.regs = s.regs

theorem State.resetCmd_eq {u : State} (hp : u.publishing = []) (id : Nat) :
    u.resetCmd id = ((({ u with heldPublish := u.heldPublish.filter (· != id) } : State).endKernel id).cancelOwn id).finish id cstJobReset [] 0 := by
  simp [State.resetCmd, hp]

theorem State.resetCmd_spec {u : State} (hc : u.coll = []) (hp : u.publishing = []) (id : Nat) :
    (u.resetCmd id).coll = [] ∧ (u.resetCmd id).publishing = [] ∧ (u.resetCmd id).kload = u.kload ∧ (u.resetCmd id).mem = u.mem ∧
      (u.resetCmd id).regs = u.regs ∧ (∀ j, j ≠ id → (u.resetCmd id).cmd? j = u.cmd? j) ∧
      (∀ k, u.cmd? id = some k → k.phase = .running → (u.resetCmd id).endedByReset id) ∧
      (u.endedByReset id → (u.resetCmd id).endedByReset id) ∧
      (∀ job c, u.boundOrPurged job c → (u.resetCmd id).boundOrPurged job c) := by
  rw [State.resetCmd_eq hp]
  generalize hv : ((({ u with heldPublish := u.heldPublish.filter (· != id) } : State).endKernel id).cancelOwn id) = v
  have hcoll : v.coll = [] := by
    rw [← hv]
    exact hc
  rw [State.finish_of_noColl hcoll]
  have hcmd : ∀ j, v.cmd? j = u.cmd? j := fun j => by rw [← hv]; rfl
  have hbp : ∀ job c, u.boundOrPurged job c → v.boundOrPurged job c := fun job c h => by
    rw [← hv]
    exact State.boundOrPurged_endKernel (s := { u with heldPublish := u.heldPublish.filter (· != id) }) id h
  obtain ⟨cm, xf, cl, hf, _, hne, _⟩ := v.finish1_frame id (st := cstJobReset) [] 0 (by decide)
  refine ⟨?_, ?_, ?_, ?_, ?_, fun j hj => ?_, fun k hk hrun => ?_, fun h => ?_,
    fun job c h => State.boundOrPurged_finish1 id [] 0 (by decide) (hbp job c h)⟩
  · rw [hf, ← hv]
    exact hc
  · rw [hf, ← hv]
    exact hp
  · rw [hf, ← hv]
    rfl
  · rw [hf, ← hv]
    rfl
  · rw [hf, ← hv]
    rfl
  · rw [← hcmd, hf]
    exact hne j hj
  · obtain ⟨k', hk', hst, _, hph⟩ := State.finish1_ended (st := cstJobReset) [] 0 ((hcmd id).trans hk) (by simp [hrun]) (by decide)
    refine ⟨k', hk', hst, ?_⟩
    rw [hph]
    split
    · exact .inr rfl
    · exact .inl rfl
  · obtain ⟨k, hk, hst, hph⟩ := h
    rw [State.finish1_of_over [] 0 ((hcmd id).trans hk) hph.symm]
    exact ⟨k, (hcmd id).trans hk, hst, hph⟩

theorem ResetGoesOn.resetCmd {s u : State} (h : ResetGoesOn s u) (id : Nat) : ResetGoesOn s (u.resetCmd id) := by
  obtain ⟨hc, hp, hk, hm, hr⟩ := h
  obtain ⟨h1, h2, h3, h4, h5, _⟩ := State.resetCmd_spec hc hp id
  exact ⟨h1, h2, h3.trans hk, h4.trans hm, h5.trans hr⟩

/-- The commands of a job that a reset ends. -/
def State.resetIds (s : State) (job : BitVec 20) : List Nat :=
  (s.cmds.filter (fun kv => kv.2.job == job &&
    (kv.2.phase == .running || kv.2.phase == .ranked || kv.2.phase == .held || kv.2.phase == .staging))).map (·.1)

theorem State.mem_resetIds {s : State} {job : BitVec 20} {id : Nat} {c : Cmd} (hc : s.cmd? id = some c) (hj : c.job = job)
    (hrun : c.phase = .running) : id ∈ s.resetIds job :=
  List.mem_map.mpr ⟨(id, c), List.mem_filter.mpr ⟨Tab.mem_of_find? hc, by simp [hj, hrun]⟩, rfl⟩

section
variable {s : State} (hc : s.coll = []) (hp : s.publishing = []) (hk : s.kload = none) (l : List Nat)
include hc hp hk

theorem ResetGoesOn.foldl : ResetGoesOn s (l.foldl (fun s id => s.resetCmd id) s) :=
  List.foldlRecOn (motive := fun u : State => ResetGoesOn s u) l _ ⟨hc, hp, hk, rfl, rfl⟩ fun _ hu id _ => hu.resetCmd id

theorem State.foldl_resetCmd_ends {id : Nat} {c : Cmd} (hid : id ∈ l) (hcmd : s.cmd? id = some c) (hrun : c.phase = .running) :
    (l.foldl (fun s id => s.resetCmd id) s).endedByReset id := by
  have hkept : ∀ (u : State) (b : Nat), ResetGoesOn s u → u.endedByReset id → (u.resetCmd b).endedByReset id := fun u b hu he => by
    obtain ⟨_, _, _, _, _, hne, _, hself, _⟩ := State.resetCmd_spec hu.1 hu.2.1 b
    by_cases hb : id = b
    · subst hb
      exact hself he
    · rwa [State.endedByReset, hne id hb]
  have hlive : ∀ (u : State) (b : Nat), ResetGoesOn s u → u.cmd? id = some c →
      (u.resetCmd b).cmd? id = some c ∨ (u.resetCmd b).endedByReset id := fun u b hu hu' => by
    obtain ⟨_, _, _, _, _, hne, hend, _, _⟩ := State.resetCmd_spec hu.1 hu.2.1 b
    by_cases hb : id = b
    · subst hb
      exact .inr (hend c hu' hrun)
    · exact .inl ((hne id hb).trans hu')
  refine foldl_of_mem (P := fun u : State => u.endedByReset id)
    (Q := fun u => ResetGoesOn s u ∧ (u.cmd? id = some c ∨ u.endedByReset id)) s hid ⟨⟨hc, hp, hk, rfl, rfl⟩, .inl hcmd⟩ ?_ ?_ ?_
  · rintro u b ⟨hu, h | h⟩
    · exact ⟨hu.resetCmd b, hlive u b hu h⟩
    · exact ⟨hu.resetCmd b, .inr (hkept u b hu h)⟩
  · rintro u ⟨hu, h | h⟩
    · exact (State.resetCmd_spec hu.1 hu.2.1 id).2.2.2.2.2.2.1 c h hrun
    · exact hkept u id hu h
  · rintro u b ⟨hu, _⟩ h
    exact hkept u b hu h

theorem State.foldl_resetCmd_boundOrPurged {job : BitVec 20} {n : Nat} (hn : n ∈ s.boundCells job) :
    (l.foldl (fun s id => s.resetCmd id) s).boundOrPurged job n := by
  refine (List.foldlRecOn (motive := fun u : State => ResetGoesOn s u ∧ u.boundOrPurged job n) l _ ⟨⟨hc, hp, hk, rfl, rfl⟩, .inl hn⟩
    fun u hu id _ => ?_).2
  obtain ⟨_, _, _, _, _, _, _, _, hbp⟩ := State.resetCmd_spec hu.1.1 hu.1.2.1 id
  exact ⟨hu.1.resetCmd id, hbp job n hu.2⟩

end

/-- The cells that a reset purges. -/
def State.purgeCells (s : State) (l : List Nat) : State :=
  l.foldl (fun s c => (s.modCell c Cell.startPurge).dropCellTlb c) s

theorem State.purgeCells_frame (s : State) (l : List Nat) : ∃ cl t, s.purgeCells l = { s with cells := cl, tlb := t } := by
  refine List.foldlRecOn (motive := fun u : State => ∃ cl t, u = { s with cells := cl, tlb := t }) l _ ⟨s.cells, s.tlb, rfl⟩ fun u hu n _ => ?_
  obtain ⟨cl, t, rfl⟩ := hu
  exact ⟨_, _, rfl⟩

theorem State.purgeCells_beingPurged {s : State} {l : List Nat} {c : Nat} (h : c ∈ l ∨ (s.cell c).beingPurged) :
    ((s.purgeCells l).cell c).beingPurged := by
  have hcell : ∀ (u : State) (n : Nat), ((u.modCell n Cell.startPurge).dropCellTlb n).cell c =
      if n = c then (u.cell c).startPurge else u.cell c := fun u n => by
    change (u.modCell n Cell.startPurge).cell c = _
    split
    next hn => rw [hn, State.cell_modCell_self]
    next hn => rw [State.cell_modCell_ne _ _ (Ne.symm hn)]
  have hkeep : ∀ (u : State) (n : Nat), (u.cell c).beingPurged →
      (((u.modCell n Cell.startPurge).dropCellTlb n).cell c).beingPurged := fun u n hu => by
    rw [hcell]
    split
    · exact Cell.startPurge_beingPurged _
    · exact hu
  rcases h with h | h
  · refine foldl_of_mem (P := fun u : State => (u.cell c).beingPurged) (Q := fun _ => True) s h trivial (fun _ _ _ => trivial)
      (fun u _ => ?_) (fun u n _ hu => hkeep u n hu)
    rw [hcell, if_pos rfl]
    exact Cell.startPurge_beingPurged _
  · exact List.foldlRecOn (motive := fun u : State => (u.cell c).beingPurged) l _ h fun u hu n _ => hkeep u n hu

/-- What a job that is reset gives up besides its cells and slots. -/
def State.clearJob (s : State) (job : BitVec 20) : State :=
  { s with
    substs := s.substs.map (fun r => if bwJob r.bind == job then { r with toBound := false } else r)
    jobs := s.jobs.map (fun kv => if kv.1 == job.toNat then (kv.1, { kv.2 with lost := [], kernel := none }) else kv)
    kload := match s.kload with
      | some k => if k.job == job then none else some k
      | none => none }

theorem State.clearJob_of_noKload {s : State} (h : s.kload = none) (job : BitVec 20) :
    ∃ j b, s.clearJob job = s.withHeld s.kslots j s.tlb b := by
  unfold State.clearJob State.withHeld
  rw [h]
  exact ⟨_, _, rfl⟩

theorem State.resetJob_unfold (s : State) (job : BitVec 20) :
    s.resetJob job =
      let s1 := (s.resetIds job).foldl (fun s id => s.resetCmd id) s
      let cells := s1.cellsWhere (fun _ x => (x.state == .bound || x.state == .lent) && x.job == some job)
      let s2 := s1.purgeCells cells
      (cells.length, (((if s2.kload.isSome && (s2.clearJob job).kload.isNone then (s2.clearJob job).trlDone 0x06 0
        else s2.clearJob job).freeSlots job).dropJobTlb job).dropJob job) := rfl

theorem State.resetJob_eq {s s1 : State} {job : BitVec 20} {cells : List Nat} (hc : s.coll = []) (hp : s.publishing = [])
    (hk : s.kload = none) (h1 : (s.resetIds job).foldl (fun s id => s.resetCmd id) s = s1)
    (hcells : s1.cellsWhere (fun _ x => (x.state == .bound || x.state == .lent) && x.job == some job) = cells) :
    ∃ k j t b, (∀ x ∈ k, x.2.job ≠ job) ∧ s.resetJob job = (cells.length, (s1.purgeCells cells).withHeld k j t b) := by
  have h2 : (s1.purgeCells cells).kload = none := by
    obtain ⟨cl, t, hf⟩ := s1.purgeCells_frame cells
    rw [hf, ← h1]
    exact (ResetGoesOn.foldl hc hp hk (s.resetIds job)).2.2.1
  rw [State.resetJob_unfold]
  dsimp only
  rw [h1, hcells]
  generalize s1.purgeCells cells = s2 at h2 ⊢
  obtain ⟨j0, b, h3⟩ := State.clearJob_of_noKload h2 job
  obtain ⟨j, t, h4⟩ := ((s2.withHeld s2.kslots j0 s2.tlb b).freeSlots job).dropJobTlb_dropJob job
  refine ⟨s2.kslots.filter (fun kv => kv.2.job != job), j, t, b, fun x hx => by simpa using (List.mem_filter.mp hx).2, ?_⟩
  rw [h2, Option.isSome_none, Bool.false_and, if_neg (by decide), h3]
  exact congrArg (Prod.mk _) h4

/-- What a reset of a job leaves. -/
theorem State.resetJob_spec {s : State} (hc : s.coll = []) (hp : s.publishing = []) (hk : s.kload = none) (job : BitVec 20) :
    let u := (s.resetJob job).2
    (∀ id c, s.cmd? id = some c → c.job = job → c.phase = .running → u.endedByReset id) ∧
      (∀ c ∈ s.boundCells job, (u.cell c).beingPurged) ∧ (∀ k ∈ u.kslots, k.2.job ≠ job) ∧ u.mem = s.mem ∧ u.regs = s.regs := by
  obtain ⟨_, _, _, hmem, hregs⟩ := ResetGoesOn.foldl hc hp hk (s.resetIds job)
  have hend := fun id c hid hrun hcmd => State.foldl_resetCmd_ends hc hp hk (s.resetIds job) (id := id) (c := c) hid hcmd hrun
  have hbp := fun n hn => State.foldl_resetCmd_boundOrPurged hc hp hk (s.resetIds job) (job := job) (n := n) hn
  generalize h1 : (s.resetIds job).foldl (fun s id => s.resetCmd id) s = s1 at *
  generalize hcs : s1.cellsWhere (fun _ x => (x.state == .bound || x.state == .lent) && x.job == some job) = cells
  obtain ⟨k, j, t, b, hslots, hu⟩ := State.resetJob_eq hc hp hk h1 hcs
  obtain ⟨cl, t', hf⟩ := s1.purgeCells_frame cells
  have hpurge : ∀ n, n ∈ cells ∨ (s1.cell n).beingPurged → ((s1.purgeCells cells).cell n).beingPurged := fun n =>
    State.purgeCells_beingPurged
  rw [hu]
  refine ⟨fun id c hid hj hrun => ?_, fun n hn => hpurge n ?_, hslots, ?_, ?_⟩
  · obtain ⟨y, hy, hst⟩ := hend id c (State.mem_resetIds hid hj hrun) hrun hid
    refine ⟨y, ?_, hst⟩
    rw [← hy]
    simp only [hf]
    rfl
  · refine (hbp n hn).imp_left fun hb => ?_
    obtain ⟨x, hx, hst, hj⟩ := mem_boundCells.mp hb
    rw [← hcs]
    exact List.mem_map.mpr ⟨(n, x), List.mem_filter.mpr ⟨hx, by simp [hst, hj]⟩, rfl⟩
  · simp only [hf]
    exact hmem
  · simp only [hf]
    exact hregs

end Sys2Proof.Machine
end

section
/-! PROOFS. KLOAD, KUNLOAD, KQUERY and SUBSTITUTE, and the statement on the trellis commands (O33). -/

namespace Sys2Proof.Machine

/-! ### Bytes of a number -/

theorem leNat_leBytes (n v : Nat) : leNat (leBytes n v) = v % 256 ^ n := by
  induction n generalizing v with
  | zero => rw [leBytes, leNat, Nat.pow_zero, Nat.mod_one]
  | succ n ih =>
    rw [leBytes, leNat, ih, BitVec.toNat_ofNat, show 256 ^ (n + 1) = 256 * 256 ^ n from Nat.pow_succ']
    exact Nat.mod_mul.symm

theorem drop_leBytes (k n v : Nat) : (leBytes (k + n) v).drop k = leBytes n (v / 256 ^ k) := by
  induction k generalizing v with
  | zero => rw [Nat.zero_add, Nat.pow_zero, Nat.div_one, List.drop_zero]
  | succ k ih => rw [Nat.succ_add, leBytes, List.drop_succ_cons, ih, Nat.div_div_eq_div_mul, Nat.pow_succ']

theorem take_leBytes (k n v : Nat) : (leBytes (k + n) v).take k = leBytes k v := by
  induction k generalizing v with
  | zero => rfl
  | succ k ih => rw [Nat.succ_add, leBytes, List.take_succ_cons, ih, leBytes]

theorem leNat_lt (l : Bytes) : leNat l < 256 ^ l.length := by
  induction l with
  | nil => exact Nat.one_pos
  | cons b l ih =>
    have := b.isLt
    rw [leNat, List.length_cons, Nat.pow_succ']
    omega

/-- Four bytes of a number of 64 bytes. -/
theorem leNat_word_leBytes (v : Nat) {i : Nat} (h : i < 16) :
    leNat (((leBytes 64 v).drop (4 * i)).take 4) = fieldOf v (32 * i) 32 := by
  rw [show 64 = 4 * i + (4 + (60 - 4 * i)) by omega, drop_leBytes, take_leBytes, leNat_leBytes, fieldOf, Nat.shiftRight_eq_div_pow,
    show 256 ^ (4 * i) = 2 ^ (32 * i) by rw [show 32 * i = 8 * (4 * i) by omega, Nat.pow_mul 2 8]]
  rfl

theorem leNat_word_lt (l : Bytes) : leNat (l.take 4) < 2 ^ 32 :=
  (leNat_lt _).trans_le (Nat.pow_le_pow_right (by decide) (List.length_take_le 4 l))

/-! ### KHASH (R91) -/

theorem State.rd_showHash_off (s : State) (h : Bytes) {o : Nat} (ho : o < 0x080) : (s.showHash h).rd pgTRL o = s.rd pgTRL o := by
  refine List.foldlRecOn (motive := fun u : State => u.rd pgTRL o = s.rd pgTRL o) _ _ rfl fun u hu i _ => ?_
  rw [State.rd_wr_off _ _ (by omega), hu]

theorem State.rd_showHash (s : State) (h : Bytes) {i : Nat} (hi : i < 16) :
    ((s.showHash h).rd pgTRL (0x080 + 4 * i)).toNat = leNat ((h.drop (4 * i)).take 4) := by
  have hrd : (s.showHash h).rd pgTRL (0x080 + 4 * i) = BitVec.ofNat 32 (leNat ((h.drop (4 * i)).take 4)) := by
    refine foldl_of_mem (P := fun u : State => u.rd pgTRL (0x080 + 4 * i) = BitVec.ofNat 32 (leNat ((h.drop (4 * i)).take 4)))
      (Q := fun _ => True) s (List.mem_range.mpr hi) trivial (fun _ _ _ => trivial) (fun u _ => u.rd_wr_self _ _ _) fun u j _ hu => ?_
    by_cases hj : j = i
    · rw [hj, State.rd_wr_self]
    · rw [State.rd_wr_off _ _ (by omega), hu]
  rw [hrd, BitVec.toNat_ofNat, Nat.mod_eq_of_lt (leNat_word_lt _)]

/-! ### The end of RESET_JOB -/

theorem State.busy_setFld_result (s : State) (n : Nat) : (s.setFld pgTRL 0x054 16 16 n).busy pgTRL = s.busy pgTRL := by
  change (s.setFld pgTRL 0x054 16 16 n).bit pgTRL 0x054 0 = _
  rw [s.bit_setFld _ _ _ _ _ _ (by decide), if_neg (by decide)]
  rfl

/-- RESET_JOB completes once no cell of the job is being purged; until then its BUSY stays at 1. -/
theorem State.trlResetDone_spec {s : State} {job : BitVec 20} (hjob : BitVec.ofNat 20 (fieldOf (trlArg s 0) 0 20) = job)
    (hb : s.busy pgTRL = true) (n : Nat) :
    let u := s.trlResetDone n
    u.cmds = s.cmds ∧ u.cells = s.cells ∧ u.kslots = s.kslots ∧ u.mem = s.mem ∧
      (if (u.cellsWhere (fun _ x => x.state == .purging && bwJob x.bind == job)).isEmpty then Answered u pgTRL 0
       else u.busy pgTRL = true) := by
  simp only [State.trlResetDone, hjob]
  split
  next he =>
    have hr := s.trlDone_regsOnly 0 n
    have hcells : (s.trlDone 0 n).cellsWhere = s.cellsWhere := funext fun p => by rw [State.cellsWhere, hr.cells]; rfl
    exact ⟨hr.cmds, hr.cells, hr.kslots, hr.mem, by rw [hcells, if_pos he]; exact s.trlDone_answered n (by decide)⟩
  next he => exact ⟨rfl, rfl, rfl, rfl, (if_neg he).mpr hb⟩

theorem State.trlReset_spec {s : State} {job : BitVec 20} (hbad : s.argsBad pgTRL 0 [0xFFFFF, 0, 0, 0] = false)
    (hjob : BitVec.ofNat 20 (fieldOf (trlArg s 0) 0 20) = job) (hholds : s.jobHolds job = true) (hc : s.coll = [])
    (hp : s.publishing = []) (hk : s.kload = none) (hb : s.busy pgTRL = true) :
    let u := s.trlReset 0
    (∀ id c, s.cmd? id = some c → c.job = job → c.phase = .running → u.endedByReset id) ∧
      (∀ c ∈ s.boundCells job, (u.cell c).beingPurged) ∧ (∀ k ∈ u.kslots, k.2.job ≠ job) ∧ u.mem = s.mem ∧
      (if (u.cellsWhere (fun _ x => x.state == .purging && bwJob x.bind == job)).isEmpty then Answered u pgTRL 0
       else u.busy pgTRL = true) := by
  obtain ⟨hcmds, hcells, hslots, hmem, hregs⟩ := State.resetJob_spec hc hp hk job
  have hu : s.trlReset 0 = ((s.resetJob job).2.setFld pgTRL 0x054 16 16 (s.resetJob job).1).trlResetDone (s.resetJob job).1 := by
    simp only [State.trlReset, hbad, hjob, hholds, Bool.not_true, Bool.false_eq_true, if_false]
  rw [hu]
  generalize (s.resetJob job).1 = n at *
  generalize (s.resetJob job).2 = v at *
  have hvjob : BitVec.ofNat 20 (fieldOf (trlArg (v.setFld pgTRL 0x054 16 16 n) 0) 0 20) = job := by
    rw [trlArg, State.arg, State.rd_setFld_off _ _ _ _ (by decide), State.rd, hregs]
    exact hjob
  have hvb : (v.setFld pgTRL 0x054 16 16 n).busy pgTRL = true := by
    rw [State.busy_setFld_result, State.busy_of_regs hregs]
    exact hb
  obtain ⟨h1, h2, h3, h4, h5⟩ := State.trlResetDone_spec hvjob hvb n
  refine ⟨fun id c hid hj hrun => ?_, fun c hm => ?_, ?_, h4.trans hmem, h5⟩
  · obtain ⟨k, hk, hst⟩ := hcmds id c hid hj hrun
    exact ⟨k, (congrArg (fun l => Tab.find? l id) h1).trans hk, hst⟩
  · have hcell := congrArg (fun l => Tab.get ({} : Cell) l c) h2
    exact (congrArg Cell.beingPurged hcell).mpr (hcells c hm)
  · rw [h3]
    exact hslots

/-! ### Kernel slots (R81, R82, R91) -/

theorem State.trlKload_takes {s : State} {job : BitVec 20} {slot : Nat}
    (hbad : s.argsBad pgTRL 0 [0xFFFFF, 0xFFFFFFFF, 0x1FFFFFF, 0x1FFFFFF] = false) (hlo : 1 ≤ trlArg s 3) (hhi : trlArg s 3 ≤ 0x1000000)
    (hjob : BitVec.ofNat 20 (fieldOf (trlArg s 0) 0 20) = job) (hten : ∀ t, s.jobTenant job = some t → s.tenantOpen t = true)
    (hholds : s.jobHolds job = true) (hslot : slot < 1024) (hfree : Tab.has s.kslots slot = false)
    (hlow : ∀ i < slot, Tab.has s.kslots i = true) (hroom : (trlArg s 3 + 4095) / 4096 ≤ s.storeFree) :
    s.trlKload 0 = { s with kload := some { slot := slot, job := job, tva := BitVec.ofNat 57 (trlArg s 1 + 2 ^ 32 * trlArg s 2),
                                            len := trlArg s 3, dead := false, fault := none } } := by
  have hmask := (s.argsBad_eq_false_iff pgTRL _).mp hbad
  have h2 : fieldOf (trlArg s 2) 0 25 = trlArg s 2 := fieldOf_of_mask (hmask 2 (by decide))
  have h3 : fieldOf (trlArg s 3) 0 25 = trlArg s 3 := fieldOf_of_mask (hmask 3 (by decide))
  have hlen : (trlArg s 3 == 0 || decide (trlArg s 3 > 0x1000000)) = false := by
    simp
    omega
  have hopen : ((s.jobTenant job).map (fun t => !s.tenantOpen t)).getD false = false := by
    cases ht : s.jobTenant job with
    | none => rfl
    | some t => simp [hten t ht]
  have hfind : (List.range 1024).find? (fun i => !Tab.has s.kslots i) = some slot := by
    rw [List.find?_range_eq_some]
    exact ⟨by simp [hfree], List.mem_range.mpr hslot, fun j hj => by simp [hlow j hj]⟩
  have hst : ¬storeUnits (trlArg s 3) > s.storeFree := Nat.not_lt.mpr hroom
  simp only [State.trlKload, hbad, hjob, h2, h3, hopen, hholds, hfind, if_neg hst, Bool.false_or, hlen, Bool.not_true,
    Bool.false_eq_true, if_false]

/-- The slot that a command names in its first argument. -/
theorem fieldOf_slot {s : State} {masks : List Nat} (hbad : s.argsBad pgTRL 0 (0x3FF :: masks) = false) :
    fieldOf (trlArg s 0) 0 10 = trlArg s 0 :=
  fieldOf_of_mask ((s.argsBad_eq_false_iff pgTRL _).mp hbad 0 (by simp))

theorem State.trlKunload_frees {s : State} {k : KSlot} (hbad : s.argsBad pgTRL 0 [0x3FF, 0, 0, 0] = false)
    (hk : Tab.find? s.kslots (trlArg s 0) = some k) (hrun : s.slotRuns (trlArg s 0) = false) :
    let u := s.trlKunload 0
    (Answered u pgTRL 0 ∧ u.fld pgTRL 0x054 16 16 = 0 % 65536) ∧ Tab.find? u.kslots (trlArg s 0) = none ∧
      (∀ i, i ≠ trlArg s 0 → Tab.find? u.kslots i = Tab.find? s.kslots i) ∧ u.mem = s.mem ∧ u.cells = s.cells := by
  obtain ⟨j, hj⟩ := ({ s with kslots := Tab.del s.kslots (trlArg s 0) } : State).dropJob_frame k.job
  have hu : s.trlKunload 0 = (({ s with kslots := Tab.del s.kslots (trlArg s 0) } : State).dropJob k.job).trlDone 0 0 := by
    simp only [State.trlKunload, hbad, fieldOf_slot hbad, hk, hrun, Bool.false_eq_true, if_false]
  rw [hj] at hu
  have hr := State.trlDone_regsOnly ({ s with kslots := Tab.del s.kslots (trlArg s 0), jobs := j } : State) 0 0
  rw [← hu] at hr
  refine ⟨?_, ?_, fun i hi => ?_, hr.mem, hr.cells⟩
  · rw [hu]
    exact ⟨State.trlDone_answered _ _ (by decide), State.trlDone_result _ _ _⟩
  · rw [hr.kslots]
    exact Tab.find?_del_self _ _
  · rw [hr.kslots]
    exact Tab.find?_del_ne _ hi

theorem State.arg_setArg_self (s : State) (p n v : Nat) : (s.setArg p n v).arg p n = v % 2 ^ 32 := by
  rw [State.arg, State.setArg, State.rd_wr_self, BitVec.toNat_ofNat]

theorem State.arg_setArg_ne (s : State) (p v : Nat) {n m : Nat} (h : m ≠ n) : (s.setArg p n v).arg p m = s.arg p m := by
  rw [State.arg, State.setArg, State.rd_wr_off _ _ (by omega), ← State.arg]

theorem State.trlKquery_shows {s : State} {k : KSlot} (hbad : s.argsBad pgTRL 0 [0x3FF, 0xFFFFFFFF, 0xFFFFFFFF, 0] = false)
    (hk : Tab.find? s.kslots (trlArg s 0) = some k) :
    let u := s.trlKquery 0
    (Answered u pgTRL 0 ∧ u.fld pgTRL 0x054 16 16 = 0 % 65536) ∧ SameData s u ∧ u.kslots = s.kslots ∧
      u.arg pgTRL 1 = k.job.toNat ∧ u.arg pgTRL 2 = k.image.length % 2 ^ 32 ∧
      ∀ i < 16, (u.rd pgTRL (0x080 + 4 * i)).toNat = fieldOf k.hash.toNat (32 * i) 32 := by
  let v := (s.setArg pgTRL 1 k.job.toNat).setArg pgTRL 2 k.image.length
  let w := v.showHash (leBytes 64 k.hash.toNat)
  have hu : s.trlKquery 0 = w.trlDone 0 0 := by
    simp only [State.trlKquery, hbad, fieldOf_slot hbad, hk, Bool.false_eq_true, if_false]
    rfl
  have hr : RegsOnly s (w.trlDone 0 0) :=
    (((s.wr_regsOnly _ _ _).trans (State.wr_regsOnly _ _ _ _)).trans (v.showHash_regsOnly _)).trans (w.trlDone_regsOnly 0 0)
  have hrd : ∀ o, o ≠ 0x054 → o ≠ oIRQS → (w.trlDone 0 0).rd pgTRL o = w.rd pgTRL o := fun o h1 h2 =>
    w.rd_trlDone_ne (by omega) (by omega)
  rw [hu]
  refine ⟨⟨w.trlDone_answered _ (by decide), w.trlDone_result _ _⟩, hr.sameData, hr.kslots, ?_, ?_, fun i hi => ?_⟩
  · have hj : k.job.toNat < 2 ^ 32 := k.job.isLt.trans (by decide)
    rw [State.arg, hrd _ (by decide) (by decide), v.rd_showHash_off _ (by decide), ← State.arg, State.arg_setArg_ne _ _ _ (by decide),
      State.arg_setArg_self, Nat.mod_eq_of_lt hj]
  · rw [State.arg, hrd _ (by decide) (by decide), v.rd_showHash_off _ (by decide), ← State.arg, State.arg_setArg_self]
  · rw [hrd _ (by omega) (by simp only [oIRQS]; omega), v.rd_showHash _ hi, leNat_word_leBytes _ hi]

/-! ### SUBSTITUTE (R83, R85) -/

theorem spareOf_cellBed (c : Nat) : spareOf (cellBed c) = 17 * (c / 17) + 16 := rfl

theorem State.spareTakes_cells (s : State) {c : Nat} (cause : BitVec 8) (byCmd : Bool) (hne : spareOf (cellBed c) ≠ c) :
    let u := s.spareTakes c cause byCmd
    u.cell c = { (s.cell c).purged .failed with cause := cause } ∧
      u.cell (spareOf (cellBed c)) = { s.cell (spareOf (cellBed c)) with state := .selftest } ∧
      ∀ d, d ≠ c → d ≠ spareOf (cellBed c) → u.cell d = s.cell d := by
  let y : Cell := { (s.cell c).purged .failed with cause := cause }
  let x : Cell := { s.cell (spareOf (cellBed c)) with state := .selftest }
  let v := (s.setCell c y).dropCellTlb c
  have hself : v.cell c = y := s.cell_setCell_self c y
  have hother : ∀ d, d ≠ c → v.cell d = s.cell d := fun d hd => s.cell_setCell_ne y hd
  exact ⟨(v.cell_setCell_ne x (Ne.symm hne)).trans hself, v.cell_setCell_self _ x,
    fun d h1 h2 => (v.cell_setCell_ne x h2).trans (hother d h1)⟩

section
variable (s : State) (c : Nat) (cause : BitVec 8) (byCmd : Bool)

@[simp] theorem State.spareTakes_mem : (s.spareTakes c cause byCmd).mem = s.mem := by
  simp only [State.spareTakes, State.dropCellTlb, State.setCell_mem]


@[simp] theorem State.spareTakes_regs : (s.spareTakes c cause byCmd).regs = s.regs := by
  simp only [State.spareTakes, State.dropCellTlb, State.setCell_regs]

theorem State.spareTakes_substs : (s.spareTakes c cause byCmd).substs = s.substs ++ [{
    failed := c, spare := spareOf (cellBed c), toBound := (s.cell c).state == .bound && bwValid (s.cell c).bind,
    bind := (s.cell c).bind, byCmd := byCmd }] := rfl

end

theorem State.trlSubstitute_status {s : State} {st : Nat} (hbad : s.argsBad pgTRL 0 [0x1FF, 0, 0, 0] = false)
    (h : s.substStatus (trlArg s 0) = some st) : s.trlSubstitute 0 = s.trlDone st 0 := by
  have hc : fieldOf (trlArg s 0) 0 9 = trlArg s 0 := fieldOf_of_mask ((s.argsBad_eq_false_iff pgTRL _).mp hbad 0 (by decide))
  simp only [State.trlSubstitute, hbad, hc, h, Bool.false_eq_true, if_false]

theorem State.trlSubstitute_starts {s : State} (hbad : s.argsBad pgTRL 0 [0x1FF, 0, 0, 0] = false)
    (h : s.substStatus (trlArg s 0) = none) : s.trlSubstitute 0 = s.replaceCell (trlArg s 0) 0x07 true := by
  have hc : fieldOf (trlArg s 0) 0 9 = trlArg s 0 := fieldOf_of_mask ((s.argsBad_eq_false_iff pgTRL _).mp hbad 0 (by decide))
  simp only [State.trlSubstitute, hbad, hc, h, Bool.false_eq_true, if_false]

theorem State.substStatus_of_notUp {s : State} {c : Nat}
    (h : 408 ≤ c ∨ (s.cell c).state = .selftest ∨ (s.cell c).state = .spare ∨ (s.cell c).state = .failed) :
    s.substStatus c = some 0x01 := by
  have hcond : (decide (c ≥ 408) || !((s.cell c).state == .free || (s.cell c).state == .bound || (s.cell c).state == .lent ||
      (s.cell c).state == .purging)) = true := by
    rcases h with h | h | h | h
    · simp [h]
    · simp [h]
    · simp [h]
    · simp [h]
  simp only [State.substStatus, hcond, if_true]

theorem State.substStatus_of_up {s : State} {c : Nat} (hc : c < 408)
    (h : (s.cell c).state = .free ∨ (s.cell c).state = .bound ∨ (s.cell c).state = .lent ∨ (s.cell c).state = .purging) :
    s.substStatus c = if (s.cell (spareOf (cellBed c))).state = .spare then none else some 0x09 := by
  have hcond : (decide (c ≥ 408) || !((s.cell c).state == .free || (s.cell c).state == .bound || (s.cell c).state == .lent ||
      (s.cell c).state == .purging)) = false := by
    rcases h with h | h | h | h
    · simp [h, hc]
    · simp [h, hc]
    · simp [h, hc]
    · simp [h, hc]
  simp only [State.substStatus, hcond, Bool.false_eq_true, if_false, bne_iff_ne, ne_eq, ite_not]

/-- SUBSTITUTE of a cell that is in use: the bed's spare starts its self-test and the cell fails with cause 7. -/
theorem State.trlSubstitute_spec {s : State} {c : Nat} (hbad : s.argsBad pgTRL 0 [0x1FF, 0, 0, 0] = false) (hc : trlArg s 0 = c)
    (hlt : c < 408)
    (hup : (s.cell c).state = .free ∨ (s.cell c).state = .bound ∨ (s.cell c).state = .lent ∨ (s.cell c).state = .purging)
    (hsp : (s.cell (spareOf (cellBed c))).state = .spare) (hcmd : (s.cell c).cmd = none) (hops : ∀ y ∈ s.cmds, c ∉ y.2.cells) :
    s.trlSubstitute 0 = s.spareTakes c 7 true ∧ spareOf (cellBed c) ≠ c := by
  have hne : spareOf (cellBed c) ≠ c := fun e => by
    rw [e] at hsp
    simp [hsp] at hup
  refine ⟨?_, hne⟩
  rw [State.trlSubstitute_starts hbad (by rw [hc, State.substStatus_of_up hlt hup, if_pos hsp]), hc]
  exact State.replaceCell_of_spare 7 true (fun _ => hcmd) hops hne hsp

/-! ### The statement -/

/-- A TRL command that its page takes. -/
theorem exec_trl_of_takes {s : State} {p : Path} (h : s.takes p pgTRL = true) :
    let s0 := s.started pgTRL
    exec (.bind p 0) s = .next (s0.trlBind 0) ∧ exec (.unbind p 0) s = .next (s0.trlUnbind 0) ∧
      exec (.resetJob p 0) s = .next (s0.trlReset 0) ∧ exec (.kload p 0) s = .next (s0.trlKload 0) ∧
      exec (.kunload p 0) s = .next (s0.trlKunload 0) ∧ exec (.kquery p 0) s = .next (s0.trlKquery 0) ∧
      exec (.substitute p 0) s = .next (s0.trlSubstitute 0) := by
  have hrun := fun f => congrArg (Host.Outcome.next (φ := Fault) (ρ := Refusal)) (State.command_of_takes h f)
  exact ⟨hrun _, hrun _, hrun _, hrun _, hrun _, hrun _, hrun _⟩

/-- Settles O33: each command from the state in which its page has taken it. -/
theorem trellisCommandsComplete : Obligations.TrellisCommandsComplete := by
  intro s p htakes s0 a job result
  obtain ⟨hbind, hunbind, hreset, hkload, hkunload, hkquery, hsubst⟩ := exec_trl_of_takes htakes
  have harg : ∀ n < 4, trlArg s0 n = a n := fun n hn => trlArg_started s hn
  have hjob : BitVec.ofNat 20 (fieldOf (trlArg s0 0) 0 20) = job := by
    rw [harg 0 (by decide), ofNat_fieldOf_zero]
  refine ⟨?bind, ?unbind, ?reset, ?kload, ?slots, ?noSlot, ?substitute⟩
  case bind =>
    intro t n beds taken hbad hne hn1 hn2 hg1 hg2 hs1 hs2 ha1 ha2 ht hj hpos hnodup hroom
    have hasks : BindAsks s0 job t beds n (fieldOf (a 2) 0 5) (fieldOf (a 2) 8 5) (fieldOf (a 2) 16 7) ((a 1).testBit 29) :=
      { legal := hbad, job_eq := hjob, tenant_eq := by rw [harg 0 (by decide), ofNat_fieldOf],
        beds_eq := by rw [harg 1 (by decide)]; rfl, n_eq := by rw [harg 1 (by decide)], replay_eq := by rw [harg 1 (by decide)]; rfl,
        groups_eq := by rw [harg 2 (by decide)], scr_eq := by rw [harg 2 (by decide)], acc_eq := by rw [harg 2 (by decide)],
        beds_ne := hne, n_range := ⟨hn1, hn2⟩, groups_range := ⟨hg1, hg2⟩, scr_range := ⟨hs1, hs2⟩, acc_range := ⟨ha1, ha2⟩ }
    exact ⟨_, hbind, State.trlBind_spec hasks ht hj hpos hnodup hroom⟩
  case unbind =>
    intro hbad hall hholds hruns hbeds
    exact ⟨_, hunbind, State.trlUnbind_spec hbad hjob ((harg 1 (by decide)).trans hall) hholds hruns hbeds⟩
  case reset =>
    intro hbad hholds hk hc hp
    exact ⟨_, hreset, State.trlReset_spec hbad hjob hholds hc hp hk (s.started_busy pgTRL)⟩
  case kload =>
    intro slot hbad hlo hhi hten hholds hslot hfree hlow hroom k
    have h3 := harg 3 (by decide)
    rw [hkload, State.trlKload_takes (s := s0) hbad (h3 ▸ hlo) (h3 ▸ hhi) hjob hten hholds hslot hfree hlow (h3 ▸ hroom),
      harg 1 (by decide), harg 2 (by decide), h3]
  case slots =>
    intro k hk
    have hk0 : Tab.find? s0.kslots (trlArg s0 0) = some k := (harg 0 (by decide)).symm ▸ hk
    refine ⟨fun hbad => ⟨fun hrun => ?_, fun hrun => ?_⟩, fun hbad => ⟨_, hkquery, ?_⟩⟩
    · have h := State.trlKunload_frees hbad hk0 ((harg 0 (by decide)).symm ▸ hrun)
      rw [harg 0 (by decide)] at h
      exact ⟨_, hkunload, h⟩
    · have hrun0 : s0.slotRuns (trlArg s0 0) = true := (harg 0 (by decide)).symm ▸ hrun
      have hu : s0.trlKunload 0 = s0.trlDone 5 0 := by
        simp only [State.trlKunload, hbad, fieldOf_slot hbad, hk0, hrun0, Bool.false_eq_true, if_false, if_true]
      obtain ⟨hans, _, _, hslots⟩ := s.trlDone_started_spec 0 (show 5 < 256 by decide)
      exact ⟨_, hkunload.trans (congrArg _ hu), hans, hslots⟩
    · obtain ⟨hres, hdata, hrest⟩ := State.trlKquery_shows hbad hk0
      exact ⟨hres, (s.started_regsOnly pgTRL).sameData.trans hdata, hrest⟩
  case noSlot =>
    intro hk hbad i hi
    have hk0 : Tab.find? s0.kslots (trlArg s0 0) = none := (harg 0 (by decide)).symm ▸ hk
    have hbad' : s0.argsBad pgTRL 0 [0x3FF, 0xFFFFFFFF, 0xFFFFFFFF, 0] = false :=
      State.argsBad_of_narrower hbad rfl (by decide)
    obtain ⟨hans, _, hdata, hslots⟩ := s.trlDone_started_spec 0 (show 10 < 256 by decide)
    refine ⟨s0.trlDone 10 0, ?_, hans, hdata, hslots⟩
    simp only [List.mem_cons, List.not_mem_nil, or_false] at hi
    rcases hi with rfl | rfl
    · refine hkunload.trans (congrArg _ ?_)
      simp only [s0, State.trlKunload, hbad, fieldOf_slot hbad, hk0, Bool.false_eq_true, if_false]
    · refine hkquery.trans (congrArg _ ?_)
      simp only [s0, State.trlKquery, hbad', fieldOf_slot hbad, hk0, Bool.false_eq_true, if_false]
  case substitute =>
    intro hbad c sp k
    have hc : trlArg s0 0 = c := harg 0 (by decide)
    have hstatus : ∀ st, st < 256 → s0.substStatus c = some st →
        ∃ u, exec (.substitute p 0) s = .next u ∧ Answered u pgTRL st ∧ u.cells = s.cells := fun st hlt h => by
      obtain ⟨hans, _, hdata, _⟩ := s.trlDone_started_spec 0 hlt
      exact ⟨_, hsubst.trans (congrArg _ (State.trlSubstitute_status hbad (hc.symm ▸ h))), hans, hdata.2.2.2.2.2.2⟩
    refine ⟨fun h => hstatus 1 (by decide) (State.substStatus_of_notUp h), fun hlt hup => ⟨fun hsp => ?_, fun hsp hcmd hops => ?_⟩⟩
    · exact hstatus 9 (by decide) ((State.substStatus_of_up (s := s0) hlt hup).trans (if_neg hsp))
    · obtain ⟨hu, hne⟩ := State.trlSubstitute_spec hbad hc hlt hup hsp hcmd hops
      obtain ⟨h1, h2, h3⟩ := s0.spareTakes_cells 7 true hne
      exact ⟨s0.spareTakes c 7 true, hsubst.trans (congrArg _ hu),
        (State.busy_of_regs (s0.spareTakes_regs c 7 true)).trans (s.started_busy pgTRL), h1, h2, h3, s0.spareTakes_mem c 7 true,
        s0.spareTakes_substs c 7 true⟩

end Sys2Proof.Machine
end

section
/-! PROOFS. The events of cells (O34): the self-test, cells that fail, purges, contexts, substitutions and kernel images. -/

namespace Sys2Proof.Machine

/-- An induction along a fold over the numbers below a bound. -/
theorem foldl_range_induction {σ : Type} {f : σ → Nat → σ} {I : Nat → σ → Prop} {s : σ} (h0 : I 0 s) (N : Nat)
    (hstep : ∀ n u, n < N → I n u → I (n + 1) (f u n)) : I N ((List.range N).foldl f s) := by
  induction N with
  | zero => exact h0
  | succ N ih =>
    rw [List.range_succ, List.foldl_append]
    exact hstep N _ (Nat.lt_succ_self N) (ih fun n u hn => hstep n u (Nat.lt_succ_of_lt hn))

/-! ### A cell that fails (R28, R83 to R85) -/

theorem State.noteFault_mono (s : State) {c b q r i : Nat} (hb : b < 32) (h : s.bit q r i = true) :
    (s.noteFault c b).bit q r i = true :=
  State.bit_raise_mono _ (by decide) (s.bit_setFld_one_mono hb h)

/-- A fault shows in HW_FAULT and IRQ_STATUS of the cell's page. -/
theorem State.noteFault_shows (s : State) (c : Nat) {b : Nat} (hb : b < 32) :
    (s.noteFault c b).bit (pgCELL c) 0x060 b = true ∧ (s.noteFault c b).bit (pgCELL c) oIRQS 0 = true :=
  ⟨State.bit_raise_mono _ (by decide) (s.bit_setFld_one _ _ _ hb), State.bit_raise _ _ _ (by decide)⟩

/-- A cell on which nothing runs is replaced by the bed's spare, or its bed is reduced. -/
theorem State.replaceCell_spec {s : State} {c : Nat} (cause : BitVec 8) (byCmd : Bool) (hc : c < 408)
    (hns : (s.cell c).state ≠ .spare) (hcmd : (s.cell c).state = .bound → (s.cell c).cmd = none) (hops : ∀ y ∈ s.cmds, c ∉ y.2.cells)
    (hlend : ∀ y ∈ s.cmds, y.2.beds = []) :
    let sp := spareOf (cellBed c)
    let u := s.replaceCell c cause byCmd
    u.cmds = s.cmds ∧ u.mem = s.mem ∧ u.cell c = { (s.cell c).purged .failed with cause := cause } ∧
      (∀ q r i, s.bit q r i = true → u.bit q r i = true) ∧ (∀ d, d ≠ c → d ≠ sp → u.cell d = s.cell d) ∧
      ((s.cell sp).state = .spare → u.cell sp = { s.cell sp with state := .selftest }) ∧
      ((s.cell sp).state ≠ .spare → (sp ≠ c → u.cell sp = s.cell sp) ∧ u.bit pgTRL 0x064 (c / 17) = true ∧
        u.bit pgTRL oIRQS 2 = true) := by
  intro sp
  by_cases hsp : (s.cell sp).state = .spare
  · have hne : sp ≠ c := fun e => hns (e ▸ hsp)
    rw [State.replaceCell_of_spare cause byCmd hcmd hops hne hsp]
    obtain ⟨h1, h2, h3⟩ := s.spareTakes_cells cause byCmd hne
    refine ⟨?_, s.spareTakes_mem c cause byCmd, h1, fun q r i hb => ?_, h3, fun _ => h2, fun h => absurd hsp h⟩
    · simp only [State.spareTakes, State.dropCellTlb, State.setCell_cmds]
    · rw [State.bit_of_regs (s.spareTakes_regs c cause byCmd)]
      exact hb
  · obtain ⟨w, hw⟩ := State.replaceCell_of_noSpare cause byCmd hcmd hops (.inr hsp)
    have hbed : cellBed c < 32 := by
      unfold cellBed
      omega
    let y : Cell := { (s.cell c).purged .failed with cause := cause }
    obtain ⟨⟨t, j, hr, ht⟩, h1, h2, hmono⟩ := ((s.setCell c y).dropCellTlb c).loseCell_spec w hbed
    have hcmds : (((s.setCell c y).dropCellTlb c).loseCell (cellBed c) w).cmds = s.cmds := by
      rw [ht]
      exact hr.cmds
    have hcell : ∀ d, (((s.setCell c y).dropCellTlb c).loseCell (cellBed c) w).cell d = (s.setCell c y).cell d := fun d => by
      rw [ht]
      exact hr.cell d
    rw [State.lendWaiting_of_idle (by rw [hcmds]; exact hlend)] at hw
    rw [hw]
    have hother : ∀ d, d ≠ c → (((s.setCell c y).dropCellTlb c).loseCell (cellBed c) w).cell d = s.cell d := fun d hd =>
      (hcell d).trans (s.cell_setCell_ne y hd)
    refine ⟨hcmds, ?_, (hcell c).trans (s.cell_setCell_self c y), hmono, fun d hd _ => hother d hd, fun h => absurd h hsp,
      fun _ => ⟨hother sp, h1, h2⟩⟩
    rw [ht]
    exact hr.mem

/-- A cell that is FREE, BOUND or being purged and meets a hard fault is replaced. -/
theorem State.hardFault_of_up {s : State} {c : Nat} (cause : BitVec 8) (bit : Nat)
    (hup : (s.cell c).state = .free ∨ (s.cell c).state = .bound ∨ (s.cell c).state = .purging) :
    s.hardFault c cause bit = (s.noteFault c bit).replaceCell c cause false := by
  rcases hup with h | h | h <;> simp only [State.hardFault, h]

/-- What a hard fault leaves of a cell in use, of its bed and of the other cells (Table 03-5). -/
theorem State.hardFault_spec {s : State} {c : Nat} (cause : BitVec 8) {bit : Nat} (hbit : bit < 32) (hc : c < 408)
    (hup : (s.cell c).state = .free ∨ (s.cell c).state = .bound ∨ (s.cell c).state = .purging) (hcmd : (s.cell c).cmd = none)
    (hops : ∀ y ∈ s.cmds, c ∉ y.2.cells) (hlend : ∀ y ∈ s.cmds, y.2.beds = []) :
    let sp := spareOf (cellBed c)
    let u := s.hardFault c cause bit
    u.cell c = { (s.cell c).purged .failed with cause := cause } ∧ u.bit (pgCELL c) 0x060 bit = true ∧
      u.bit (pgCELL c) oIRQS 0 = true ∧ u.mem = s.mem ∧
      ((s.cell sp).state = .spare → u.cell sp = { s.cell sp with state := .selftest }) ∧
      ((s.cell sp).state ≠ .spare → u.bit pgTRL 0x064 (c / 17) = true ∧ u.bit pgTRL oIRQS 2 = true) ∧
      (∀ d, d ≠ c → d ≠ sp → u.cell d = s.cell d) := by
  have hr := s.noteFault_regsOnly c bit
  have hshow := s.noteFault_shows c hbit
  rw [State.hardFault_of_up cause bit hup]
  generalize s.noteFault c bit = t at hr hshow
  have hcell := hr.cell
  have hns : (s.cell c).state ≠ .spare := by
    rcases hup with h | h | h <;> rw [h] <;> nofun
  obtain ⟨_, hmem, hfail, hmono, hother, hsp, hno⟩ := State.replaceCell_spec (s := t) cause false hc (by rwa [hcell])
    (fun _ => by rw [hcell]; exact hcmd) (by rw [hr.cmds]; exact hops) (by rw [hr.cmds]; exact hlend)
  simp only [hcell] at hfail hother hsp hno
  exact ⟨hfail, hmono _ _ _ hshow.1, hmono _ _ _ hshow.2, hmem.trans hr.mem, hsp, fun h => (hno h).2, hother⟩

/-- A spare that fails while it is held in SPARE. -/
theorem State.hardFault_of_spare {s : State} {c : Nat} (cause : BitVec 8) (bit : Nat) (hc : c < 408) (hst : (s.cell c).state = .spare)
    (hops : ∀ y ∈ s.cmds, c ∉ y.2.cells) :
    let u := s.hardFault c cause bit
    (u.cell c).state = .failed ∧ u.substs = s.substs ∧ u.bit pgTRL 0x060 (c / 17) = true := by
  have hr := s.noteFault_regsOnly c bit
  have hu : s.hardFault c cause bit = ((s.noteFault c bit).failCell c cause).spareUsed (cellBed c) := by
    simp only [State.hardFault, hst]
  rw [hu]
  generalize s.noteFault c bit = t at hr
  have hbound : (t.cell c).state = .bound → (t.cell c).cmd = none := fun h => by
    rw [hr.cell, hst] at h
    cases h
  rw [State.failCell_of_idle cause hbound (by rw [hr.cmds]; exact hops)]
  let y : Cell := { (t.cell c).purged .failed with cause := cause }
  have hr2 := ((t.setCell c y).dropCellTlb c).spareUsed_regsOnly (cellBed c)
  refine ⟨?_, hr2.substs.trans hr.substs, State.bit_setFld_one _ _ _ _ ?_⟩
  · have h : (((t.setCell c y).dropCellTlb c).spareUsed (cellBed c)).cell c = y := (hr2.cell c).trans (t.cell_setCell_self c y)
    exact congrArg Cell.state h
  · unfold cellBed
    omega

end Sys2Proof.Machine
end

section
/-! PROOFS. The self-test of the cells (O34): one cell after the other is tested, then the enabled cells that failed are replaced. -/

namespace Sys2Proof.Machine

/-- A cell is listed as failed by the self-test. -/
def testFailed (failed : List (BitVec 9)) (c : Nat) : Bool := failed.any (fun f => f.toNat == c)

theorem testFailed_iff {failed : List (BitVec 9)} {c : Nat} : testFailed failed c = true ↔ ∃ f ∈ failed, f.toNat = c := by
  simp [testFailed]

/-- A cell that has failed its self-test. -/
def State.showsTestFailed (u : State) (c : Nat) : Prop :=
  (u.cell c).state = .failed ∧ (u.cell c).cause = 1 ∧ u.bit (pgCELL c) 0x060 5 = true

/-- One cell ends its self-test. -/
def State.endTest (failed : List (BitVec 9)) (s : State) (c : Nat) : State :=
  if (s.cell c).state != .selftest || s.substs.any (fun r => r.spare == c) then s
  else if testFailed failed c then
    if isSpareCell c then ((s.setCell c { s.cell c with state := .failed, cause := 0x01 }).noteFault c 5).spareUsed (cellBed c)
    else (s.setCell c { s.cell c with state := .failed, cause := 0x01 }).noteFault c 5
  else s.setCell c { s.cell c with state := if isSpareCell c then .spare else .free }

/-- An enabled cell that failed its self-test is replaced. -/
def State.replaceTested (s : State) (u : State) (c : Nat) : State :=
  if (s.cell c).state == .selftest && !s.substs.any (fun r => r.spare == c) && !isSpareCell c && (u.cell c).state == .failed then
    u.replaceCell c 0x01 false
  else u

theorem exec_selftestComplete {s : State} (failed : List (BitVec 9)) (h : s.phase = .running) :
    exec (.selftestComplete failed) s =
      .next ((List.range 408).foldl (State.replaceTested s) ((List.range 408).foldl (State.endTest failed) s)) := by
  change execSelftestComplete failed s = _
  simp only [execSelftestComplete, h, bne_self_eq_false, Bool.false_eq_true, if_false]
  rfl

/-- What the cells below n show after their self-test; the others are still in it. -/
def Tested (failed : List (BitVec 9)) (s : State) (n : Nat) (u : State) : Prop :=
  u.cmds = [] ∧ u.substs = [] ∧ u.mem = s.mem ∧ (∀ c, n ≤ c → u.cell c = s.cell c) ∧
    ∀ c < n, (testFailed failed c = true → u.showsTestFailed c) ∧
      (testFailed failed c = false → (u.cell c).state = if isSpareCell c then .spare else .free)

/-- One more cell has failed: its neighbours show what they did. -/
theorem State.endTest_of_failed {failed : List (BitVec 9)} {u : State} {n : Nat} (hn : n < 408) (hst : (u.cell n).state = .selftest)
    (hsub : u.substs = []) (hf : testFailed failed n = true) :
    let v := u.endTest failed n
    v.cmds = u.cmds ∧ v.substs = u.substs ∧ v.mem = u.mem ∧ v.showsTestFailed n ∧ (∀ d, d ≠ n → v.cell d = u.cell d) ∧
      ∀ q r i, u.bit q r i = true → v.bit q r i = true := by
  let y : Cell := { u.cell n with state := .failed, cause := 0x01 }
  have hbed : cellBed n < 32 := by
    unfold cellBed
    omega
  have hv : ∃ v, u.endTest failed n = v ∧ RegsOnly (u.setCell n y) v ∧ v.bit (pgCELL n) 0x060 5 = true ∧
      ∀ q r i, u.bit q r i = true → v.bit q r i = true := by
    have h0 : ((u.cell n).state != .selftest || u.substs.any (fun r => r.spare == n)) = false := by simp [hst, hsub]
    have hreg := (u.setCell n y).noteFault_regsOnly n 5
    have hshow := ((u.setCell n y).noteFault_shows n (b := 5) (by decide)).1
    have hmono : ∀ q r i, u.bit q r i = true → ((u.setCell n y).noteFault n 5).bit q r i = true := fun q r i h =>
      State.noteFault_mono _ (by decide) h
    simp only [State.endTest, h0, hf, Bool.false_eq_true, if_false, if_true]
    split
    · exact ⟨_, rfl, hreg.trans (State.spareUsed_regsOnly _ _), State.bit_setFld_one_mono _ hbed hshow,
        fun q r i h => State.bit_setFld_one_mono _ hbed (hmono q r i h)⟩
    · exact ⟨_, rfl, hreg, hshow, hmono⟩
  obtain ⟨v, hv, hr, hbit, hmono⟩ := hv
  have hself : v.cell n = y := (hr.cell n).trans (u.cell_setCell_self n y)
  rw [hv]
  exact ⟨hr.cmds, hr.substs, hr.mem, ⟨congrArg Cell.state hself, congrArg Cell.cause hself, hbit⟩,
    fun d hd => (hr.cell d).trans (u.cell_setCell_ne y hd), hmono⟩

theorem Tested.step {failed : List (BitVec 9)} {s u : State} {n : Nat} (hself : ∀ c < 408, (s.cell c).state = .selftest) (hn : n < 408)
    (h : Tested failed s n u) : Tested failed s (n + 1) (u.endTest failed n) := by
  obtain ⟨hcmds, hsub, hmem, hlater, hdone⟩ := h
  have hst : (u.cell n).state = .selftest := by rw [hlater n (Nat.le_refl n), hself n hn]
  have hlt : ∀ c, c < n + 1 → c ≠ n → c < n := fun c h1 h2 => by omega
  cases hf : testFailed failed n with
  | true =>
    obtain ⟨h1, h2, h3, h4, h5, h6⟩ := State.endTest_of_failed hn hst hsub hf
    refine ⟨h1.trans hcmds, h2.trans hsub, h3.trans hmem, fun c hc => (h5 c (by omega)).trans (hlater c (by omega)), fun c hc => ?_⟩
    by_cases hcn : c = n
    · subst hcn
      exact ⟨fun _ => h4, fun h => absurd (hf.symm.trans h) (by decide)⟩
    · obtain ⟨hfail, hpass⟩ := hdone c (hlt c hc hcn)
      rw [State.showsTestFailed, h5 c hcn]
      exact ⟨fun h => (hfail h).imp_right fun h' => h'.imp_right (h6 _ _ _), hpass⟩
  | false =>
    let y : Cell := { u.cell n with state := if isSpareCell n then .spare else .free }
    have hv : u.endTest failed n = u.setCell n y := by
      simp only [State.endTest, hst, hsub, hf, bne_self_eq_false, List.any_nil, Bool.or_self, Bool.false_eq_true, if_false]
      rfl
    rw [hv]
    refine ⟨hcmds, hsub, hmem, fun c hc => (u.cell_setCell_ne y (by omega)).trans (hlater c (by omega)), fun c hc => ?_⟩
    by_cases hcn : c = n
    · subst hcn
      exact ⟨fun h => absurd (hf.symm.trans h) (by decide), fun _ => congrArg Cell.state (u.cell_setCell_self c y)⟩
    · rw [State.showsTestFailed, u.cell_setCell_ne y hcn]
      exact hdone c (hlt c hc hcn)

/-- What every cell shows while the enabled cells that failed are replaced. -/
def Replaced (failed : List (BitVec 9)) (s u : State) : Prop :=
  u.cmds = [] ∧ u.mem = s.mem ∧ ∀ c < 408, (testFailed failed c = true → u.showsTestFailed c) ∧
    (testFailed failed c = false → isSpareCell c = false → (u.cell c).state = .free) ∧
    (isSpareCell c = true → (∀ f ∈ failed, f.toNat / 17 ≠ c / 17) → (u.cell c).state = .spare)

theorem Tested.replaced {failed : List (BitVec 9)} {s u : State} (h : Tested failed s 408 u) : Replaced failed s u := by
  obtain ⟨hcmds, _, hmem, _, hdone⟩ := h
  refine ⟨hcmds, hmem, fun c hc => ⟨(hdone c hc).1, fun hf hs => ?_, fun hs hbed => ?_⟩⟩
  · rw [(hdone c hc).2 hf, hs]
    rfl
  · have hf : testFailed failed c = false := by
      rw [Bool.eq_false_iff, Ne, testFailed_iff]
      rintro ⟨f, hfm, hfc⟩
      exact hbed f hfm (by rw [hfc])
    rw [(hdone c hc).2 hf, hs]
    rfl

theorem isSpareCell_spareOf (b : Nat) : isSpareCell (spareOf b) = true := by
  simp only [isSpareCell, spareOf, beq_iff_eq]
  omega

theorem Replaced.step {failed : List (BitVec 9)} {s u : State} {n : Nat} (hn : n < 408) (h : Replaced failed s u) :
    Replaced failed s (s.replaceTested u n) := by
  unfold State.replaceTested
  split
  next hcond =>
    simp only [Bool.and_eq_true, Bool.not_eq_true', beq_iff_eq] at hcond
    obtain ⟨⟨_, hns⟩, hst⟩ := hcond
    obtain ⟨hcmds, hmem, hall⟩ := h
    have hfn : testFailed failed n = true := by
      cases hf : testFailed failed n with
      | true => rfl
      | false =>
        rw [(hall n hn).2.1 hf hns] at hst
        cases hst
    obtain ⟨f, hfm, hfc⟩ := testFailed_iff.mp hfn
    obtain ⟨h1, h2, h3, h4, h5, h6, h7⟩ := State.replaceCell_spec (s := u) (c := n) 0x01 false hn (by rw [hst]; nofun)
      (fun hb => by rw [hst] at hb; cases hb) (by rw [hcmds]; nofun) (by rw [hcmds]; nofun)
    refine ⟨h1.trans hcmds, h2.trans hmem, fun c hc => ?_⟩
    have hbit : u.bit (pgCELL c) 0x060 5 = true → _ := h4 (pgCELL c) 0x060 5
    by_cases hcn : c = n
    · subst hcn
      refine ⟨fun hf => ⟨congrArg Cell.state h3, congrArg Cell.cause h3, hbit ((hall c hc).1 hf).2.2⟩,
        fun hf => absurd (hfn.symm.trans hf) (by decide), fun hs => absurd (hns.symm.trans hs) (by decide)⟩
    · have hcell : (u.cell (spareOf (cellBed n))).state ≠ .spare ∨ c ≠ spareOf (cellBed n) →
          (u.replaceCell n 0x01 false).cell c = u.cell c := fun hor => by
        by_cases hcs : c = spareOf (cellBed n)
        · subst hcs
          exact (h7 (hor.resolve_right (fun e => e rfl))).1 hcn
        · exact h5 c hcn hcs
      refine ⟨fun hf => ?_, fun hf hs => ?_, fun hs hbed => ?_⟩
      · obtain ⟨hfs, hfc', hfb⟩ := (hall c hc).1 hf
        have hsame := hcell (by
          by_cases hcs : c = spareOf (cellBed n)
          · exact .inl (by rw [← hcs, hfs]; nofun)
          · exact .inr hcs)
        rw [State.showsTestFailed, hsame]
        exact ⟨hfs, hfc', hbit hfb⟩
      · rw [hcell (.inr fun e => by rw [e, isSpareCell_spareOf] at hs; cases hs)]
        exact (hall c hc).2.1 hf hs
      · have hcs : c ≠ spareOf (cellBed n) := fun e => by
          have := hbed f hfm
          rw [e, spareOf_cellBed, hfc] at this
          omega
        rw [hcell (.inr hcs)]
        exact (hall c hc).2.2 hs hbed
  next => exact h

/-- The self-test of every cell: those that pass are FREE or SPARE, those that fail are FAILED with cause 1 (R74). -/
theorem selftestComplete_spec {s : State} (failed : List (BitVec 9)) (hrun : s.phase = .running) (hcmds : s.cmds = [])
    (hsub : s.substs = []) (hself : ∀ c < 408, (s.cell c).state = .selftest) :
    ∃ u, exec (.selftestComplete failed) s = .next u ∧ Replaced failed s u := by
  have h0 : Tested failed s 0 s := ⟨hcmds, hsub, rfl, fun _ _ => rfl, fun c hc => absurd hc (Nat.not_lt_zero c)⟩
  have h1 := foldl_range_induction (f := State.endTest failed) (I := Tested failed s) h0 408 fun n u hn hu => hu.step hself hn
  refine ⟨_, exec_selftestComplete failed hrun, ?_⟩
  exact List.foldlRecOn (motive := fun u : State => Replaced failed s u) _ _ h1.replaced
    fun u hu c hc => hu.step (List.mem_range.mp hc)

end Sys2Proof.Machine
end

section
/-! PROOFS. The ends of purges, of lent parts, of substitutions and of kernel loads, and the statement on the events of cells (O34). -/

namespace Sys2Proof.Machine

/-! ### Cells come free -/

/-- No command waits for a cell and no TRL command waits for cells to be purged. -/
def State.freesIdle (s : State) : Prop := (∀ y ∈ s.cmds, y.2.beds = []) ∧ Tab.find? s.wait pgTRL = none

theorem State.cellsFreed_of_idle {s : State} (h : s.freesIdle) : s.cellsFreed = s := by
  obtain ⟨hbeds, hwait⟩ := h
  simp only [State.cellsFreed, State.trlAgain, hwait]
  exact State.lendWaiting_of_idle hbeds

theorem RegsOnly.kload {s u : State} (h : RegsOnly s u) : u.kload = s.kload := by
  obtain ⟨_, _, _, rfl⟩ := h
  rfl

theorem RegsOnly.freesIdle {s u : State} (h : RegsOnly s u) (hi : s.freesIdle) : u.freesIdle := by
  rw [State.freesIdle, h.cmds, h.wait]
  exact hi

/-! ### Faults of cells -/

/-- A hard fault of a cell, by its kind: the cause and the bit of HW_FAULT (Table 03-5). -/
theorem exec_hardFault {s : State} {c : BitVec 9} (hrun : s.phase = .running) (hc : c.toNat < 408) :
    exec (.hardFault c .regFile) s = .next (s.hardFault c.toNat 2 0) ∧ exec (.hardFault c .accBank) s = .next (s.hardFault c.toNat 3 1) ∧
      exec (.hardFault c .scratch) s = .next (s.hardFault c.toNat 4 2) ∧ exec (.hardFault c .bindCpl) s = .next (s.hardFault c.toNat 5 3) := by
  have h : ∀ k, exec (.hardFault c k) s = execHardFault c k s := fun _ => rfl
  have hg : (decide (c.toNat ≥ 408) || s.phase != .running) = false := by
    rw [hrun, bne_self_eq_false, Bool.or_false, decide_eq_false (Nat.not_le.mpr hc)]
  simp only [h, execHardFault, hg, Bool.false_eq_true, if_false, true_and]

theorem exec_heartbeatMissed {s : State} {c : BitVec 9} (hrun : s.phase = .running) (hc : c.toNat < 408) :
    exec (.heartbeatMissed c) s = .next (s.hardFault c.toNat 6 4) := by
  change execHeartbeatMissed c s = _
  rw [execHeartbeatMissed, hrun, bne_self_eq_false, Bool.or_false, decide_eq_false (Nat.not_le.mpr hc)]
  rfl

theorem exec_bindingCheck_of_ok {s : State} {c : BitVec 9} (h : (s.cell c.toNat).bindOk = true) :
    exec (.bindingCheck c) s = .next s := by
  change execBindingCheck c s = _
  simp only [execBindingCheck, h, Bool.or_true, if_true]

theorem exec_bindingCheck_of_bad {s : State} {c : BitVec 9} (hrun : s.phase = .running) (hc : c.toNat < 408)
    (hb : (s.cell c.toNat).state = .bound) (h : (s.cell c.toNat).bindOk = false) :
    exec (.bindingCheck c) s = .next (s.hardFault c.toNat 5 3) := by
  change execBindingCheck c s = _
  simp only [execBindingCheck, h, hb, hrun, bne_self_eq_false, decide_eq_false (Nat.not_le.mpr hc)]
  rfl

/-! ### The end of a purge and of a lent part (R79, R80) -/

theorem purgeComplete_spec {s : State} {c : BitVec 9} (hrun : s.phase = .running) (hp : (s.cell c.toNat).state = .purging)
    (hidle : s.freesIdle) :
    ∃ u, exec (.purgeComplete c) s = .next u ∧
      u.cell c.toNat = { (s.cell c.toNat).purged .free with cause := (s.cell c.toNat).cause } ∧
      (∀ e ∈ u.tlb, e.cell ≠ some c.toNat) ∧ (∀ d, d ≠ c.toNat → u.cell d = s.cell d) ∧ u.mem = s.mem := by
  let y : Cell := { (s.cell c.toNat).purged .free with cause := (s.cell c.toNat).cause }
  let s1 : State := (s.setCell c.toNat y).dropCellTlb c.toNat
  have hexec : exec (.purgeComplete c) s = .next (s1.dropJob (bwJob (s.cell c.toNat).bind)).cellsFreed := by
    change execPurgeComplete c s = _
    simp only [execPurgeComplete, hp, hrun, bne_self_eq_false, Bool.or_self, Bool.false_eq_true, if_false]
    rfl
  obtain ⟨j, hj⟩ := s1.dropJob_frame (bwJob (s.cell c.toNat).bind)
  rw [hj, State.cellsFreed_of_idle (s := { s1 with jobs := j }) hidle] at hexec
  refine ⟨_, hexec, s.cell_setCell_self c.toNat y, fun e he => ?_, fun d hd => s.cell_setCell_ne y hd, rfl⟩
  simpa using (List.mem_filter.mp he).2

theorem lentPartDone_spec {s : State} {c : BitVec 9} (hl : (s.cell c.toNat).state = .lent)
    (hend : ∀ k, (s.cell c.toNat).cmd.bind s.cmd? = some k → k.phase = .record ∨ k.phase = .posting) :
    ∃ u, exec (.lentPartDone c) s = .next u ∧ u.cell c.toNat = (s.cell c.toNat).startPurge ∧
      (u.cell c.toNat).state = .purging ∧ (∀ d, d ≠ c.toNat → u.cell d = s.cell d) ∧ u.mem = s.mem := by
  let y : Cell := (s.cell c.toNat).startPurge
  have hself : ((s.setCell c.toNat y).dropCellTlb c.toNat).cell c.toNat = y := s.cell_setCell_self c.toNat y
  refine ⟨(s.setCell c.toNat y).dropCellTlb c.toNat, ?_, hself, congrArg Cell.state hself, fun d hd => s.cell_setCell_ne y hd, rfl⟩
  change execLentPartDone c s = _
  cases hk : (s.cell c.toNat).cmd.bind s.cmd? with
  | none => simp only [execLentPartDone, hl, hk, bne_self_eq_false, Bool.not_true, Bool.or_self, Bool.false_eq_true, if_false, y]
  | some k =>
    have hk' : (k.phase == .record || k.phase == .posting) = true := by
      simpa only [Bool.or_eq_true, beq_iff_eq] using hend k hk
    simp only [execLentPartDone, hl, hk, hk', bne_self_eq_false, Bool.not_true, Bool.or_self, Bool.false_eq_true, if_false, y]

/-! ### Contexts (R63) -/

/-- The context of a thread becomes resident, and the swap is counted. -/
theorem State.giveContext_spec {s : State} {c n : Nat} {y : Thread} (hy : (s.cell c).thread? n = some y) :
    let u := (s.modThread c n (fun t => { t with resident := true })).inc (pgCELL c) 0x050
    (u.cell c).thread? n = some { y with resident := true } ∧ (∀ t, t ≠ n → (u.cell c).thread? t = (s.cell c).thread? t) ∧
      u.mem = s.mem := by
  let x : Cell := (s.cell c).setThread n { y with resident := true }
  rw [State.modThread_of_thread? hy]
  have hr : RegsOnly (s.setCell c x) ((s.setCell c x).inc (pgCELL c) 0x050) := State.count_regsOnly _ _ _ _ _ _
  have hcell : ((s.setCell c x).inc (pgCELL c) 0x050).cell c = x := (hr.cell c).trans (s.cell_setCell_self c x)
  refine ⟨(congrArg (Cell.thread? · n) hcell).trans (Cell.thread?_setThread_self _ _ _), fun t ht => ?_, hr.mem⟩
  exact (congrArg (Cell.thread? · t) hcell).trans (Cell.thread?_setThread_ne _ _ ht)

theorem contextSwap_gives {s : State} {c : BitVec 9} {n : Nat} {y : Thread} (hn : Cell.oldestReady (s.cell c.toNat) = some n)
    (hy : (s.cell c.toNat).thread? n = some y) (hruns : s.cellRuns (s.cell c.toNat) = true)
    (hroom : (s.cell c.toNat).residentCount < 64) :
    ∃ u, exec (.contextSwap c none) s = .next u ∧ (u.cell c.toNat).thread? n = some { y with resident := true } ∧ u.mem = s.mem := by
  obtain ⟨h1, _, h2⟩ := State.giveContext_spec hy
  refine ⟨_, ?_, h1, h2⟩
  change execContextSwap c none s = _
  simp only [execContextSwap, hn, hruns, hroom, Bool.not_true, Bool.false_eq_true, if_false, if_true]

theorem contextSwap_swaps {s : State} {c : BitVec 9} {n : Nat} {y w : Thread} {o : BitVec 10}
    (hn : Cell.oldestReady (s.cell c.toNat) = some n) (hy : (s.cell c.toNat).thread? n = some y)
    (hruns : s.cellRuns (s.cell c.toNat) = true) (hon : o.toNat ≠ n) (hw : (s.cell c.toNat).thread? o.toNat = some w)
    (hout : swapsOut w = true) :
    ∃ u, exec (.contextSwap c (some o)) s = .next u ∧ (u.cell c.toNat).thread? n = some { y with resident := true } ∧
      (u.cell c.toNat).thread? o.toNat = some { w with resident := false } ∧
      (∀ t, t ≠ n → t ≠ o.toNat → (u.cell c.toNat).thread? t = (s.cell c.toNat).thread? t) ∧ u.mem = s.mem := by
  let x : Cell := (s.cell c.toNat).setThread o.toNat { w with resident := false }
  have hx : (s.setCell c.toNat x).cell c.toNat = x := s.cell_setCell_self c.toNat x
  have hy' : ((s.setCell c.toNat x).cell c.toNat).thread? n = some y := by
    rw [hx]
    exact (Cell.thread?_setThread_ne _ _ hon.symm).trans hy
  obtain ⟨h1, h2, h3⟩ := State.giveContext_spec hy'
  refine ⟨_, ?_, h1, ?_, fun t ht hto => ?_, h3⟩
  · change execContextSwap c (some o) s = _
    simp only [execContextSwap, hn, hruns, hw, hout, Bool.not_true, Bool.false_eq_true, if_false, if_true]
    rw [State.modThread_of_thread? hw]
  · rw [h2 _ hon, hx]
    exact Cell.thread?_setThread_self _ _ _
  · rw [h2 t ht, hx]
    exact Cell.thread?_setThread_ne _ _ hto

/-! ### The end of a substitution (R83) -/

theorem State.rd_count_ne (s : State) {p o lo len n q r : Nat} (h : q * 4096 + r ≠ p * 4096 + o) :
    (s.count p o lo len n).rd q r = s.rd q r :=
  s.rd_wr_ne _ h

/-- What the registers show of a spare that has replaced a cell. -/
def State.showSubst (s : State) (bed : Nat) (r : SubstRun) : State :=
  (((((s.spareUsed bed).wr pgTRL 0x068 (BitVec.ofNat 32 (r.failed + 2 ^ 16 * r.spare + 2 ^ 31))).count pgTRL 0x06C 0 8 1).raise
    pgTRL 1).raise (pgCELL r.failed) 2).raise (pgCELL r.spare) 2

theorem State.showSubst_spec (s : State) {bed : Nat} (r : SubstRun) (hb : bed < 32) :
    let u := s.showSubst bed r
    RegsOnly s u ∧ u.bit pgTRL 0x060 bed = true ∧ u.bit pgTRL oIRQS 1 = true ∧
      u.rd pgTRL 0x068 = BitVec.ofNat 32 (r.failed + 2 ^ 16 * r.spare + 2 ^ 31) ∧ u.bit (pgCELL r.failed) oIRQS 2 = true ∧
      u.bit (pgCELL r.spare) oIRQS 2 = true := by
  have hcell : ∀ c, pgTRL * 4096 + 0x068 ≠ pgCELL c * 4096 + oIRQS := fun c => by
    simp only [pgTRL, pgCELL, oIRQS]
    omega
  let s2 : State := (s.spareUsed bed).wr pgTRL 0x068 (BitVec.ofNat 32 (r.failed + 2 ^ 16 * r.spare + 2 ^ 31))
  let s3 : State := s2.count pgTRL 0x06C 0 8 1
  have hused : s3.bit pgTRL 0x060 bed = true := by
    rw [State.bit, State.rd_count_ne _ (by decide), State.rd_wr_off _ _ (by decide)]
    exact s.bit_setFld_one _ _ _ hb
  have hlast : s3.rd pgTRL 0x068 = BitVec.ofNat 32 (r.failed + 2 ^ 16 * r.spare + 2 ^ 31) := by
    rw [State.rd_count_ne _ (by decide), State.rd_wr_self]
  have hr : RegsOnly s s3 :=
    ((s.spareUsed_regsOnly bed).trans (State.wr_regsOnly _ _ _ _)).trans (State.count_regsOnly _ _ _ _ _ _)
  refine ⟨((hr.trans (s3.raise_regsOnly _ _)).trans (State.raise_regsOnly _ _ _)).trans (State.raise_regsOnly _ _ _), ?_, ?_, ?_, ?_, ?_⟩
  · exact State.bit_raise_mono _ (by decide) (State.bit_raise_mono _ (by decide) (State.bit_raise_mono _ (by decide) hused))
  · exact State.bit_raise_mono _ (by decide) (State.bit_raise_mono _ (by decide) (State.bit_raise _ _ _ (by decide)))
  · rw [State.showSubst, State.rd_raise_ne _ (hcell _), State.rd_raise_ne _ (hcell _), State.rd_raise_ne _ (by decide)]
    exact hlast
  · exact State.bit_raise_mono _ (by decide) (State.bit_raise _ _ _ (by decide))
  · exact State.bit_raise _ _ _ (by decide)

theorem exec_substitutionComplete {s : State} (hrun : s.phase = .running) (bed : BitVec 5) (pass : Bool) :
    exec (.substitutionComplete bed pass) s = .next (s.substDone bed.toNat pass) := by
  change execSubstitutionComplete bed pass s = _
  simp only [execSubstitutionComplete, hrun, bne_self_eq_false, Bool.false_eq_true, if_false]

section
variable {s : State} {bed : Nat} {r : SubstRun} (hr : s.substs.find? (fun y => cellBed y.spare == bed) = some r)
  (hidle : s.freesIdle) (hby : r.byCmd = true) (hbed : bed < 32)
include hr hidle hby hbed

/-- A spare that passes its self-test takes on the binding of a BOUND cell or is FREE. -/
theorem State.substDone_pass :
    let u := s.substDone bed true
    (u.cell r.spare).state = (if r.toBound then .bound else .free) ∧
      (r.toBound = true → (u.cell r.spare).bind = r.bind ∧ (u.cell r.spare).bindOk = true) ∧
      Answered u pgTRL 0 ∧ u.bit pgTRL 0x060 bed = true ∧ u.bit pgTRL oIRQS 1 = true ∧
      u.rd pgTRL 0x068 = BitVec.ofNat 32 (r.failed + 2 ^ 16 * r.spare + 2 ^ 31) ∧
      u.bit (pgCELL r.failed) oIRQS 2 = true ∧ u.bit (pgCELL r.spare) oIRQS 2 = true ∧
      (∀ d, d ≠ r.spare → u.cell d = s.cell d) ∧ u.mem = s.mem := by
  let y : Cell := if r.toBound then { (s.cell r.spare).purged .bound with bind := r.bind, bindC := ~~~r.bind }
    else (s.cell r.spare).purged .free
  let s1 : State := { s with substs := s.substs.filter (fun y => y.spare != r.spare) }
  obtain ⟨hregs, h060, hirq, h068, hfailed, hspare⟩ := (s1.setCell r.spare y).showSubst_spec r hbed
  have hu : s.substDone bed true = (((s1.setCell r.spare y).showSubst bed r).trlDone 0 0).cellsFreed := by
    simp only [State.substDone, hr, hby, if_true]
    rfl
  have hdone := hregs.trans (State.trlDone_regsOnly _ 0 0)
  rw [State.cellsFreed_of_idle (hdone.freesIdle (s := s1.setCell r.spare y) hidle)] at hu
  rw [hu]
  generalize (s1.setCell r.spare y).showSubst bed r = t at hdone h060 hirq h068 hfailed hspare
  have hself : (t.trlDone 0 0).cell r.spare = y := (hdone.cell _).trans (s1.cell_setCell_self _ _)
  have hcellBit : ∀ c, t.bit (pgCELL c) oIRQS 2 = true → (t.trlDone 0 0).bit (pgCELL c) oIRQS 2 = true := fun c =>
    State.bit_trlDone_mono _ (by simp only [pgTRL, pgCELL, oIRQS]; omega)
  refine ⟨?_, fun hb => ?_, State.trlDone_answered _ _ (by decide), State.bit_trlDone_mono _ (by decide) h060,
    State.bit_trlDone_mono _ (by decide) hirq, (State.rd_trlDone_ne _ (by decide) (by decide)).trans h068, hcellBit _ hfailed,
    hcellBit _ hspare, fun d hd => (hdone.cell d).trans (s1.cell_setCell_ne y hd), hdone.mem⟩
  · rw [hself]
    simp only [y]
    split <;> rfl
  · rw [hself]
    simp only [y, hb, if_true, Cell.bindOk, beq_self_eq_true, and_self]

/-- A spare that fails its self-test is FAILED, and its bed is reduced. -/
theorem State.substDone_fail :
    let u := s.substDone bed false
    (u.cell r.spare).state = .failed ∧ (u.cell r.spare).cause = 1 ∧ Answered u pgTRL 0x09 ∧ u.bit pgTRL 0x060 bed = true ∧
      u.bit pgTRL 0x064 bed = true ∧ u.mem = s.mem := by
  let y : Cell := { (s.cell r.spare).purged .failed with cause := 1 }
  let s1 : State := { s with substs := s.substs.filter (fun y => y.spare != r.spare) }
  let s2 : State := ((s1.setCell r.spare y).noteFault r.spare 5).spareUsed bed
  obtain ⟨⟨t, j, ht, hj⟩, h064, _, hmono⟩ := s2.loseCell_spec (if r.toBound then some r.bind else none) hbed
  have hu : s.substDone bed false = ((s2.loseCell bed (if r.toBound then some r.bind else none)).trlDone 9 0).cellsFreed := by
    simp only [State.substDone, hr, hby, Bool.false_eq_true, if_false, if_true]
    rfl
  have h060 := hmono pgTRL 0x060 bed (State.bit_setFld_one _ _ _ _ hbed)
  have hregs : RegsOnly (s1.setCell r.spare y) t :=
    ((State.noteFault_regsOnly _ _ _).trans (State.spareUsed_regsOnly _ _)).trans ht
  have hdone := State.trlDone_regsOnly { t with jobs := j } 9 0
  rw [hj, State.cellsFreed_of_idle (hdone.freesIdle (hregs.freesIdle (s := s1.setCell r.spare y) hidle))] at hu
  rw [hu]
  rw [hj] at h060 h064
  have hself : (({ t with jobs := j } : State).trlDone 9 0).cell r.spare = y :=
    (hdone.cell _).trans ((hregs.cell _).trans (s1.cell_setCell_self _ _))
  exact ⟨congrArg Cell.state hself, congrArg Cell.cause hself, State.trlDone_answered _ _ (by decide),
    State.bit_trlDone_mono _ (by decide) h060, State.bit_trlDone_mono _ (by decide) h064, hdone.mem.trans hregs.mem⟩

end

/-! ### A part that finds no cell, and the image of a kernel (R79, R91) -/

theorem exec_noCellsTimeout {s : State} {id : Nat} {k : Cmd} (hk : s.cmd? id = some k) (hp : k.phase = .running) (hb : k.beds ≠ [])
    (hno : s.boundCells k.job = []) (hfree : s.cellsIn .free = []) :
    exec (.noCellsTimeout id) s = .next (s.finish id 0x0A [] 0) := by
  change execNoCellsTimeout id s = _
  have hg : ((k.phase != .running && k.phase != .ranked) || k.beds.isEmpty || !(s.boundCells k.job).isEmpty ||
      !(s.cellsIn .free).isEmpty) = false := by
    simp [hp, hb, hno, hfree]
  simp only [execNoCellsTimeout, hk, hg, Bool.false_eq_true, if_false]
  rfl

/-- The image of a kernel fills its slot, and its hash shows. -/
theorem kloadComplete_spec {s s1 s2 : State} {k : KLoadRun} {ps : List EngPiece} {d : Bytes} (hrun : s.phase = .running)
    (hk : s.kload = some k) (hf : k.fault = none)
    (hreach : s.engReach (s.kloadReq k) rightX false (cutAll [(k.tva.toNat, k.len)]) = (.ok ps, s1))
    (hread : s1.engReadPieces k.tva.toNat ps = (.ok d, s2)) :
    ∃ u, exec .kloadComplete s = .next u ∧ u.kload = none ∧
      Tab.find? u.kslots k.slot = some { job := k.job, image := d, hash := BitVec.ofNat 512 (leNat (sha512 d)) } ∧
      (∀ j, j ≠ k.slot → Tab.find? u.kslots j = Tab.find? s2.kslots j) ∧ Answered u pgTRL 0 ∧
      u.fld pgTRL 0x054 16 16 = k.slot % 65536 ∧ u.mem = s2.mem ∧
      ∀ i < 16, (u.rd pgTRL (0x080 + 4 * i)).toNat = leNat (((sha512 d).drop (4 * i)).take 4) := by
  let x : KSlot := { job := k.job, image := d, hash := BitVec.ofNat 512 (leNat (sha512 d)) }
  let s3 : State := { s2 with kload := none, kslots := Tab.put s2.kslots k.slot x }
  let u : State := (s3.showHash (sha512 d)).trlDone 0 k.slot
  have hr : RegsOnly s3 u := (State.showHash_regsOnly _ _).trans (State.trlDone_regsOnly _ _ _)
  refine ⟨u, ?_, hr.kload, ?_, fun j hj => ?_, State.trlDone_answered _ _ (by decide), State.trlDone_result _ _ _, hr.mem,
    fun i hi => ?_⟩
  · change execKloadComplete s = _
    simp only [execKloadComplete, hk, hf, hrun, hreach, hread, Option.isSome_none, bne_self_eq_false, Bool.or_self,
      Bool.false_eq_true, if_false]
    rfl
  · rw [hr.kslots]
    exact Tab.find?_put_self _ _ _
  · rw [hr.kslots]
    exact Tab.find?_put_ne _ _ hj
  · rw [State.rd_trlDone_ne _ (by simp only [pgTRL]; omega) (by simp only [pgTRL, oIRQS]; omega)]
    exact s3.rd_showHash _ hi

/-! ### The statement -/

/-- Settles O34: the self-test by an induction over the cells, every other event by the lemma that says what it leaves. -/
theorem cellEventsTakeEffect : Obligations.CellEventsTakeEffect := by
  intro s hrun idle
  refine ⟨?selftest, ?cell, ?subst, ?noCells, ?kload⟩
  case selftest =>
    intro failed hcmds hsub hself
    obtain ⟨u, hu, _, hmem, hall⟩ := selftestComplete_spec failed hrun hcmds hsub hself
    refine ⟨u, hu, hmem, fun c hc => ?_⟩
    obtain ⟨hfail, hfree, hspare⟩ := hall c hc
    refine ⟨fun hno hs => hfree ?_ hs, hspare, fun hex => hfail (testFailed_iff.mpr hex)⟩
    rw [Bool.eq_false_iff, Ne, testFailed_iff]
    rintro ⟨f, hf, hfc⟩
    exact hno f hf hfc
  case cell =>
    intro c hc x sp up fails
    have hfails : ∀ i cause bit, bit < 32 → exec i s = .next (s.hardFault c.toNat cause bit) → fails i cause bit :=
      fun i cause bit hbit hexec hup hcmd hops hidle => ⟨_, hexec, State.hardFault_spec cause hbit hc hup hcmd hops hidle.1⟩
    obtain ⟨hreg, hacc, hscr, hbind⟩ := exec_hardFault hrun hc
    refine ⟨hfails _ _ _ (by decide) hreg, hfails _ _ _ (by decide) hacc, hfails _ _ _ (by decide) hscr, hfails _ _ _ (by decide) hbind,
      hfails _ _ _ (by decide) (exec_heartbeatMissed hrun hc), exec_bindingCheck_of_ok,
      fun hb hbad => hfails _ _ _ (by decide) (exec_bindingCheck_of_bad hrun hc hb hbad), fun hst _ hops => ?_,
      purgeComplete_spec hrun, lentPartDone_spec, fun n y hn hy hruns => ⟨contextSwap_gives hn hy hruns,
        fun o w hon hw hres hout => contextSwap_swaps hn hy hruns hon hw ?_⟩⟩
    · exact ⟨_, exec_heartbeatMissed hrun hc, State.hardFault_of_spare 6 4 hc hst hops⟩
    · rcases hout with h | h <;> simp only [swapsOut, hres, h, Bool.and_self]
  case subst =>
    intro bed r hr hidle hby _ _ _
    have hbed : bed.toNat < 32 := bed.isLt
    exact ⟨⟨_, exec_substitutionComplete hrun bed true, State.substDone_pass hr hidle hby hbed⟩,
      ⟨_, exec_substitutionComplete hrun bed false, State.substDone_fail hr hidle hby hbed⟩⟩
  case noCells => exact fun id k => exec_noCellsTimeout
  case kload => exact fun k ps s1 d s2 => kloadComplete_spec hrun

end Sys2Proof.Machine
end

section
/-! PROOFS. KERNEL and the transfer commands (O39). -/

namespace Sys2Proof.Machine

/-! ### An operation of an engine command -/

theorem State.finish_eq_finish1 {s : State} (id : Nat) {st : Nat} (r : Bytes) (mv : Nat) (h : st = 0 ∨ s.coll = []) :
    s.finish id st r mv = s.finish1 id st r mv := by
  rcases h with rfl | h
  · exact s.finish_zero id r mv
  · exact State.finish_of_noColl h id st r mv

/-- A command in execution ends alone: with OK, or while no collective slot is in use. -/
theorem State.finish_ended {s : State} {id st : Nat} {c : Cmd} (r : Bytes) (mv : Nat) (hc : s.cmd? id = some c)
    (hp : c.phase = .running) (hst : st ≠ cstJournal) (h : st = 0 ∨ s.coll = []) :
    Ended (s.finish id st r mv) id st r ∧ (s.finish id st r mv).mem = s.mem := by
  rw [State.finish_eq_finish1 id r mv h]
  obtain ⟨cm, xf, cl, hf, _⟩ := s.finish1_frame id r mv hst
  refine ⟨State.finish1_ended r mv hc (by rw [hp]; exact ⟨nofun, nofun⟩) hst, ?_⟩
  rw [hf]

section
variable {s : State} {id op : Nat} {c : Cmd}

theorem State.runs_iff : s.runs id op c = true ↔
    s.cmd? id = some c ∧ c.phase = .running ∧ c.opcode = op ∧ c.fault = none ∧ c.beds = [] ∧ s.phase = .running := by
  simp [State.runs, and_assoc]

theorem State.runOp_of_runs (h : s.runs id op c = true) (f : State → Cmd → OpRes × State) :
    s.runOp id op f = (f s c).2.opEnd id (f s c).1 := by
  obtain ⟨hc, hp, hop, hf, hb, hrun⟩ := State.runs_iff.mp h
  simp only [State.runOp, hc, hp, hop, hf, hb, hrun, bne_self_eq_false, Option.isSome_none, List.isEmpty_nil, Bool.not_true,
    Bool.or_self, Bool.false_eq_true, if_false]

/-- An operation that goes on leaves the command in execution. -/
theorem State.runOp_waits (h : s.runs id op c = true) {f : State → Cmd → OpRes × State} {u : State} (hf : f s c = (.stop .wait, u)) :
    s.runOp id op f = u := by
  rw [State.runOp_of_runs h, hf]
  rfl

/-- An operation that ends its command with a status and a result. -/
theorem State.runOp_ends (h : s.runs id op c = true) {f : State → Cmd → OpRes × State} {st mv : Nat} {r out : Bytes}
    (hf : f s c = (.done st r mv out, s)) (hst : st ≠ cstJournal) (hcoll : st = 0 ∨ s.coll = []) :
    Ended (s.runOp id op f) id st r ∧ (s.runOp id op f).mem = s.mem := by
  obtain ⟨hc, hp, _⟩ := State.runs_iff.mp h
  rw [State.runOp_of_runs h, hf]
  simp only [State.opEnd, hc]
  exact State.finish_ended (s := s.putCmd id { c with out := out }) r mv (Tab.find?_put_self _ _ _) hp hst hcoll

end

/-! ### KERNEL (R182, R183) -/

/-- A thread of a KERNEL at its start. -/
def startThread (entry since t : Nat) : Thread := { pc := BitVec.ofNat 24 entry, resident := decide (t < 64), since := since }

theorem Tab.find?_map_mk {α : Type} (g : Nat → α) (l : List Nat) (k : Nat) :
    Tab.find? (l.map (fun n => (n, g n))) k = if k ∈ l then some (g k) else none := by
  induction l with
  | nil => rfl
  | cons a l ih =>
    by_cases h : a = k
    · simp [Tab.find?, h]
    · simp [Tab.find?, ih, h, Ne.symm h]

theorem find?_startThreads (groups entry since t : Nat) :
    Tab.find? (startThreads groups entry since) t = if t < 64 * groups then some (startThread entry since t) else none := by
  have h := Tab.find?_map_mk (startThread entry since) (List.range (64 * groups)) t
  simp only [List.mem_range] at h
  exact h

/-- A cell begins to run a KERNEL. -/
def kernelCell (id entry since : Nat) (args : Bytes) (x : Cell) : Cell :=
  { x with cmd := some id, scratch := putBytes x.scratch 0 args, threads := startThreads (bwGroups x.bind) entry since }

section
variable {s : State} {id : Nat} {c : Cmd}

theorem State.startKernel_eq (entry : Nat) :
    ∃ n j, s.startKernel id c entry =
      { s.modCells (fun _ => kernelCell id entry s.nextOrder ((c.desc.drop 0x28).take 64)) ((s.boundCells c.job).map (fun n => (n, 0))) with
        nextOrder := n, jobs := j } := by
  have hfold : (s.boundCells c.job).foldl
        (fun u n => u.modCell n (kernelCell id entry u.nextOrder ((c.desc.drop 0x28).take 64))) s =
      s.modCells (fun _ => kernelCell id entry s.nextOrder ((c.desc.drop 0x28).take 64))
        ((s.boundCells c.job).map (fun n => (n, 0))) := by
    rw [State.modCells, List.foldl_map]
    refine foldl_congr_of_kept (P := fun u : State => u.nextOrder = s.nextOrder) (fun u n hu => ?_) (fun u n hu => ?_) _ _ rfl
    · rw [hu]
    · exact hu
  rw [← hfold]
  exact ⟨_, _, rfl⟩

/-- What KERNEL starts: its threads and ARGS on every BOUND cell of the job. -/
theorem State.startKernel_spec (entry : Nat) (hlen : c.desc.length = 128) (hnodup : (s.boundCells c.job).Nodup) :
    let u := s.startKernel id c entry
    u.mem = s.mem ∧ u.cmds = s.cmds ∧ (∀ n, n ∉ s.boundCells c.job → u.cell n = s.cell n) ∧
      ∀ n ∈ s.boundCells c.job,
        let x := u.cell n
        x.cmd = some id ∧ x.bind = (s.cell n).bind ∧
        (∀ t < 64 * bwGroups x.bind, ∃ th, x.thread? t = some th ∧ th.pc = BitVec.ofNat 24 entry ∧ th.run = .ready ∧
          th.resident = decide (t < 64)) ∧
        (∀ t, 64 * bwGroups x.bind ≤ t → x.thread? t = none) ∧
        (∀ b, scratchByte x b = if b < 64 then c.desc.getD (0x28 + b) 0 else scratchByte (s.cell n) b) := by
  obtain ⟨o, j, hu⟩ := State.startKernel_eq (s := s) (id := id) (c := c) entry
  generalize hargs : (c.desc.drop 0x28).take 64 = args at hu
  generalize hl : (s.boundCells c.job).map (fun n => (n, 0)) = l at hu
  have hkeys : l.map (·.1) = s.boundCells c.job := by
    rw [← hl, List.map_map]
    exact List.map_id _
  refine ⟨by rw [hu]; exact s.modCells_mem _ l, by rw [hu]; exact s.modCells_cmds _ l,
    fun n hn => by rw [hu]; exact s.cell_modCells_of_notMem _ (hkeys ▸ hn), fun n hn => ?_⟩
  intro x
  have hx : x = kernelCell id entry s.nextOrder args (s.cell n) := by
    simp only [x, hu]
    exact s.cell_modCells_of_mem (fun _ => kernelCell id entry s.nextOrder args) (hkeys ▸ hnodup) (p := (n, 0))
      (hl ▸ List.mem_map_of_mem hn)
  clear_value x
  subst hx
  have hthread : ∀ t, (kernelCell id entry s.nextOrder args (s.cell n)).thread? t = _ := find?_startThreads _ _ _
  refine ⟨rfl, rfl, fun t ht => ⟨_, (hthread t).trans (if_pos ht), rfl, rfl, rfl⟩, fun t ht => (hthread t).trans (if_neg (Nat.not_lt.mpr ht)),
    fun b => ?_⟩
  have hal : args.length = 64 := by
    rw [← hargs, List.length_take, List.length_drop, hlen]
    rfl
  refine (get_putBytes _ 0 args b).trans ?_
  rw [hal]
  by_cases hb : b < 64
  · rw [if_pos ⟨Nat.zero_le b, by omega⟩, if_pos hb, ← hargs]
    simp [List.getD_eq_getElem?_getD, hb]
  · rw [if_neg (by omega), if_neg hb]
    rfl

/-- The checks of KERNEL, in their order, once the job is free for it. -/
theorem State.kernelOp_of_free (hbefore : s.kernelBefore id c = false)
    (hjob : ((Tab.find? s.jobs c.job.toNat).getD { tenant := c.tenant }).kernel = none) (hsub : ∀ r ∈ s.substs, r.toBound = false) :
    s.kernelOp id c =
      match Tab.find? s.kslots (c.field 0x20 2) with
      | none => (.done 0x0D [] 0 [], s)
      | some k =>
        if k.job != c.job then (.done 0x0D [] 0 [], s)
        else if c.field 0x24 4 ≥ k.image.length then (.done stInvalid [] 0 [], s)
        else if (s.boundCells c.job).isEmpty then (.done cstNoCells [] 0 [], s)
        else if ((Tab.find? s.jobs c.job.toNat).getD { tenant := c.tenant }).replay &&
            !((Tab.find? s.jobs c.job.toNat).getD { tenant := c.tenant }).lost.isEmpty then (.done 0x0C [] 0 [], s)
        else (.stop .wait, s.startKernel id c (c.field 0x24 4)) := by
  have hs : s.substs.any (fun r => r.toBound && bwJob r.bind == c.job) = false := by
    rw [List.any_eq_false]
    intro r hr
    simp [hsub r hr]
  simp only [State.kernelOp, hbefore, hjob, hs, Option.isSome_none, Bool.or_self, Bool.false_eq_true, if_false] <;> rfl

end

/-- KERNEL_TIMEOUT ends the command, and none of its threads is live (R127). -/
theorem kernelTimeout_spec {s : State} {id : Nat} {c : Cmd} (hc : s.cmd? id = some c) (hp : c.phase = .running)
    (ht : c.field 0x68 4 ≠ 0) (hcoll : s.coll = [])
    (hruns : ((Tab.find? s.jobs c.job.toNat).map (fun j => j.kernel == some id)).getD false = true) :
    ∃ u, exec (.kernelTimeout id) s = .next u ∧ Ended u id 0x0F [] ∧ u.mem = s.mem ∧
      ∀ n, (s.cell n).cmd = some id → ∀ y ∈ (u.cell n).threads, y.2.live = false := by
  have hexec : exec (.kernelTimeout id) s = .next ((s.endKernel id).finish id 0x0F [] 0) := by
    change Host.Outcome.next (s.kernelTimeout id) = _
    have ht' : (c.field 0x68 4 == 0) = false := beq_false_of_ne ht
    simp only [State.kernelTimeout, hc, hruns, ht', Bool.not_true, Bool.or_self, Bool.false_eq_true, if_false]
  obtain ⟨hend, hmem⟩ := State.finish_ended (s := s.endKernel id) (st := 0x0F) [] 0 hc hp (by decide) (.inr hcoll)
  refine ⟨_, hexec, hend, hmem, fun n hn => ?_⟩
  obtain ⟨cm, xf, cl, hf, _, _, hcells⟩ := (s.endKernel id).finish1_frame id (st := 0x0F) [] 0 (by decide)
  have hcell : (s.endKernel id).cell n = (s.cell n).endCommand := by rw [State.cell_endKernel, onCommand, if_pos hn]
  rw [State.finish_eq_finish1 (s := s.endKernel id) id [] 0 (.inr hcoll), hf]
  change ∀ y ∈ (Tab.get ({} : Cell) cl n).threads, y.2.live = false
  rcases hcells n with h | ⟨_, _, h⟩
  · rw [h, hcell]
    exact Cell.endCommand_stopped _
  · rw [h]
    exact (Cell.startPurge_beingPurged _).2

/-! ### REMOTE_COPY (R163) -/

theorem State.xfer_setXfer_self (s : State) (id : Nat) (x : Xfer) : (s.setXfer id x).xfer id = x := by
  rw [State.xfer, State.setXfer, Tab.get, Tab.find?_put_self]
  rfl

/-- Asking for further parts leaves the oldest request first. -/
theorem State.copyAsk_keeps_head {id : Nat} {c : Cmd} {o : OwnReq} (fuel : Nat) {s : State} (h : s.own.head? = some o) :
    (s.copyAsk id c fuel).own.head? = some o := by
  induction fuel generalizing s with
  | zero => exact h
  | succ fuel ih =>
    rw [State.copyAsk]
    dsimp only
    split
    · exact h
    · refine ih ?_
      change (s.own ++ [_]).head? = some o
      rw [List.head?_append, h]
      rfl

theorem remoteCopy_starts {s : State} {id : Nat} {c : Cmd} (h : s.runs id 0x20 c = true) (hx : Tab.find? s.xfers id = none) :
    exec (.remoteCopy id) s = .next ((s.setXfer id {}).copyStep id) := by
  change Host.Outcome.next (s.remoteCopy id) = _
  have hhas : Tab.has s.xfers id = false := by rw [Tab.has, hx, Option.isSome_none]
  rw [State.remoteCopy, State.runOp_waits h]
  simp only [hhas, Bool.false_eq_true, if_false]

/-- The first request of REMOTE_COPY asks for the first part of the range. -/
theorem State.copyAsk_first {s : State} {id : Nat} {c : Cmd} (fuel : Nat) (hown : s.own = [])
    (hw : 0 < (s.win (BitVec.ofNat 13 (c.field 0x20 2))).w) (hlen : 0 < c.field 0x38 8) :
    ∃ o, (((s.setXfer id {}).copyAsk id c (fuel + 1)).own.head?) = some o ∧ o.kind = .copyRead id 0 ∧
      o.dest = BitVec.ofNat 13 (c.field 0x20 2) ∧ o.addr = BitVec.ofNat 64 (c.field 0x28 8) ∧
      o.len = (if c.field 0x38 8 < 4096 then c.field 0x38 8 else 4096) := by
  have hxfer : (s.setXfer id {}).xfer id = {} := State.xfer_setXfer_self _ _ _
  have hout : (s.setXfer id {}).copyOut id = 0 := by
    have hown' : (s.setXfer id {}).own = [] := hown
    simp only [State.copyOut, hown', List.filter_nil, List.length_nil]
  have hgo : ¬(decide (({} : Xfer).next ≥ c.field 0x38 8) ||
      decide (0 ≥ ((s.setXfer id {}).win (BitVec.ofNat 13 (c.field 0x20 2))).w)) = true := by
    have hw' : 0 < ((s.setXfer id {}).win (BitVec.ofNat 13 (c.field 0x20 2))).w := hw
    simp only [Bool.or_eq_true, decide_eq_true_eq]
    omega
  rw [State.copyAsk]
  dsimp only
  rw [hxfer, hout, if_neg hgo]
  refine ⟨_, State.copyAsk_keeps_head fuel (congrArg List.head? (congrArg (· ++ _) hown)), rfl, rfl, rfl, rfl⟩

/-! ### RETURN_PAGES (R184, R346) -/

section
variable {s : State} {id : Nat} {c : Cmd}

/-- The pages that a RETURN_PAGES gives back. -/
def State.pagesToReturn (s : State) (c : Cmd) : List Leaf :=
  (s.tree c.tenant).filter (fun l =>
    l.remote && l.resident && c.field 0x20 8 ≤ l.tva.toNat && l.tva.toNat < c.field 0x20 8 + c.field 0x28 8)

theorem exec_returnPages (h : s.runs id 0x41 c = true) (hx : Tab.find? s.xfers id = none)
    (hhi : c.field 0x20 8 + c.field 0x28 8 ≤ 2 ^ 57) :
    exec (.returnPages id) s = .next ((s.setXfer id { pages := (s.pagesToReturn c).map (·.tva) }).returnStep id) := by
  change Host.Outcome.next (s.returnPages id) = _
  have hhas : Tab.has s.xfers id = false := by rw [Tab.has, hx, Option.isSome_none]
  rw [State.returnPages, State.runOp_waits h]
  simp only [hhas, Nat.not_lt.mpr hhi, Bool.false_eq_true, if_false]
  rfl

theorem returnPages_of_none (h : s.runs id 0x41 c = true) (hx : Tab.find? s.xfers id = none)
    (hhi : c.field 0x20 8 + c.field 0x28 8 ≤ 2 ^ 57) (hnone : s.pagesToReturn c = []) :
    ∃ u, exec (.returnPages id) s = .next u ∧ Ended u id 0 (leBytes 8 0) ∧ u.mem = s.mem := by
  obtain ⟨hc, hp, _⟩ := State.runs_iff.mp h
  let s1 : State := s.setXfer id {}
  have hxfer : s1.xfer id = {} := State.xfer_setXfer_self _ _ _
  have hstep : ∃ o, s1.returnStep id = ({ s1 with xfers := Tab.del s1.xfers id, own := o } : State).finish id 0 (leBytes 8 0) 0 := by
    have hc1 : s1.cmd? id = some c := hc
    simp only [State.returnStep, hc1, hxfer, State.endReturn]
    exact ⟨_, rfl⟩
  obtain ⟨o, ho⟩ := hstep
  have hexec := exec_returnPages h hx hhi
  rw [hnone, List.map_nil] at hexec
  refine ⟨_, hexec.trans (congrArg _ ho), ?_⟩
  exact State.finish_ended (s := { s1 with xfers := Tab.del s1.xfers id, own := o }) (leBytes 8 0) 0 hc hp (by decide) (.inl rfl)

theorem returnPages_of_cons (h : s.runs id 0x41 c = true) (hx : Tab.find? s.xfers id = none)
    (hhi : c.field 0x20 8 + c.field 0x28 8 ≤ 2 ^ 57) {l : Leaf} {rest : List Leaf} (hcons : s.pagesToReturn c = l :: rest) :
    ∃ u, exec (.returnPages id) s = .next u ∧ u.shooting (.returnPage id l.tva) = true ∧ (u.xfer id).cur = some l.tva ∧
      (u.xfer id).pages = rest.map (·.tva) ∧ u.cmds = s.cmds ∧ u.mem = s.mem := by
  obtain ⟨hc, _⟩ := State.runs_iff.mp h
  let s1 : State := s.setXfer id { pages := l.tva :: rest.map (·.tva) }
  let x : Xfer := { pages := rest.map (·.tva), cur := some l.tva }
  let d : Shoot := { by_ := .returnPage id l.tva, tenant := some c.tenant, lo := l.tva.toNat, hi := l.tva.toNat + 65536, plots := [] }
  have hstep : s1.returnStep id = (s1.setXfer id x).startShoot d := by
    have hc1 : s1.cmd? id = some c := hc
    have hxfer : s1.xfer id = { pages := l.tva :: rest.map (·.tva) } := State.xfer_setXfer_self _ _ _
    simp only [State.returnStep, hc1, hxfer, x, d]
  have hexec := exec_returnPages h hx hhi
  rw [hcons, List.map_cons] at hexec
  have hself : ((s1.setXfer id x).startShoot d).xfer id = x := State.xfer_setXfer_self _ _ _
  refine ⟨_, hexec.trans (congrArg _ hstep), ?_, congrArg Xfer.cur hself, congrArg Xfer.pages hself, rfl, rfl⟩
  refine List.any_eq_true.mpr ⟨(s1.nextShoot, d), Tab.mem_put_iff.mpr (.inl rfl), beq_self_eq_true _⟩

end

/-! ### The statement -/

/-- Settles O39: each command by the lemma that says how its operation ends or goes on. -/
theorem kernelAndTransferCommands : Obligations.KernelAndTransferCommands := by
  intro s id c
  refine ⟨?kernel, kernelTimeout_spec, ?copy, ?pages, ?mark⟩
  case kernel =>
    intro h entry job hbefore hjob hsub hcoll
    have hop := State.kernelOp_of_free hbefore hjob hsub
    have hends : ∀ st, st ≠ cstJournal → s.kernelOp id c = (.done st [] 0 [], s) →
        ∃ u, exec (.kernel id) s = .next u ∧ Ended u id st [] ∧ u.mem = s.mem := fun st hst he =>
      ⟨_, rfl, State.runOp_ends h (f := fun s c => s.kernelOp id c) he hst (.inr hcoll)⟩
    refine ⟨fun hk => hends 0x0D (by decide) (by rw [hop, hk]), fun k hk => ?_⟩
    rw [hk] at hop
    dsimp only at hop
    have hfails : ∀ st, st ≠ cstJournal → s.kernelOp id c = (.done st [] 0 [], s) →
        ∃ u, exec (.kernel id) s = .next u ∧ Ended u id st [] := fun st hst he => by
      obtain ⟨u, hu, hend, _⟩ := hends st hst he
      exact ⟨u, hu, hend⟩
    refine ⟨fun hj => hends 0x0D (by decide) (hop.trans (if_pos (bne_iff_ne.mpr hj))), fun hj hl => hfails 1 (by decide) ?_,
      fun hj hl hb => hfails 0x0A (by decide) ?_, fun hj hl hb hr hlost => hfails 0x0C (by decide) ?_, fun hj hl hb hr hlen hnodup => ?_⟩
    all_goals rw [hj, bne_self_eq_false, if_neg Bool.false_ne_true] at hop
    · exact hop.trans (if_pos hl)
    · rw [hop, if_neg (Nat.not_le.mpr hl), hb]
      rfl
    · rw [hop, if_neg (Nat.not_le.mpr hl), if_neg (by simpa using hb), if_pos (by simpa using ⟨hr, hlost⟩)]
    · have hready : ¬(job.replay && !job.lost.isEmpty) = true := by
        rcases hr with hr | hr <;> rw [hr] <;> simp
      rw [if_neg (Nat.not_le.mpr hl), if_neg (by simpa using hb), if_neg hready] at hop
      exact ⟨_, congrArg Host.Outcome.next (State.runOp_waits h (f := fun s c => s.kernelOp id c) hop), State.startKernel_spec entry hlen hnodup⟩
  case copy => exact fun h hx hown hw hlen => ⟨remoteCopy_starts h hx, State.copyAsk_first 1023 hown hw hlen⟩
  case pages => exact fun h hx hhi => ⟨returnPages_of_none h hx hhi, fun l rest => returnPages_of_cons h hx hhi⟩
  case mark =>
    exact fun h => ⟨_, rfl, State.runOp_ends h (f := fun s _ => (.done stOK [] 0 [], s)) rfl (by decide) (.inl rfl)⟩

end Sys2Proof.Machine
end


section
/-! PROOFS. Operand fields and the scalar instructions (O4, O6, O8): which words are legal, the integer results of Table 04-6, the
FP32 results, and branches. -/

namespace Sys2Proof.Machine

/-! ### Fields of a word -/

theorem opField_lt (f : BitVec 48) (lo n : Nat) : opField f lo n < 2 ^ n := BitVec.isLt _

theorem extractLsb'_eq_zero_iff (f : BitVec 48) (lo n : Nat) : f.extractLsb' lo n = 0 ↔ opField f lo n = 0 := by
  rw [← BitVec.toNat_inj, opField]
  rfl

theorem zeroFields_cons (f : BitVec 48) (p : Nat × Nat) (l : List (Nat × Nat)) :
    zeroFields f (p :: l) = true ↔ opField f p.1 p.2 = 0 ∧ zeroFields f l = true := by
  simp [zeroFields]

@[simp] theorem zeroFields_nil (f : BitVec 48) : zeroFields f [] = true := rfl

theorem zeroFields_append (f : BitVec 48) (l m : List (Nat × Nat)) :
    zeroFields f (l ++ m) = true ↔ zeroFields f l = true ∧ zeroFields f m = true := by
  simp [zeroFields]

/-- A field is zero when each of its bits is. -/
theorem opField_eq_zero_of_bits {f : BitVec 48} {lo n : Nat} (h : ∀ i, lo ≤ i → i < lo + n → f.getLsbD i = false) :
    opField f lo n = 0 := by
  rw [← extractLsb'_eq_zero_iff]
  refine BitVec.eq_of_getLsbD_eq fun i hi => ?_
  rw [BitVec.getLsbD_extractLsb', h (lo + i) (by omega) (by omega)]
  simp

/-- A word whose bits lie in a mask is one whose fields outside the mask are zero. -/
theorem onlyBits_eq_zeroFields {mask : Nat} (l : List (Nat × Nat)) (s : State) (c : BitVec 9) (t : BitVec 10) (th : Thread)
    (f : BitVec 48) (hm : ∀ i < 48, mask.testBit i = !l.any (fun p => decide (p.1 ≤ i) && decide (i < p.1 + p.2))) :
    onlyBits (s.ctx c t th f) mask = zeroFields f l := by
  rw [Bool.eq_iff_iff]
  constructor
  · intro h
    refine List.all_eq_true.mpr fun p hp => beq_iff_eq.mpr (opField_eq_zero_of_bits fun i hlo hhi => ?_)
    by_cases hi : i < 48
    · have hout : mask.testBit i = false := by
        rw [hm i hi, Bool.not_eq_false', List.any_eq_true]
        exact ⟨p, hp, by simp [hlo, hhi]⟩
      have hb := congrArg (fun n : Nat => n.testBit i) (beq_iff_eq.mp h)
      simpa [Nat.testBit_and, hout, BitVec.testBit_toNat] using hb.symm
    · exact BitVec.getLsbD_of_ge f i (by omega)
  · intro h
    refine onlyBits_of_zeroFields s c t th h fun i hi => ?_
    by_cases hb : mask.testBit i = true
    · exact .inl hb
    · rw [hm i hi, Bool.not_eq_true', Bool.not_eq_false, List.any_eq_true] at hb
      obtain ⟨p, hp, hin⟩ := hb
      exact .inr ⟨p, hp, by simpa using hin⟩

/-- A flag of a word is a bit of it. -/
theorem testBit_ctx (s : State) (c : BitVec 9) (t : BitVec 10) (th : Thread) (f : BitVec 48) (i : Nat) :
    (s.ctx c t th f).f.testBit i = f.getLsbD i := BitVec.testBit_toNat f

/-! ### Scalar integers (R105, R106, Table 04-6) -/

theorem ofInt_toSigned (w : Nat) {n : Nat} (b : BitVec w) (h : b.toNat = n) : toSigned w n = b.toInt := by
  subst h
  have hlt : b.toNat < 2 ^ w := b.isLt
  cases w with
  | zero =>
    have : b.toNat = 0 := by omega
    simp [toSigned, BitVec.toInt, this]
  | succ w =>
    have hmod : ((b.toNat : Int) % 2 ^ (w + 1)) = b.toNat := by exact_mod_cast Nat.mod_eq_of_lt hlt
    rw [toSigned, hmod, Nat.mod_eq_of_lt hlt, BitVec.toInt_eq_toNat_cond, Nat.add_sub_cancel]
    have hp : 2 ^ (w + 1) = 2 * 2 ^ w := Nat.pow_succ'
    split
    · rw [if_neg (by omega)]
    · rw [if_pos (by omega)]

section
variable {s : State} {c : BitVec 9} {t : BitVec 10} {th : Thread} {f : BitVec 48}

/-- The second operand of a row of Table 04-6: the extended immediate or Sb. -/
def aluOperand (th : Thread) (imm : Bool) (f : BitVec 48) : W64 :=
  if imm then
    (if f.extractLsb' 32 2 = 0 then (f.extractLsb' 0 32).signExtend 64
     else if f.extractLsb' 32 2 = 1 then (f.extractLsb' 0 32).setWidth 64 else f.extractLsb' 0 32 ++ (0 : BitVec 32))
  else th.getS (opField f 33 5)

theorem extImm_ctx (s : State) (c : BitVec 9) (t : BitVec 10) (th : Thread) (f : BitVec 48) :
    extImm (s.ctx c t th f) = aluOperand th true f := by
  have hlow : BitVec.ofNat 32 (opField f 0 32) = f.extractLsb' 0 32 := BitVec.ofNat_toNat 32 _
  have h0 : f.extractLsb' 32 2 = 0 ↔ opField f 32 2 = 0 := extractLsb'_eq_zero_iff f 32 2
  have h1 : f.extractLsb' 32 2 = 1 ↔ opField f 32 2 = 1 := by
    rw [← BitVec.toNat_inj, opField]
    rfl
  rw [aluOperand, if_pos rfl, extImm]
  simp only [fldOf_ctx, hlow, h0, h1]
  split
  next h => simp [h]
  next h =>
    rw [if_neg (by omega), if_pos h]
    exact BitVec.ofNat_toNat 64 _
  next hne0 hne1 =>
    rw [if_neg hne0, if_neg hne1]
    refine BitVec.eq_of_toNat_eq ?_
    have := opField_lt f 0 32
    rw [BitVec.toNat_append, BitVec.toNat_ofNat, Nat.mod_eq_of_lt (by omega)]
    simp [opField, Nat.shiftLeft_eq]

/-- A legal word of a row with operands a and b. -/
def aluLegal (imm : Bool) (f : BitVec 48) : Prop :=
  if imm then f.extractLsb' 34 4 = 0 ∧ f.extractLsb' 32 2 ≠ 3 else f.extractLsb' 0 33 = 0

theorem aluBad_two_iff (s : State) (c : BitVec 9) (t : BitVec 10) (th : Thread) (imm : Bool) (f : BitVec 48) :
    aluBad .two imm (s.ctx c t th f) = false ↔ aluLegal imm f := by
  cases imm with
  | false =>
    have hz := onlyBits_eq_zeroFields (mask := mD + mA + mB) [(0, 33)] s c t th f (by decide)
    rw [aluLegal, if_neg Bool.false_ne_true, extractLsb'_eq_zero_iff]
    simp [aluBad, hz, zeroFields]
  | true =>
    have hz := onlyBits_eq_zeroFields (mask := mD + mA + fm 0 34) [(34, 4)] s c t th f (by decide)
    have h3 : f.extractLsb' 32 2 = 3 ↔ opField f 32 2 = 3 := by
      rw [← BitVec.toNat_inj, opField]
      rfl
    rw [aluLegal, if_pos rfl, extractLsb'_eq_zero_iff, Ne, h3]
    simp [aluBad, hz, zeroFields, fldOf_ctx, and_comm]

/-- A row with operands a and b writes its result, or traps ILLEGAL. -/
theorem State.alu_two (h : s.canRun c t th = true) (imm : Bool) (op : W64 → W64 → W64 → W64) {r : W64}
    (hr : op (th.getS (opField f 38 5)) (aluOperand th imm f) (th.getS (opField f 28 5)) = r) :
    (aluLegal imm f → s.alu c t imm f .two op = s.retire c t (th.setS (opField f 43 5) r)) ∧
    (¬aluLegal imm f → s.alu c t imm f .two op = s.trapped c t 0x02 0 0) := by
  refine ⟨fun hl => ?_, fun hl => ?_⟩
  · have hb : (if imm then extImm (s.ctx c t th f) else th.getS (opField f 33 5)) = aluOperand th imm f := by
      cases imm with
      | false => rfl
      | true => exact extImm_ctx s c t th f
    rw [State.alu, State.issue_onThread f _ h ((aluBad_two_iff s c t th imm f).mpr hl) (Thread.setS_pc _ _ _)]
    simp only [ssA, ssB, ssC, ssD, fldOf_ctx, State.ctx_th, hb, hr]
  · rw [State.alu, State.issue_illegal f none _ h]
    exact Bool.not_eq_false _ ▸ mt (aluBad_two_iff s c t th imm f).mp hl

end

/-! The values of Table 04-6 as the rows compute them. -/

theorem mulh_eq (a b : W64) :
    BitVec.ofInt 64 (a.toInt * b.toInt / 2 ^ 64) = (a.signExtend 128 * b.signExtend 128).extractLsb' 64 64 := by
  have hprod : (a.signExtend 128 * b.signExtend 128) = BitVec.ofInt 128 (a.toInt * b.toInt) := by
    rw [← BitVec.ofInt_toInt (x := a.signExtend 128), ← BitVec.ofInt_toInt (x := b.signExtend 128), ← BitVec.ofInt_mul,
      BitVec.toInt_signExtend_of_le (by decide), BitVec.toInt_signExtend_of_le (by decide)]
  rw [hprod]
  refine BitVec.eq_of_toNat_eq ?_
  rw [BitVec.extractLsb'_toNat, BitVec.toNat_ofInt, BitVec.toNat_ofInt, Nat.shiftRight_eq_div_pow]
  generalize a.toInt * b.toInt = x
  omega

theorem mulhu_eq (a b : W64) :
    BitVec.ofNat 64 (a.toNat * b.toNat / 2 ^ 64) = (a.setWidth 128 * b.setWidth 128).extractLsb' 64 64 := by
  have hlt : a.toNat * b.toNat < 2 ^ 64 * 2 ^ 64 := Nat.mul_lt_mul'' a.isLt b.isLt
  refine BitVec.eq_of_toNat_eq ?_
  rw [BitVec.extractLsb'_toNat, BitVec.toNat_mul, BitVec.toNat_setWidth_of_le (by decide), BitVec.toNat_setWidth_of_le (by decide),
    BitVec.toNat_ofNat, Nat.shiftRight_eq_div_pow]
  omega

theorem sdiv_eq_ofInt (a b : W64) : a.sdiv b = BitVec.ofInt 64 (a.toInt.tdiv b.toInt) := by
  refine BitVec.eq_of_toInt_eq ?_
  rw [BitVec.toInt_sdiv, BitVec.toInt_ofInt]

theorem srem_eq_ofInt (a b : W64) : a.srem b = BitVec.ofInt 64 (a.toInt.tmod b.toInt) := by
  rw [← BitVec.toInt_srem, BitVec.ofInt_toInt]

theorem udiv_eq_ofNat (a b : W64) : a.udiv b = BitVec.ofNat 64 (a.toNat / b.toNat) :=
  BitVec.eq_of_toNat_eq (by rw [BitVec.toNat_ofNat, Nat.mod_eq_of_lt (lt_of_le_of_lt (Nat.div_le_self _ _) a.isLt)]; rfl)

theorem umod_eq_ofNat (a b : W64) : a.umod b = BitVec.ofNat 64 (a.toNat % b.toNat) :=
  BitVec.eq_of_toNat_eq (by rw [BitVec.toNat_ofNat, Nat.mod_eq_of_lt (lt_of_le_of_lt (Nat.mod_le _ _) a.isLt)]; rfl)

theorem toNat_mod_64 (b : W64) : b.toNat % 64 = opField64 b 0 6 := by
  rw [opField64, BitVec.extractLsb'_toNat, Nat.shiftRight_zero]

theorem smin_eq_ofInt (a b : W64) : (if a.slt b then a else b) = BitVec.ofInt 64 (min a.toInt b.toInt) := by
  by_cases h : a.toInt < b.toInt
  · rw [if_pos (BitVec.slt_iff_toInt_lt.mpr h), min_eq_left h.le, BitVec.ofInt_toInt]
  · rw [if_neg (mt BitVec.slt_iff_toInt_lt.mp h), min_eq_right (not_lt.mp h), BitVec.ofInt_toInt]

theorem smax_eq_ofInt (a b : W64) : (if a.slt b then b else a) = BitVec.ofInt 64 (max a.toInt b.toInt) := by
  by_cases h : a.toInt < b.toInt
  · rw [if_pos (BitVec.slt_iff_toInt_lt.mpr h), max_eq_right h.le, BitVec.ofInt_toInt]
  · rw [if_neg (mt BitVec.slt_iff_toInt_lt.mp h), max_eq_left (not_lt.mp h), BitVec.ofInt_toInt]

theorem ofNat_toNat_self {w : Nat} (b : BitVec w) : BitVec.ofNat w b.toNat = b := by
  rw [BitVec.ofNat_toNat, BitVec.setWidth_eq]

theorem umin_eq_ofNat (a b : W64) : (if a.ult b then a else b) = BitVec.ofNat 64 (min a.toNat b.toNat) := by
  by_cases h : a.toNat < b.toNat
  · rw [if_pos (BitVec.ult_iff_toNat_lt.mpr h), min_eq_left h.le, ofNat_toNat_self]
  · rw [if_neg (mt BitVec.ult_iff_toNat_lt.mp h), min_eq_right (not_lt.mp h), ofNat_toNat_self]

theorem umax_eq_ofNat (a b : W64) : (if a.ult b then b else a) = BitVec.ofNat 64 (max a.toNat b.toNat) := by
  by_cases h : a.toNat < b.toNat
  · rw [if_pos (BitVec.ult_iff_toNat_lt.mpr h), max_eq_right h.le, ofNat_toNat_self]
  · rw [if_neg (mt BitVec.ult_iff_toNat_lt.mp h), max_eq_left (not_lt.mp h), ofNat_toNat_self]

theorem w64Of_eq {b : Bool} {p : Prop} [Decidable p] (h : b = true ↔ p) : w64Of b = if p then 1 else 0 := by
  rw [w64Of]
  exact if_congr h rfl rfl

/-- Settles O4: each row is the shape with operands a and b, and its operation gives the value of Table 04-6. -/
theorem scalarIntegerResults : Obligations.ScalarIntegerResults := by
  intro s c t th imm f h legal d a low b
  have row {i : Instr} {r : W64} (op : W64 → W64 → W64 → W64) (hi : exec i s = .next (s.alu c t imm f .two op))
      (hr : op a b (th.getS (opField f 28 5)) = r) :
      (legal → exec i s = .next (s.retire c t (th.setS d r))) ∧ (¬legal → exec i s = .next (s.trapped c t 0x02 0 0)) := by
    obtain ⟨hret, hill⟩ := State.alu_two h imm op hr
    exact ⟨fun hl => hi.trans (congrArg _ (hret hl)), fun hl => hi.trans (congrArg _ (hill hl))⟩
  have div0 {r q : W64} (x : W64) (hq : q = r) : (if b == 0 then x else q) = if b = 0 then x else r := by
    rw [hq]
    exact if_congr beq_iff_eq rfl rfl
  simp only [List.forall_mem_cons, List.not_mem_nil, false_imp_iff, implies_true, and_true]
  exact ⟨row _ rfl rfl, row _ rfl rfl, row _ rfl rfl, row _ rfl (mulh_eq a b), row _ rfl (mulhu_eq a b),
    row _ rfl (div0 _ (sdiv_eq_ofInt a b)), row _ rfl (div0 _ (udiv_eq_ofNat a b)), row _ rfl (div0 _ (srem_eq_ofInt a b)),
    row _ rfl (div0 _ (umod_eq_ofNat a b)), row _ rfl rfl, row _ rfl rfl, row _ rfl rfl,
    row _ rfl (congrArg (a <<< ·) (toNat_mod_64 b)), row _ rfl (congrArg (a >>> ·) (toNat_mod_64 b)),
    row _ rfl (congrArg a.sshiftRight (toNat_mod_64 b)), row _ rfl (smin_eq_ofInt a b), row _ rfl (smax_eq_ofInt a b),
    row _ rfl (umin_eq_ofNat a b), row _ rfl (umax_eq_ofNat a b), row _ rfl (w64Of_eq BitVec.slt_iff_toInt_lt),
    row _ rfl (w64Of_eq BitVec.ult_iff_toNat_lt), row _ rfl (w64Of_eq beq_iff_eq)⟩

end Sys2Proof.Machine
end

section
/-! PROOFS. Scalar FP32 (O6): the value of a code rounds to the code itself, and the rows of Table 04-6 that write a rounded result. -/

namespace Sys2Proof.Machine

/-! ### The code of an FP32 value (R138, R151) -/

@[simp] theorem Val.isNan_eq_true_iff (v : Val) : v.isNan = true ↔ v = .nan := by
  cases v <;> simp [Val.isNan]

@[simp] theorem Val.isNan_eq_false_iff (v : Val) : v.isNan = false ↔ v ≠ .nan := by
  cases v <;> simp [Val.isNan]

/-- A code of FP32 as sign, exponent and fraction. -/
theorem fp32_parts {c : Nat} (hc : c < 2 ^ 32) :
    c = ofBool (c.testBit 31) * 2 ^ 31 + fieldOf c 23 8 * 2 ^ 23 + fieldOf c 0 23 := by
  have hb : ofBool (c.testBit 31) = c / 2 ^ 31 := by
    have h1 : c / 2 ^ 31 < 2 := by omega
    rw [Nat.testBit_eq_decide_div_mod_eq, ofBool, Nat.mod_eq_of_lt h1]
    split
    next h => simpa using (of_decide_eq_true h).symm
    next h =>
      have : ¬c / 2 ^ 31 = 1 := by simpa using h
      omega
  rw [hb, fieldOf, fieldOf, Nat.shiftRight_eq_div_pow, Nat.shiftRight_zero]
  omega

theorem decodeFloat_fp32 (c : Nat) : decodeFloat (ffmt 0) c =
    if fieldOf c 23 8 = 255 then (if fieldOf c 0 23 = 0 then .inf (c.testBit 31) else .nan)
    else if fieldOf c 23 8 = 0 then .fin (c.testBit 31) (fieldOf c 0 23) (-149)
    else .fin (c.testBit 31) (2 ^ 23 + fieldOf c 0 23) ((fieldOf c 23 8 : Int) - 150) := by
  have he : ∀ x : Int, x - 127 - 23 = x - 150 := fun x => by omega
  by_cases h1 : fieldOf c 23 8 = 255
  · by_cases h2 : fieldOf c 0 23 = 0 <;> simp [decodeFloat, ffmt, h1, h2]
  · simp [decodeFloat, ffmt, h1, FFmt.emin, he]

/-- A magnitude that FP32 holds at its own exponent is kept as it is. -/
theorem roundTo_fp32_exact {neg : Bool} {m : Nat} {e : Int} (rm : Rm)
    (hr : roundFloat (ffmt 0) rm neg m e = ⟨m, e, false, false⟩) :
    roundTo 0 rm false (.fin neg m e) = (encodeMag (ffmt 0) neg m e, 0) := by
  simp only [roundTo, hr, Bool.false_eq_true, if_false]
  exact Prod.ext_iff.mpr ⟨rfl, by simp [roundFlags, flIf]⟩

theorem cmpPow_le_max_fp32 {m : Nat} {e : Int} (hm : m < 2 ^ 24) (he : e ≤ 104) : cmpPow m e 16777215 104 ≠ .gt := by
  rw [cmpPow, if_pos he, Ne, Nat.compare_eq_gt, not_lt]
  calc m ≤ 16777215 * 1 := by omega
    _ ≤ _ := Nat.mul_le_mul_left _ Nat.one_le_two_pow

theorem roundAt_self (rm : Rm) (neg : Bool) (m : Nat) (e : Int) : roundAt rm neg m e e = (m, false) := by
  simp [roundAt]

theorem roundFloat_fp32_subnormal (rm : Rm) (neg : Bool) {m : Nat} (hm : m < 2 ^ 23) :
    roundFloat (ffmt 0) rm neg m (-149) = ⟨m, -149, false, false⟩ := by
  by_cases h0 : m = 0
  · subst h0
    rfl
  · have hlead : ((msb m : Nat) : Int) + -149 < -126 := by
      have := (Nat.log2_lt h0).mpr hm
      rw [msb]
      omega
    simp [roundFloat, h0, ffmt, FFmt.emin, hlead, roundAt_self, cmpPow_le_max_fp32 (show m < 2 ^ 24 by omega)]

theorem roundFloat_fp32_normal (rm : Rm) (neg : Bool) {m ex : Nat} (hm : 2 ^ 23 ≤ m) (hm' : m < 2 ^ 24) (h0 : ex ≠ 0)
    (hex : ex < 255) : roundFloat (ffmt 0) rm neg m ((ex : Int) - 150) = ⟨m, (ex : Int) - 150, false, false⟩ := by
  have hne : m ≠ 0 := by omega
  have hmsb : msb m = 23 := (Nat.log2_eq_iff hne).mpr ⟨hm, hm'⟩
  have hlead : ¬((23 : Int) + ((ex : Int) - 150) < -126) := by omega
  have hq : (23 : Int) + ((ex : Int) - 150) - 23 = (ex : Int) - 150 := by omega
  simp [roundFloat, hne, ffmt, FFmt.emin, hmsb, hlead, hq, roundAt_self,
    cmpPow_le_max_fp32 hm' (show (ex : Int) - 150 ≤ 104 by omega)]

/-- The encoding of a magnitude below 2^p. -/
theorem encodeMag_of_ne {fm : FFmt} (neg : Bool) {k : Nat} (q : Int) (h : k ≠ 2 ^ fm.p) :
    encodeMag fm neg k q = ofBool neg * 2 ^ (fm.ebits + fm.mbits) +
      if k < 2 ^ fm.mbits then k else (q + fm.mbits + fm.bias).toNat * 2 ^ fm.mbits + (k - 2 ^ fm.mbits) := by
  simp only [encodeMag, beq_eq_false_iff_ne.mpr h, Bool.false_eq_true, if_false]
  split
  · rfl
  · exact Nat.add_assoc _ _ _

theorem encodeMag_fp32_subnormal (neg : Bool) {m : Nat} (hm : m < 2 ^ 23) (q : Int) :
    encodeMag (ffmt 0) neg m q = ofBool neg * 2 ^ 31 + m := by
  rw [encodeMag_of_ne neg q (show m ≠ 2 ^ 24 by omega)]
  exact congrArg (ofBool neg * 2 ^ 31 + ·) (if_pos hm)

theorem encodeMag_fp32_normal (neg : Bool) {m ex : Nat} (hm : m < 2 ^ 23) :
    encodeMag (ffmt 0) neg (2 ^ 23 + m) ((ex : Int) - 150) = ofBool neg * 2 ^ 31 + ex * 2 ^ 23 + m := by
  have hx : ((ex : Int) - 150 + (23 : Nat) + (127 : Nat)).toNat = ex := by omega
  have hk : ¬2 ^ 23 + m < 2 ^ (ffmt 0).mbits := Nat.not_lt.mpr (Nat.le_add_right _ _)
  rw [encodeMag_of_ne neg _ (show 2 ^ 23 + m ≠ 2 ^ 24 by omega), if_neg hk, Nat.add_assoc]
  simp only [ffmt, hx, Nat.add_sub_cancel_left]

theorem roundTo_fp32_inf (rm : Rm) (neg : Bool) : roundTo 0 rm false (.inf neg) = (ofBool neg * 2 ^ 31 + 255 * 2 ^ 23, 0) := by
  simp [roundTo, infCode, ffmt, flNone]

/-- The value of an FP32 code that is no NaN rounds to the code, exactly. -/
theorem roundTo_decodeFloat_fp32 (rm : Rm) {c : Nat} (hc : c < 2 ^ 32) (hn : decodeFloat (ffmt 0) c ≠ .nan) :
    roundTo 0 rm false (decodeFloat (ffmt 0) c) = (c, 0) := by
  have hparts := fp32_parts hc
  have hf : fieldOf c 0 23 < 2 ^ 23 := fieldOf_lt _ _ _
  have hx : fieldOf c 23 8 < 256 := fieldOf_lt _ _ _
  rw [decodeFloat_fp32] at hn ⊢
  by_cases h1 : fieldOf c 23 8 = 255
  · by_cases h2 : fieldOf c 0 23 = 0
    · rw [h1, h2, Nat.add_zero] at hparts
      rw [if_pos h1, if_pos h2, roundTo_fp32_inf, ← hparts]
    · rw [if_pos h1, if_neg h2] at hn
      exact absurd rfl hn
  · rw [if_neg h1]
    by_cases h0 : fieldOf c 23 8 = 0
    · rw [h0, Nat.zero_mul, Nat.add_zero] at hparts
      rw [if_pos h0, roundTo_fp32_exact rm (roundFloat_fp32_subnormal rm _ hf), encodeMag_fp32_subnormal _ hf, ← hparts]
    · rw [if_neg h0, roundTo_fp32_exact rm (roundFloat_fp32_normal rm _ (by omega) (by omega) h0 (by omega)),
        encodeMag_fp32_normal _ hf, ← hparts]

/-! ### The rows (R107, R155) -/

section
variable {s : State} {c : BitVec 9} {t : BitVec 10} {th : Thread} {f : BitVec 48}

/-- The FP32 code in a register. -/
def fp32Code (th : Thread) (n : Nat) : Nat := opField64 (th.getS n) 0 32

theorem f32Of_getS (th : Thread) (n : Nat) : f32Of (th.getS n) = decodeFloat (ffmt 0) (fp32Code th n) := by
  rw [f32Of, fp32Code, opField64, BitVec.extractLsb'_toNat, Nat.shiftRight_zero]

theorem fp32Code_lt (th : Thread) (n : Nat) : fp32Code th n < 2 ^ 32 := BitVec.isLt _

/-- A legal FP32 row writes its result and adds its flags. -/
theorem State.fpu_of_canRun (h : s.canRun c t th = true) {mask : Nat} (l : List (Nat × Nat)) (hz : zeroFields f l = true)
    (hm : ∀ i < 48, mask.testBit i = !l.any (fun p => decide (p.1 ≤ i) && decide (i < p.1 + p.2)))
    (op : Ctx → Val → Val → Val → Nat × Fl) {r : Nat × Fl}
    (hr : op (s.ctx c t th f) (decodeFloat (ffmt 0) (fp32Code th (opField f 38 5)))
      (decodeFloat (ffmt 0) (fp32Code th (opField f 33 5))) (decodeFloat (ffmt 0) (fp32Code th (opField f 28 5))) = r) :
    s.fpu c t f mask op = s.retire c t ((th.setS (opField f 43 5) (BitVec.ofNat 64 r.1)).addFlags r.2) := by
  rw [State.fpu, State.issue_onThread f _ h]
  · simp only [ssA, ssB, ssC, ssD, fldOf_ctx, State.ctx_th, f32Of_getS, hr]
  · simp only [onlyBits_eq_zeroFields l s c t th f hm, hz, Bool.not_true]
  · rw [Thread.addFlags_pc, Thread.setS_pc]
    rfl

theorem fpRound_decodeFloat {c : Nat} (hc : c < 2 ^ 32) (hn : decodeFloat (ffmt 0) c ≠ .nan) :
    fpRound 0 (decodeFloat (ffmt 0) c, flNone) = (c, 0) := by
  rw [fpRound, roundTo_decodeFloat_fp32 0 hc hn]
  exact Prod.ext_iff.mpr ⟨rfl, BitVec.or_self⟩

/-- The smaller of two FP32 values is the code of one of them; with a NaN it is the canonical NaN (R155). -/
theorem fpRound_vMin {ca cb : Nat} (ha : ca < 2 ^ 32) (hb : cb < 2 ^ 32) :
    let a := decodeFloat (ffmt 0) ca
    let b := decodeFloat (ffmt 0) cb
    fpRound 0 (vMin a b, flNone) = (if a = .nan ∨ b = .nan then 0x7FC00000 else if vCmpZ b a = .lt then cb else ca, 0) := by
  intro a b
  by_cases hn : a = .nan ∨ b = .nan
  · rw [if_pos hn, vMin, if_pos (by simpa using hn)]
    rfl
  · rw [if_neg hn, vMin, if_neg (by simpa using hn)]
    rw [not_or] at hn
    by_cases hc : vCmpZ b a = .lt
    · rw [if_pos (by simpa using hc), if_pos hc, fpRound_decodeFloat hb hn.2]
    · rw [if_neg (by simpa using hc), if_neg hc, fpRound_decodeFloat ha hn.1]

/-- The larger of two FP32 values likewise. -/
theorem fpRound_vMax {ca cb : Nat} (ha : ca < 2 ^ 32) (hb : cb < 2 ^ 32) :
    let a := decodeFloat (ffmt 0) ca
    let b := decodeFloat (ffmt 0) cb
    fpRound 0 (vMax a b, flNone) = (if a = .nan ∨ b = .nan then 0x7FC00000 else if vCmpZ b a = .gt then cb else ca, 0) := by
  intro a b
  by_cases hn : a = .nan ∨ b = .nan
  · rw [if_pos hn, vMax, if_pos (by simpa using hn)]
    rfl
  · rw [if_neg hn, vMax, if_neg (by simpa using hn)]
    rw [not_or] at hn
    by_cases hc : vCmpZ b a = .gt
    · rw [if_pos (by simpa using hc), if_pos hc, fpRound_decodeFloat hb hn.2]
    · rw [if_neg (by simpa using hc), if_neg hc, fpRound_decodeFloat ha hn.1]

theorem fpCmp_eq (a b : Val) (p : Ordering → Bool) {q : Prop} [Decidable q] (hp : p (vCmp a b) = true ↔ q) :
    fpCmp a b p = (if ¬(a = .nan ∨ b = .nan) ∧ q then 1 else 0, 0) := by
  refine Prod.ext_iff.mpr ⟨if_congr ?_ rfl rfl, rfl⟩
  simp [hp, not_or, and_assoc]

end

/-- Settles O6: each row is the FP32 shape with its mask, and its operation gives the result of R107. -/
theorem scalarFloatResults : Obligations.ScalarFloatResults := by
  intro s c t th f h h26 d rm code ca cb a b x nan wr once
  have hz : opField f 0 26 = 0 := (extractLsb'_eq_zero_iff f 0 26).mp h26
  have row {i : Instr} {mask : Nat} {op : Ctx → Val → Val → Val → Nat × Fl} (l : List (Nat × Nat)) (r : Nat) (fl : Fl)
      (hi : exec i s = .next (s.fpu c t f mask op)) (hl : zeroFields f l = true)
      (hm : ∀ i < 48, mask.testBit i = !((0, 26) :: l).any (fun p => decide (p.1 ≤ i) && decide (i < p.1 + p.2)))
      (hr : op (s.ctx c t th f) a b x = (r, fl)) : exec i s = wr r fl :=
    hi.trans (congrArg Host.Outcome.next (State.fpu_of_canRun h _ ((zeroFields_cons _ _ _).mpr ⟨hz, hl⟩) hm op hr))
  have one {p : Nat × Nat} (hp : opField f p.1 p.2 = 0) : zeroFields f [p] = true := (zeroFields_cons _ _ _).mpr ⟨hp, rfl⟩
  refine ⟨fun hc => ?fadd, fun hc => ?fsub, fun hc => ?fmul, ?ffma, fun hc => ?fmin, fun hc => ?fmax, fun hc => ?feq, fun hc => ?flt,
    fun hc => ?fle, fun hc => ?fcvti, fun hc => ?icvtf⟩
  case fadd => exact row [(28, 5)] _ _ rfl (one hc) (by decide) (by simp only [ssRm, fldOf_ctx]; rfl)
  case fsub => exact row [(28, 5)] _ _ rfl (one hc) (by decide) (by simp only [ssRm, fldOf_ctx]; rfl)
  case fmul => exact row [(28, 5)] _ _ rfl (one hc) (by decide) (by simp only [ssRm, fldOf_ctx]; rfl)
  case ffma => exact row [] _ _ rfl rfl (by decide) (by simp only [ssRm, fldOf_ctx]; rfl)
  case fmin => exact row [(26, 7)] _ _ rfl (one hc) (by decide) (fpRound_vMin (fp32Code_lt _ _) (fp32Code_lt _ _))
  case fmax => exact row [(26, 7)] _ _ rfl (one hc) (by decide) (fpRound_vMax (fp32Code_lt _ _) (fp32Code_lt _ _))
  case feq => exact row [(26, 7)] _ _ rfl (one hc) (by decide) (fpCmp_eq a b _ beq_iff_eq)
  case flt => exact row [(26, 7)] _ _ rfl (one hc) (by decide) (fpCmp_eq a b _ beq_iff_eq)
  case fle => exact row [(26, 7)] _ _ rfl (one hc) (by decide) (fpCmp_eq a b _ bne_iff_ne)
  case fcvti => exact row [(28, 10)] _ _ rfl (one hc) (by decide) (by simp only [ssRm, fldOf_ctx]; rfl)
  case icvtf => exact row [(28, 10)] _ _ rfl (one hc) (by decide) (by simp only [ssRm, ssA, fldOf_ctx]; rfl)

end Sys2Proof.Machine
end

section
/-! PROOFS. Branches (O8): where a thread that branches goes on. -/

namespace Sys2Proof.Machine

section
variable {s : State} {c : BitVec 9} {t : BitVec 10} {th : Thread} {f : BitVec 48}

/-- The state in which a thread, as `y`, has branched to an offset, or has trapped FETCH (R100). -/
def State.branched (s : State) (c : BitVec 9) (t : BitVec 10) (n : Nat) (y : Thread) : State :=
  if n % 8 ≠ 0 ∨ pastImage (s.imageLen (s.cell c.toNat)) n = true then s.trapped c t 0x01 0 0
  else s.withThread c t { y with pc := BitVec.ofNat 24 n, run := .ready }

theorem State.goOn_of_canRun (h : s.canRun c t th = true) (n : Nat) :
    s.goOn c.toNat t.toNat n = s.withThread c t { th with pc := BitVec.ofNat 24 n, run := .ready } :=
  State.modThread_of_canRun h _

theorem State.withThread_goOn (y : Thread) (n : Nat) :
    (s.withThread c t y).goOn c.toNat t.toNat n = s.withThread c t { y with pc := BitVec.ofNat 24 n, run := .ready } := by
  have hy : ((s.withThread c t y).cell c.toNat).thread? t.toNat = some y := by simp
  rw [State.goOn, State.modThread_of_thread? hy]
  simp [State.withThread]

/-- A branch of a thread that can run, its fields legal: it goes to its target with the thread that it leaves. -/
theorem State.issue_jump {bad : Ctx → Bool} {op : Ctx → State → Res} (g : Thread → Thread) {n : Nat} (h : s.canRun c t th = true)
    (hb : bad (s.ctx c t th f) = false) (hop : op (s.ctx c t th f) s = .jump (s.modThread c.toNat t.toNat g) n) :
    s.issue c t f none bad op = s.branched c t n (g th) := by
  have hc : (n % 8 != 0 || pastImage (s.imageLen (s.cell c.toNat)) n) = true ↔
      (n % 8 ≠ 0 ∨ pastImage (s.imageLen (s.cell c.toNat)) n = true) := by simp
  rw [State.issue_of_canRun f _ h hb, hop, State.branched]
  simp only [State.modThread_of_canRun h, State.withThread_goOn]
  exact if_congr hc rfl rfl

/-- The same for a branch that leaves its thread as it is. -/
theorem State.issue_jump_self {bad : Ctx → Bool} {op : Ctx → State → Res} {n : Nat} (h : s.canRun c t th = true)
    (hb : bad (s.ctx c t th f) = false) (hop : op (s.ctx c t th f) s = .jump s n) :
    s.issue c t f none bad op = s.branched c t n th := by
  have hc : (n % 8 != 0 || pastImage (s.imageLen (s.cell c.toNat)) n) = true ↔
      (n % 8 ≠ 0 ∨ pastImage (s.imageLen (s.cell c.toNat)) n = true) := by simp
  rw [State.issue_of_canRun f _ h hb, hop, State.branched]
  simp only [State.goOn_of_canRun h]
  exact if_congr hc rfl rfl

/-- A row whose one unused field must be zero. -/
theorem unusedField_iff {mask lo n : Nat} (s : State) (c : BitVec 9) (t : BitVec 10) (th : Thread) (f : BitVec 48)
    (hm : ∀ i < 48, mask.testBit i = !([(lo, n)] : List (Nat × Nat)).any (fun p => decide (p.1 ≤ i) && decide (i < p.1 + p.2))) :
    (!onlyBits (s.ctx c t th f) mask) = false ↔ f.extractLsb' lo n = 0 := by
  rw [onlyBits_eq_zeroFields [(lo, n)] s c t th f hm, Bool.not_eq_false', zeroFields_cons, extractLsb'_eq_zero_iff]
  exact and_iff_left rfl

/-! ### Targets and conditions (Table 04-7) -/

/-- The offset of a branch relative to the program counter. -/
def branchOffset (th : Thread) (f : BitVec 48) : Int := th.pc.toNat + 8 * (f.extractLsb' 0 32).toInt

theorem brTarget_ctx (s : State) (c : BitVec 9) (t : BitVec 10) (th : Thread) (f : BitVec 48) :
    brTarget (s.ctx c t th f) = if branchOffset th f < 0 then 2 ^ 24 else (branchOffset th f).toNat := by
  rw [brTarget, brOfs, fldOf_ctx, opField, ofInt_toSigned 32 _ rfl]
  rfl

/-- The fields of B are legal. -/
def branchLegal (f : BitVec 48) : Prop :=
  f.extractLsb' 32 2 = 0 ∧ opField f 34 4 ≤ 8 ∧ (opField f 34 4 = 0 → opField f 43 5 = 0) ∧
    (7 ≤ opField f 34 4 → opField f 43 5 < 8) ∧ (opField f 34 4 = 0 ∨ 7 ≤ opField f 34 4 → opField f 38 5 = 0)

/-- A condition of Table 04-7 on two registers and a mask. -/
def condHolds (cond : Nat) (a b : W64) (m : BitVec 256) : Prop :=
  match cond with
  | 0 => True
  | 1 => a = b
  | 2 => a ≠ b
  | 3 => a.toInt < b.toInt
  | 4 => b.toInt ≤ a.toInt
  | 5 => a.toNat < b.toNat
  | 6 => b.toNat ≤ a.toNat
  | 7 => m ≠ 0
  | _ => m = 0

/-- A field is the low part of a longer one. -/
theorem opField_mod (f : BitVec 48) (lo : Nat) {m n : Nat} (h : m ≤ n) : opField f lo n % 2 ^ m = opField f lo m := by
  rw [opField, opField, BitVec.extractLsb'_toNat, BitVec.extractLsb'_toNat, Nat.mod_mod_of_dvd _ (Nat.pow_dvd_pow 2 h)]

/-- A field is the high part of a longer one. -/
theorem opField_div (f : BitVec 48) (lo m n : Nat) : opField f lo (m + n) / 2 ^ m = opField f (lo + m) n := by
  rw [opField, opField, BitVec.extractLsb'_toNat, BitVec.extractLsb'_toNat, Nat.pow_add, Nat.mod_mul_right_div_self,
    Nat.shiftRight_add, Nat.shiftRight_eq_div_pow _ m]

theorem brBad_iff (s : State) (c : BitVec 9) (t : BitVec 10) (th : Thread) (f : BitVec 48) :
    brBad (s.ctx c t th f) = false ↔ branchLegal f := by
  have hz := onlyBits_eq_zeroFields (mask := mD + mA + fm 34 4 + fm 0 32) [(32, 2)] s c t th f (by decide)
  have hm : opField f 46 2 = 0 ↔ opField f 43 5 < 8 := by
    have hd : opField f 43 5 / 2 ^ 3 = opField f 46 2 := opField_div f 43 3 2
    omega
  simp only [brBad, brCond, hz, fldOf_ctx, branchLegal, extractLsb'_eq_zero_iff, ← hm, zeroFields, List.all_cons, List.all_nil]
  simp only [Bool.and_true, Bool.or_eq_false_iff, Bool.and_eq_false_iff, Bool.not_eq_false', beq_iff_eq, beq_eq_false_iff_ne,
    bne_eq_false_iff_eq, decide_eq_false_iff_not]
  omega

theorem brTaken_iff (s : State) (c : BitVec 9) (t : BitVec 10) (th : Thread) (f : BitVec 48) :
    brTaken (s.ctx c t th f) = true ↔
      condHolds (opField f 34 4) (th.getS (opField f 43 5)) (th.getS (opField f 38 5)) (th.getM (opField f 43 5 % 8)) := by
  have hm : opField f 43 3 = opField f 43 5 % 8 := (opField_mod f 43 (show 3 ≤ 5 by omega)).symm
  simp only [brTaken, brCond, fldOf_ctx, State.ctx_th, hm]
  generalize th.getS (opField f 43 5) = a, th.getS (opField f 38 5) = b, th.getM (opField f 43 5 % 8) = m
  match opField f 34 4 with
  | 0 => simp [condHolds]
  | 1 => simp [condHolds]
  | 2 => simp [condHolds]
  | 3 => exact BitVec.slt_iff_toInt_lt
  | 4 => simp [condHolds, ← not_lt, ← BitVec.slt_iff_toInt_lt]
  | 5 => exact BitVec.ult_iff_toNat_lt
  | 6 => simp [condHolds, ← not_lt, ← BitVec.ult_iff_toNat_lt]
  | 7 => simp [condHolds]
  | n + 8 => simp [condHolds]

end

/-- Settles O8: B by its condition, BL, JR and JRL as jumps, each with its legal fields. -/
theorem branchResults : Obligations.BranchResults := by
  intro s c t th f h ra rb cond len rel target near link a b holds illegal bOk
  have hnear (y : Thread) : near y = s.branched c t (brTarget (s.ctx c t th f)) y := by
    rw [brTarget_ctx]
    by_cases hn : rel < 0
    · exact (if_pos hn).trans (congrArg (s.branched c t · y) (if_pos hn).symm)
    · exact (if_neg hn).trans (congrArg (s.branched c t · y) (if_neg hn).symm)
  have htaken : brTaken (s.ctx c t th f) = true ↔ holds := brTaken_iff s c t th f
  have hill {i : Instr} {bad : Ctx → Bool} {op : Ctx → State → Res} (hi : exec i s = .next (s.issue c t f none bad op))
      (hb : ¬bad (s.ctx c t th f) = false) : exec i s = illegal :=
    hi.trans (congrArg Host.Outcome.next (State.issue_illegal f none op h (Bool.not_eq_false _ ▸ hb)))
  refine ⟨fun hok => ⟨fun hh => ?taken, fun hh => ?passed⟩, fun hok => hill rfl (mt (brBad_iff s c t th f).mp hok), ?bl, ?jr, ?jrl⟩
  case taken =>
    rw [hnear]
    exact congrArg Host.Outcome.next (State.issue_jump_self h ((brBad_iff s c t th f).mpr hok) (if_pos (htaken.mpr hh)))
  case passed =>
    change Host.Outcome.next (s.issue c t f none brBad _) = _
    rw [State.issue_of_canRun f _ h ((brBad_iff s c t th f).mpr hok), if_neg (mt htaken.mp hh)]
    exact congrArg Host.Outcome.next (State.goOn_self ((State.canRun_iff s c t th).mp h).2.1)
  case bl =>
    have hz := unusedField_iff (mask := mD + fm 0 32) (lo := 32) (n := 11) s c t th f (by decide)
    split
    next h0 =>
      rw [hnear]
      exact congrArg Host.Outcome.next (State.issue_jump (fun y => y.setS ra link) h (hz.mpr h0) (by simp only [fldOf_ctx]; rfl))
    next h0 => exact hill rfl (mt hz.mp h0)
  case jr =>
    have hz := unusedField_iff (mask := mD) (lo := 0) (n := 43) s c t th f (by decide)
    split
    next h0 => exact congrArg Host.Outcome.next (State.issue_jump_self h (hz.mpr h0) (by simp only [fldOf_ctx]; rfl))
    next h0 => exact hill rfl (mt hz.mp h0)
  case jrl =>
    have hz := unusedField_iff (mask := mD + mA) (lo := 0) (n := 38) s c t th f (by decide)
    split
    next h0 =>
      exact congrArg Host.Outcome.next (State.issue_jump (fun y => y.setS rb link) h (hz.mpr h0) (by simp only [fldOf_ctx]; rfl))
    next h0 => exact hill rfl (mt hz.mp h0)

end Sys2Proof.Machine
end

section
/-! PROOFS. Loads and stores of a cell: what an access that reaches its bytes leaves, and when it traps; the scalar loads and stores
(O9, O10). -/

namespace Sys2Proof.Machine

section
variable {s s1 : State} {c : BitVec 9} {t : BitVec 10} {th : Thread} {f : BitVec 48}

/-! ### The end of an instruction that changes more than its thread -/

/-- An operation that changes the state and then its thread retires in the state it left. -/
theorem State.issue_modThread_of {bad : Ctx → Bool} {op : Ctx → State → Res} (g : Thread → Thread) (h : s.canRun c t th = true)
    (hb : bad (s.ctx c t th f) = false) (hop : op (s.ctx c t th f) s = .done (s1.modThread c.toNat t.toNat g))
    (ht : (s1.cell c.toNat).thread? t.toNat = some th) (hpc : (g th).pc = th.pc) :
    s.issue c t f none bad op = s1.retire c t (g th) := by
  rw [State.issue_of_canRun f _ h hb, hop]
  simp only [State.modThread_of_thread? ht]
  exact State.goOn_withThread s1 c t _ hpc

/-- An operation that leaves its thread alone retires it in the state it left. -/
theorem State.issue_done_of {bad : Ctx → Bool} {op : Ctx → State → Res} (h : s.canRun c t th = true)
    (hb : bad (s.ctx c t th f) = false) (hop : op (s.ctx c t th f) s = .done s1)
    (ht : (s1.cell c.toNat).thread? t.toNat = some th) : s.issue c t f none bad op = s1.retire c t th := by
  rw [State.issue_of_canRun f _ h hb, hop]
  exact State.goOn_self ht

theorem State.issue_trap {bad : Ctx → Bool} {op : Ctx → State → Res} {cause detail : Nat} {a : W64} (h : s.canRun c t th = true)
    (hb : bad (s.ctx c t th f) = false) (hop : op (s.ctx c t th f) s = .trap s1 cause detail a) :
    s.issue c t f none bad op = s1.trapped c t cause detail a := by
  rw [State.issue_of_canRun f _ h hb, hop]

/-! ### Fields of a memory access (R109) -/

theorem memEa_ctx (s : State) (c : BitVec 9) (t : BitVec 10) (th : Thread) (f : BitVec 48) (n : Nat) :
    memEa (s.ctx c t th f) n = th.getS (opField f 43 5) + (f.extractLsb' 0 n).signExtend 64 := by
  rw [memEa, memB, fldOf_ctx, fldOf_ctx, opField, opField, ofInt_toSigned n _ rfl]
  rfl

theorem memEa_effAddr (s : State) (c : BitVec 9) (t : BitVec 10) (th : Thread) (f : BitVec 48) :
    memEa (s.ctx c t th f) 24 = effAddr th f := memEa_ctx s c t th f 24

theorem memSp_ctx (s : State) (c : BitVec 9) (t : BitVec 10) (th : Thread) (f : BitVec 48) :
    memSp (s.ctx c t th f) = f.getLsbD 29 := testBit_ctx s c t th f 29

theorem memPh_ctx (s : State) (c : BitVec 9) (t : BitVec 10) (th : Thread) (f : BitVec 48) :
    memPh (s.ctx c t th f) = f.getLsbD 26 := testBit_ctx s c t th f 26

theorem memLegal_iff (f : BitVec 48) (store : Bool) : memLegal f store = true ↔
    (opField f 27 2 = 0 ∨ opField f 27 2 = if store then 2 else 1) ∧ opField f 24 2 = 0 ∧
      (f.getLsbD 29 = false ∨ f.getLsbD 26 = false) ∧ (f.getLsbD 33 = true ∨ opField f 30 3 = 0) := by
  simp [memLegal, and_assoc]

theorem memBad_of_legal (s : State) (c : BitVec 9) (t : BitVec 10) (th : Thread) {store : Bool} (h : memLegal f store = true) :
    memBad (s.ctx c t th f) store = false := by
  obtain ⟨hord, hah, hph, hme⟩ := (memLegal_iff f store).mp h
  simp only [memBad, memOrd, memAh, memMk, memMe, memSp_ctx, memPh_ctx, fldOf_ctx, testBit_ctx]
  simp only [Bool.or_eq_false_iff, Bool.and_eq_false_iff, bne_eq_false_iff_eq, Bool.not_eq_false']
  exact ⟨⟨hord, hph.imp_right fun hp => ⟨hp, hah⟩⟩, hme⟩

/-! ### Accesses (R109, R110) -/

/-- A load whose bytes can be fetched gives them to its thread. -/
theorem loadRes_of_fetched {ea : W64} {l : List (Nat × Nat)} {d : Bytes} (th : Thread) (g : Thread → Bytes → Thread)
    (hea : f.getLsbD 29 = true ∨ ea.toNat < 2 ^ 57) (hf : s.fetched c t f l = some (d, s1)) :
    loadRes (s.ctx c t th f) s ea true l g = .done (s1.modThread c.toNat t.toNat (fun y => g y d)) := by
  rw [State.fetched] at hf
  simp only [loadRes, Bool.not_true, Bool.false_eq_true, if_false, memSp_ctx, memPh_ctx, State.ctx_c, State.ctx_t, State.ctx_x]
  by_cases hsp : f.getLsbD 29 = true
  · simp only [hsp, if_true] at hf ⊢
    split at hf
    next hall =>
      obtain ⟨rfl, rfl⟩ := Prod.mk.inj (Option.some.inj hf)
      exact if_neg (by simpa using hall)
    next => cases hf
  · have hlt : ¬ea.toNat ≥ 2 ^ 57 := not_le.mpr (hea.resolve_left hsp)
    simp only [hsp, Bool.false_eq_true, if_false] at hf ⊢
    rw [if_neg hlt]
    split at hf
    next => cases hf
    next q hq =>
      split at hf
      next d' s' hr =>
        obtain ⟨rfl, rfl⟩ := Prod.mk.inj (Option.some.inj hf)
        rfl
      next => cases hf

/-- A store whose bytes can be stored has stored them. -/
theorem storeRes_of_stored {ea : W64} {l : List (Nat × Bytes)} {u : State} (k : Ctx) (hc : k.c = c.toNat) (ht : k.t = t.toNat)
    (hk : k.f = f.toNat) (hx : f.getLsbD 29 = true → k.x = u.cell c.toNat)
    (hea : f.getLsbD 29 = true ∨ ea.toNat < 2 ^ 57) (hs : u.stored c t f l = some s1) : storeRes k u ea true l = .done s1 := by
  have hsp' : memSp k = f.getLsbD 29 := by rw [memSp, hk]; exact BitVec.testBit_toNat f
  have hph' : memPh k = f.getLsbD 26 := by rw [memPh, hk]; exact BitVec.testBit_toNat f
  rw [State.stored] at hs
  simp only [storeRes, Bool.not_true, Bool.false_eq_true, if_false, hsp', hph', hc, ht]
  by_cases hsp : f.getLsbD 29 = true
  · simp only [hsp, if_true] at hs ⊢
    split at hs
    next hall =>
      cases hs
      rw [hx hsp]
      rw [if_neg]
      simpa using hall
    next => cases hs
  · have hlt : ¬ea.toNat ≥ 2 ^ 57 := not_le.mpr (hea.resolve_left hsp)
    simp only [hsp, Bool.false_eq_true, if_false] at hs ⊢
    rw [if_neg hlt]
    split at hs
    next => cases hs
    next q hq =>
      split at hs
      next s' hr =>
        cases hs
        rfl
      next => cases hs

theorem loadRes_misaligned (k : Ctx) (s : State) (ea : W64) (l : List (Nat × Nat)) (g : Thread → Bytes → Thread) :
    loadRes k s ea false l g = .trap s 0x04 0 ea := rfl

theorem storeRes_misaligned (k : Ctx) (s : State) (ea : W64) (l : List (Nat × Bytes)) :
    storeRes k s ea false l = .trap s 0x04 0 ea := rfl

theorem loadRes_outside {k : Ctx} (s : State) (ea : W64) {l : List (Nat × Nat)} (g : Thread → Bytes → Thread) (hsp : memSp k = true)
    {x : Nat × Nat} (hx : x ∈ l) (hout : scratchSize k.x < x.1 + x.2) : loadRes k s ea true l g = .trap s 0x05 0 ea := by
  have hany : l.any (fun x => decide (x.1 + x.2 > scratchSize k.x)) = true := List.any_eq_true.mpr ⟨x, hx, by simpa using hout⟩
  simp [loadRes, hsp, hany]

theorem storeRes_outside {k : Ctx} (s : State) (ea : W64) {l : List (Nat × Bytes)} (hsp : memSp k = true) {x : Nat × Bytes}
    (hx : x ∈ l) (hout : scratchSize k.x < x.1 + x.2.length) : storeRes k s ea true l = .trap s 0x05 0 ea := by
  have hany : l.any (fun x => decide (x.1 + x.2.length > scratchSize k.x)) = true :=
    List.any_eq_true.mpr ⟨x, hx, by simpa using hout⟩
  simp [storeRes, hsp, hany]

theorem loadRes_beyond {k : Ctx} (s : State) {ea : W64} (l : List (Nat × Nat)) (g : Thread → Bytes → Thread) (hsp : memSp k = false)
    (h : 2 ^ 57 ≤ ea.toNat) : loadRes k s ea true l g = .trap s 0x08 1 ea := by
  simp only [loadRes, hsp, Bool.not_true, Bool.false_eq_true, if_false, if_pos h]

theorem storeRes_beyond {k : Ctx} (s : State) {ea : W64} (l : List (Nat × Bytes)) (hsp : memSp k = false) (h : 2 ^ 57 ≤ ea.toNat) :
    storeRes k s ea true l = .trap s 0x08 1 ea := by
  simp only [storeRes, hsp, Bool.not_true, Bool.false_eq_true, if_false, if_pos h]

/-! ### Scalar accesses (Table 04-8) -/

theorem scalarAccess_legal (s : State) (c : BitVec 9) (t : BitVec 10) (th : Thread) {store : Bool} (hl : memLegal f store = true)
    (hz : zeroFields f [(30, 8)] = true) :
    (!onlyBits (s.ctx c t th f) (mMemB + mMemR + mMemSp + mMemOfs) || memBad (s.ctx c t th f) store) = false := by
  obtain ⟨_, hah, _, _⟩ := (memLegal_iff f store).mp hl
  have hz2 : zeroFields f [(24, 2), (30, 8)] = true := (zeroFields_cons _ _ _).mpr ⟨hah, hz⟩
  rw [onlyBits_eq_zeroFields [(24, 2), (30, 8)] s c t th f (by decide), hz2, memBad_of_legal s c t th hl]
  rfl

/-- The value that a scalar load gives its register. -/
def loadValue (n : Nat) (signed : Bool) (d : Bytes) : W64 :=
  let v := BitVec.ofNat (8 * n) (leNat d)
  if signed then v.signExtend 64 else v.setWidth 64

theorem loadValue_eq {n : Nat} (signed : Bool) {d : Bytes} (hd : d.length = n) :
    (if signed then BitVec.ofInt 64 (toSigned (8 * n) (leNat d)) else BitVec.ofNat 64 (leNat d)) = loadValue n signed d := by
  have hlt : leNat d < 2 ^ (8 * n) := by
    have := leNat_lt d
    rwa [hd, show (256 : Nat) = 2 ^ 8 from rfl, ← Nat.pow_mul] at this
  have hv : (BitVec.ofNat (8 * n) (leNat d)).toNat = leNat d := by rw [BitVec.toNat_ofNat, Nat.mod_eq_of_lt hlt]
  cases signed with
  | true => rw [if_pos rfl, ofInt_toSigned _ _ hv]; rfl
  | false =>
    refine BitVec.eq_of_toNat_eq ?_
    rw [if_neg Bool.false_ne_true, loadValue, if_neg Bool.false_ne_true, BitVec.toNat_ofNat, BitVec.toNat_setWidth, hv]

theorem State.loadRow_of_fetched {n : Nat} {signed : Bool} {d : Bytes} (h : s.canRun c t th = true) (hl : memLegal f false = true)
    (hz : zeroFields f [(30, 8)] = true) (hea : f.getLsbD 29 = true ∨ (effAddr th f).toNat < 2 ^ 57)
    (hal : (effAddr th f).toNat % n = 0) (hf : s.fetched c t f [((effAddr th f).toNat, n)] = some (d, s1)) (hd : d.length = n)
    (ht : (s1.cell c.toNat).thread? t.toNat = some th) :
    s.loadRow c t f n signed = s1.retire c t (th.setS (opField f 38 5) (loadValue n signed d)) := by
  rw [State.loadRow, State.issue_modThread_of (fun y => y.setS (opField f 38 5) (loadValue n signed d)) h
    (scalarAccess_legal s c t th hl hz) ?_ ht (Thread.setS_pc _ _ _)]
  simp only [memEa_effAddr, hal, memR, fldOf_ctx]
  rw [beq_self_eq_true, loadRes_of_fetched th _ hea hf]
  simp only [loadValue_eq signed hd]

theorem State.storeRow_of_stored {n : Nat} (h : s.canRun c t th = true) (hl : memLegal f true = true)
    (hz : zeroFields f [(30, 8)] = true) (hea : f.getLsbD 29 = true ∨ (effAddr th f).toNat < 2 ^ 57)
    (hal : (effAddr th f).toNat % n = 0)
    (hs : s.stored c t f [((effAddr th f).toNat, leBytes n (th.getS (opField f 38 5)).toNat)] = some s1)
    (ht : (s1.cell c.toNat).thread? t.toNat = some th) : s.storeRow c t f n = s1.retire c t th := by
  rw [State.storeRow, State.issue_done_of h (scalarAccess_legal s c t th hl hz) ?_ ht]
  simp only [memEa_effAddr, hal, memR, fldOf_ctx, State.ctx_th]
  rw [beq_self_eq_true]
  exact storeRes_of_stored _ rfl rfl rfl (fun _ => rfl) hea hs

@[simp] theorem length_leBytes (n v : Nat) : (leBytes n v).length = n := by
  induction n generalizing v with
  | zero => rfl
  | succ n ih => rw [leBytes, List.length_cons, ih]

/-- The traps of a scalar access of n bytes, in their order. -/
def scalarTraps (i : Instr) (s : State) (c : BitVec 9) (t : BitVec 10) (th : Thread) (f : BitVec 48) (n : Nat) : Prop :=
  let ea := effAddr th f
  (ea.toNat % n ≠ 0 → exec i s = .next (s.trapped c t 0x04 0 ea)) ∧
  (ea.toNat % n = 0 → f.getLsbD 29 = true → scratchSize (s.cell c.toNat) < ea.toNat + n → exec i s = .next (s.trapped c t 0x05 0 ea)) ∧
  (ea.toNat % n = 0 → f.getLsbD 29 = false → 2 ^ 57 ≤ ea.toNat → exec i s = .next (s.trapped c t 0x08 1 ea))

theorem scalarTraps_load {i : Instr} {n : Nat} {signed : Bool} (h : s.canRun c t th = true) (hz : zeroFields f [(30, 8)] = true)
    (hi : exec i s = .next (s.loadRow c t f n signed)) (hl : memLegal f false = true) : scalarTraps i s c t th f n := by
  have hb := scalarAccess_legal s c t th hl hz
  have hsp := memSp_ctx s c t th f
  rw [scalarTraps, hi, State.loadRow]
  refine ⟨fun ha => ?_, fun ha hp ho => ?_, fun ha hp ho => ?_⟩
  · refine congrArg Host.Outcome.next (State.issue_trap h hb ?_)
    simp only [memEa_effAddr, beq_eq_false_iff_ne.mpr ha, loadRes_misaligned]
  · refine congrArg Host.Outcome.next (State.issue_trap h hb ?_)
    simp only [memEa_effAddr, beq_iff_eq.mpr ha]
    exact loadRes_outside _ _ _ (hsp.trans hp) List.mem_cons_self ho
  · refine congrArg Host.Outcome.next (State.issue_trap h hb ?_)
    simp only [memEa_effAddr, beq_iff_eq.mpr ha]
    exact loadRes_beyond _ _ _ (hsp.trans hp) ho

theorem scalarTraps_store {i : Instr} {n : Nat} (h : s.canRun c t th = true) (hz : zeroFields f [(30, 8)] = true)
    (hi : exec i s = .next (s.storeRow c t f n)) (hl : memLegal f true = true) : scalarTraps i s c t th f n := by
  have hb := scalarAccess_legal s c t th hl hz
  have hsp := memSp_ctx s c t th f
  rw [scalarTraps, hi, State.storeRow]
  refine ⟨fun ha => ?_, fun ha hp ho => ?_, fun ha hp ho => ?_⟩
  · refine congrArg Host.Outcome.next (State.issue_trap h hb ?_)
    simp only [memEa_effAddr, beq_eq_false_iff_ne.mpr ha, storeRes_misaligned]
  · refine congrArg Host.Outcome.next (State.issue_trap h hb ?_)
    simp only [memEa_effAddr, beq_iff_eq.mpr ha]
    exact storeRes_outside _ _ (hsp.trans hp) List.mem_cons_self (by rw [length_leBytes]; exact ho)
  · refine congrArg Host.Outcome.next (State.issue_trap h hb ?_)
    simp only [memEa_effAddr, beq_iff_eq.mpr ha]
    exact storeRes_beyond _ _ (hsp.trans hp) ho

end

/-- Settles O9: each row is the scalar load of its width. -/
theorem scalarLoads : Obligations.ScalarLoads := by
  intro s s1 c t th f d h hl hz ea hea
  have row {i : Instr} {n : Nat} {signed : Bool} (hi : exec i s = .next (s.loadRow c t f n signed))
      (hal : ea.toNat % n = 0) (hf : s.fetched c t f [(ea.toNat, n)] = some (d, s1)) (hd : d.length = n)
      (ht : (s1.cell c.toNat).thread? t.toNat = some th) :
      exec i s = .next (s1.retire c t (th.setS (opField f 38 5) (loadValue n signed d))) :=
    hi.trans (congrArg Host.Outcome.next (State.loadRow_of_fetched h hl hz hea hal hf hd ht))
  simp only [List.forall_mem_cons, List.not_mem_nil, false_imp_iff, implies_true, and_true]
  exact ⟨row (n := 1) (signed := false) rfl, row (n := 2) (signed := false) rfl, row (n := 4) (signed := false) rfl,
    row (n := 8) (signed := false) rfl, row (n := 1) (signed := true) rfl, row (n := 2) (signed := true) rfl,
    row (n := 4) (signed := true) rfl⟩

/-- Settles O10: each row is the scalar store of its width, and the traps of loads and stores are those of their shapes. -/
theorem scalarStores : Obligations.ScalarStores := by
  intro s s1 c t th f h hz ea v
  refine ⟨fun hl hea => ?stores, ?traps⟩
  case stores =>
    have row {i : Instr} {n : Nat} (hi : exec i s = .next (s.storeRow c t f n)) (hal : ea.toNat % n = 0)
        (hs : s.stored c t f [(ea.toNat, leBytes n v)] = some s1) (ht : (s1.cell c.toNat).thread? t.toNat = some th) :
        exec i s = .next (s1.retire c t th) :=
      hi.trans (congrArg Host.Outcome.next (State.storeRow_of_stored h hl hz hea hal hs ht))
    simp only [List.forall_mem_cons, List.not_mem_nil, false_imp_iff, implies_true, and_true]
    exact ⟨row rfl, row rfl, row rfl, row rfl⟩
  case traps =>
    simp only [List.forall_mem_cons, List.not_mem_nil, false_imp_iff, implies_true, and_true]
    exact ⟨scalarTraps_load h hz rfl, scalarTraps_load h hz rfl, scalarTraps_load h hz rfl, scalarTraps_load h hz rfl,
      scalarTraps_load h hz rfl, scalarTraps_load h hz rfl, scalarTraps_load h hz rfl, scalarTraps_store h hz rfl,
      scalarTraps_store h hz rfl, scalarTraps_store h hz rfl, scalarTraps_store h hz rfl⟩

end Sys2Proof.Machine
end

section
/-! PROOFS. Atomics (O14, O15): the new memory value of each, FADD in units of the word's last bit, and the rows of Table 04-9. -/

namespace Sys2Proof.Machine

/-! ### Values (R113, R114) -/

/-- The value of a finite operand of FADD in units of 2^-frac. -/
def faddValue (neg : Bool) (m : Nat) (e : Int) (frac : Nat) : Rat := (if neg then -1 else 1) * m * (2 : Rat) ^ (e + (frac : Int))

theorem alignInt_zero_cast (neg : Bool) (m : Nat) {e : Int} (he : 0 ≤ e) :
    ((alignInt neg m e 0 : Int) : Rat) = (if neg then -1 else 1) * m * (2 : Rat) ^ e := by
  have hp : ((2 ^ (e - 0).toNat : Nat) : Rat) = (2 : Rat) ^ e := by
    rw [Int.sub_zero, Nat.cast_pow, ← zpow_natCast, Int.toNat_of_nonneg he]
    rfl
  cases neg <;> simp only [alignInt, Bool.false_eq_true, if_false, if_true] <;> push_cast [← hp] <;> simp

theorem zpow_neg_toNat {e : Int} (he : e < 0) : (2 : Rat) ^ e = ((2 ^ (-e).toNat : Nat) : Rat)⁻¹ := by
  rw [Nat.cast_pow, ← zpow_natCast, Int.toNat_of_nonneg (by omega), zpow_neg, inv_inv]
  rfl

/-- A signed number of halves, quarters and so on is an integer only when the denominator divides it. -/
theorem signed_div_eq_int {neg : Bool} {m d : Nat} (hd : d ≠ 0) (k : Int) :
    (if neg then -1 else 1) * (m : Rat) * (d : Rat)⁻¹ = k ↔ d ∣ m ∧ (if neg then -((m / d : Nat) : Int) else ((m / d : Nat) : Int)) = k := by
  have hdq : (d : Rat) ≠ 0 := Nat.cast_ne_zero.mpr hd
  have hmul : (if neg then -1 else 1) * (m : Rat) * (d : Rat)⁻¹ = k ↔ (if neg then -(m : Int) else (m : Int)) = k * d := by
    rw [mul_inv_eq_iff_eq_mul₀ hdq, ← Int.cast_inj (α := Rat)]
    cases neg <;> simp
  rw [hmul]
  constructor
  · intro h
    have hdvd : d ∣ m := by
      have : (d : Int) ∣ if neg then -(m : Int) else (m : Int) := ⟨k, by rw [h, Int.mul_comm]⟩
      cases neg with
      | false => exact Int.natCast_dvd_natCast.mp (by simpa using this)
      | true => exact Int.natCast_dvd_natCast.mp (by simpa using this)
    obtain ⟨q, rfl⟩ := hdvd
    refine ⟨Nat.dvd_mul_right d q, ?_⟩
    rw [Nat.mul_div_cancel_left q (Nat.pos_of_ne_zero hd)]
    refine mul_right_cancel₀ (b := (d : Int)) (Int.natCast_ne_zero.mpr hd) ?_
    rw [← h]
    cases neg <;> push_cast <;> simp [Int.mul_comm]
  · rintro ⟨⟨q, rfl⟩, rfl⟩
    rw [Nat.mul_div_cancel_left q (Nat.pos_of_ne_zero hd)]
    cases neg <;> push_cast <;> simp [Int.mul_comm]

/-- FADD's operand as an integer is its value, where that is one (R114). -/
theorem faddUnits_spec {frac c m : Nat} {neg : Bool} {e : Int} (hd : decodeFloat (ffmt 0) (c % 2 ^ 32) = .fin neg m e) (k : Int) :
    faddValue neg m e frac = k ↔ faddUnits frac c = some k := by
  simp only [faddUnits, hd, faddValue]
  by_cases hm : m = 0
  · subst hm
    simp [eq_comm]
  · rw [if_neg (c := (m == 0) = true) (by simpa using hm)]
    by_cases he : e + (frac : Int) ≥ 0
    · rw [if_pos he, Option.some.injEq, ← alignInt_zero_cast neg m he, Int.cast_inj]
    · rw [if_neg he, zpow_neg_toNat (by omega), signed_div_eq_int (Nat.two_pow_pos _).ne']
      generalize 2 ^ (-(e + (frac : Int))).toNat = d
      by_cases hdvd : d ∣ m
      · rw [if_pos (c := (m % d == 0) = true) (beq_iff_eq.mpr (Nat.mod_eq_zero_of_dvd hdvd)), Option.some.injEq]
        exact and_iff_right hdvd
      · rw [if_neg (c := (m % d == 0) = true) (fun h => hdvd (Nat.dvd_of_mod_eq_zero (beq_iff_eq.mp h)))]
        simp [hdvd]

theorem faddUnits_not_finite {frac c : Nat} (h : ∀ neg m e, decodeFloat (ffmt 0) (c % 2 ^ 32) ≠ .fin neg m e) :
    faddUnits frac c = none := by
  rw [faddUnits]
  split
  next hd => exact absurd hd (h _ _ _)
  next => rfl

/-- What FADD makes of a word: the sum, or the detail of ATOMIC_RANGE. -/
theorem atomicNew_fadd {w : Nat} (old r sn : BitVec w) (hhi : w = 128 → r.toNat < 2 ^ 64) :
    let fadd := atomicNew .fadd w old.toNat r.toNat sn.toNat
    let lim : Int := 2 ^ (w - 1)
    (faddUnits (w / 2) r.toNat = none → fadd = .error 1) ∧
    ∀ n, faddUnits (w / 2) r.toNat = some n →
      (¬(-lim ≤ n ∧ n < lim) → fadd = .error 1) ∧
      (-lim ≤ n → n < lim →
        (-lim ≤ old.toInt + n ∧ old.toInt + n < lim → fadd = .ok (BitVec.ofInt w (old.toInt + n)).toNat) ∧
        (¬(-lim ≤ old.toInt + n ∧ old.toInt + n < lim) → fadd = .error 2)) := by
  intro fadd lim
  have hmax : maxInt w = lim - 1 := by simp [maxInt, lim]
  have hmin : minInt w = -lim := by simp [minInt, lim]
  have hwide : ¬(w == 128 && r.toNat / 2 ^ 64 != 0) = true := by
    simp only [Bool.and_eq_true, beq_iff_eq, bne_iff_ne, not_and, not_not]
    exact fun h => Nat.div_eq_of_lt (hhi h)
  have hf : fadd = match faddUnits (w / 2) r.toNat with
      | none => .error 1
      | some a => if a > maxInt w || a < minInt w then .error 1
        else if toSigned w old.toNat + a > maxInt w || toSigned w old.toNat + a < minInt w then .error 2
        else .ok (ofSigned w (toSigned w old.toNat + a)) := if_neg hwide
  rw [hf, hmax, hmin, ofInt_toSigned w old rfl]
  refine ⟨fun h => by rw [h], fun n h => ?_⟩
  rw [h]
  simp only [Bool.or_eq_true, decide_eq_true_eq]
  refine ⟨fun hn => if_pos (by omega), fun hlo hhi => ?_⟩
  rw [if_neg (by omega)]
  refine ⟨fun hs => ?_, fun hs => if_pos (by omega)⟩
  rw [if_neg (by omega), BitVec.toNat_ofInt]
  rfl

/-- Settles O14: the integer operations by their definitions, FADD by `atomicNew_fadd`. -/
theorem atomicValues : Obligations.AtomicValues := by
  intro w _ old r sn v
  have hs : ∀ b : BitVec w, toSigned w b.toNat = b.toInt := fun b => ofInt_toSigned w b rfl
  have pick {k : AtomKind} {p : Prop} [Decidable p] (x y : BitVec w)
      (hk : atomicNew k w old.toNat r.toNat sn.toNat = .ok (if p then x.toNat else y.toNat)) : v k (if p then x else y) :=
    hk.trans (congrArg _ (apply_ite BitVec.toNat p x y).symm)
  have heq : (if old.toNat == r.toNat then sn.toNat else old.toNat) = if old = r then sn.toNat else old.toNat :=
    if_congr (by rw [beq_iff_eq, BitVec.toNat_inj]) rfl rfl
  refine ⟨rfl, pick _ _ ?min, pick _ _ ?max, pick _ _ rfl, pick _ _ rfl, rfl, rfl, rfl, rfl, pick _ _ (congrArg _ heq), ?wide, ?narrow⟩
  case min => simp only [atomicNew, hs]
  case max => simp only [atomicNew, hs, gt_iff_lt]
  case wide =>
    intro h128 hr
    exact if_pos (by simp [h128]; omega)
  case narrow =>
    intro hr
    obtain ⟨hnone, hsome⟩ := atomicNew_fadd old r sn (fun _ => hr)
    split
    next neg m e hd =>
      have hx : ∀ n : Int, faddValue neg m e (w / 2) = n ↔ faddUnits (w / 2) r.toNat = some n := faddUnits_spec hd
      refine ⟨fun n hn => (hsome n ((hx n).mp hn)).2, fun hn => ?_⟩
      cases hu : faddUnits (w / 2) r.toNat with
      | none => exact hnone hu
      | some n => exact (hsome n hu).1 (hn n ((hx n).mpr hu))
    next hd => exact hnone (faddUnits_not_finite hd)

/-! ### Rows (R115, Table 04-9) -/

section
variable {s : State} {c : BitVec 9} {t : BitVec 10} {th : Thread} {wide : Bool} {f : BitVec 48}

/-- The bytes of an atomic's word. -/
def atomicBytes (wide : Bool) : Nat := if wide then 16 else 8

/-- The effective address of an atomic. -/
def atomicAddr (th : Thread) (f : BitVec 48) : W64 := th.getS (opField f 43 5) + (f.extractLsb' 0 19).signExtend 64

/-- The operand of an atomic in a register or pair. -/
def atomicOperand (wide : Bool) (th : Thread) (k : Nat) : Nat := if wide then th.getPair k else (th.getS k).toNat

/-- A thread whose register or pair has received the old value of an atomic. -/
def atomicPut (wide : Bool) (rr : Nat) (th : Thread) (v : Nat) : Thread :=
  if wide then th.setPair rr v else th.setS rr (BitVec.ofNat 64 v)

theorem atomicPut_pc (rr v : Nat) : (atomicPut wide rr th v).pc = th.pc := by
  cases wide
  · exact Thread.setS_pc _ _ _
  · exact Thread.setPair_pc _ _ _

theorem thread?_scratchWrite (s : State) (c a : Nat) (d : Bytes) (k : Nat) :
    ((s.scratchWrite c a d).cell c).thread? k = (s.cell c).thread? k := by
  obtain ⟨_, _, hthreads, _⟩ := writesReadBack.2 s c a d 0
  exact congrArg (fun l => Tab.find? l k) hthreads

/-- The fields of an atomic are legal (R109, R115). -/
def atomicLegal (wide : Bool) (f : BitVec 48) (kind : AtomKind) : Prop :=
  zeroFields f [(30, 8)] = true ∧ opField f 24 2 ≠ 3 ∧ (f.getLsbD 29 = true → f.getLsbD 26 = false ∧ opField f 24 2 = 0) ∧
    (wide = true → opField f 38 5 % 2 = 0 ∧ opField f 19 5 % 2 = 0) ∧ (kind ≠ .cas → opField f 19 5 = 0)

/-- The check of an atomic's fields, and its operation: the two parts of its row. -/
def atomicBad (wide : Bool) (kind : AtomKind) (k : Ctx) : Bool :=
  !onlyBits k (mMemB + mMemR + mMemSp + mMemAh + mMemOfs) || memAh k == 3 || (memSp k && (memPh k || memAh k != 0)) ||
    (kind != .cas && fldOf k 19 5 != 0) || (wide && (memR k % 2 != 0 || fldOf k 19 5 % 2 != 0))

def atomicOp (wide : Bool) (kind : AtomKind) (k : Ctx) (s : State) : Res :=
  let n := atomicBytes wide
  let ea := memEa k 19
  let r := atomicOperand wide k.th (memR k)
  let x := atomicOperand wide k.th (fldOf k 19 5)
  if ea.toNat % n != 0 then .trap s 0x04 0 ea
  else if memSp k then
    if ea.toNat + n > scratchSize k.x then .trap s 0x05 0 ea
    else
      let old := leNat (scratchRead k.x ea.toNat n)
      match atomicNew kind (8 * n) old r x with
      | .error d => .trap s 0x0B d ea
      | .ok v => .done ((s.scratchWrite k.c ea.toNat (leBytes n v)).modThread k.c k.t (fun y => atomicPut wide (memR k) y old))
  else if ea.toNat + n > 2 ^ 57 then .trap s 0x08 1 ea
  else match s.cellReq k.c none with
    | none => .wait s
    | some q =>
      match s.poolAtomic q k.c k.t kind n ea.toNat r x (memAh k) with
      | (.ok old, s1) => .done (s1.modThread k.c k.t (fun y => atomicPut wide (memR k) y old))
      | (.error st, s1) => stopRes k s1 ea st

theorem State.atomicRow_eq (s : State) (c : BitVec 9) (t : BitVec 10) (wide : Bool) (f : BitVec 48) (kind : AtomKind) :
    s.atomicRow c t wide f kind = s.issue c t f none (atomicBad wide kind) (atomicOp wide kind) := rfl

theorem atomicBad_of_legal (s : State) (c : BitVec 9) (t : BitVec 10) (th : Thread) {kind : AtomKind} (hl : atomicLegal wide f kind) :
    atomicBad wide kind (s.ctx c t th f) = false := by
  obtain ⟨hz, hah, hsp, hw, hsn⟩ := hl
  have hm := onlyBits_eq_zeroFields (mask := mMemB + mMemR + mMemSp + mMemAh + mMemOfs) [(30, 8)] s c t th f (by decide)
  simp only [atomicBad, hm, hz, memAh, memR, memSp_ctx, memPh_ctx, fldOf_ctx]
  simp only [Bool.or_eq_false_iff, Bool.and_eq_false_iff, Bool.not_true, beq_eq_false_iff_ne, bne_eq_false_iff_eq, true_and]
  refine ⟨⟨⟨hah, ?_⟩, ?_⟩, ?_⟩
  · exact Bool.eq_false_or_eq_true (f.getLsbD 29) |>.symm.imp_right hsp
  · exact or_iff_not_imp_left.mpr hsn
  · exact Bool.eq_false_or_eq_true wide |>.symm.imp_right hw

section
variable {kind : AtomKind}

theorem memEa_atomic (s : State) (c : BitVec 9) (t : BitVec 10) (th : Thread) (f : BitVec 48) :
    memEa (s.ctx c t th f) 19 = atomicAddr th f := memEa_ctx s c t th f 19

theorem atomicOp_misaligned (s : State) (c : BitVec 9) (t : BitVec 10) (th : Thread) (f : BitVec 48)
    (ha : (atomicAddr th f).toNat % atomicBytes wide ≠ 0) :
    atomicOp wide kind (s.ctx c t th f) s = .trap s 0x04 0 (atomicAddr th f) := by
  rw [atomicOp, memEa_atomic]
  exact if_pos (bne_iff_ne.mpr ha)

/-- An atomic on a scratchpad word below the declared size. -/
theorem atomicOp_scratch (s : State) (c : BitVec 9) (t : BitVec 10) (th : Thread) (f : BitVec 48)
    (ha : (atomicAddr th f).toNat % atomicBytes wide = 0) (hsp : f.getLsbD 29 = true)
    (hin : (atomicAddr th f).toNat + atomicBytes wide ≤ scratchSize (s.cell c.toNat)) :
    let ea := atomicAddr th f
    let n := atomicBytes wide
    let old := leNat (scratchRead (s.cell c.toNat) ea.toNat n)
    let new := atomicNew kind (8 * n) old (atomicOperand wide th (opField f 38 5)) (atomicOperand wide th (opField f 19 5))
    (∀ v, new = .ok v → atomicOp wide kind (s.ctx c t th f) s =
      .done ((s.scratchWrite c.toNat ea.toNat (leBytes n v)).modThread c.toNat t.toNat
        (fun y => atomicPut wide (opField f 38 5) y old))) ∧
    (∀ d, new = .error d → atomicOp wide kind (s.ctx c t th f) s = .trap s 0x0B d ea) := by
  intro ea n old new
  have ha' : ¬(ea.toNat % n != 0) = true := by simpa using ha
  have hop : atomicOp wide kind (s.ctx c t th f) s = match new with
      | .error d => .trap s 0x0B d ea
      | .ok v => .done ((s.scratchWrite c.toNat ea.toNat (leBytes n v)).modThread c.toNat t.toNat
          (fun y => atomicPut wide (opField f 38 5) y old)) := by
    simp only [atomicOp, memEa_atomic, memSp_ctx, hsp, memR, fldOf_ctx, State.ctx_th, if_true]
    exact (if_neg ha').trans (if_neg (not_lt.mpr hin))
  exact ⟨fun v hv => by rw [hop, hv], fun d hd => by rw [hop, hd]⟩

/-- An atomic on a pool word that the access reaches. -/
theorem atomicOp_pool {q : XlReq} {old : Nat} {s1 : State} (s : State) (c : BitVec 9) (t : BitVec 10) (th : Thread) (f : BitVec 48)
    (ha : (atomicAddr th f).toNat % atomicBytes wide = 0) (hsp : f.getLsbD 29 = false)
    (hin : (atomicAddr th f).toNat + atomicBytes wide ≤ 2 ^ 57) (hq : s.cellReq c.toNat none = some q)
    (hp : s.poolAtomic q c.toNat t.toNat kind (atomicBytes wide) (atomicAddr th f).toNat (atomicOperand wide th (opField f 38 5))
      (atomicOperand wide th (opField f 19 5)) (opField f 24 2) = (.ok old, s1)) :
    atomicOp wide kind (s.ctx c t th f) s =
      .done (s1.modThread c.toNat t.toNat (fun y => atomicPut wide (opField f 38 5) y old)) := by
  have ha' : ¬((atomicAddr th f).toNat % atomicBytes wide != 0) = true := by simpa using ha
  simp only [atomicOp, memEa_atomic, memSp_ctx, hsp, memR, memAh, fldOf_ctx, State.ctx_th, State.ctx_c, State.ctx_t, hq, hp,
    Bool.false_eq_true, if_false]
  rw [if_neg ha', if_neg (not_lt.mpr hin)]

end

end

/-- Settles O15: each row is the atomic of its kind. -/
theorem atomicResults : Obligations.AtomicResults := by
  intro s c t th wide f h hz hah hsp rr sn hw n ea val put
  have hth := ((State.canRun_iff s c t th).mp h).2.1
  have row {i : Instr} {kind : AtomKind} (hi : exec i s = .next (s.atomicRow c t wide f kind)) (hcas : kind ≠ .cas → sn = 0) :
      (ea.toNat % n ≠ 0 → exec i s = .next (s.trapped c t 0x04 0 ea)) ∧
      (ea.toNat % n = 0 → f.getLsbD 29 = true → ea.toNat + n ≤ scratchSize (s.cell c.toNat) →
        let old := leNat (scratchRead (s.cell c.toNat) ea.toNat n)
        (∀ v, atomicNew kind (8 * n) old (val rr) (val sn) = .ok v →
          exec i s = .next ((s.scratchWrite c.toNat ea.toNat (leBytes n v)).retire c t (put old))) ∧
        (∀ d, atomicNew kind (8 * n) old (val rr) (val sn) = .error d → exec i s = .next (s.trapped c t 0x0B d ea))) ∧
      (ea.toNat % n = 0 → f.getLsbD 29 = false → ea.toNat + n ≤ 2 ^ 57 →
        ∀ q old s1, s.cellReq c.toNat none = some q →
          s.poolAtomic q c.toNat t.toNat kind n ea.toNat (val rr) (val sn) (opField f 24 2) = (.ok old, s1) →
          (s1.cell c.toNat).thread? t.toNat = some th → exec i s = .next (s1.retire c t (put old))) := by
    have hb := atomicBad_of_legal s c t th ⟨hz, hah, hsp, hw, hcas⟩
    rw [State.atomicRow_eq] at hi
    refine ⟨fun ha => ?misaligned, fun ha hs hin => ?scratch, fun ha hs hin q old s1 hq hp ht => ?pool⟩
    case misaligned => exact hi.trans (congrArg Host.Outcome.next (State.issue_trap h hb (atomicOp_misaligned s c t th f ha)))
    case scratch =>
      intro old
      obtain ⟨hok, herr⟩ := atomicOp_scratch (kind := kind) s c t th f ha hs hin
      exact ⟨fun v hv => hi.trans (congrArg Host.Outcome.next (State.issue_modThread_of (fun y => atomicPut wide rr y old) h hb
          (hok v hv) ((thread?_scratchWrite _ _ _ _ _).trans hth) (atomicPut_pc _ _))),
        fun d hd => hi.trans (congrArg Host.Outcome.next (State.issue_trap h hb (herr d hd)))⟩
    case pool =>
      exact hi.trans (congrArg Host.Outcome.next (State.issue_modThread_of (fun y => atomicPut wide rr y old) h hb
        (atomicOp_pool s c t th f ha hs hin hq hp) ht (atomicPut_pc _ _)))
  simp only [List.forall_mem_cons, List.not_mem_nil, false_imp_iff, implies_true, and_true]
  exact ⟨row rfl, row rfl, row rfl, row rfl, row rfl, row rfl, row rfl, row rfl, row rfl, row rfl, row rfl⟩

end Sys2Proof.Machine
end

section
/-! PROOFS. What registers hold: numbers made of parts of equal width, the bytes and the elements of a vector register, and the runs of
bytes that a masked access touches. -/

namespace Sys2Proof.Machine

/-! ### Numbers made of parts -/

theorem fieldOf_eq_div_mod (n lo len : Nat) : fieldOf n lo len = n / 2 ^ lo % 2 ^ len := by
  rw [fieldOf, Nat.shiftRight_eq_div_pow]

theorem fieldOf_of_lt {n len : Nat} (h : n < 2 ^ len) : fieldOf n 0 len = n := by
  rw [fieldOf_eq_div_mod, Nat.pow_zero, Nat.div_one, Nat.mod_eq_of_lt h]

/-- A field of the low part of a number is a field of the number. -/
theorem fieldOf_mod {n lo len m : Nat} (h : lo + len ≤ m) : fieldOf (n % 2 ^ m) lo len = fieldOf n lo len := by
  refine Nat.eq_of_testBit_eq fun i => ?_
  rw [testBit_fieldOf, testBit_fieldOf, Nat.testBit_mod_two_pow]
  by_cases hi : i < len
  · simp [hi, show lo + i < m by omega]
  · simp [hi]

/-- A field of a number reads back from a register wide enough to hold it. -/
theorem fieldOf_toNat_ofNat {w n lo len : Nat} (h : lo + len ≤ w) : fieldOf (BitVec.ofNat w n).toNat lo len = fieldOf n lo len := by
  rw [BitVec.toNat_ofNat, fieldOf_mod h]

theorem joinBits_lt {w : Nat} {l : List Nat} (h : ∀ a ∈ l, a < 2 ^ w) : joinBits w l < 2 ^ (w * l.length) := by
  induction l with
  | nil => simp [joinBits]
  | cons a l ih =>
    rw [List.forall_mem_cons] at h
    have hl := ih h.2
    rw [joinBits, List.length_cons, Nat.mul_succ, Nat.add_comm (w * l.length), Nat.pow_add]
    calc a + 2 ^ w * joinBits w l < 2 ^ w + 2 ^ w * joinBits w l := by have := h.1; omega
      _ = 2 ^ w * (joinBits w l + 1) := by rw [Nat.mul_succ, Nat.add_comm]
      _ ≤ _ := Nat.mul_le_mul_left _ hl

/-- The parts of a number read back. -/
theorem fieldOf_joinBits {w : Nat} {l : List Nat} (h : ∀ a ∈ l, a < 2 ^ w) (i : Nat) : fieldOf (joinBits w l) (w * i) w = l.getD i 0 := by
  induction l generalizing i with
  | nil => simp [joinBits, fieldOf]
  | cons a l ih =>
    rw [List.forall_mem_cons] at h
    cases i with
    | zero =>
      rw [Nat.mul_zero, fieldOf_eq_div_mod, Nat.pow_zero, Nat.div_one, joinBits, Nat.add_mul_mod_self_left, Nat.mod_eq_of_lt h.1]
      rfl
    | succ i =>
      have hd : (a + 2 ^ w * joinBits w l) / 2 ^ w = joinBits w l := by
        rw [Nat.add_mul_div_left _ _ (Nat.two_pow_pos w), Nat.div_eq_of_lt h.1, Nat.zero_add]
      rw [List.getD_cons_succ, ← ih h.2 i, fieldOf_eq_div_mod, fieldOf_eq_div_mod, joinBits, Nat.mul_succ, Nat.add_comm (w * i),
        Nat.pow_add, ← Nat.div_div_eq_div_mul, hd]

/-- A short field at the bottom of a part that is no longer. -/
theorem fieldOf_joinBits_low {w n : Nat} {l : List Nat} (h : ∀ a ∈ l, a < 2 ^ n) (hn : n ≤ w) (i : Nat) :
    fieldOf (joinBits w l) (w * i) n = l.getD i 0 := by
  have hw : ∀ a ∈ l, a < 2 ^ w := fun a ha => lt_of_lt_of_le (h a ha) (Nat.pow_le_pow_right (by decide) hn)
  have hi : l.getD i 0 < 2 ^ n := by
    rw [List.getD_eq_getElem?_getD]
    cases hg : l[i]? with
    | none => exact Nat.two_pow_pos n
    | some a => exact h a (List.mem_of_getElem? hg)
  have hj := fieldOf_joinBits hw i
  rw [fieldOf_eq_div_mod] at hj ⊢
  rw [← Nat.mod_mod_of_dvd _ (Nat.pow_dvd_pow 2 hn), hj, Nat.mod_eq_of_lt hi]

theorem getD_map_range {α : Type} (g : Nat → α) (d : α) {n i : Nat} (h : i < n) : ((List.range n).map g).getD i d = g i := by
  simp [List.getD_eq_getElem?_getD, h]

/-! ### Bytes -/

theorem leNat_eq_joinBits (l : Bytes) : leNat l = joinBits 8 (l.map BitVec.toNat) := by
  induction l with
  | nil => rfl
  | cons b l ih => 
    rw [leNat, List.map_cons, joinBits, ih]
    norm_num

theorem fieldOf_leNat (l : Bytes) (i : Nat) : fieldOf (leNat l) (8 * i) 8 = (l.getD i 0).toNat := by
  rw [leNat_eq_joinBits, fieldOf_joinBits]
  · simp only [List.getD_eq_getElem?_getD, List.getElem?_map]
    cases l[i]? <;> rfl
  · intro a ha
    obtain ⟨b, _, rfl⟩ := List.mem_map.mp ha
    exact b.isLt

/-- A byte of a number. -/
def byteOf (n i : Nat) : Byte := BitVec.ofNat 8 (fieldOf n (8 * i) 8)

theorem toNat_byteOf (n i : Nat) : (byteOf n i).toNat = fieldOf n (8 * i) 8 := by
  rw [byteOf, BitVec.toNat_ofNat, Nat.mod_eq_of_lt (fieldOf_lt _ _ _)]

theorem leBytes_eq_map (n v : Nat) : leBytes n v = (List.range n).map (byteOf v) := by
  induction n generalizing v with
  | zero => rfl
  | succ n ih =>
    rw [leBytes, ih, List.range_succ_eq_map, List.map_cons, List.map_map]
    refine congrArg₂ List.cons ?_ (List.map_congr_left fun i _ => ?_)
    · refine BitVec.eq_of_toNat_eq ?_
      rw [toNat_byteOf, BitVec.toNat_ofNat, Nat.mul_zero, fieldOf_eq_div_mod, Nat.pow_zero, Nat.div_one]
    · refine BitVec.eq_of_toNat_eq ?_
      rw [Function.comp_apply, toNat_byteOf, toNat_byteOf, fieldOf_eq_div_mod, fieldOf_eq_div_mod, Nat.div_div_eq_div_mul,
        show (256 : Nat) = 2 ^ 8 from rfl, ← Nat.pow_add, Nat.mul_succ, Nat.add_comm 8]

theorem getD_leBytes {n i : Nat} (v : Nat) (h : i < n) : (leBytes n v).getD i 0 = byteOf v i := by
  rw [leBytes_eq_map, getD_map_range _ _ h]

theorem drop_take_leBytes {n a k : Nat} (v : Nat) (h : a + k ≤ n) :
    ((leBytes n v).drop a).take k = (List.range k).map (fun j => byteOf v (a + j)) := by
  refine List.ext_getElem (by simp; omega) fun i h1 h2 => ?_
  simp [leBytes_eq_map]

/-- The bytes of a register read back from it. -/
theorem fieldOf_ofNat_leNat (d : Bytes) (i : Nat) (hi : i < 256) :
    fieldOf (BitVec.ofNat 2048 (leNat d)).toNat (8 * i) 8 = (d.getD i 0).toNat := by
  rw [BitVec.toNat_ofNat, fieldOf_mod (by omega), fieldOf_leNat]

/-! ### Bytes put over a register (R109, R111) -/

/-- One run of bytes put over others, as in `overBytes`. -/
def putRun (acc : Bytes × Bytes) (r : Nat × Nat) : Bytes × Bytes :=
  (acc.1.take r.1 ++ acc.2.take r.2 ++ acc.1.drop (r.1 + r.2), acc.2.drop r.2)

theorem overBytes_eq (old : BitVec 2048) (l : List (Nat × Nat)) (d : Bytes) :
    overBytes old l d = BitVec.ofNat 2048 (leNat (l.foldl putRun (leBytes 256 old.toNat, d)).1) := rfl

theorem getD_putRun {base d : Bytes} {a g : Nat} (ha : a + g ≤ base.length) (hd : g ≤ d.length) (b : Nat) :
    (putRun (base, d) (a, g)).1.getD b 0 = if a ≤ b ∧ b < a + g then d.getD (b - a) 0 else base.getD b 0 := by
  have h1 : (base.take a).length = a := by rw [List.length_take]; omega
  have h2 : (d.take g).length = g := by rw [List.length_take]; omega
  simp only [putRun, List.getD_eq_getElem?_getD]
  by_cases hb : b < a
  · rw [if_neg (by omega), List.append_assoc, List.getElem?_append_left (by omega), List.getElem?_take_of_lt hb]
  · by_cases hg : b < a + g
    · rw [if_pos (by omega), List.append_assoc, List.getElem?_append_right (by omega), List.getElem?_append_left (by omega),
        List.getElem?_take_of_lt (by omega), h1]
    · rw [if_neg (by omega), List.getElem?_append_right (by rw [List.length_append]; omega), List.length_append, List.getElem?_drop]
      congr 2
      omega

theorem length_putRun {base d : Bytes} {a g : Nat} (ha : a + g ≤ base.length) (hd : g ≤ d.length) :
    (putRun (base, d) (a, g)).1.length = base.length := by
  simp [putRun]
  omega

/-- Runs of g bytes at different multiples of g put over others: a byte of one of them is the data's, any other is as before. -/
theorem getD_foldl_putRun {g : Nat} (hg : 0 < g) {idx : List Nat} {base d : Bytes} (hd : d.length = g * idx.length)
    (hin : ∀ j ∈ idx, g * j + g ≤ base.length) (hnd : idx.Nodup) :
    ((idx.map (fun j => (g * j, g))).foldl putRun (base, d)).1.length = base.length ∧
      ∀ b, ((idx.map (fun j => (g * j, g))).foldl putRun (base, d)).1.getD b 0 =
        if b / g ∈ idx then d.getD (g * idx.idxOf (b / g) + b % g) 0 else base.getD b 0 := by
  induction idx generalizing base d with
  | nil => simp
  | cons j idx ih =>
    rw [List.length_cons, Nat.mul_succ] at hd
    rw [List.forall_mem_cons] at hin
    rw [List.nodup_cons] at hnd
    have hlen : (putRun (base, d) (g * j, g)).1.length = base.length := length_putRun hin.1 (by omega)
    have hget := getD_putRun (d := d) hin.1 (show g ≤ d.length by omega)
    obtain ⟨hl, hb⟩ := ih (base := (putRun (base, d) (g * j, g)).1) (d := d.drop g) (by rw [List.length_drop]; omega)
      (by rw [hlen]; exact hin.2) hnd.2
    rw [List.map_cons, List.foldl_cons]
    refine ⟨hl.trans hlen, fun b => (hb b).trans ?_⟩
    have hmod : g * (b / g) + b % g = b := Nat.div_add_mod b g
    have hlt : b % g < g := Nat.mod_lt _ hg
    by_cases hj : b / g = j
    · subst hj
      rw [if_neg hnd.1, if_pos List.mem_cons_self, hget, if_pos (by omega), List.idxOf_cons_self]
      congr 1
      omega
    · rw [hget]
      by_cases hmem : b / g ∈ idx
      · rw [if_pos hmem, if_pos (List.mem_cons_of_mem _ hmem), List.idxOf_cons_ne _ (Ne.symm hj)]
        simp only [List.getD_eq_getElem?_getD, List.getElem?_drop]
        congr 2
        rw [Nat.mul_succ]
        omega
      · have hout : ¬(g * j ≤ b ∧ b < g * j + g) := fun h =>
          hj (Nat.div_eq_of_lt_le (by rw [Nat.mul_comm]; exact h.1) (by rw [Nat.add_mul, Nat.one_mul, Nat.mul_comm]; exact h.2))
        rw [if_neg hmem, if_neg hout, if_neg (by simp [hj, hmem])]

/-- A byte of a register over which runs of g bytes have been put. -/
theorem fieldOf_overBytes {g : Nat} (hg : 0 < g) {idx : List Nat} (old : BitVec 2048) {d : Bytes} (hd : d.length = g * idx.length)
    (hin : ∀ j ∈ idx, g * j + g ≤ 256) (hnd : idx.Nodup) {b : Nat} (hb : b < 256) :
    fieldOf (overBytes old (idx.map (fun j => (g * j, g))) d).toNat (8 * b) 8 =
      if b / g ∈ idx then (d.getD (g * idx.idxOf (b / g) + b % g) 0).toNat else fieldOf old.toNat (8 * b) 8 := by
  obtain ⟨-, hget⟩ := getD_foldl_putRun (base := leBytes 256 old.toNat) hg hd (by rwa [length_leBytes]) hnd
  rw [overBytes_eq, fieldOf_ofNat_leNat _ b hb, hget b]
  split
  · rfl
  · rw [getD_leBytes _ hb, toNat_byteOf]

end Sys2Proof.Machine
end

section
/-! PROOFS. The vector loads and gathers, the vector stores and scatters (O12, O13). -/

namespace Sys2Proof.Machine

/-! ### Which positions are active, and where the segments lie (R103, R111) -/

section
variable {s s1 : State} {c : BitVec 9} {t : BitVec 10} {th : Thread} {f : BitVec 48}

theorem memActive_ctx (s : State) (c : BitVec 9) (t : BitVec 10) (th : Thread) (f : BitVec 48) :
    memActive (s.ctx c t th f) = memMask th f := by
  funext i
  rw [memActive, memMask, memMe, testBit_ctx, memMk, fldOf_ctx]
  rfl

/-- The address of segment i of g bytes. -/
def segAt (th : Thread) (f : BitVec 48) (g i : Nat) : Nat :=
  ((effAddr th f).toNat + fieldOf (th.getV (opField f 34 4)).toNat (32 * i) 32 * g) % 2 ^ 64

theorem segAddr_ctx (s : State) (c : BitVec 9) (t : BitVec 10) (th : Thread) (f : BitVec 48) (g i : Nat) :
    segAddr (s.ctx c t th f) g i = segAt th f g i := by
  rw [segAddr, memEa_effAddr, memVi, fldOf_ctx]
  rfl

/-- The active segments of g bytes. -/
def activeSegs (th : Thread) (f : BitVec 48) (g : Nat) : List Nat := (List.range (256 / g)).filter (memMask th f)

theorem segActive_ctx (s : State) (c : BitVec 9) (t : BitVec 10) (th : Thread) (f : BitVec 48) (g : Nat) :
    segActive (s.ctx c t th f) g = activeSegs th f g := by
  rw [segActive, memActive_ctx, activeSegs]

theorem mem_activeSegs {g i : Nat} : i ∈ activeSegs th f g ↔ i < 256 / g ∧ memMask th f i = true := by
  rw [activeSegs, List.mem_filter, List.mem_range]

theorem activeSegs_nodup (th : Thread) (f : BitVec 48) (g : Nat) : (activeSegs th f g).Nodup := List.nodup_range.filter _

theorem segAligned_ctx (s : State) (c : BitVec 9) (t : BitVec 10) (th : Thread) (f : BitVec 48) (g : Nat) :
    segAligned (s.ctx c t th f) g = true ↔ ∀ i ∈ activeSegs th f g, segAt th f g i % min g 64 = 0 := by
  have hmin : (if g < 64 then g else 64) = min g 64 := by
    rw [Nat.min_def]
    split <;> split <;> omega
  simp only [segAligned, segActive_ctx, segAddr_ctx, hmin, List.all_eq_true, beq_iff_eq]

theorem segs_le {g : Nat} : ∀ j ∈ activeSegs th f g, g * j + g ≤ 256 := by
  intro j hj
  have h := Nat.mul_le_mul_left g (mem_activeSegs.mp hj).1
  have := Nat.mul_div_le 256 g
  rw [Nat.mul_succ] at h
  omega

/-! ### Legal words -/

theorem vmemBad_of_legal (s : State) (c : BitVec 9) (t : BitVec 10) (th : Thread) {store : Bool} (hl : memLegal f store = true)
    (h42 : opField f 42 1 = 0) (h34 : opField f 34 4 = 0) : vmemBad (s.ctx c t th f) store 0 = false := by
  obtain ⟨_, hah, _, _⟩ := (memLegal_iff f store).mp hl
  have hz : zeroFields f [(24, 2), (34, 4), (42, 1)] = true := by simp [zeroFields, hah, h34, h42]
  rw [vmemBad, onlyBits_eq_zeroFields [(24, 2), (34, 4), (42, 1)] s c t th f (by decide), hz, memBad_of_legal s c t th hl]
  rfl

theorem vsegBad_of_legal (s : State) (c : BitVec 9) (t : BitVec 10) (th : Thread) {store : Bool} (hl : memLegal f store = true)
    (h42 : opField f 42 1 = 0) : vmemBad (s.ctx c t th f) store mMemVi = false := by
  obtain ⟨_, hah, _, _⟩ := (memLegal_iff f store).mp hl
  have hz : zeroFields f [(24, 2), (42, 1)] = true := by simp [zeroFields, hah, h42]
  rw [vmemBad, onlyBits_eq_zeroFields [(24, 2), (42, 1)] s c t th f (by decide), hz, memBad_of_legal s c t th hl]
  rfl

/-! ### Loads -/

/-- A vector load whose bytes can be fetched writes its register. -/
theorem State.vload_of_fetched {bad : Ctx → Bool} {l : List (Nat × Nat)} {d : Bytes} {al : Ctx → Bool} {ranges : Ctx → List (Nat × Nat)}
    (w : BitVec 2048 → Bytes → Ctx → BitVec 2048) (h : s.canRun c t th = true) (hb : bad (s.ctx c t th f) = false)
    (hea : f.getLsbD 29 = true ∨ (effAddr th f).toNat < 2 ^ 57) (hal : al (s.ctx c t th f) = true)
    (hl : ranges (s.ctx c t th f) = l) (hf : s.fetched c t f l = some (d, s1)) (ht : (s1.cell c.toNat).thread? t.toNat = some th) :
    s.issue c t f none bad (fun k s => loadRes k s (memEa k 24) (al k) (ranges k)
        (fun y d => y.setV (memVr k) (w (y.getV (memVr k)) d k))) =
      s1.retire c t (th.setV (opField f 38 4) (w (th.getV (opField f 38 4)) d (s.ctx c t th f))) := by
  rw [State.issue_modThread_of (fun y => y.setV (opField f 38 4) (w (y.getV (opField f 38 4)) d (s.ctx c t th f))) h hb ?_ ht
    (Thread.setV_pc _ _ _)]
  simp only [hal, hl, memEa_effAddr, memVr, fldOf_ctx]
  exact loadRes_of_fetched th _ hea hf

/-- The bytes of a register of which some are replaced. -/
theorem fieldOf_pickBytes (p : Nat → Bool) (old : BitVec 2048) (new : Bytes) {i : Nat} (hi : i < 256) :
    fieldOf (BitVec.ofNat 2048 (leNat (pickBytes p (leBytes 256 old.toNat) new))).toNat (8 * i) 8 =
      if p i then (new.getD i 0).toNat else fieldOf old.toNat (8 * i) 8 := by
  rw [fieldOf_ofNat_leNat _ i hi, pickBytes, getD_map_range _ _ hi]
  cases p i with
  | true => rfl
  | false =>
    rw [if_neg Bool.false_ne_true, if_neg Bool.false_ne_true, getD_leBytes _ hi, toNat_byteOf]

/-- The parts of 64 bytes that hold an active byte. -/
def vldParts (p : Nat → Bool) : List Nat := (List.range 4).filter (fun j => (List.range 64).any (fun i => p (64 * j + i)))

theorem mem_vldParts {p : Nat → Bool} {i : Nat} (hi : i < 256) (hp : p i = true) : i / 64 ∈ vldParts p := by
  refine List.mem_filter.mpr ⟨List.mem_range.mpr (by omega), List.any_eq_true.mpr ⟨i % 64, List.mem_range.mpr (by omega), ?_⟩⟩
  rwa [Nat.div_add_mod]

theorem vldParts_le {p : Nat → Bool} : ∀ j ∈ vldParts p, 64 * j + 64 ≤ 256 := fun j hj => by
  have := List.mem_range.mp (List.mem_filter.mp hj).1
  omega

/-- The parts of 64 bytes of the packed form that hold a bit of an active element. -/
def packedParts (p : Nat → Bool) : List Nat :=
  (List.range 3).filter (fun j => (List.range 256).any (fun i => p i && decide (6 * i < 512 * (j + 1)) && decide (512 * j < 6 * i + 6)))

theorem packedParts_le {p : Nat → Bool} : ∀ j ∈ packedParts p, 64 * j + 64 ≤ 256 := fun j hj => by
  have := List.mem_range.mp (List.mem_filter.mp hj).1
  omega

/-- A byte of the data of some parts; a part that is not among them has none. -/
def partByte (parts : List Nat) (d : Bytes) (b : Nat) : Byte := d.getD (64 * parts.idxOf (b / 64) + b % 64) 0

/-- A byte of parts put over zeros. -/
theorem byteOf_overBytes_zero {parts : List Nat} {d : Bytes} (hd : d.length = 64 * parts.length)
    (hin : ∀ j ∈ parts, 64 * j + 64 ≤ 256) (hnd : parts.Nodup) {b : Nat} (hb : b < 256) :
    byteOf (overBytes 0 (parts.map (fun j => (64 * j, 64))) d).toNat b = partByte parts d b := by
  refine BitVec.eq_of_toNat_eq ?_
  rw [toNat_byteOf, fieldOf_overBytes (by decide) 0 hd hin hnd hb]
  by_cases hmem : b / 64 ∈ parts
  · rw [if_pos hmem, partByte]
  · have hlong : d.length ≤ 64 * parts.idxOf (b / 64) + b % 64 := by
      rw [List.idxOf_eq_length hmem, hd]
      exact Nat.le_add_right _ _
    rw [if_neg hmem, partByte, List.getD_eq_getElem?_getD, List.getElem?_eq_none hlong]
    simp [fieldOf]

/-- The three packed bytes of four elements. -/
theorem packed6_leBytes {v i : Nat} (hi : i < 256) :
    packed6 (leBytes 192 v) i =
      fieldOf (leNat [byteOf v (i / 4 * 3), byteOf v (i / 4 * 3 + 1), byteOf v (i / 4 * 3 + 2)]) (i % 4 * 6) 6 := by
  rw [packed6, drop_take_leBytes v (by omega), Nat.mul_comm 3, Nat.mul_comm 6]
  rfl

theorem packed6_lt (d : Bytes) (i : Nat) : packed6 d i < 2 ^ 6 := fieldOf_lt _ _ _

theorem State.execVld_of_fetched {d : Bytes} (h : s.canRun c t th = true) (hl : memLegal f false = true) (h42 : opField f 42 1 = 0)
    (h34 : opField f 34 4 = 0) (hea : f.getLsbD 29 = true ∨ (effAddr th f).toNat < 2 ^ 57) (hal : (effAddr th f).toNat % 64 = 0)
    (hf : s.fetched c t f ((vldParts (memMask th f)).map (fun j => ((effAddr th f).toNat + 64 * j, 64))) = some (d, s1))
    (hd : d.length = 64 * (vldParts (memMask th f)).length) (ht : (s1.cell c.toNat).thread? t.toNat = some th) :
    ∃ w : BitVec 2048, exec (.vld c t f) s = .next (s1.retire c t (th.setV (opField f 38 4) w)) ∧
      ∀ i < 256, fieldOf w.toNat (8 * i) 8 = if memMask th f i then
        (d.getD (64 * (vldParts (memMask th f)).idxOf (i / 64) + i % 64) 0).toNat
        else fieldOf (th.getV (opField f 38 4)).toNat (8 * i) 8 := by
  have hparts : activeParts (s.ctx c t th f) 4 64 = vldParts (memMask th f) := by
    simp only [activeParts, memActive_ctx, vldParts]
  have hrow := State.vload_of_fetched (s1 := s1) (bad := fun k => vmemBad k false 0) (al := fun k => (memEa k 24).toNat % 64 == 0)
    (ranges := fun k => rangesAt (memEa k 24) ((activeParts k 4 64).map (fun j => (64 * j, 64))))
    (fun old d k => BitVec.ofNat 2048 (leNat (pickBytes (memActive k) (leBytes 256 old.toNat)
      (leBytes 256 (overBytes old ((activeParts k 4 64).map (fun j => (64 * j, 64))) d).toNat))))
    h (vmemBad_of_legal s c t th hl h42 h34) hea (by simp only [memEa_effAddr]; exact beq_iff_eq.mpr hal)
    (by simp only [hparts, memEa_effAddr, rangesAt, List.map_map]; rfl) hf ht
  refine ⟨_, congrArg Host.Outcome.next hrow, fun i hi => ?_⟩
  rw [fieldOf_pickBytes _ _ _ hi, memActive_ctx, hparts, getD_leBytes _ hi, toNat_byteOf]
  by_cases hp : memMask th f i = true
  · rw [if_pos hp, if_pos hp, fieldOf_overBytes (by decide) _ hd vldParts_le (List.nodup_range.filter _) hi,
      if_pos (mem_vldParts hi hp)]
  · rw [if_neg hp, if_neg hp]

theorem State.execVldp6_of_fetched {d : Bytes} (h : s.canRun c t th = true) (hl : memLegal f false = true) (h42 : opField f 42 1 = 0)
    (h34 : opField f 34 4 = 0) (hea : f.getLsbD 29 = true ∨ (effAddr th f).toNat < 2 ^ 57) (hal : (effAddr th f).toNat % 64 = 0)
    (hf : s.fetched c t f ((packedParts (memMask th f)).map (fun j => ((effAddr th f).toNat + 64 * j, 64))) = some (d, s1))
    (hd : d.length = 64 * (packedParts (memMask th f)).length) (ht : (s1.cell c.toNat).thread? t.toNat = some th) :
    ∃ w : BitVec 2048, exec (.vldp6 c t f) s = .next (s1.retire c t (th.setV (opField f 38 4) w)) ∧
      ∀ i < 256, fieldOf w.toNat (8 * i) 8 = if memMask th f i then
        fieldOf (leNat [partByte (packedParts (memMask th f)) d (i / 4 * 3), partByte (packedParts (memMask th f)) d (i / 4 * 3 + 1),
          partByte (packedParts (memMask th f)) d (i / 4 * 3 + 2)]) (i % 4 * 6) 6
        else fieldOf (th.getV (opField f 38 4)).toNat (8 * i) 8 := by
  have hrow := State.vload_of_fetched (s1 := s1) (bad := fun k => vmemBad k false 0) (al := fun k => (memEa k 24).toNat % 64 == 0)
    (ranges := fun k => rangesAt (memEa k 24) ((packedParts (memActive k)).map (fun j => (64 * j, 64))))
    (fun old d k => BitVec.ofNat 2048 (leNat (pickBytes (memActive k) (leBytes 256 old.toNat) ((List.range 256).map (fun i =>
      BitVec.ofNat 8 (packed6 (leBytes 192 (overBytes 0 ((packedParts (memActive k)).map (fun j => (64 * j, 64))) d).toNat) i))))))
    h (vmemBad_of_legal s c t th hl h42 h34) hea (by simp only [memEa_effAddr]; exact beq_iff_eq.mpr hal)
    (by simp only [memActive_ctx, memEa_effAddr, rangesAt, List.map_map]; rfl) hf ht
  refine ⟨_, congrArg Host.Outcome.next hrow, fun i hi => ?_⟩
  have hlt (n : Nat) : packed6 (leBytes 192 n) i < 2 ^ 8 := (packed6_lt _ i).trans (by decide)
  rw [fieldOf_pickBytes _ _ _ hi, memActive_ctx, getD_map_range _ _ hi, BitVec.toNat_ofNat, Nat.mod_eq_of_lt (hlt _), packed6_leBytes hi,
    byteOf_overBytes_zero hd packedParts_le (List.nodup_range.filter _) (by omega),
    byteOf_overBytes_zero hd packedParts_le (List.nodup_range.filter _) (by omega),
    byteOf_overBytes_zero hd packedParts_le (List.nodup_range.filter _) (by omega)]

theorem State.gatherRow_of_fetched {g : Nat} {d : Bytes} (hg : g ∣ 256) (h : s.canRun c t th = true) (hl : memLegal f false = true)
    (h42 : opField f 42 1 = 0) (hea : f.getLsbD 29 = true ∨ (effAddr th f).toNat < 2 ^ 57)
    (hal : ∀ i ∈ activeSegs th f g, segAt th f g i % min g 64 = 0)
    (hf : s.fetched c t f ((activeSegs th f g).map (fun i => (segAt th f g i, g))) = some (d, s1))
    (hd : d.length = g * (activeSegs th f g).length) (ht : (s1.cell c.toNat).thread? t.toNat = some th) :
    ∃ w : BitVec 2048, s.gatherRow c t f g = s1.retire c t (th.setV (opField f 38 4) w) ∧
      ∀ i < 256, fieldOf w.toNat (8 * i) 8 = if memMask th f (i / g) then
        (d.getD (g * (activeSegs th f g).idxOf (i / g) + i % g) 0).toNat
        else fieldOf (th.getV (opField f 38 4)).toNat (8 * i) 8 := by
  have hg0 : 0 < g := Nat.pos_of_dvd_of_pos hg (by decide)
  have hrow := State.vload_of_fetched (s1 := s1) (bad := fun k => vmemBad k false mMemVi) (al := fun k => segAligned k g)
    (ranges := fun k => (segActive k g).map (fun i => (segAddr k g i, g)))
    (fun old d k => overBytes old ((segActive k g).map (fun i => (g * i, g))) d)
    h (vsegBad_of_legal s c t th hl h42) hea ((segAligned_ctx s c t th f g).mpr hal)
    (by simp only [segActive_ctx, segAddr_ctx]) hf ht
  refine ⟨_, hrow, fun i hi => ?_⟩
  have hmem : i / g ∈ activeSegs th f g ↔ memMask th f (i / g) = true := by
    rw [mem_activeSegs]
    exact and_iff_right (Nat.div_lt_of_lt_mul (by rwa [Nat.mul_div_cancel' hg]))
  rw [segActive_ctx, fieldOf_overBytes hg0 _ hd segs_le (activeSegs_nodup th f g) hi]
  simp only [hmem]

end

/-- Settles O12: each form fetches its parts or segments and writes the active bytes. -/
theorem vectorLoads : Obligations.VectorLoads := by
  intro s c t th f h hl h42 ea act vn old hea
  refine ⟨fun h34 hal d s1 hf hd ht => State.execVld_of_fetched h hl h42 h34 hea hal hf hd ht,
    fun h34 hal d s1 hf hd ht => State.execVldp6_of_fetched h hl h42 h34 hea hal hf hd ht, ?_⟩
  have row {i : Instr} {g : Nat} (hg : g ∣ 256) (hi : exec i s = .next (s.gatherRow c t f g))
      (hal : ∀ j ∈ activeSegs th f g, segAt th f g j % min g 64 = 0) (d : Bytes) (s1 : State)
      (hf : s.fetched c t f ((activeSegs th f g).map (fun j => (segAt th f g j, g))) = some (d, s1))
      (hd : d.length = g * (activeSegs th f g).length) (ht : (s1.cell c.toNat).thread? t.toNat = some th) :
      ∃ w : BitVec 2048, exec i s = .next (s1.retire c t (th.setV vn w)) ∧
        ∀ j < 256, fieldOf w.toNat (8 * j) 8 = if act (j / g) then
          (d.getD (g * (activeSegs th f g).idxOf (j / g) + j % g) 0).toNat else fieldOf old.toNat (8 * j) 8 := by
    obtain ⟨w, hw, hval⟩ := State.gatherRow_of_fetched hg h hl h42 hea hal hf hd ht
    exact ⟨w, hi.trans (congrArg _ hw), hval⟩
  simp only [List.forall_mem_cons, List.not_mem_nil, false_imp_iff, implies_true, and_true]
  exact ⟨row (by decide) rfl, row (by decide) rfl, row (by decide) rfl, row (by decide) rfl, row (by decide) rfl,
    row (by decide) rfl, row (by decide) rfl⟩

end Sys2Proof.Machine
end

section
/-! PROOFS. The vector stores and scatters (O13). -/

namespace Sys2Proof.Machine

/-! ### Runs of positions (R109) -/

/-- A position lies in one of the runs. -/
def inRuns (l : List (Nat × Nat)) (j : Nat) : Prop := ∃ r ∈ l, r.1 ≤ j ∧ j < r.1 + r.2

@[simp] theorem inRuns_nil (j : Nat) : ¬inRuns [] j := by simp [inRuns]

theorem inRuns_cons (r : Nat × Nat) (l : List (Nat × Nat)) (j : Nat) :
    inRuns (r :: l) j ↔ (r.1 ≤ j ∧ j < r.1 + r.2) ∨ inRuns l j := by
  simp [inRuns]

/-- The first position joins the run that starts after it, or starts one of its own. -/
theorem inRuns_runsOf_succ (p : Nat → Bool) (n i j : Nat) :
    inRuns (runsOf p (n + 1) i) j ↔ (p i = true ∧ j = i) ∨ inRuns (runsOf p n (i + 1)) j := by
  rw [runsOf]
  split
  next hp => simp [hp]
  next a len l hp hl =>
    rw [hl, inRuns_cons]
    split
    next ha =>
      have ha' : a = i + 1 := beq_iff_eq.mp ha
      rw [inRuns_cons, ← or_assoc]
      refine or_congr_left ?_
      dsimp only
      rw [ha', and_iff_right hp]
      omega
    next =>
      rw [inRuns_cons, inRuns_cons, and_iff_right hp]
      exact or_congr_left (by dsimp only; omega)
  next hp hl =>
    rw [hl, inRuns_cons, and_iff_right hp]
    exact or_congr_left (by dsimp only; omega)

/-- The runs cover the positions of the range that satisfy the predicate, and no other. -/
theorem inRuns_runsOf (p : Nat → Bool) (n i j : Nat) : inRuns (runsOf p n i) j ↔ p j = true ∧ i ≤ j ∧ j < i + n := by
  induction n generalizing i with
  | zero => simp [runsOf]
  | succ n ih =>
    rw [inRuns_runsOf_succ, ih]
    constructor
    · rintro (⟨hp, rfl⟩ | ⟨hp, hlo, hhi⟩)
      · exact ⟨hp, le_refl _, by omega⟩
      · exact ⟨hp, by omega, by omega⟩
    · rintro ⟨hp, hlo, hhi⟩
      rcases hlo.eq_or_lt with rfl | hlt
      · exact .inl ⟨hp, rfl⟩
      · exact .inr ⟨hp, hlt, by omega⟩

/-- A run lies in the range. -/
theorem runsOf_le {p : Nat → Bool} {n i : Nat} {r : Nat × Nat} (h : r ∈ runsOf p n i) : r.1 + r.2 ≤ i + n := by
  induction n generalizing i r with
  | zero => simp [runsOf] at h
  | succ n ih =>
    rw [runsOf] at h
    split at h
    next => have := ih h; omega
    next a len l hp hl =>
      have hhead := ih (hl ▸ List.mem_cons_self : (a, len) ∈ runsOf p n (i + 1))
      have htail : r ∈ l → r.1 + r.2 ≤ i + (n + 1) := fun hr => by
        have := ih (hl ▸ List.mem_cons_of_mem _ hr)
        omega
      dsimp only at hhead
      split at h
      next ha =>
        have ha' : a = i + 1 := beq_iff_eq.mp ha
        rcases List.mem_cons.mp h with rfl | h
        · dsimp only; omega
        · exact htail h
      next =>
        rcases List.mem_cons.mp h with rfl | h
        · dsimp only; omega
        · rcases List.mem_cons.mp h with rfl | h
          · dsimp only; omega
          · exact htail h
    next =>
      rw [List.mem_singleton.mp h]
      dsimp only
      omega

/-! ### Packed elements (R109) -/

theorem packed6_leBytes_eq_fieldOf {v i : Nat} (hi : i < 256) : packed6 (leBytes 192 v) i = fieldOf v (6 * i) 6 := by
  have hbytes : (leBytes 192 v).drop (3 * (i / 4)) = leBytes (192 - 3 * (i / 4)) (v / 256 ^ (3 * (i / 4))) := by
    rw [← drop_leBytes, Nat.add_sub_cancel' (by omega)]
  have htake : (leBytes (192 - 3 * (i / 4)) (v / 256 ^ (3 * (i / 4)))).take 3 = leBytes 3 (v / 256 ^ (3 * (i / 4))) := by
    rw [← take_leBytes 3 (192 - 3 * (i / 4) - 3), Nat.add_sub_cancel' (by omega)]
  have hdiv : v / 256 ^ (3 * (i / 4)) / 2 ^ (6 * (i % 4)) = v / 2 ^ (6 * i) := by
    rw [show (256 : Nat) = 2 ^ 8 from rfl, ← Nat.pow_mul, Nat.div_div_eq_div_mul, ← Nat.pow_add]
    congr 2
    omega
  rw [packed6, hbytes, htake, leNat_leBytes, show (256 : Nat) ^ 3 = 2 ^ 24 from rfl, fieldOf_mod (by omega), fieldOf_eq_div_mod, hdiv,
    fieldOf_eq_div_mod]

/-- A packed register holds the active elements of one vector and the others of the old bytes. -/
theorem packed6_pack6 (p : Nat → Bool) (v : BitVec 2048) (old : Bytes) {i : Nat} (hi : i < 256) :
    packed6 (pack6 p v old) i = if p i then fieldOf v.toNat (8 * i) 6 else packed6 old i := by
  rw [pack6, packed6_leBytes_eq_fieldOf hi, fieldOf_joinBits, getD_map_range _ _ hi]
  intro a ha
  obtain ⟨j, _, rfl⟩ := List.mem_map.mp ha
  split
  · exact fieldOf_lt _ _ _
  · exact packed6_lt _ _

/-! ### Stores -/

section
variable {s s1 : State} {c : BitVec 9} {t : BitVec 10} {th : Thread} {f : BitVec 48}

theorem State.execVst_of_stored (h : s.canRun c t th = true) (hl : memLegal f true = true) (h42 : opField f 42 1 = 0)
    (h34 : opField f 34 4 = 0) (hea : f.getLsbD 29 = true ∨ (effAddr th f).toNat < 2 ^ 57) (hal : (effAddr th f).toNat % 64 = 0)
    (hs : s.stored c t f ((runsOf (memMask th f) 256 0).map (fun r => ((effAddr th f).toNat + r.1,
      (List.range r.2).map (fun j => byteOf (th.getV (opField f 38 4)).toNat (r.1 + j))))) = some s1)
    (ht : (s1.cell c.toNat).thread? t.toNat = some th) : exec (.vst c t f) s = .next (s1.retire c t th) := by
  refine congrArg Host.Outcome.next (State.issue_done_of h (vmemBad_of_legal s c t th hl h42 h34) ?_ ht)
  have hruns : (runsOf (memMask th f) 256 0).map (fun r => ((effAddr th f).toNat + r.1,
      ((leBytes 256 (th.getV (opField f 38 4)).toNat).drop r.1).take r.2)) =
      (runsOf (memMask th f) 256 0).map (fun r => ((effAddr th f).toNat + r.1,
        (List.range r.2).map (fun j => byteOf (th.getV (opField f 38 4)).toNat (r.1 + j)))) :=
    List.map_congr_left fun r hr => by rw [drop_take_leBytes _ ((runsOf_le hr).trans_eq (Nat.zero_add 256))]
  simp only [memEa_effAddr, hal, memVr, fldOf_ctx, State.ctx_th, memActive_ctx, hruns]
  exact storeRes_of_stored _ rfl rfl rfl (fun _ => rfl) hea hs

theorem State.scatterRow_of_stored {g : Nat} (h : s.canRun c t th = true) (hl : memLegal f true = true) (h42 : opField f 42 1 = 0)
    (hea : f.getLsbD 29 = true ∨ (effAddr th f).toNat < 2 ^ 57) (hal : ∀ i ∈ activeSegs th f g, segAt th f g i % min g 64 = 0)
    (hs : s.stored c t f ((activeSegs th f g).map (fun i => (segAt th f g i,
      (List.range g).map (fun j => byteOf (th.getV (opField f 38 4)).toNat (g * i + j))))) = some s1)
    (ht : (s1.cell c.toNat).thread? t.toNat = some th) : s.scatterRow c t f g = s1.retire c t th := by
  rw [State.scatterRow, State.issue_done_of h (vsegBad_of_legal s c t th hl h42) ?_ ht]
  have hsegs : (activeSegs th f g).map (fun i => (segAt th f g i,
      ((leBytes 256 (th.getV (opField f 38 4)).toNat).drop (g * i)).take g)) =
      (activeSegs th f g).map (fun i => (segAt th f g i,
        (List.range g).map (fun j => byteOf (th.getV (opField f 38 4)).toNat (g * i + j)))) :=
    List.map_congr_left fun i hi => by rw [drop_take_leBytes _ (segs_le i hi)]
  simp only [(segAligned_ctx s c t th f g).mpr hal, memVr, fldOf_ctx, State.ctx_th, segActive_ctx, segAddr_ctx, memEa_effAddr, hsegs]
  exact storeRes_of_stored _ rfl rfl rfl (fun _ => rfl) hea hs

/-! ### VSTP6 (R109) -/

/-- Whether a packed byte holds a bit of an element that is active, or of one that is not. -/
def packedTouch (p : Nat → Bool) (a : Bool) (b : Nat) : Bool :=
  (List.range 256).any (fun i => p i == a && decide (6 * i < 8 * (b + 1)) && decide (8 * b < 6 * i + 6))

/-- The packed bytes that hold bits of both. -/
def packedShared (p : Nat → Bool) : List Nat := (List.range 192).filter (fun b => packedTouch p true b && packedTouch p false b)

/-- The pieces of packed bytes that VSTP6 stores. -/
def packedCut (p : Nat → Bool) (ea : W64) (d : Bytes) : List (Nat × Bytes) :=
  (runsOf (packedTouch p true) 192 0).map (fun r => (ea.toNat + r.1, (d.drop r.1).take r.2))

/-- What VSTP6 does at an address, for the elements that a predicate makes active. -/
def vstp6Res (k : Ctx) (s : State) (p : Nat → Bool) (ea : W64) : Res :=
  let store (s : State) (old : Bytes) : Res :=
    storeRes k s ea (ea.toNat % 64 == 0) (packedCut p ea (pack6 p (k.th.getV (memVr k)) old))
  let runs := runsOf (packedTouch p true) 192 0
  if (packedShared p).isEmpty || ea.toNat % 64 != 0 then store s []
  else if memSp k then
    if runs.any (fun r => ea.toNat + r.1 + r.2 > scratchSize k.x) then .trap s 0x05 0 ea
    else store s (scratchRead k.x ea.toNat 192)
  else if ea.toNat ≥ 2 ^ 57 then .trap s 0x08 1 ea
  else match s.cellReq k.c none with
    | none => .wait s
    | some q =>
      match s.poolRmw q k runs (packedShared p) ea.toNat with
      | (.ok old, s1) => store s1 old
      | (.error x, s1) => stopRes k s1 ea x

theorem execVstp6_eq (s : State) (c : BitVec 9) (t : BitVec 10) (f : BitVec 48) : exec (.vstp6 c t f) s =
    .next (s.issue c t f none (fun k => vmemBad k true 0) (fun k s => vstp6Res k s (memActive k) (memEa k 24))) := rfl

/-- VSTP6 retires when its operation is done. -/
theorem execVstp6_of_done (h : s.canRun c t th = true) (hl : memLegal f true = true) (h42 : opField f 42 1 = 0)
    (h34 : opField f 34 4 = 0) (hop : vstp6Res (s.ctx c t th f) s (memMask th f) (effAddr th f) = .done s1)
    (ht : (s1.cell c.toNat).thread? t.toNat = some th) : exec (.vstp6 c t f) s = .next (s1.retire c t th) := by
  rw [execVstp6_eq, State.issue_done_of h (vmemBad_of_legal s c t th hl h42 h34) ?_ ht]
  rw [memActive_ctx, memEa_effAddr, hop]

/-- VSTP6 with no shared byte. -/
theorem vstp6Res_plain (hea : f.getLsbD 29 = true ∨ (effAddr th f).toNat < 2 ^ 57) (hal : (effAddr th f).toNat % 64 = 0)
    (hsh : packedShared (memMask th f) = [])
    (hs : s.stored c t f (packedCut (memMask th f) (effAddr th f) (pack6 (memMask th f) (th.getV (opField f 38 4)) [])) = some s1) :
    vstp6Res (s.ctx c t th f) s (memMask th f) (effAddr th f) = .done s1 := by
  simp only [vstp6Res, hsh, hal, memVr, fldOf_ctx, State.ctx_th, List.isEmpty_nil, Bool.true_or, if_true]
  exact storeRes_of_stored _ rfl rfl rfl (fun _ => rfl) hea hs

/-- What can be stored in the scratchpad lies in it. -/
theorem packedRuns_fit {d : Bytes} {p : Nat → Bool} {ea : W64} (hd : d.length = 192) (hsp : f.getLsbD 29 = true)
    (hs : s.stored c t f (packedCut p ea d) = some s1) :
    (runsOf (packedTouch p true) 192 0).any (fun r => decide (ea.toNat + r.1 + r.2 > scratchSize (s.cell c.toNat))) = false := by
  rw [State.stored, if_pos hsp] at hs
  split at hs
  next hall =>
    rw [List.any_eq_false]
    intro r hr
    have hle := List.all_eq_true.mp hall _ (List.mem_map.mpr ⟨r, hr, rfl⟩)
    have hrun := runsOf_le hr
    simp only [List.length_take, List.length_drop, hd, decide_eq_true_eq] at hle
    simp only [gt_iff_lt, decide_eq_true_eq, not_lt]
    omega
  next => cases hs

/-- VSTP6 with shared bytes in the scratchpad. -/
theorem vstp6Res_scratch (hal : (effAddr th f).toNat % 64 = 0) (hsp : f.getLsbD 29 = true)
    (hsh : packedShared (memMask th f) ≠ [])
    (hs : s.stored c t f (packedCut (memMask th f) (effAddr th f) (pack6 (memMask th f) (th.getV (opField f 38 4))
      (scratchRead (s.cell c.toNat) (effAddr th f).toNat 192))) = some s1) :
    vstp6Res (s.ctx c t th f) s (memMask th f) (effAddr th f) = .done s1 := by
  have hfit := packedRuns_fit (length_leBytes 192 _) hsp hs
  simp only [vstp6Res, List.isEmpty_eq_false_iff.mpr hsh, hal, memVr, fldOf_ctx, State.ctx_th, State.ctx_x, memSp_ctx, hsp,
    bne_self_eq_false, Bool.or_self, Bool.false_eq_true, if_false, if_true]
  refine (if_neg (Bool.eq_false_iff.mp hfit)).trans ?_
  exact storeRes_of_stored _ rfl rfl rfl (fun _ => rfl) (.inl hsp) hs

/-- VSTP6 with shared bytes in the pool, which are read first. -/
theorem vstp6Res_pool {q : XlReq} {old : Bytes} {s0 : State} (hea : f.getLsbD 29 = true ∨ (effAddr th f).toNat < 2 ^ 57)
    (hal : (effAddr th f).toNat % 64 = 0) (hsp : f.getLsbD 29 = false) (hsh : packedShared (memMask th f) ≠ [])
    (hq : s.cellReq c.toNat none = some q)
    (hr : s.poolRmw q (s.ctx c t th f) (runsOf (packedTouch (memMask th f) true) 192 0) (packedShared (memMask th f))
      (effAddr th f).toNat = (.ok old, s0))
    (hs : s0.stored c t f (packedCut (memMask th f) (effAddr th f) (pack6 (memMask th f) (th.getV (opField f 38 4)) old)) = some s1) :
    vstp6Res (s.ctx c t th f) s (memMask th f) (effAddr th f) = .done s1 := by
  have hsp' : ¬f.getLsbD 29 = true := by rw [hsp]; exact Bool.false_ne_true
  have hlt : ¬(effAddr th f).toNat ≥ 2 ^ 57 := not_le.mpr (hea.resolve_left hsp')
  simp only [vstp6Res, List.isEmpty_eq_false_iff.mpr hsh, hal, memVr, fldOf_ctx, State.ctx_th, State.ctx_c, memSp_ctx, hsp,
    bne_self_eq_false, Bool.or_self, Bool.false_eq_true, if_false, hlt, hq, hr]
  exact storeRes_of_stored _ rfl rfl rfl (fun hp => absurd hp hsp') hea hs

end

/-- Settles O13: each form stores the pieces that its mask makes active. -/
theorem vectorStores : Obligations.VectorStores := by
  intro s s1 c t th f h hl h42 ea act v byte ht hea
  refine ⟨fun h34 hal => ⟨fun i hi => ?runs, fun hs => State.execVst_of_stored h hl h42 h34 hea hal hs ht⟩,
    fun h34 hal => ⟨fun hsh hs => execVstp6_of_done h hl h42 h34 (vstp6Res_plain hea hal hsh hs) ht,
      fun hsh hsp hs => execVstp6_of_done h hl h42 h34 (vstp6Res_scratch hal hsp hsh hs) ht,
      fun hsh hsp q old s0 hq hr hs => execVstp6_of_done h hl h42 h34 (vstp6Res_pool hea hal hsp hsh hq hr hs) ht,
      fun old i hi => packed6_pack6 _ _ _ hi⟩, ?scatters⟩
  case runs => exact Iff.trans (by simp [hi]) (inRuns_runsOf act 256 0 i).symm
  case scatters =>
    have row {i : Instr} {g : Nat} (hi : exec i s = .next (s.scatterRow c t f g))
        (hal : ∀ j ∈ activeSegs th f g, segAt th f g j % min g 64 = 0)
        (hs : s.stored c t f ((activeSegs th f g).map (fun j => (segAt th f g j,
          (List.range g).map (fun b => byte (g * j + b))))) = some s1) : exec i s = .next (s1.retire c t th) :=
      hi.trans (congrArg _ (State.scatterRow_of_stored h hl h42 hea hal hs ht))
    simp only [List.forall_mem_cons, List.not_mem_nil, false_imp_iff, implies_true, and_true]
    exact ⟨row rfl, row rfl, row rfl, row rfl, row rfl, row rfl, row rfl⟩

end Sys2Proof.Machine
end

section
/-! PROOFS. Furrow instructions and tile copies (O16). -/

namespace Sys2Proof.Machine

section
variable {s s1 : State} {c : BitVec 9} {t : BitVec 10} {th : Thread} {f : BitVec 48}

/-! ### Rows of Table 04-11 -/

theorem State.modFurrow_of_thread? (h : (s.cell c.toNat).thread? t.toNat = some th) (n : Nat) (g : Furrow → Furrow) :
    s.modFurrow c.toNat t.toNat n g = s.withThread c t (th.setFurrow n (g (th.furrow n))) := by
  rw [State.modFurrow, State.modThread_of_thread? h, State.withThread]

theorem State.furrow_of_thread? (h : (s.cell c.toNat).thread? t.toNat = some th) (n : Nat) :
    s.furrow c.toNat t.toNat n = th.furrow n := by
  rw [State.furrow, h]
  rfl

@[simp] theorem Thread.setFurrow_pc (y : Thread) (n : Nat) (w : Furrow) : (y.setFurrow n w).pc = y.pc := by
  unfold Thread.setFurrow
  split <;> rfl

/-- What a furrow row does with its operation (R118). -/
def furrowOp (waits : Bool) (op : Ctx → State → Nat → Res) (k : Ctx) (s : State) : Res :=
  match (k.th.furrow (fwN k)).trap with
  | some (cause, detail, tva) =>
    match waits, op k s (fwN k) with
    | false, .trap _ c' d' a' => if c' < cause then .trap s c' d' a' else .trap s cause detail tva
    | _, _ => .trap s cause detail tva
  | none =>
    if waits && !(k.th.furrow (fwN k)).copies.isEmpty then .wait (s.modThread k.c k.t (fun y => { y with run := .furrow }))
    else op k s (fwN k)

theorem State.furrowRow_eq (s : State) (c : BitVec 9) (t : BitVec 10) (f : BitVec 48) (mask : Nat) (waits : Bool)
    (op : Ctx → State → Nat → Res) :
    s.furrowRow c t f mask waits op = s.issue c t f none (fun k => !onlyBits k mask || fwN k > 1) (furrowOp waits op) := rfl

/-- A furrow row whose furrow holds no failed tile runs its operation. -/
theorem furrowOp_eq {waits : Bool} (op : Ctx → State → Nat → Res) (htrap : (th.furrow (opField f 30 3)).trap = none)
    (hcop : waits = true → (th.furrow (opField f 30 3)).copies = []) :
    furrowOp waits op (s.ctx c t th f) s = op (s.ctx c t th f) s (opField f 30 3) := by
  simp only [furrowOp, fwN, fldOf_ctx, State.ctx_th, htrap]
  refine if_neg ?_
  cases waits with
  | false => exact Bool.false_ne_true
  | true => simp [hcop rfl]

section
variable {mask : Nat} {waits : Bool} {op : Ctx → State → Nat → Res} (h : s.canRun c t th = true)
  (hz : onlyBits (s.ctx c t th f) mask = true) (hn : opField f 30 3 ≤ 1) (htrap : (th.furrow (opField f 30 3)).trap = none)
  (hcop : waits = true → (th.furrow (opField f 30 3)).copies = [])
include h hz hn htrap hcop

/-- A furrow row whose furrow holds no failed tile ends as its operation does. -/
theorem State.furrowRow_done (hop : op (s.ctx c t th f) s (opField f 30 3) = .done s1) :
    s.furrowRow c t f mask waits op = s1.goOn c.toNat t.toNat (th.pc.toNat + 8) := by
  rw [State.furrowRow_eq, State.issue_of_canRun f _ h (by simp [hz, fwN, fldOf_ctx, hn]), furrowOp_eq op htrap hcop, hop]

theorem State.furrowRow_trap {cause detail : Nat} {a : W64} (hop : op (s.ctx c t th f) s (opField f 30 3) = .trap s cause detail a) :
    s.furrowRow c t f mask waits op = s.trapped c t cause detail a := by
  rw [State.furrowRow_eq, State.issue_of_canRun f _ h (by simp [hz, fwN, fldOf_ctx, hn]), furrowOp_eq op htrap hcop, hop]

end

/-! ### FWSET (Table 04-10) -/

/-- The fields of a descriptor. -/
def descAt (d : Bytes) (o k : Nat) : Nat := leNat ((d.drop o).take k)

/-- A descriptor that declares a furrow. -/
structure DescLegal (d : Bytes) : Prop where
  base : descAt d 0 8 % 64 = 0
  baseLt : descAt d 0 8 < 2 ^ 57
  tile : descAt d 8 4 % 64 = 0
  tileLo : 64 ≤ descAt d 8 4
  tileHi : descAt d 8 4 ≤ 0x100000
  count : descAt d 12 4 ≠ 0
  stride : descAt d 16 8 % 64 = 0
  rest : descAt d 24 8 = 0

/-- The furrow that a legal descriptor declares, with a number for its next copy. -/
def descFurrow (d : Bytes) (next : Nat) : Furrow :=
  { isSet := true, base := BitVec.ofNat 57 (descAt d 0 8), tile := BitVec.ofNat 32 (descAt d 8 4),
    count := BitVec.ofNat 32 (descAt d 12 4), stride := BitVec.ofNat 64 (descAt d 16 8), next := next }

theorem furrowOf_of_legal {d : Bytes} (h : DescLegal d) : furrowOf d = some (descFurrow d 0) := by
  obtain ⟨hb, hb2, ht, ht2, ht3, hc, hs, hr⟩ := h
  simp only [descAt] at hb hb2 ht ht2 ht3 hc hs hr
  rw [furrowOf]
  refine if_neg ?_
  simp only [hb, ht, hs, hr, bne_self_eq_false, Bool.false_or, Bool.or_eq_true, decide_eq_true_eq, beq_iff_eq, Bool.or_false]
  omega

theorem State.thread?_scratchCount (s : State) (c a n k : Nat) : ((s.scratchCount c a n).cell c).thread? k = (s.cell c).thread? k := by
  obtain ⟨r, hr⟩ := State.scratchCount_regs s c a n
  rw [hr]
  rfl

theorem execFwset_of_legal (h : s.canRun c t th = true) (hn : opField f 30 3 ≤ 1) (hz : zeroFields f [(24, 6), (43, 5)] = true)
    (htrap : (th.furrow (opField f 30 3)).trap = none) (hz2 : zeroFields f [(0, 24), (33, 5)] = true)
    (hcop : (th.furrow (opField f 30 3)).copies = []) (hal : (th.getS (opField f 38 5)).toNat % 32 = 0)
    (hfit : (th.getS (opField f 38 5)).toNat + 32 ≤ scratchSize (s.cell c.toNat))
    (hd : DescLegal (scratchRead (s.cell c.toNat) (th.getS (opField f 38 5)).toNat 32)) :
    exec (.fwset c t f) s = .next ((((s.scratchCount c.toNat (th.getS (opField f 38 5)).toNat 32).withThread c t
      (th.setFurrow (opField f 30 3) (descFurrow (scratchRead (s.cell c.toNat) (th.getS (opField f 38 5)).toNat 32)
        (th.furrow (opField f 30 3)).next))).runAhead c.toNat t.toNat (opField f 30 3)).goOn c.toNat t.toNat (th.pc.toNat + 8)) := by
  have hb : onlyBits (s.ctx c t th f) (mA + fm 30 3) = true := by
    rw [onlyBits_eq_zeroFields ([(24, 6), (43, 5)] ++ [(0, 24), (33, 5)]) s c t th f (by decide)]
    exact (zeroFields_append _ _ _).mpr ⟨hz, hz2⟩
  have ht := ((State.canRun_iff s c t th).mp h).2.1
  refine congrArg Host.Outcome.next (State.furrowRow_done h hb hn htrap (fun _ => hcop) ?_)
  simp only [fldOf_ctx, State.ctx_th, State.ctx_x, State.ctx_c, State.ctx_t, hal, bne_self_eq_false, Bool.false_eq_true, if_false,
    Nat.not_lt.mpr hfit, furrowOf_of_legal hd]
  rw [State.modFurrow_of_thread? ((State.thread?_scratchCount _ _ _ _ _).trans ht)]
  rfl

/-! ### Copies (R117, R118) -/

/-- The tiles with which a copy of cnt tiles from tile k0 starts. -/
def copyTiles (w : Furrow) (put : Bool) (k0 cnt a : Nat) : List TileCopy :=
  (List.range cnt).map (fun i => { id := w.next, put := put, tile := k0 + i, scratch := a + i * w.tile.toNat, done := false, wait := .go })

/-- The furrow when a copy has begun. -/
def copyBegun (w : Furrow) (put : Bool) (k0 cnt a : Nat) : Furrow :=
  { w with copies := w.copies ++ copyTiles w put k0 cnt a, next := w.next + 1, high := max w.high (k0 + cnt) }

section
variable {i : Instr} {put : Bool} (h : s.canRun c t th = true) (hi : exec i s = .next (s.copyRow c t f put))
  (hn : opField f 30 3 ≤ 1) (hz : zeroFields f [(24, 6), (43, 5)] = true) (htrap : (th.furrow (opField f 30 3)).trap = none)
include h hi hn hz htrap

/-- A copy whose parameters are checked: ALIGN, then SCRATCH_RANGE, then FURROW, then its start. -/
theorem copyRow_results :
    let n := opField f 30 3
    let fw := th.furrow n
    let a := th.getS (opField f 38 5)
    let k0 := (th.getS (opField f 33 5)).toNat
    let cnt := opField f 0 24
    let size := scratchSize (s.cell c.toNat)
    let ok : Prop := fw.isSet = true ∧ cnt ≠ 0 ∧ k0 + cnt ≤ fw.count.toNat
    (a.toNat % 64 ≠ 0 → exec i s = .next (s.trapped c t 0x04 0 a)) ∧
    (a.toNat % 64 = 0 → ok → size < a.toNat + cnt * fw.tile.toNat → exec i s = .next (s.trapped c t 0x05 0 a)) ∧
    (a.toNat % 64 = 0 → ¬ok → exec i s = .next (s.trapped c t 0x0D 2 a)) ∧
    (a.toNat % 64 = 0 → ok → a.toNat + cnt * fw.tile.toNat ≤ size → th.f0.ids.length + th.f1.ids.length < 16 →
      exec i s = .next (((s.withThread c t (th.setFurrow n (copyBegun fw put k0 cnt a.toNat))).runAhead c.toNat t.toNat n).goOn
        c.toNat t.toNat (th.pc.toNat + 8))) := by
  intro n fw a k0 cnt size ok
  have hb : onlyBits (s.ctx c t th f) (mA + mB + fm 30 3 + fm 0 24) = true := by
    rw [onlyBits_eq_zeroFields [(24, 6), (43, 5)] s c t th f (by decide), hz]
  have ht := ((State.canRun_iff s c t th).mp h).2.1
  have hnowait : false = true → fw.copies = [] := fun hf => absurd hf Bool.false_ne_true
  have huse : (fw.isSet && cnt != 0 && decide (k0 + cnt ≤ fw.count.toNat)) = decide ok := by
    rw [Bool.eq_iff_iff]
    simp [ok, and_assoc]
  rw [hi]
  refine ⟨fun hal => ?align, fun hal hok hout => ?range, fun hal hok => ?furrow, fun hal hok hfit hids => ?start⟩
  case align =>
    refine congrArg Host.Outcome.next (State.furrowRow_trap h hb hn htrap hnowait ?_)
    simp only [fldOf_ctx, State.ctx_th]
    exact if_pos (bne_iff_ne.mpr hal)
  all_goals have hal' : (a.toNat % 64 != 0) = false := bne_eq_false_iff_eq.mpr hal
  case range =>
    refine congrArg Host.Outcome.next (State.furrowRow_trap h hb hn htrap hnowait ?_)
    simp only [fldOf_ctx, State.ctx_th, State.ctx_x]
    rw [hal', huse, if_neg Bool.false_ne_true]
    exact if_pos (by simpa [hok] using hout)
  case furrow =>
    refine congrArg Host.Outcome.next (State.furrowRow_trap h hb hn htrap hnowait ?_)
    simp only [fldOf_ctx, State.ctx_th, State.ctx_x]
    rw [hal', huse, if_neg Bool.false_ne_true]
    simp only [hok, decide_false, Bool.false_and, Bool.false_eq_true, if_false, Bool.not_false, if_true]
    rfl
  case start =>
    refine congrArg Host.Outcome.next (State.furrowRow_done h hb hn htrap hnowait ?_)
    simp only [fldOf_ctx, State.ctx_th, State.ctx_x, State.ctx_c, State.ctx_t]
    rw [hal', huse, if_neg Bool.false_ne_true, if_neg, if_neg, if_neg (not_le.mpr hids), State.modFurrow_of_thread? ht]
    · rfl
    · simp [hok]
    · simpa [hok] using hfit

end

/-! ### Waits and tiles -/

theorem execFwwait_of_idle (h : s.canRun c t th = true) (hn : opField f 30 3 ≤ 1) (hz : zeroFields f [(24, 6), (43, 5)] = true)
    (htrap : (th.furrow (opField f 30 3)).trap = none) (hz2 : zeroFields f [(0, 24), (33, 10)] = true)
    (hcop : (th.furrow (opField f 30 3)).copies = []) : exec (.fwwait c t f) s = .next (s.retire c t th) := by
  have hb : onlyBits (s.ctx c t th f) (fm 30 3) = true := by
    rw [onlyBits_eq_zeroFields ([(24, 6), (43, 5)] ++ [(0, 24), (33, 10)]) s c t th f (by decide)]
    exact (zeroFields_append _ _ _).mpr ⟨hz, hz2⟩
  refine congrArg Host.Outcome.next ((State.furrowRow_done (s1 := s) h hb hn htrap (fun _ => hcop) rfl).trans ?_)
  exact State.goOn_self ((State.canRun_iff s c t th).mp h).2.1

theorem execFwclr_of_idle (h : s.canRun c t th = true) (hn : opField f 30 3 ≤ 1) (hz : zeroFields f [(24, 6), (43, 5)] = true)
    (htrap : (th.furrow (opField f 30 3)).trap = none) (hz2 : zeroFields f [(0, 24), (33, 10)] = true)
    (hcop : (th.furrow (opField f 30 3)).copies = []) : exec (.fwclr c t f) s =
      .next (s.retire c t (th.setFurrow (opField f 30 3) { next := (th.furrow (opField f 30 3)).next })) := by
  have hb : onlyBits (s.ctx c t th f) (fm 30 3) = true := by
    rw [onlyBits_eq_zeroFields ([(24, 6), (43, 5)] ++ [(0, 24), (33, 10)]) s c t th f (by decide)]
    exact (zeroFields_append _ _ _).mpr ⟨hz, hz2⟩
  have ht := ((State.canRun_iff s c t th).mp h).2.1
  refine congrArg Host.Outcome.next ((State.furrowRow_done h hb hn htrap (fun _ => hcop) rfl).trans ?_)
  rw [State.ctx_c, State.ctx_t, State.modFurrow_of_thread? ht]
  exact State.goOn_withThread s c t _ (Thread.setFurrow_pc _ _ _)

/-- A tile of an FWGET that can be read is written to its scratchpad bytes and is done. -/
theorem runTile_of_read {n : Nat} {x : TileCopy} {d : Bytes} {q : XlReq} (ht : (s.cell c.toNat).thread? t.toNat = some th)
    (hx : x ∈ (th.furrow n).copies) (hput : x.put = false)
    (hq : s.cellReq c.toNat (some { cell := c.toNat, thread := t.toNat, furrow := n, id := x.id }) = some q)
    (hr : s.poolRead q (.cell c.toNat t.toNat) false [(((th.furrow n).tileTva x.tile).toNat, (th.furrow n).tile.toNat)] =
      (.ok d, s1)) :
    s.runTile c.toNat t.toNat n x = (s1.scratchWrite c.toNat x.scratch d).modFurrow c.toNat t.toNat n
      (fun y => y.setTile x (fun z => { z with done := true, wait := .go })) := by
  have hc : (th.furrow n).copies.contains x = true := List.contains_iff_mem.mpr hx
  simp only [State.runTile, State.furrow_of_thread? ht, hc, hq, hput, hr, Bool.not_true, Bool.false_eq_true, if_false]

end

/-- Settles O16: each row's operation, and the tile that is read. -/
theorem furrowResults : Obligations.FurrowResults := by
  intro s c t th f h n fw a k0 cnt size pc hn hz htrap
  have ht := ((State.canRun_iff s c t th).mp h).2.1
  refine ⟨fun hz2 hcop hal hfit hb hb2 hti ht2 ht3 hct hst hr =>
      execFwset_of_legal h hn hz htrap hz2 hcop hal hfit ⟨hb, hb2, hti, ht2, ht3, hct, hst, hr⟩,
    ?copies, fun hz2 hcop => execFwwait_of_idle h hn hz htrap hz2 hcop, fun hz2 hcop => execFwclr_of_idle h hn hz htrap hz2 hcop,
    fun x tile d s1 q hx hput hdone hwait hq hr => ?tile⟩
  case copies =>
    simp only [List.forall_mem_cons, List.not_mem_nil, false_imp_iff, implies_true, and_true]
    exact ⟨copyRow_results h rfl hn hz htrap, copyRow_results h rfl hn hz htrap⟩
  case tile =>
    have hsel : (if (n == 1) = true then 1 else 0) = n := by
      rcases Nat.le_one_iff_eq_zero_or_eq_one.mp hn with h0 | h1
      · rw [h0]; rfl
      · rw [h1]; rfl
    have hrun := ((State.canRun_iff s c t th).mp h).1
    have hd : exec (.furrowTileDone c t (n == 1) x.id tile) s =
        .next ((s.runTile c.toNat t.toNat n x).modFurrow c.toNat t.toNat n Furrow.sweep) := by
      change execFurrowTileDone c t (n == 1) x.id tile s = _
      simp only [execFurrowTileDone, hsel, State.furrow_of_thread? ht]
      rw [hx]
      simp [hdone, hwait, hrun]
    rw [hd, runTile_of_read ht (List.mem_of_find?_eq_some hx) hput hq hr]

end Sys2Proof.Machine
end

section
/-! PROOFS. What a trap records (O27). -/

namespace Sys2Proof.Machine

/-- The number that a trap record holds: its fields one above the other. -/
theorem toNat_trapRecord {x : TrapOf} (h : x.cause < 256) (pc : BitVec 24) :
    (trapRecord x pc).toNat = x.cause + 2 ^ 8 * (x.detail % 65536) + 2 ^ 24 * pc.toNat + 2 ^ 48 * x.addr.toNat := by
  have hd : x.detail % 65536 < 65536 := Nat.mod_lt _ (by decide)
  have hp := pc.isLt
  have ha := x.addr.isLt
  rw [trapRecord, BitVec.toNat_ofNat]
  exact Nat.mod_eq_of_lt (by omega)

/-- The fields of a trap record (R134). -/
theorem trapRecord_fields {x : TrapOf} (h : x.cause < 256) (pc : BitVec 24) :
    (trapRecord x pc).extractLsb' 0 8 = BitVec.ofNat 8 x.cause ∧ (trapRecord x pc).extractLsb' 8 16 = BitVec.ofNat 16 x.detail ∧
      (trapRecord x pc).extractLsb' 24 24 = pc ∧ (trapRecord x pc).extractLsb' 48 64 = x.addr ∧
      (trapRecord x pc).extractLsb' 112 16 = 0 := by
  have hd : x.detail % 65536 < 65536 := Nat.mod_lt _ (by decide)
  have hp := pc.isLt
  have ha := x.addr.isLt
  have field (lo n : Nat) : ((trapRecord x pc).extractLsb' lo n).toNat =
      (x.cause + 2 ^ 8 * (x.detail % 65536) + 2 ^ 24 * pc.toNat + 2 ^ 48 * x.addr.toNat) / 2 ^ lo % 2 ^ n := by
    rw [BitVec.extractLsb'_toNat, toNat_trapRecord h, Nat.shiftRight_eq_div_pow]
  refine ⟨?_, ?_, ?_, ?_, ?_⟩ <;> refine BitVec.eq_of_toNat_eq ?_ <;> rw [field]
  · rw [BitVec.toNat_ofNat]; omega
  · rw [BitVec.toNat_ofNat]; omega
  · omega
  · omega
  · change _ = 0; omega

/-- The thread of a trap as it is left. -/
theorem State.thread?_recordTrap {s : State} {x : TrapOf} {y : Thread} (h : (s.cell x.cell).thread? x.thread = some y) :
    ((s.recordTrap x).cell x.cell).thread? x.thread =
      some { y with trap := trapRecord x y.pc, run := .stopped, resident := false, f0 := {}, f1 := {} } := by
  rw [State.recordTrap, State.modThread_of_thread? h, State.cell_setCell_self, Cell.thread?_setThread_self]

/-- Settles O27: the record's fields, and the thread that `recordTrap` leaves. -/
theorem trapRecordHolds : Obligations.TrapRecord := by
  intro s c t cause detail addr y hc ht
  obtain ⟨h1, h2, h3, h4, h5⟩ :=
    trapRecord_fields (x := { cell := c, thread := t, cause := cause, detail := detail, addr := addr }) hc y.pc
  exact ⟨_, State.thread?_recordTrap ht, h1, h2, h3, h4, h5, rfl, rfl, rfl, rfl, rfl, rfl, rfl, rfl, rfl⟩

end Sys2Proof.Machine
end

section
/-! PROOFS. What the vector instructions share: elements of a register, the codes that rounding gives, rows that only change their
thread, and flags (R102, R103, R151). -/

namespace Sys2Proof.Machine

/-! ### Codes of a format (R138, R151) -/

/-- A format whose largest finite value has the largest exponent, or one below it. -/
structure FFmt.Fits (fm : FFmt) : Prop where
  kmax : fm.kmax < 2 ^ fm.p
  qmax : fm.qmax + fm.mbits + fm.bias < 2 ^ fm.ebits

theorem ffmt_fits {code : Nat} (h : code ≤ 9) : (ffmt code).Fits ∧ (ffmt code).ebits + (ffmt code).mbits + 1 = fmtBits code := by
  interval_cases code <;> exact ⟨⟨by decide, by decide⟩, rfl⟩

/-- Rounding keeps at most p bits, and may carry to 2^p. -/
theorem roundFloat_k_le (fm : FFmt) (rm : Rm) (neg : Bool) (m : Nat) (e : Int) : (roundFloat fm rm neg m e).k ≤ 2 ^ fm.p := by
  by_cases h0 : m = 0
  · simp [roundFloat, h0]
  have hlt : m < 2 ^ (msb m + 1) := Nat.lt_log2_self
  simp only [roundFloat, beq_eq_false_iff_ne.mpr h0, Bool.false_eq_true, if_false]
  generalize hq : (if (msb m : Int) + e < fm.emin then fm.emin else (msb m : Int) + e) - fm.mbits = q
  have hlead : (msb m : Int) + e - fm.mbits ≤ q := by
    rw [← hq]
    split <;> omega
  rw [roundAt]
  split
  next hqe =>
    obtain ⟨d, hd⟩ := Int.eq_ofNat_of_zero_le (show 0 ≤ e - q by omega)
    rw [hd, Int.toNat_natCast]
    calc m * 2 ^ d ≤ 2 ^ (msb m + 1) * 2 ^ d := Nat.mul_le_mul_right _ hlt.le
      _ = 2 ^ (msb m + 1 + d) := (Nat.pow_add _ _ _).symm
      _ ≤ 2 ^ fm.p := Nat.pow_le_pow_right (by decide) (by rw [FFmt.p]; omega)
  next hqe =>
    obtain ⟨d, hd⟩ := Int.eq_ofNat_of_zero_le (show 0 ≤ q - e by omega)
    rw [hd, Int.toNat_natCast]
    have hdiv : m / 2 ^ d < 2 ^ fm.p := by
      rw [Nat.div_lt_iff_lt_mul (Nat.two_pow_pos d), ← Nat.pow_add]
      exact hlt.trans_le (Nat.pow_le_pow_right (by decide) (by rw [FFmt.p]; omega))
    have hcarry (b : Bool) : ofBool b ≤ 1 := by cases b <;> decide
    exact (Nat.add_le_add_left (hcarry _) _).trans hdiv

/-- A magnitude above 2^mbits that is no larger than the largest finite value has no larger exponent, also after a carry. -/
theorem exponent_le_of_not_over {fm : FFmt} (hfm : fm.Fits) {k : Nat} {q : Int} (hk : 2 ^ fm.mbits ≤ k)
    (hov : cmpPow k q fm.kmax fm.qmax ≠ .gt) : q ≤ fm.qmax ∧ (k = 2 ^ fm.p → q + 1 ≤ fm.qmax) := by
  have hmax := hfm.kmax
  have hle : q ≤ fm.qmax := by
    by_contra hgt
    obtain ⟨d, hd⟩ := Int.eq_ofNat_of_zero_le (show 0 ≤ q - fm.qmax by omega)
    rw [cmpPow, if_neg hgt, hd, Int.toNat_natCast, Ne, Nat.compare_eq_gt, not_lt] at hov
    have h1 : 2 ^ 1 ≤ 2 ^ d := Nat.pow_le_pow_right (by decide) (by omega)
    have h2 := Nat.mul_le_mul hk h1
    rw [← Nat.pow_add] at h2
    rw [FFmt.p] at hmax
    omega
  refine ⟨hle, fun hp => ?_⟩
  by_contra hgt
  have hq : q = fm.qmax := by omega
  rw [cmpPow, if_pos hle, hq, Int.sub_self, Int.toNat_zero, Nat.pow_zero, Nat.mul_one, Ne, Nat.compare_eq_gt, not_lt, hp] at hov
  omega

/-- The code of a magnitude that the format holds fits its width. -/
theorem encodeMag_lt {fm : FFmt} (hfm : fm.Fits) (neg : Bool) {k : Nat} {q : Int} (hk : k ≤ 2 ^ fm.p)
    (hov : cmpPow k q fm.kmax fm.qmax ≠ .gt) : encodeMag fm neg k q < 2 ^ (fm.ebits + fm.mbits + 1) := by
  have hp : 2 ^ fm.p = 2 * 2 ^ fm.mbits := by rw [FFmt.p, Nat.pow_succ']
  have hpow : 2 ^ (fm.ebits + fm.mbits) = 2 ^ fm.ebits * 2 ^ fm.mbits := Nat.pow_add _ _ _
  have hpos : 0 < 2 ^ fm.ebits := Nat.two_pow_pos _
  have hsign : ofBool neg * 2 ^ (fm.ebits + fm.mbits) ≤ 2 ^ (fm.ebits + fm.mbits) := by
    cases neg <;> simp [ofBool]
  have hqm := hfm.qmax
  /- The exponent and the fraction stay below the sign bit. -/
  have hbody {q1 : Int} {k1 : Nat} (hq1 : q1 ≤ fm.qmax) (hk1 : k1 < 2 ^ fm.p) :
      (q1 + fm.mbits + fm.bias).toNat * 2 ^ fm.mbits + (k1 - 2 ^ fm.mbits) < 2 ^ (fm.ebits + fm.mbits) := by
    have he : (q1 + fm.mbits + fm.bias).toNat + 1 ≤ 2 ^ fm.ebits := by
      have : q1 + fm.mbits + fm.bias < ((2 ^ fm.ebits : Nat) : Int) := by push_cast; omega
      omega
    have hm := Nat.mul_le_mul_right (2 ^ fm.mbits) he
    have hpos2 : 0 < 2 ^ fm.mbits := Nat.two_pow_pos _
    rw [Nat.add_mul, Nat.one_mul] at hm
    rw [hpow]
    omega
  have hsmall {k1 : Nat} (h : k1 < 2 ^ fm.mbits) : k1 < 2 ^ (fm.ebits + fm.mbits) :=
    h.trans_le (Nat.pow_le_pow_right (by decide) (Nat.le_add_left _ _))
  rw [Nat.pow_succ']
  by_cases hc : k = 2 ^ fm.p
  · have hq := (exponent_le_of_not_over hfm (by omega) hov).2 hc
    have h1 := hbody hq (show 2 ^ fm.mbits < 2 ^ fm.p by have := Nat.two_pow_pos fm.mbits; omega)
    simp only [encodeMag, beq_iff_eq.mpr hc, if_true, lt_irrefl, if_false]
    omega
  · rw [encodeMag_of_ne neg q hc]
    split
    next hlt => have := hsmall hlt; omega
    next hge =>
      have := hbody (exponent_le_of_not_over hfm (Nat.le_of_not_lt hge) hov).1 (show k < 2 ^ fm.p by omega)
      omega

theorem cmpPow_self (k : Nat) (q : Int) : cmpPow k q k q = .eq := by
  simp [cmpPow]

theorem infCode_lt (fm : FFmt) (neg : Bool) : infCode fm neg < 2 ^ (fm.ebits + fm.mbits + 1) := by
  have hsign : ofBool neg * 2 ^ (fm.ebits + fm.mbits) ≤ 2 ^ (fm.ebits + fm.mbits) := by
    cases neg <;> simp [ofBool]
  have hm : (2 ^ fm.ebits - 1) * 2 ^ fm.mbits < 2 ^ (fm.ebits + fm.mbits) := by
    rw [Nat.pow_add]
    exact Nat.mul_lt_mul_of_pos_right (Nat.sub_lt (Nat.two_pow_pos _) Nat.one_pos) (Nat.two_pow_pos _)
  rw [infCode, Nat.pow_succ']
  omega

theorem canonNan_lt {code : Nat} (h : code ≤ 9) : canonNan code < 2 ^ fmtBits code := by
  interval_cases code <;> decide

section
variable {code : Nat} (h : code ≤ 9)
include h

theorem maxCode_lt (neg : Bool) : maxCode (ffmt code) neg < 2 ^ fmtBits code := by
  obtain ⟨hfm, hw⟩ := ffmt_fits h
  rw [← hw]
  exact encodeMag_lt hfm neg hfm.kmax.le (by rw [cmpPow_self]; decide)

theorem infCode_lt_of_code (neg : Bool) : infCode (ffmt code) neg < 2 ^ fmtBits code := by
  rw [← (ffmt_fits h).2]
  exact infCode_lt _ _

/-- A rounded magnitude that does not overflow has a code of the format's width. -/
theorem encodeMag_roundFloat_lt (rm : Rm) (neg sign : Bool) (m : Nat) (e : Int)
    (hov : (roundFloat (ffmt code) rm neg m e).overflow = false) :
    encodeMag (ffmt code) sign (roundFloat (ffmt code) rm neg m e).k (roundFloat (ffmt code) rm neg m e).q < 2 ^ fmtBits code := by
  obtain ⟨hfm, hw⟩ := ffmt_fits h
  rw [← hw]
  refine encodeMag_lt hfm _ (roundFloat_k_le _ _ _ _ _) ?_
  by_cases h0 : m = 0
  · simp only [roundFloat, beq_iff_eq.mpr h0, if_true, cmpPow]
    split
    · rw [Ne, Nat.compare_eq_gt]; exact Nat.not_lt_zero _
    · rw [Nat.zero_mul, Ne, Nat.compare_eq_gt]; exact Nat.not_lt_zero _
  · simp only [roundFloat, beq_eq_false_iff_ne.mpr h0, Bool.false_eq_true, if_false] at hov ⊢
    exact beq_eq_false_iff_ne.mp hov

theorem roundTo_lt (rm : Rm) (sat : Bool) (v : Val) : (roundTo code rm sat v).1 < 2 ^ fmtBits code := by
  have hnan := canonNan_lt h
  cases v with
  | nan => exact hnan
  | inf n =>
    have hmax := maxCode_lt h n
    have hinf := infCode_lt_of_code h n
    simp only [roundTo]
    split
    next h3 =>
      rw [beq_iff_eq.mp h3] at hnan hmax ⊢
      dsimp only
      split
      · exact hmax
      · exact hnan
    next => split <;> assumption
  | fin n m e =>
    have hmax := maxCode_lt h n
    have hinf := infCode_lt_of_code h n
    simp only [roundTo]
    split
    next =>
      dsimp only
      split
      · exact hmax
      · split <;> assumption
    next hov => exact encodeMag_roundFloat_lt h rm n n m e (by simpa using hov)

end

/-! ### Elements of a register (R102) -/

theorem fmtBits_le_stride (code : Nat) : fmtBits code ≤ fmtStride code := by
  rw [fmtStride]
  split
  next h => rw [beq_iff_eq.mp h]; decide
  next => exact le_refl _

theorem elemAt_lt (code : Nat) (v : BitVec 2048) (i : Nat) : elemAt code v i < 2 ^ fmtBits code := fieldOf_lt _ _ _

/-- An element lies in its register. -/
theorem stride_mul_add_le {code i : Nat} (hi : i < fmtCount code) : fmtStride code * i + fmtBits code ≤ 2048 := by
  have h := Nat.mul_le_mul_left (fmtStride code) (Nat.succ_le_of_lt hi)
  have := fmtBits_le_stride code
  have hm : fmtStride code * fmtCount code ≤ 2048 := Nat.mul_div_le 2048 _
  rw [Nat.mul_succ] at h
  omega

/-- The elements of a register read back. -/
theorem elemAt_fromElems {code : Nat} {l : List Nat} (h : ∀ a ∈ l, a < 2 ^ fmtBits code) {i : Nat} (hi : i < fmtCount code) :
    elemAt code (fromElems code l) i = l.getD i 0 := by
  rw [elemAt, fromElems, fieldOf_toNat_ofNat (stride_mul_add_le hi), fieldOf_joinBits_low h (fmtBits_le_stride code)]

theorem elemAt_fromElems_range {code : Nat} {g : Nat → Nat} (h : ∀ i < fmtCount code, g i < 2 ^ fmtBits code) {i : Nat}
    (hi : i < fmtCount code) : elemAt code (fromElems code ((List.range (fmtCount code)).map g)) i = g i := by
  rw [elemAt_fromElems _ hi, getD_map_range _ _ hi]
  intro a ha
  obtain ⟨j, hj, rfl⟩ := List.mem_map.mp ha
  exact h j (List.mem_range.mp hj)

/-! ### Flags (R160) -/

theorem foldl_or_eq (l : List Fl) (x : Fl) : l.foldl (· ||| ·) x = x ||| flAll l := by
  induction l generalizing x with
  | nil => simp [flAll]
  | cons a l ih =>
    have h0 : flAll (a :: l) = a ||| flAll l := (ih (0 ||| a)).trans (congrArg (· ||| flAll l) BitVec.zero_or)
    rw [List.foldl_cons, ih, h0, BitVec.or_assoc]

theorem flAll_cons (a : Fl) (l : List Fl) : flAll (a :: l) = a ||| flAll l := by
  exact (foldl_or_eq l (0 ||| a)).trans (congrArg (· ||| flAll l) BitVec.zero_or)

@[simp] theorem flAll_nil : flAll [] = 0 := rfl

/-- What sets no flag takes no part. -/
theorem flAll_map_ite (l : List Nat) (p : Nat → Bool) (g : Nat → Fl) :
    flAll (l.map (fun i => if p i then g i else 0)) = flAll ((l.filter p).map g) := by
  induction l with
  | nil => rfl
  | cons a l ih =>
    rw [List.map_cons, flAll_cons, ih]
    cases hp : p a with
    | true => rw [List.filter_cons_of_pos hp, List.map_cons, flAll_cons, if_pos rfl]
    | false => rw [List.filter_cons_of_neg (Bool.eq_false_iff.mp hp), if_neg Bool.false_ne_true]; exact BitVec.zero_or

theorem flAll_map_zero (l : List Nat) : flAll (l.map (fun _ => (0 : Fl))) = 0 := by
  induction l with
  | nil => rfl
  | cons a l ih => rw [List.map_cons, flAll_cons, ih]; exact BitVec.zero_or

@[simp] theorem Thread.addFlags_zero (y : Thread) : y.addFlags 0 = y := by
  simp [Thread.addFlags]

/-! ### Rows that only change their thread -/

section
variable {s : State} {c : BitVec 9} {t : BitVec 10} {th : Thread} {f : BitVec 48}

theorem maskOk_ctx (s : State) (c : BitVec 9) (t : BitVec 10) (th : Thread) (f : BitVec 48) :
    maskOk (s.ctx c t th f) = vvGovOk f := by
  simp only [maskOk, vvMe, vvMk, vvMz, vvGovOk, testBit_ctx, fldOf_ctx]

theorem vvActive_ctx (s : State) (c : BitVec 9) (t : BitVec 10) (th : Thread) (f : BitVec 48) (code : Nat) :
    vvActive (s.ctx c t th f) code = vvActiveAt th f code := by
  funext i
  simp only [vvActive, activeAt, vvMe, vvMask, vvMk, testBit_ctx, fldOf_ctx, vvActiveAt, perBit, State.ctx_th]
  split
  · rfl
  · rw [Nat.div_one]

/-- A vector row with legal fields retires with the thread that it gives. -/
theorem State.vecRow_of_legal (l : List (Nat × Nat)) {mask : Nat} {bad : Ctx → Bool} (g : Ctx → Thread) (h : s.canRun c t th = true)
    (hm : ∀ i < 48, mask.testBit i = !l.any (fun p => decide (p.1 ≤ i) && decide (i < p.1 + p.2))) (hz : zeroFields f l = true)
    (hgov : vvGovOk f = true) (hbad : bad (s.ctx c t th f) = false) (hpc : (g (s.ctx c t th f)).pc = th.pc) :
    s.vecRow c t f mask bad g = s.retire c t (g (s.ctx c t th f)) := by
  rw [State.vecRow, State.issue_onThread f _ h _ hpc]
  rw [onlyBits_eq_zeroFields l s c t th f hm, hz, maskOk_ctx, hgov, hbad]
  rfl

/-! ### Destinations (R103) -/

/-- What an element of a destination that is not MX becomes. -/
theorem elemAt_writeCodes {code : Nat} (hmx : isMxFmt code = false) {new : Nat → Nat}
    (hnew : ∀ i < fmtCount code, vvActiveAt th f code i = true → new i < 2 ^ fmtBits code) {i : Nat} (hi : i < fmtCount code) :
    elemAt code (writeCodes (s.ctx c t th f) code new) i =
      if vvActiveAt th f code i then new i else if f.getLsbD 27 then 0 else elemAt code (th.getV (opField f 44 4)) i := by
  simp only [writeCodes, hmx, Bool.false_eq_true, if_false, vvActive_ctx, vvMz, testBit_ctx, vvD, fldOf_ctx, State.ctx_th]
  rw [elemAt_fromElems_range _ hi]
  intro j hj
  split
  next hact => exact hnew j hj hact
  next =>
    split
    · exact Nat.two_pow_pos _
    · exact elemAt_lt _ _ _

/-- What an element of an MX destination becomes: in an active block an inactive element becomes code 0. -/
theorem elemAt_writeCodes_mx {code : Nat} (hmx : isMxFmt code = true) {new : Nat → Nat}
    (hnew : ∀ i < fmtCount code, vvActiveAt th f code i = true → new i < 2 ^ fmtBits code) {i : Nat} (hi : i < fmtCount code) :
    elemAt code (writeCodes (s.ctx c t th f) code new) i =
      if vvActiveAt th f code (i / 32 * 32) then (if vvActiveAt th f code i then new i else 0)
      else if f.getLsbD 27 then 0 else elemAt code (th.getV (opField f 44 4)) i := by
  simp only [writeCodes, hmx, if_true, vvActive_ctx, vvMz, testBit_ctx, vvD, fldOf_ctx, State.ctx_th]
  rw [elemAt_fromElems_range _ hi]
  intro j hj
  split
  next =>
    split
    next hact => exact hnew j hj hact
    next => exact Nat.two_pow_pos _
  next =>
    split
    · exact Nat.two_pow_pos _
    · exact elemAt_lt _ _ _

end

end Sys2Proof.Machine
end

section
/-! PROOFS. Element-wise float and integer instructions (O17, O18). -/

namespace Sys2Proof.Machine

section
variable {s : State} {c : BitVec 9} {t : BitVec 10} {th : Thread} {f : BitVec 48}

/-! ### The classes of formats (Table 04-4) -/

theorem isIntFmt_eq_true_iff (code : Nat) : isIntFmt code = true ↔ 10 ≤ code ∧ code ≤ 13 := by
  simp [isIntFmt]

theorem isMxFmt_eq_true_iff (code : Nat) : isMxFmt code = true ↔ 5 ≤ code ∧ code ≤ 9 := by
  simp [isMxFmt]

theorem isIntFmt_eq_false {code : Nat} (h : code < 10) : isIntFmt code = false := by
  rw [Bool.eq_false_iff, Ne, isIntFmt_eq_true_iff]
  omega

theorem isMxFmt_eq_false {code : Nat} (h : code < 5 ∨ 9 < code) : isMxFmt code = false := by
  rw [Bool.eq_false_iff, Ne, isMxFmt_eq_true_iff]
  omega

theorem validFmt_eq_true_iff (code : Nat) : validFmt code = true ↔ code ≤ 13 := by
  simp [validFmt]

/-! ### Legal words of majors 0x20 and 0x21 (R104, R119) -/

/-- No scale register is named for a format that is not MX. -/
theorem scaleRegOk_zero {code : Nat} (h : isMxFmt code = false) : scaleRegOk code 0 = true := by
  simp [scaleRegOk, h]

theorem opField_of_zeroFields {l : List (Nat × Nat)} (h : zeroFields f l = true) {p : Nat × Nat} (hp : p ∈ l) :
    opField f p.1 p.2 = 0 := beq_iff_eq.mp (List.all_eq_true.mp h p hp)

/-- A field inside one that is zero is zero. -/
theorem opField_sub_eq_zero {lo n a m : Nat} (h : opField f lo n = 0) (hlo : lo ≤ a) (hhi : a + m ≤ lo + n) : opField f a m = 0 := by
  refine opField_eq_zero_of_bits fun i h1 h2 => ?_
  have hb := congrArg (fun x : BitVec n => x.getLsbD (i - lo)) ((extractLsb'_eq_zero_iff f lo n).mpr h)
  simp only [BitVec.getLsbD_extractLsb'] at hb
  rw [Nat.add_sub_cancel' (by omega), decide_eq_true (show i - lo < n by omega), Bool.true_and] at hb
  rw [hb]
  simp

section
variable (hlow : opField f 0 20 = 0)
include hlow

theorem scalesOk_of_low {code : Nat} (hcode : opField f 23 4 = code) (hmx : isMxFmt code = false) (x y z : Bool) :
    scalesOk (s.ctx c t th f) x y z = true := by
  have hx : opField f 15 5 = 0 := opField_sub_eq_zero hlow (by decide) (by decide)
  have hy : opField f 10 5 = 0 := opField_sub_eq_zero hlow (by decide) (by decide)
  have hz : opField f 5 5 = 0 := opField_sub_eq_zero hlow (by decide) (by decide)
  simp [scalesOk, vvFmt, vvX, vvY, vvZ, fldOf_ctx, hcode, hx, hy, hz, scaleRegOk_zero hmx]

/-- The fields of an element-wise row are legal for a format that is not MX. -/
theorem ewBad_of_legal {code : Nat} (three : Bool) (hcode : opField f 23 4 = code) (hv : code ≤ 13) (hmx : isMxFmt code = false)
    (hsat : f.getLsbD 20 = true → 3 ≤ code) :
    (!validFmt (vvFmt (s.ctx c t th f)) || (three && isMxFmt (vvFmt (s.ctx c t th f))) ||
      !satOk (s.ctx c t th f) (vvFmt (s.ctx c t th f)) || !scalesOk (s.ctx c t th f) true true true) = false := by
  have hs : satOk (s.ctx c t th f) code = true := by
    rw [satOk, vvSat, testBit_ctx, Bool.not_eq_true', Bool.and_eq_false_iff]
    by_cases hb : f.getLsbD 20 = true
    · exact .inr (decide_eq_false (by have := hsat hb; omega))
    · exact .inl (Bool.eq_false_iff.mpr hb)
  rw [scalesOk_of_low hlow hcode hmx, vvFmt, fldOf_ctx, hcode, (validFmt_eq_true_iff code).mpr hv, hmx, hs]
  simp

theorem signBad_of_legal {code : Nat} (hcode : opField f 23 4 = code) (hv : code ≤ 13) (hmx : isMxFmt code = false)
    (hsat : f.getLsbD 20 = true → 3 ≤ code) :
    (!validFmt (vvFmt (s.ctx c t th f)) || !satOk (s.ctx c t th f) (vvFmt (s.ctx c t th f)) ||
      !scalesOk (s.ctx c t th f) true false true) = false := by
  have h := ewBad_of_legal (s := s) (c := c) (t := t) (th := th) hlow false hcode hv hmx hsat
  rw [scalesOk_of_low hlow hcode hmx] at h ⊢
  simpa using h

end

/-- An element-wise row with legal fields retires. -/
theorem State.ewRow_of_legal {code : Nat} {three : Bool} (op : EwOp) (h : s.canRun c t th = true) (hcode : opField f 23 4 = code)
    (hv : code ≤ 13) (hmx : isMxFmt code = false) (hlow : opField f 0 20 = 0) (hsat : f.getLsbD 20 = true → 3 ≤ code)
    (hgov : vvGovOk f = true) (hz : zeroFields f (if three then [] else [(32, 4)]) = true) :
    s.ewRow c t f three op = s.retire c t (elementWise op (s.ctx c t th f)) := by
  have hlow5 : opField f 0 5 = 0 := opField_sub_eq_zero hlow (by decide) (by decide)
  have hpc : (elementWise op (s.ctx c t th f)).pc = th.pc := by
    have hk : isMxFmt (vvFmt (s.ctx c t th f)) = false := by rw [vvFmt, fldOf_ctx, hcode, hmx]
    simp only [elementWise, hk, Bool.false_eq_true, if_false]
    split
    · rfl
    · rw [Thread.addFlags_pc]; rfl
  cases three with
  | true =>
    exact State.vecRow_of_legal [(0, 5)] _ h (by decide) (by simp [zeroFields, hlow5]) hgov
      (ewBad_of_legal hlow true hcode hv hmx hsat) hpc
  | false =>
    exact State.vecRow_of_legal [(0, 5), (32, 4)] _ h (by decide) ((zeroFields_cons _ _ _).mpr ⟨hlow5, hz⟩) hgov
      (ewBad_of_legal hlow false hcode hv hmx hsat) hpc

/-- The operation of VABS and VNEG on exact values and on integers. -/
def signEwOp (neg : Bool) : EwOp where
  val := fun _ a _ _ => (if neg then vNeg a else vAbs a, flNone)
  int := fun a _ _ => if neg then -a else a.natAbs

theorem signOp_eq_elementWise {code : Nat} (neg : Bool) (hcode : opField f 23 4 = code) (h : isIntFmt code = true ∨ isMxFmt code = true) :
    signOp neg (s.ctx c t th f) = elementWise (signEwOp neg) (s.ctx c t th f) := by
  simp only [signOp, vvFmt, fldOf_ctx, hcode, (Bool.or_eq_true _ _).mpr h, if_true]
  rfl

theorem signOp_pc (neg : Bool) {code : Nat} (hcode : opField f 23 4 = code) (hmx : isMxFmt code = false) :
    (signOp neg (s.ctx c t th f)).pc = th.pc := by
  have hk : vvFmt (s.ctx c t th f) = code := by rw [vvFmt, fldOf_ctx, hcode]
  simp only [signOp, elementWise, hk, hmx, Bool.or_false, Bool.false_eq_true, if_false]
  split
  · rfl
  · rfl

/-- VABS and VNEG with legal fields retire. -/
theorem State.signRow_of_legal {code : Nat} (neg : Bool) (h : s.canRun c t th = true) (hcode : opField f 23 4 = code)
    (hv : code ≤ 13) (hmx : isMxFmt code = false) (hlow : opField f 0 20 = 0) (hsat : f.getLsbD 20 = true → 3 ≤ code)
    (hgov : vvGovOk f = true) (hz : zeroFields f [(32, 8)] = true) :
    s.signRow c t f neg = s.retire c t (signOp neg (s.ctx c t th f)) := by
  have hlow5 : opField f 0 5 = 0 := opField_sub_eq_zero hlow (by decide) (by decide)
  have hy : opField f 10 5 = 0 := opField_sub_eq_zero hlow (by decide) (by decide)
  exact State.vecRow_of_legal [(0, 5), (10, 5), (32, 8)] _ h (by decide)
    ((zeroFields_cons _ _ _).mpr ⟨hlow5, (zeroFields_cons _ _ _).mpr ⟨hy, hz⟩⟩) hgov (signBad_of_legal hlow hcode hv hmx hsat)
    (signOp_pc neg hcode hmx)

/-! ### Floating-point results (R119, R151, R154) -/

/-- The value of an element of a source that is neither an integer nor MX. -/
theorem srcVal_float {code : Nat} (h : code ≤ 4) (k : Ctx) (v : BitVec 2048) (sx i : Nat) :
    srcVal k code v sx i = decodeFloat (ffmt code) (elemAt code v i) := by
  rw [srcVal, decodeElem, isIntFmt_eq_false (by omega), isMxFmt_eq_false (by omega)]
  rfl

/-- One result rounded once, with the flags of the operation and of the rounding. -/
def roundOnce (code rm : Nat) (sat : Bool) (v : Val × Fl) : Nat × Fl :=
  ((roundTo code rm sat v.1).1, v.2 ||| (roundTo code rm sat v.1).2)

/-- What an element-wise operation gives the elements of a floating-point register. -/
theorem elementWise_float {code : Nat} (op : EwOp) (hcode : opField f 23 4 = code) (h4 : code ≤ 4) {r : Nat → Nat × Fl}
    (hr : ∀ i, r i = roundOnce code (opField f 21 2) (f.getLsbD 20) (op.val (opField f 21 2)
      (decodeFloat (ffmt code) (elemAt code (th.getV (opField f 40 4)) i))
      (decodeFloat (ffmt code) (elemAt code (th.getV (opField f 36 4)) i))
      (decodeFloat (ffmt code) (elemAt code (th.getV (opField f 32 4)) i)))) :
    ∃ w, elementWise op (s.ctx c t th f) = (th.setV (opField f 44 4) w).addFlags
        (flAll (((List.range (fmtCount code)).filter (vvActiveAt th f code)).map (fun i => (r i).2))) ∧
      ∀ i < fmtCount code, elemAt code w i = if vvActiveAt th f code i then (r i).1 else if f.getLsbD 27 then 0
        else elemAt code (th.getV (opField f 44 4)) i := by
  have hk : vvFmt (s.ctx c t th f) = code := by rw [vvFmt, fldOf_ctx, hcode]
  have hmx : isMxFmt code = false := isMxFmt_eq_false (by omega)
  let rs (i : Nat) : Nat × Fl := if vvActiveAt th f code i then r i else (0, flNone)
  refine ⟨writeCodes (s.ctx c t th f) code (fun i => (((List.range (fmtCount code)).map rs).getD i (0, flNone)).1), ?_, fun i hi => ?_⟩
  · have hrs (i : Nat) : (if vvActive (s.ctx c t th f) code i then roundOnce code (vvRm (s.ctx c t th f)) (vvSat (s.ctx c t th f))
        (op.val (vvRm (s.ctx c t th f)) (srcVal (s.ctx c t th f) code (th.getV (vvA (s.ctx c t th f))) (vvX (s.ctx c t th f)) i)
          (srcVal (s.ctx c t th f) code (th.getV (vvB (s.ctx c t th f))) (vvY (s.ctx c t th f)) i)
          (srcVal (s.ctx c t th f) code (th.getV (vvC (s.ctx c t th f))) 0 i)) else (0, flNone)) = rs i := by
      simp only [rs, vvActive_ctx, srcVal_float h4, vvRm, vvA, vvB, vvC, vvSat, fldOf_ctx, testBit_ctx, hr]
    have hfl : flAll (((List.range (fmtCount code)).map rs).map (·.2)) =
        flAll (((List.range (fmtCount code)).filter (vvActiveAt th f code)).map (fun i => (r i).2)) := by
      rw [← flAll_map_ite, List.map_map]
      refine congrArg flAll (List.map_congr_left fun i _ => ?_)
      simp only [Function.comp_apply, rs]
      split <;> rfl
    rw [← hfl]
    simp only [elementWise, hk, isIntFmt_eq_false (show code < 10 by omega), hmx, Bool.false_eq_true, if_false, vvD, fldOf_ctx,
      State.ctx_th]
    simp only [roundOnce] at hrs
    simp only [hrs]
  · have hact (j : Nat) (hj : j < fmtCount code) (ha : vvActiveAt th f code j = true) :
        (((List.range (fmtCount code)).map rs).getD j (0, flNone)).1 = (r j).1 := by
      rw [getD_map_range _ _ hj]
      simp only [rs, ha, if_true]
    rw [elemAt_writeCodes hmx (fun j hj ha => ?_) hi]
    · split
      next ha => exact hact i hi ha
      next => rfl
    · rw [hact j hj ha, hr]
      exact roundTo_lt (by omega) _ _ _

/-- What VABS and VNEG give the elements of a floating-point register. -/
theorem signOp_float {code : Nat} (neg : Bool) (hcode : opField f 23 4 = code) (h4 : code ≤ 4) {r : Nat → Nat}
    (hr : ∀ i, r i = if decodeFloat (ffmt code) (elemAt code (th.getV (opField f 40 4)) i) = .nan then canonNan code
      else if neg then elemAt code (th.getV (opField f 40 4)) i ^^^ 2 ^ (fmtBits code - 1)
      else elemAt code (th.getV (opField f 40 4)) i % 2 ^ (fmtBits code - 1)) :
    ∃ w, signOp neg (s.ctx c t th f) = th.setV (opField f 44 4) w ∧
      ∀ i < fmtCount code, elemAt code w i = if vvActiveAt th f code i then r i else if f.getLsbD 27 then 0
        else elemAt code (th.getV (opField f 44 4)) i := by
  have hk : vvFmt (s.ctx c t th f) = code := by rw [vvFmt, fldOf_ctx, hcode]
  have hint : isIntFmt code = false := isIntFmt_eq_false (by omega)
  have hmx : isMxFmt code = false := isMxFmt_eq_false (by omega)
  refine ⟨writeCodes (s.ctx c t th f) code r, ?_, fun i hi => elemAt_writeCodes hmx (fun j _ _ => ?_) hi⟩
  · have hrs : r = fun i => if (decodeElem code 0 (elemAt code (th.getV (vvA (s.ctx c t th f))) i)).isNan = true then canonNan code
        else if neg = true then elemAt code (th.getV (vvA (s.ctx c t th f))) i ^^^ 2 ^ (fmtBits code - 1)
        else elemAt code (th.getV (vvA (s.ctx c t th f))) i % 2 ^ (fmtBits code - 1) := by
      funext i
      simp only [hr, decodeElem, hint, hmx, Bool.false_eq_true, if_false, Val.isNan_eq_true_iff, vvA, fldOf_ctx]
    simp only [signOp, hk, hint, hmx, Bool.or_self, Bool.false_eq_true, if_false, vvD, fldOf_ctx, State.ctx_th, hrs]
  · have htop : 2 ^ (fmtBits code - 1) < 2 ^ fmtBits code := Nat.pow_lt_pow_right (by decide) (by interval_cases code <;> decide)
    have he := elemAt_lt code (th.getV (opField f 40 4)) j
    rw [hr]
    split
    · exact canonNan_lt (by omega)
    · split
      · exact Nat.xor_lt_two_pow he htop
      · exact (Nat.mod_lt _ (Nat.two_pow_pos _)).trans htop

end

/-- Settles O17: each row is the element-wise shape with its operation, or the change of the sign bit. -/
theorem elementWiseFloat : Obligations.ElementWiseFloat := by
  intro s c t th f h code rm sat d h4 hlow hsat hgov act e x once sign
  have hlow : opField f 0 20 = 0 := ((zeroFields_cons f _ _).mp hlow).1
  have hmx : isMxFmt code = false := isMxFmt_eq_false (by omega)
  have row {i : Instr} {three : Bool} {op : EwOp} {r : Nat → Nat × Fl} (hi : exec i s = .next (s.ewRow c t f three op))
      (hr : ∀ j, r j = once (op.val rm (x 40 j) (x 36 j) (x 32 j))) (hz : zeroFields f (if three then [] else [(32, 4)]) = true) :
      ∃ w fl, exec i s = .next (s.retire c t ((th.setV d w).addFlags fl)) ∧
        (∀ j < fmtCount code, elemAt code w j = if act j then (r j).1 else if f.getLsbD 27 then 0 else elemAt code (th.getV d) j) ∧
        fl = flAll (((List.range (fmtCount code)).filter act).map (fun j => (r j).2)) := by
    obtain ⟨w, hw, hval⟩ := elementWise_float (s := s) (c := c) (t := t) (th := th) op rfl h4 hr
    exact ⟨w, _, hi.trans (congrArg _ ((State.ewRow_of_legal op h rfl (by omega) hmx hlow hsat hgov hz).trans
      (congrArg (s.retire c t) hw))), hval, rfl⟩
  have sgn {i : Instr} {neg : Bool} {r : Nat → Nat} (hi : exec i s = .next (s.signRow c t f neg))
      (hr : ∀ j, r j = if x 40 j = .nan then canonNan code else if neg then e 40 j ^^^ sign else e 40 j % sign)
      (hz : zeroFields f [(32, 8)] = true) :
      ∃ w fl, exec i s = .next (s.retire c t ((th.setV d w).addFlags fl)) ∧
        (∀ j < fmtCount code, elemAt code w j = if act j then r j else if f.getLsbD 27 then 0 else elemAt code (th.getV d) j) ∧
        fl = flAll (((List.range (fmtCount code)).filter act).map (fun _ => 0)) := by
    obtain ⟨w, hw, hval⟩ := signOp_float (s := s) (c := c) (t := t) (th := th) neg rfl h4 hr
    refine ⟨w, 0, hi.trans (congrArg _ ((State.signRow_of_legal neg h rfl (by omega) hmx hlow hsat hgov hz).trans ?_)), hval,
      (flAll_map_zero _).symm⟩
    rw [hw, Thread.addFlags_zero]
  simp only [List.forall_mem_cons, List.not_mem_nil, false_imp_iff, implies_true, and_true]
  exact ⟨row (three := false) rfl (fun _ => rfl), row (three := false) rfl (fun _ => rfl), row (three := false) rfl (fun _ => rfl),
    row (three := true) rfl (fun _ => rfl), row (three := false) rfl (fun _ => rfl), row (three := false) rfl (fun _ => rfl),
    sgn (neg := false) rfl (fun _ => rfl), sgn (neg := true) rfl (fun _ => rfl)⟩

end Sys2Proof.Machine
end

section
/-! PROOFS. Element-wise integer instructions (O18). -/

namespace Sys2Proof.Machine

/-! ### Integers of a width (R140, R154) -/

theorem toSigned_of_lt {w n : Nat} (h : n < 2 ^ w) : toSigned w n = if 2 ^ (w - 1) ≤ n then (n : Int) - 2 ^ w else n := by
  have hmod : ((n : Int) % 2 ^ w) = n := by exact_mod_cast Nat.mod_eq_of_lt h
  rw [toSigned, hmod, Nat.mod_eq_of_lt h]
  push_cast
  rfl

/-- The pattern of an exact result, wrapped or saturated. -/
def fitInt (w : Nat) (sat : Bool) (n : Int) : Nat :=
  ((if sat then max (-(2 ^ (w - 1))) (min (2 ^ (w - 1) - 1) n) else n) % 2 ^ w).toNat

theorem narrowInt_eq_fitInt (w : Nat) (sat : Bool) (n : Int) : narrowInt w sat n = fitInt w sat n := by
  have hclamp : (if n > maxInt w then maxInt w else if n < minInt w then minInt w else n) =
      max (-(2 ^ (w - 1))) (min (2 ^ (w - 1) - 1) n) := by
    have hpos : (0 : Int) < 2 ^ (w - 1) := by positivity
    rw [maxInt, minInt]
    push_cast
    generalize (2 : Int) ^ (w - 1) = b at hpos ⊢
    omega
  rw [narrowInt, fitInt, ofSigned, ofSigned, hclamp]
  push_cast
  cases sat <;> rfl

theorem fitInt_lt (w : Nat) (sat : Bool) (n : Int) : fitInt w sat n < 2 ^ w := by
  have hpos : (0 : Int) < 2 ^ w := by positivity
  have hlt := Int.emod_lt_of_pos (if sat then max (-(2 ^ (w - 1))) (min (2 ^ (w - 1) - 1) n) else n) hpos
  have hnn := Int.emod_nonneg (if sat then max (-(2 ^ (w - 1))) (min (2 ^ (w - 1) - 1) n) else n) hpos.ne'
  rw [fitInt, Int.toNat_lt hnn]
  push_cast
  exact hlt

section
variable {s : State} {c : BitVec 9} {t : BitVec 10} {th : Thread} {f : BitVec 48} {code : Nat}

/-- The signed value of an element of a source. -/
def intElem (th : Thread) (f : BitVec 48) (code lo i : Nat) : Int :=
  toSigned (fmtBits code) (elemAt code (th.getV (opField f lo 4)) i)

/-- What an element-wise operation gives the elements of an integer register. -/
theorem elementWise_int (op : EwOp) (hcode : opField f 23 4 = code) (hint : isIntFmt code = true) (hmx : isMxFmt code = false)
    {r : Nat → Nat} (hr : ∀ i, r i = fitInt (fmtBits code) (f.getLsbD 20)
      (op.int (intElem th f code 40 i) (intElem th f code 36 i) (intElem th f code 32 i))) :
    ∃ w, elementWise op (s.ctx c t th f) = th.setV (opField f 44 4) w ∧
      ∀ i < fmtCount code, elemAt code w i = if vvActiveAt th f code i then r i else if f.getLsbD 27 then 0
        else elemAt code (th.getV (opField f 44 4)) i := by
  have hk : vvFmt (s.ctx c t th f) = code := by rw [vvFmt, fldOf_ctx, hcode]
  refine ⟨writeCodes (s.ctx c t th f) code r, ?_, fun i hi => elemAt_writeCodes hmx (fun j _ _ => ?_) hi⟩
  · rw [show r = _ from funext hr]
    simp only [elementWise, hk, hint, if_true, vvD, vvA, vvB, vvC, vvSat, fldOf_ctx, testBit_ctx, State.ctx_th, narrowInt_eq_fitInt,
      intElem]
  · rw [hr]
    exact fitInt_lt _ _ _

/-- A row on the patterns of integer elements with legal fields retires with its results. -/
theorem State.bitRow_of_legal {sat : Bool} {op : Ctx → Nat → Nat → Nat → Nat} (h : s.canRun c t th = true)
    (hcode : opField f 23 4 = code) (hint : isIntFmt code = true) (hmx : isMxFmt code = false) (hlow : opField f 0 20 = 0)
    (hgov : vvGovOk f = true) (hz : zeroFields f (if sat then [(32, 4), (21, 2)] else [(32, 4), (20, 3)]) = true) {r : Nat → Nat}
    (hr : ∀ i, r i = op (s.ctx c t th f) (fmtBits code) (elemAt code (th.getV (opField f 40 4)) i)
      (elemAt code (th.getV (opField f 36 4)) i)) (hlt : ∀ i, r i < 2 ^ fmtBits code) :
    ∃ w, s.bitRow c t f sat op = s.retire c t (th.setV (opField f 44 4) w) ∧
      ∀ i < fmtCount code, elemAt code w i = if vvActiveAt th f code i then r i else if f.getLsbD 27 then 0
        else elemAt code (th.getV (opField f 44 4)) i := by
  have hk : vvFmt (s.ctx c t th f) = code := by rw [vvFmt, fldOf_ctx, hcode]
  refine ⟨writeCodes (s.ctx c t th f) code r, ?_, fun i hi => elemAt_writeCodes hmx (fun j _ _ => hlt j) hi⟩
  have hbad : (!isIntFmt (vvFmt (s.ctx c t th f))) = false := by rw [hk, hint]; rfl
  have hrow : s.bitRow c t f sat op = s.retire c t ((s.ctx c t th f).th.setV (vvD (s.ctx c t th f))
      (writeCodes (s.ctx c t th f) (vvFmt (s.ctx c t th f)) (fun i => op (s.ctx c t th f) (fmtBits (vvFmt (s.ctx c t th f)))
        (elemAt (vvFmt (s.ctx c t th f)) ((s.ctx c t th f).th.getV (vvA (s.ctx c t th f))) i)
        (elemAt (vvFmt (s.ctx c t th f)) ((s.ctx c t th f).th.getV (vvB (s.ctx c t th f))) i)))) := by
    cases sat with
    | true =>
      exact State.vecRow_of_legal [(0, 20), (32, 4), (21, 2)] _ h (by decide) ((zeroFields_cons _ _ _).mpr ⟨hlow, hz⟩) hgov hbad rfl
    | false =>
      exact State.vecRow_of_legal [(0, 20), (32, 4), (20, 3)] _ h (by decide) ((zeroFields_cons _ _ _).mpr ⟨hlow, hz⟩) hgov hbad rfl
  rw [hrow, show r = _ from funext hr]
  simp only [hk, vvD, vvA, vvB, fldOf_ctx, State.ctx_th]

end

/-- Settles O18: each row is the element-wise shape with its integer operation, or a row on the patterns. -/
theorem elementWiseInteger : Obligations.ElementWiseInteger := by
  intro s c t th f h code d w h10 h13 hlow hgov act u x fit sh
  have hlow : opField f 0 20 = 0 := ((zeroFields_cons f _ _).mp hlow).1
  have hint : isIntFmt code = true := (isIntFmt_eq_true_iff code).mpr ⟨h10, h13⟩
  have hmx : isMxFmt code = false := isMxFmt_eq_false (by omega)
  have hx (lo i : Nat) : intElem th f code lo i = x lo i := toSigned_of_lt (elemAt_lt code _ _)
  have row {i : Instr} {three : Bool} {op : EwOp} {r : Nat → Nat} (hi : exec i s = .next (s.ewRow c t f three op))
      (hr : ∀ j, r j = fit (op.int (x 40 j) (x 36 j) (x 32 j))) (hz : zeroFields f (if three then [] else [(32, 4)]) = true) :
      ∃ v, exec i s = .next (s.retire c t (th.setV d v)) ∧
        ∀ j < fmtCount code, elemAt code v j = if act j then r j else if f.getLsbD 27 then 0 else elemAt code (th.getV d) j := by
    obtain ⟨v, hv, hval⟩ := elementWise_int (s := s) (c := c) (t := t) (th := th) op rfl hint hmx
      (r := r) (fun j => by rw [hx, hx, hx]; exact hr j)
    exact ⟨v, hi.trans (congrArg _ ((State.ewRow_of_legal op h rfl h13 hmx hlow (fun _ => by omega) hgov hz).trans
      (congrArg (s.retire c t) hv))), hval⟩
  have sgn {i : Instr} {neg : Bool} {r : Nat → Nat} (hi : exec i s = .next (s.signRow c t f neg))
      (hr : ∀ j, r j = fit (if neg then -x 40 j else (x 40 j).natAbs)) (hz : zeroFields f [(32, 8)] = true) :
      ∃ v, exec i s = .next (s.retire c t (th.setV d v)) ∧
        ∀ j < fmtCount code, elemAt code v j = if act j then r j else if f.getLsbD 27 then 0 else elemAt code (th.getV d) j := by
    obtain ⟨v, hv, hval⟩ := elementWise_int (s := s) (c := c) (t := t) (th := th) (signEwOp neg) rfl hint hmx (r := r)
      (fun j => by rw [hx]; exact hr j)
    refine ⟨v, hi.trans (congrArg _ ((State.signRow_of_legal neg h rfl h13 hmx hlow (fun _ => by omega) hgov hz).trans ?_)), hval⟩
    rw [← hv, signOp_eq_elementWise neg rfl (.inl hint)]
  have bit {i : Instr} {sat : Bool} {op : Ctx → Nat → Nat → Nat → Nat} {r : Nat → Nat}
      (hi : exec i s = .next (s.bitRow c t f sat op)) (hr : ∀ j, r j = op (s.ctx c t th f) w (u 40 j) (u 36 j))
      (hlt : ∀ j, r j < 2 ^ w) (hz : zeroFields f (if sat then [(32, 4), (21, 2)] else [(32, 4), (20, 3)]) = true) :
      ∃ v, exec i s = .next (s.retire c t (th.setV d v)) ∧
        ∀ j < fmtCount code, elemAt code v j = if act j then r j else if f.getLsbD 27 then 0 else elemAt code (th.getV d) j := by
    obtain ⟨v, hv, hval⟩ := State.bitRow_of_legal h rfl hint hmx hlow hgov hz hr hlt
    exact ⟨v, hi.trans (congrArg _ hv), hval⟩
  have hu (lo i : Nat) : u lo i < 2 ^ w := elemAt_lt code _ _
  simp only [List.forall_mem_cons, List.not_mem_nil, false_imp_iff, implies_true, and_true]
  refine ⟨row (three := false) rfl (fun _ => rfl), row (three := false) rfl (fun _ => rfl), row (three := false) rfl (fun _ => rfl),
    row (three := true) rfl (fun _ => rfl), row (three := false) rfl (fun _ => congrArg fit (min_def_lt _ _)),
    row (three := false) rfl (fun _ => congrArg fit (max_def_lt _ _)), sgn (neg := false) rfl (fun _ => rfl),
    sgn (neg := true) rfl (fun _ => rfl),
    bit (sat := false) rfl (fun _ => rfl) (fun j => lt_of_le_of_lt Nat.and_le_left (hu 40 j)),
    bit (sat := false) rfl (fun _ => rfl) (fun j => Nat.or_lt_two_pow (hu 40 j) (hu 36 j)),
    bit (sat := false) rfl (fun _ => rfl) (fun j => Nat.xor_lt_two_pow (hu 40 j) (hu 36 j)),
    bit (sat := true) rfl (fun j => ?shl) (fun j => fitInt_lt _ _ _),
    bit (sat := false) rfl (fun _ => rfl) (fun j => (Nat.div_le_self _ _).trans_lt (hu 40 j)),
    bit (sat := false) rfl (fun j => ?sar) (fun j => fitInt_lt w false _)⟩
  case shl =>
    rw [narrowInt_eq_fitInt, vvSat, testBit_ctx, toSigned_of_lt (hu 40 j)]
    push_cast
    rfl
  case sar =>
    rw [ofSigned, toSigned_of_lt (hu 40 j)]
    push_cast
    rfl

end Sys2Proof.Machine
end

section
/-! PROOFS. Element-wise MX instructions (O19): what quantising a block gives, and how blocks and scales are written. -/

namespace Sys2Proof.Machine

/-! ### A field of a number replaced -/

/-- The bits of a number of which one field is replaced. -/
theorem testBit_replaceField {n o w b : Nat} (hb : b < 2 ^ w) (i : Nat) :
    (n - fieldOf n o w * 2 ^ o + b * 2 ^ o).testBit i = if o ≤ i ∧ i < o + w then b.testBit (i - o) else n.testBit i := by
  have hmid : fieldOf n o w = n / 2 ^ o % 2 ^ w := fieldOf_eq_div_mod n o w
  have hn : n = 2 ^ o * (2 ^ w * (n / 2 ^ o / 2 ^ w) + fieldOf n o w) + n % 2 ^ o := by
    rw [hmid, Nat.div_add_mod, Nat.div_add_mod]
  have hlo : n % 2 ^ o < 2 ^ o := Nat.mod_lt _ (Nat.two_pow_pos o)
  have hnew : n - fieldOf n o w * 2 ^ o + b * 2 ^ o = 2 ^ o * (2 ^ w * (n / 2 ^ o / 2 ^ w) + b) + n % 2 ^ o := by
    rw [Nat.mul_add] at hn ⊢
    rw [Nat.mul_comm (2 ^ o) (fieldOf n o w)] at hn
    rw [Nat.mul_comm (2 ^ o) b]
    omega
  have hbits (x : Nat) (hx : x < 2 ^ w) : (2 ^ o * (2 ^ w * (n / 2 ^ o / 2 ^ w) + x) + n % 2 ^ o).testBit i =
      if i < o then (n % 2 ^ o).testBit i else if i < o + w then x.testBit (i - o) else (n / 2 ^ o / 2 ^ w).testBit (i - o - w) := by
    rw [Nat.testBit_two_pow_mul_add _ hlo]
    by_cases h1 : i < o
    · rw [if_pos h1, if_pos h1]
    · rw [if_neg h1, if_neg h1, Nat.testBit_two_pow_mul_add _ hx]
      exact if_congr (by omega) rfl rfl
  rw [hnew, hbits b hb]
  conv_rhs => rw [hn]
  rw [hbits _ (fieldOf_lt _ _ _)]
  by_cases h1 : i < o
  · rw [if_pos h1, if_pos h1, if_neg (by omega)]
  · rw [if_neg h1, if_neg h1]
    by_cases h2 : i < o + w
    · rw [if_pos h2, if_pos ⟨by omega, h2⟩]
    · rw [if_neg h2, if_neg h2, if_neg (by omega)]

/-- The bytes of a number of which one is replaced. -/
theorem fieldOf_setByte {n i b : Nat} (hb : b < 2 ^ 8) (j : Nat) :
    fieldOf (setByte n i b) (8 * j) 8 = if j = i then b else fieldOf n (8 * j) 8 := by
  refine Nat.eq_of_testBit_eq fun x => ?_
  rw [testBit_fieldOf, setByte, testBit_replaceField hb]
  by_cases hx : x < 8
  · by_cases hj : j = i
    · subst hj
      rw [if_pos rfl, if_pos (by omega), Nat.add_sub_cancel_left, decide_eq_true hx, Bool.true_and]
    · rw [if_neg hj, if_neg (by omega), testBit_fieldOf]
  · have hbig : b < 2 ^ x := hb.trans_le (Nat.pow_le_pow_right (by decide) (by omega))
    rw [decide_eq_false hx, Bool.false_and]
    split
    · exact (Nat.testBit_lt_two_pow hbig).symm
    · rw [testBit_fieldOf, decide_eq_false hx, Bool.false_and]

/-! ### Quantising a block (R158) -/

theorem mxCode_lt {code : Nat} (h : code ≤ 9) (rm : Rm) (x : Int) (v : Val) : (mxCode code rm x v).1 < 2 ^ fmtBits code := by
  cases v with
  | nan => exact Nat.two_pow_pos _
  | inf n =>
    simp only [mxCode]
    split
    · exact infCode_lt_of_code h n
    · exact maxCode_lt h n
  | fin n m e =>
    simp only [mxCode]
    split
    · exact maxCode_lt h n
    next hov => exact encodeMag_roundFloat_lt h rm n n m _ (by simpa using hov)

theorem mxScale_le (fm : FFmt) (rm : Rm) (vs : List Val) : mxScale fm rm vs ≤ 255 := by
  rw [mxScale]
  cases hf : (List.range 255).find? (fun (i : Nat) => !vs.any (mxOver fm rm ((i : Int) - 127))) with
  | none => exact le_refl _
  | some i => exact (List.mem_range.mp (List.mem_of_find?_eq_some hf)).le

/-- A quantised block holds one code of the format for each element, and a scale of a byte. -/
theorem mxQuantise_bounds {code : Nat} (h : code ≤ 9) (rm : Rm) (sat : Bool) (vs : List (Option Val)) :
    (mxQuantise code rm sat vs).1 < 2 ^ 8 ∧ (mxQuantise code rm sat vs).2.1.length = vs.length ∧
      ∀ a ∈ (mxQuantise code rm sat vs).2.1, a < 2 ^ fmtBits code := by
  have hzeros : (vs.map (fun _ => 0)).length = vs.length ∧ ∀ a ∈ vs.map (fun _ => 0), a < 2 ^ fmtBits code := by
    refine ⟨List.length_map _, fun a ha => ?_⟩
    obtain ⟨_, _, rfl⟩ := List.mem_map.mp ha
    exact Nat.two_pow_pos _
  rw [mxQuantise]
  extract_lets allZero i i' rs
  have h255 : 255 < 2 ^ 8 := by decide
  have hi : i ≤ 255 := by
    simp only [i]
    split
    · decide
    · exact mxScale_le _ _ _
  split
  · exact ⟨h255, hzeros⟩
  split
  · exact ⟨h255, hzeros⟩
  split
  · exact ⟨h255, hzeros⟩
  refine ⟨?_, by simp [rs], fun a ha => ?_⟩
  · have h' : i' ≤ 255 := by
      simp only [i']
      split
      · decide
      · exact hi
    exact Nat.lt_succ_of_le h'
  · obtain ⟨r, hr, rfl⟩ := List.mem_map.mp ha
    obtain ⟨o, _, rfl⟩ := List.mem_map.mp hr
    cases o with
    | none => exact Nat.two_pow_pos _
    | some v => exact mxCode_lt h _ _ _

/-- The quantisation of a block of 32 elements of which some are active. -/
def mxOf (code rm : Nat) (sat : Bool) (act : Nat → Bool) (val : Nat → Val) : Nat × List Nat × Fl :=
  mxQuantise code rm sat ((List.range 32).map (fun j => if act j then some (val j) else none))

theorem mxBlockAfter_eq (code rm : Nat) (sat mz : Bool) (act : Nat → Bool) (val : Nat → Val) (old : Nat × List Nat) :
    mxBlockAfter code rm sat mz act val old = if act 0 then ((mxOf code rm sat act val).1, (mxOf code rm sat act val).2.1)
      else if mz then (0x7F, List.replicate 32 0) else old := rfl

theorem filterMap_ite {α : Type} (l : List Nat) (p : Nat → Bool) (g : Nat → α) :
    (l.map (fun j => if p j then some (g j) else none)).filterMap id = (l.filter p).map g := by
  induction l with
  | nil => rfl
  | cons a l ih =>
    rw [List.map_cons]
    cases hp : p a with
    | true => rw [if_pos rfl, List.filterMap_cons_some (f := id) rfl, ih, List.filter_cons_of_pos hp, List.map_cons]
    | false => rw [if_neg Bool.false_ne_true, List.filterMap_cons_none (f := id) rfl, ih, List.filter_cons_of_neg (Bool.eq_false_iff.mp hp)]

/-- The flags of an active block: those of the quantisation and of its active elements. -/
def mxFlags (code rm : Nat) (sat : Bool) (act : Nat → Bool) (val : Nat → Val × Fl) : Fl :=
  (mxOf code rm sat act (fun j => (val j).1)).2.2 ||| flAll (((List.range 32).filter act).map (fun j => (val j).2))

/-- What becomes of one block, whose first element says whether it is active. -/
theorem mxBlock_eq (code rm : Nat) (sat mz : Bool) (act : Nat → Bool) (val : Nat → Val × Fl) :
    mxBlock code rm sat mz ((List.range 32).map (fun j => if act j then some (val j) else none)) =
      if act 0 then some ((mxOf code rm sat act (fun j => (val j).1)).2.1, (mxOf code rm sat act (fun j => (val j).1)).1,
        mxFlags code rm sat act val)
      else if mz then some (List.replicate 32 0, 0x7F, 0) else none := by
  have hvals : ((List.range 32).map (fun j => if act j then some (val j) else none)).map (·.map (·.1)) =
      (List.range 32).map (fun j => if act j then some (val j).1 else none) := by
    rw [List.map_map]
    refine List.map_congr_left fun j _ => ?_
    rw [Function.comp_apply]
    split <;> rfl
  have hhead : (List.range 32).map (fun j => if act j then some (val j) else none) =
      (if act 0 then some (val 0) else none) ::
        ((List.range 31).map Nat.succ).map (fun j => if act j then some (val j) else none) := by
    rw [List.range_succ_eq_map, List.map_cons]
  cases h0 : act 0 with
  | true =>
    have hm : mxBlock code rm sat mz ((List.range 32).map (fun j => if act j then some (val j) else none)) =
        let q := mxQuantise code rm sat (((List.range 32).map (fun j => if act j then some (val j) else none)).map (·.map (·.1)))
        some (q.2.1, q.1, q.2.2 |||
          flAll ((((List.range 32).map (fun j => if act j then some (val j) else none)).filterMap id).map (·.2))) := by
      rw [hhead, h0, if_pos rfl]
      rfl
    rw [hm, hvals, filterMap_ite, List.map_map, if_pos rfl]
    rfl
  | false =>
    rw [if_neg Bool.false_ne_true]
    have hm : mxBlock code rm sat mz ((List.range 32).map (fun j => if act j then some (val j) else none)) =
        if mz then some (((List.range 32).map (fun j => if act j then some (val j) else none)).map (fun _ => 0), 0x7F, flNone)
        else none := by
      rw [hhead, h0, if_neg Bool.false_ne_true]
      rfl
    rw [hm, List.map_map]
    rfl

/-! ### Blocks written one by one (R103, R120) -/

/-- The blocks of a part of a destination, from block b0 on, with what becomes of each. -/
def mxList (b0 m : Nat) (X : Nat → Option (List Nat × Nat × Fl)) : List (Nat × Option (List Nat × Nat × Fl)) :=
  (List.range m).map (fun b => (b0 + b, X b))

/-- What becomes of a block of the whole destination. -/
def mxPart (b0 m : Nat) (X : Nat → Option (List Nat × Nat × Fl)) (n : Nat) : Option (List Nat × Nat × Fl) :=
  if b0 ≤ n ∧ n < b0 + m then X (n - b0) else none

theorem find?_mxList (b0 m n : Nat) (X : Nat → Option (List Nat × Nat × Fl)) :
    (mxList b0 m X).find? (fun x => x.1 == n) = if b0 ≤ n ∧ n < b0 + m then some (n, mxPart b0 m X n) else none := by
  rw [mxList, List.find?_map]
  by_cases h : b0 ≤ n ∧ n < b0 + m
  · have hr : (List.range m).find? ((fun x : Nat × Option (List Nat × Nat × Fl) => x.1 == n) ∘ fun b => (b0 + b, X b)) = some (n - b0) :=
      List.find?_range_eq_some.mpr ⟨by simp; omega, List.mem_range.mpr (by omega), fun j hj => by simp; omega⟩
    rw [hr, if_pos h, mxPart, if_pos h, Option.map_some, Nat.add_sub_cancel' h.1]
  · have hr : (List.range m).find? ((fun x : Nat × Option (List Nat × Nat × Fl) => x.1 == n) ∘ fun b => (b0 + b, X b)) = none :=
      List.find?_eq_none.mpr fun j hj => by
        have := List.mem_range.mp hj
        simp
        omega
    rw [hr, if_neg h, Option.map_none]

/-- The scales after the blocks of a list have been written. -/
def mxScales (sc : Nat) (l : List (Nat × Option (List Nat × Nat × Fl))) : Nat :=
  l.foldl (fun sc x => match x.2 with
    | some (_, b, _) => setByte sc x.1 b
    | none => sc) sc

theorem fieldOf_mxScales {X : Nat → Option (List Nat × Nat × Fl)} (hX : ∀ b cs x fl, X b = some (cs, x, fl) → x < 2 ^ 8)
    (b0 m sc j : Nat) : fieldOf (mxScales sc (mxList b0 m X)) (8 * j) 8 = (match mxPart b0 m X j with
        | some (_, b, _) => b
        | none => fieldOf sc (8 * j) 8) := by
  induction m with
  | zero =>
    rw [mxPart, if_neg (by omega)]
    rfl
  | succ m ih =>
    have hstep : mxScales sc (mxList b0 (m + 1) X) = (match X m with
        | some (_, b, _) => setByte (mxScales sc (mxList b0 m X)) (b0 + m) b
        | none => mxScales sc (mxList b0 m X)) := by
      rw [mxScales, mxList, List.range_succ, List.map_append, List.foldl_append]
      rfl
    have hself : mxPart b0 (m + 1) X (b0 + m) = X m := by rw [mxPart, if_pos (by omega), Nat.add_sub_cancel_left]
    have hout : mxPart b0 m X (b0 + m) = none := if_neg (by omega)
    have hother (h : j ≠ b0 + m) : mxPart b0 (m + 1) X j = mxPart b0 m X j := if_congr (by omega) rfl rfl
    rw [hstep]
    by_cases hj : j = b0 + m
    · subst hj
      rw [hself]
      cases hXm : X m with
      | none =>
        dsimp only
        rw [ih, hout]
      | some y => exact (fieldOf_setByte (hX m y.1 y.2.1 y.2.2 hXm) _).trans (if_pos rfl)
    · rw [hother hj, ← ih]
      cases hXm : X m with
      | none => rfl
      | some y => exact (fieldOf_setByte (hX m y.1 y.2.1 y.2.2 hXm) _).trans (if_neg hj)

theorem map_range_getD {l : List Nat} {n : Nat} (h : l.length = n) : (List.range n).map (fun j => l.getD j 0) = l := by
  subst h
  refine List.ext_getElem (by simp) fun i h1 h2 => ?_
  simp [List.getD_eq_getElem?_getD, h2]

theorem fmtCount_mx {code : Nat} (h : isMxFmt code = true) : 32 * (fmtCount code / 32) = fmtCount code := by
  obtain ⟨h5, h9⟩ := (isMxFmt_eq_true_iff code).mp h
  interval_cases code <;> rfl

section
variable {s : State} {c : BitVec 9} {t : BitVec 10} {th : Thread} {f : BitVec 48} {code : Nat}

/-- The scales of the destination before the instruction. -/
def mxOldScales (th : Thread) (f : BitVec 48) (code : Nat) : Nat :=
  if code = 9 then th.getPair (opField f 5 5) else (th.getS (opField f 5 5)).toNat

/-- What an MX destination holds after a write of m blocks from block b0 on. -/
theorem mxWrite_part (hmx : isMxFmt code = true) (b0 m : Nat) (act : Nat → Bool) (val : Nat → Val × Fl) :
    ∃ w sc, mxWrite (s.ctx c t th f) code (32 * b0) (32 * m) (fun i => if act i then some (val i) else none) =
      (putScales (th.setV (opField f 44 4) w) code (opField f 5 5) sc).addFlags
        (flAll (((List.range m).filter (fun blk => act (32 * blk))).map (fun blk =>
          mxFlags code (opField f 21 2) (f.getLsbD 20) (fun j => act (32 * blk + j)) (fun j => val (32 * blk + j))))) ∧
      ∀ blk < fmtCount code / 32, mxBlockOf code w sc blk = if b0 ≤ blk ∧ blk < b0 + m then
          mxBlockAfter code (opField f 21 2) (f.getLsbD 20) (f.getLsbD 27) (fun j => act (32 * (blk - b0) + j))
            (fun j => (val (32 * (blk - b0) + j)).1) (mxBlockOf code (th.getV (opField f 44 4)) (mxOldScales th f code) blk)
        else mxBlockOf code (th.getV (opField f 44 4)) (mxOldScales th f code) blk := by
  have h9 : code ≤ 9 := ((isMxFmt_eq_true_iff code).mp hmx).2
  have hcount := fmtCount_mx hmx
  let q (b : Nat) : Nat × List Nat × Fl := mxOf code (opField f 21 2) (f.getLsbD 20) (fun j => act (32 * b + j))
    (fun j => (val (32 * b + j)).1)
  let fl (b : Nat) : Fl := mxFlags code (opField f 21 2) (f.getLsbD 20) (fun j => act (32 * b + j)) (fun j => val (32 * b + j))
  let X (b : Nat) : Option (List Nat × Nat × Fl) := if act (32 * b) then some ((q b).2.1, (q b).1, fl b)
    else if f.getLsbD 27 then some (List.replicate 32 0, 0x7F, 0) else none
  let Y := mxPart b0 m X
  have hq (b : Nat) : (q b).1 < 2 ^ 8 ∧ (q b).2.1.length = 32 ∧ ∀ a ∈ (q b).2.1, a < 2 ^ fmtBits code := by
    have hb := mxQuantise_bounds h9 (opField f 21 2) (f.getLsbD 20)
      ((List.range 32).map (fun j => if act (32 * b + j) then some (val (32 * b + j)).1 else none))
    rwa [List.length_map, List.length_range] at hb
  have hX (b : Nat) (cs : List Nat) (x : Nat) (e : Fl) (hx : X b = some (cs, x, e)) :
      x < 2 ^ 8 ∧ cs.length = 32 ∧ ∀ a ∈ cs, a < 2 ^ fmtBits code := by
    simp only [X] at hx
    split at hx
    · cases hx
      exact hq b
    · split at hx
      · cases hx
        refine ⟨by decide, by simp, fun a ha => ?_⟩
        rw [List.eq_of_mem_replicate ha]
        exact Nat.two_pow_pos _
      · cases hx
  have hY (b : Nat) (cs : List Nat) (x : Nat) (e : Fl) (hx : Y b = some (cs, x, e)) :
      cs.length = 32 ∧ ∀ a ∈ cs, a < 2 ^ fmtBits code := by
    simp only [Y, mxPart] at hx
    split at hx
    · exact (hX _ _ _ _ hx).2
    · cases hx
  have hblocks : (List.range (32 * m / 32)).map (fun b => (32 * b0 / 32 + b, mxBlock code (opField f 21 2) (f.getLsbD 20) (f.getLsbD 27)
      ((List.range 32).map (fun i => if act (32 * b + i) then some (val (32 * b + i)) else none)))) = mxList b0 m X := by
    rw [Nat.mul_div_cancel_left _ (by decide), Nat.mul_div_cancel_left _ (by decide)]
    refine List.map_congr_left fun b _ => ?_
    rw [mxBlock_eq]
    rfl
  let new (i : Nat) : Nat := match Y (i / 32) with
    | some (cs, _, _) => cs.getD (i % 32) 0
    | none => elemAt code (th.getV (opField f 44 4)) i
  have hnew : ∀ i < fmtCount code, new i < 2 ^ fmtBits code := by
    intro i _
    simp only [new]
    split
    next cs x e hx =>
      rw [List.getD_eq_getElem?_getD]
      cases hg : cs[i % 32]? with
      | none => exact Nat.two_pow_pos _
      | some a => exact (hY _ _ _ _ hx).2 a (List.mem_of_getElem? hg)
    next => exact elemAt_lt _ _ _
  have hold : (if (code == 9) = true then th.getPair (opField f 5 5) else (th.getS (opField f 5 5)).toNat) = mxOldScales th f code := by
    simp only [beq_iff_eq, mxOldScales]
  refine ⟨fromElems code ((List.range (fmtCount code)).map new), mxScales (mxOldScales th f code) (mxList b0 m X),
    ?_, fun blk hblk => ?_⟩
  · have hcodes : (List.range (fmtCount code)).map (fun i =>
        match (mxList b0 m X).find? (fun x => x.1 == i / 32) with
        | some (_, some (cs, _, _)) => cs.getD (i % 32) 0
        | _ => elemAt code (th.getV (opField f 44 4)) i) = (List.range (fmtCount code)).map new := by
      refine List.map_congr_left fun i _ => ?_
      rw [find?_mxList]
      simp only [new, Y]
      by_cases hin : b0 ≤ i / 32 ∧ i / 32 < b0 + m
      · rw [if_pos hin]
        cases mxPart b0 m X (i / 32) <;> rfl
      · rw [if_neg hin, mxPart, if_neg hin]
    have hfl : flAll ((mxList b0 m X).map (fun x => match x.2 with
          | some (_, _, e) => e
          | none => flNone)) =
        flAll (((List.range m).filter (fun blk => act (32 * blk))).map fl) := by
      rw [← flAll_map_ite, mxList, List.map_map]
      refine congrArg flAll (List.map_congr_left fun b _ => ?_)
      simp only [Function.comp_apply, X]
      by_cases ha : act (32 * b) = true
      · simp only [ha, if_true]
      · by_cases hz : f.getLsbD 27 = true
        · simp only [ha, hz, Bool.false_eq_true, if_false, if_true]
        · simp only [ha, hz, Bool.false_eq_true, if_false]
          rfl
    have hsc : (mxList b0 m X).foldl (fun sc x => match x.2 with
        | some (_, b, _) => setByte sc x.1 b
        | none => sc) (mxOldScales th f code) = mxScales (mxOldScales th f code) (mxList b0 m X) := rfl
    simp only [mxWrite, vvD, vvZ, vvRm, vvSat, vvMz, fldOf_ctx, testBit_ctx, State.ctx_th, hblocks, hold]
    exact congrArg₂ Thread.addFlags (congrArg₂ (fun w sc => putScales (th.setV (opField f 44 4) w) code (opField f 5 5) sc)
      (congrArg (fromElems code) hcodes) hsc) hfl
  · have hnewAt (j : Nat) (hj : j < 32) : elemAt code (fromElems code ((List.range (fmtCount code)).map new)) (32 * blk + j) =
        new (32 * blk + j) := elemAt_fromElems_range hnew (by omega)
    have hcodes : (List.range 32).map (fun j => elemAt code (fromElems code ((List.range (fmtCount code)).map new)) (32 * blk + j)) =
        (List.range 32).map (fun j => new (32 * blk + j)) :=
      List.map_congr_left fun j hj => hnewAt j (List.mem_range.mp hj)
    have hdiv (j : Nat) (hj : j < 32) : (32 * blk + j) / 32 = blk ∧ (32 * blk + j) % 32 = j := by omega
    have hsome {cs : List Nat} {x : Nat} {e : Fl} (hx : Y blk = some (cs, x, e)) :
        (List.range 32).map (fun j => new (32 * blk + j)) = cs := by
      rw [← map_range_getD (hY _ _ _ _ hx).1]
      refine List.map_congr_left fun j hj => ?_
      obtain ⟨h1, h2⟩ := hdiv j (List.mem_range.mp hj)
      simp only [new, h1, h2, hx]
    have hnone (hx : Y blk = none) : (List.range 32).map (fun j => new (32 * blk + j)) =
        (List.range 32).map (fun j => elemAt code (th.getV (opField f 44 4)) (32 * blk + j)) := by
      refine List.map_congr_left fun j hj => ?_
      simp only [new, (hdiv j (List.mem_range.mp hj)).1, hx]
    have hsc : fieldOf (mxScales (mxOldScales th f code) (mxList b0 m X)) (8 * blk) 8 = (match Y blk with
        | some (_, b, _) => b
        | none => fieldOf (mxOldScales th f code) (8 * blk) 8) :=
      fieldOf_mxScales (fun b cs x e hx => (hX b cs x e hx).1) b0 m _ blk
    rw [mxBlockOf, hcodes, hsc, mxBlockAfter_eq]
    by_cases hin : b0 ≤ blk ∧ blk < b0 + m
    · have hpart : Y blk = X (blk - b0) := if_pos hin
      rw [if_pos hin]
      by_cases ha : act (32 * (blk - b0)) = true
      · have hx : Y blk = some ((q (blk - b0)).2.1, (q (blk - b0)).1, fl (blk - b0)) := hpart.trans (if_pos ha)
        rw [hsome hx, hx]
        exact (if_pos ha).symm
      · by_cases hz : f.getLsbD 27 = true
        · have hx : Y blk = some (List.replicate 32 0, 0x7F, 0) := hpart.trans ((if_neg ha).trans (if_pos hz))
          rw [hsome hx, hx]
          exact ((if_neg ha).trans (if_pos hz)).symm
        · have hx : Y blk = none := hpart.trans ((if_neg ha).trans (if_neg hz))
          rw [hnone hx, hx]
          exact ((if_neg ha).trans (if_neg hz)).symm
    · have hx : Y blk = none := if_neg hin
      rw [if_neg hin, hnone hx, hx]
      rfl

/-- What an MX destination holds after a write of whole registers. -/
theorem mxWrite_eq (hmx : isMxFmt code = true) (val : Nat → Val × Fl) :
    ∃ w sc, mxWrite (s.ctx c t th f) code 0 (fmtCount code)
        (fun i => if vvActiveAt th f code i then some (val i) else none) =
      (putScales (th.setV (opField f 44 4) w) code (opField f 5 5) sc).addFlags
        (flAll (((List.range (fmtCount code / 32)).filter (fun blk => vvActiveAt th f code (32 * blk))).map (fun blk =>
          mxFlags code (opField f 21 2) (f.getLsbD 20) (fun j => vvActiveAt th f code (32 * blk + j)) (fun j => val (32 * blk + j))))) ∧
      ∀ blk < fmtCount code / 32, mxBlockOf code w sc blk =
        mxBlockAfter code (opField f 21 2) (f.getLsbD 20) (f.getLsbD 27) (fun j => vvActiveAt th f code (32 * blk + j))
          (fun j => (val (32 * blk + j)).1) (mxBlockOf code (th.getV (opField f 44 4)) (mxOldScales th f code) blk) := by
  obtain ⟨w, sc, hw, hval⟩ := mxWrite_part (s := s) (c := c) (t := t) (th := th) (f := f) hmx 0 (fmtCount code / 32)
    (vvActiveAt th f code) val
  rw [fmtCount_mx hmx] at hw
  exact ⟨w, sc, hw, fun blk hblk => (hval blk hblk).trans (if_pos (by omega))⟩

/-! ### Rows with an MX destination -/

theorem putScales_pc (y : Thread) (n sc : Nat) : (putScales y code n sc).pc = y.pc := by
  rw [putScales]
  split
  · exact Thread.setPair_pc _ _ _
  · exact Thread.setS_pc _ _ _

/-- The value of an element of an MX source under its block's scale. -/
def mxElem (th : Thread) (f : BitVec 48) (code lo r i : Nat) : Val :=
  scaleVal (fieldOf (th.getPair (opField f r 5)) (8 * (i / 32)) 8)
    (decodeFloat (ffmt code) (elemAt code (th.getV (opField f lo 4)) i))

/-- The value of an element of a source that is MX. -/
theorem srcVal_mx (hmx : isMxFmt code = true) (lo r i : Nat) :
    srcVal (s.ctx c t th f) code (th.getV (opField f lo 4)) (opField f r 5) i = mxElem th f code lo r i := by
  have hint : isIntFmt code = false := by
    have := (isMxFmt_eq_true_iff code).mp hmx
    exact isIntFmt_eq_false (by omega)
  simp only [srcVal, decodeElem, hint, hmx, Bool.false_eq_true, if_false, if_true, mxElem, scaleOf, State.ctx_th]

/-- An element-wise instruction on an MX format whose operation does not read Vc. -/
theorem elementWise_mx (op : EwOp) (hcode : opField f 23 4 = code) (hmx : isMxFmt code = true) {r : Nat → Val × Fl}
    (hr : ∀ i x, r i = op.val (opField f 21 2) (mxElem th f code 40 15 i) (mxElem th f code 36 10 i) x) :
    elementWise op (s.ctx c t th f) = mxWrite (s.ctx c t th f) code 0 (fmtCount code)
      (fun i => if vvActiveAt th f code i then some (r i) else none) := by
  have hk : vvFmt (s.ctx c t th f) = code := by rw [vvFmt, fldOf_ctx, hcode]
  have hint : isIntFmt code = false := by
    have := (isMxFmt_eq_true_iff code).mp hmx
    exact isIntFmt_eq_false (by omega)
  simp only [elementWise, hk, hint, hmx, Bool.false_eq_true, if_false, if_true, vvActive_ctx, vvRm, vvA, vvB, vvX, vvY, fldOf_ctx,
    State.ctx_th, srcVal_mx hmx, ← hr]

theorem satOk_of_mx (hmx : isMxFmt code = true) : satOk (s.ctx c t th f) code = true := by
  have h := (isMxFmt_eq_true_iff code).mp hmx
  simp only [satOk, Bool.not_eq_true', Bool.and_eq_false_iff, decide_eq_false_iff_not]
  exact .inr (by omega)

section
variable (hcode : opField f 23 4 = code) (hmx : isMxFmt code = true)
  (heven : code = 9 → opField f 15 5 % 2 = 0 ∧ opField f 10 5 % 2 = 0 ∧ opField f 5 5 % 2 = 0)
include hcode hmx heven

theorem scalesOk_of_mx (x y z : Bool) : scalesOk (s.ctx c t th f) x y z = true := by
  have hok {lo : Nat} (h : code = 9 → opField f lo 5 % 2 = 0) : scaleRegOk code (opField f lo 5) = true := by
    rw [scaleRegOk, if_pos hmx]
    by_cases h9 : code = 9
    · simp [h9, h h9]
    · simp [h9]
  simp [scalesOk, vvFmt, vvX, vvY, vvZ, fldOf_ctx, hcode, hok (fun h => (heven h).1), hok (fun h => (heven h).2.1),
    hok (fun h => (heven h).2.2)]

/-- An element-wise row on an MX format with legal fields retires. -/
theorem State.ewRow_of_mx (op : EwOp) {val : Nat → Option (Val × Fl)} (h : s.canRun c t th = true) (hgov : vvGovOk f = true)
    (hz : zeroFields f [(0, 5), (32, 4)] = true)
    (hop : elementWise op (s.ctx c t th f) = mxWrite (s.ctx c t th f) code 0 (fmtCount code) val) :
    s.ewRow c t f false op = s.retire c t (mxWrite (s.ctx c t th f) code 0 (fmtCount code) val) := by
  have h9 := ((isMxFmt_eq_true_iff code).mp hmx).2
  have hv : validFmt code = true := (validFmt_eq_true_iff code).mpr (by omega)
  refine (State.vecRow_of_legal [(0, 5), (32, 4)] _ h (by decide) hz hgov ?_ ?_).trans (congrArg (s.retire c t) hop)
  · rw [scalesOk_of_mx hcode hmx heven, vvFmt, fldOf_ctx, hcode, satOk_of_mx hmx, hv]
    rfl
  · rw [hop, mxWrite, Thread.addFlags_pc, putScales_pc]
    rfl

/-- VABS and VNEG on an MX format with legal fields retire. -/
theorem State.signRow_of_mx (neg : Bool) {val : Nat → Option (Val × Fl)} (h : s.canRun c t th = true) (hgov : vvGovOk f = true)
    (hz : zeroFields f [(0, 5), (32, 4)] = true) (hz2 : zeroFields f [(36, 4), (10, 5)] = true)
    (hop : signOp neg (s.ctx c t th f) = mxWrite (s.ctx c t th f) code 0 (fmtCount code) val) :
    s.signRow c t f neg = s.retire c t (mxWrite (s.ctx c t th f) code 0 (fmtCount code) val) := by
  have h9 := ((isMxFmt_eq_true_iff code).mp hmx).2
  have hv : validFmt code = true := (validFmt_eq_true_iff code).mpr (by omega)
  refine (State.vecRow_of_legal ([(0, 5), (32, 4)] ++ [(36, 4), (10, 5)]) _ h (by decide)
    ((zeroFields_append _ _ _).mpr ⟨hz, hz2⟩) hgov ?_ ?_).trans (congrArg (s.retire c t) hop)
  · rw [scalesOk_of_mx hcode hmx heven, vvFmt, fldOf_ctx, hcode, satOk_of_mx hmx, hv]
    rfl
  · rw [hop, mxWrite, Thread.addFlags_pc, putScales_pc]
    rfl

end

end

/-- An instruction has written the blocks of its results, with their scales and flags. -/
def MxWritten (s : State) (c : BitVec 9) (t : BitVec 10) (th : Thread) (f : BitVec 48) (code : Nat)
    (u : Host.Outcome State Fault Refusal) (r : Nat → Val × Fl) : Prop :=
  ∃ w sc, u = .next (s.retire c t ((putScales (th.setV (opField f 44 4) w) code (opField f 5 5) sc).addFlags
      (flAll (((List.range (fmtCount code / 32)).filter (fun blk => vvActiveAt th f code (32 * blk))).map (fun blk =>
        mxFlags code (opField f 21 2) (f.getLsbD 20) (fun j => vvActiveAt th f code (32 * blk + j)) (fun j => r (32 * blk + j))))))) ∧
    ∀ blk < fmtCount code / 32, mxBlockOf code w sc blk =
      mxBlockAfter code (opField f 21 2) (f.getLsbD 20) (f.getLsbD 27) (fun j => vvActiveAt th f code (32 * blk + j))
        (fun j => (r (32 * blk + j)).1) (mxBlockOf code (th.getV (opField f 44 4)) (mxOldScales th f code) blk)

theorem mxWritten_of_eq {s : State} {c : BitVec 9} {t : BitVec 10} {th : Thread} {f : BitVec 48} {code : Nat}
    (hmx : isMxFmt code = true) {r : Nat → Val × Fl} {u : Host.Outcome State Fault Refusal}
    (hu : u = .next (s.retire c t (mxWrite (s.ctx c t th f) code 0 (fmtCount code)
      (fun i => if vvActiveAt th f code i then some (r i) else none)))) : MxWritten s c t th f code u r := by
  obtain ⟨w, sc, hw, hval⟩ := mxWrite_eq (s := s) (c := c) (t := t) (th := th) (f := f) hmx r
  exact ⟨w, sc, hu.trans (congrArg (fun y => Host.Outcome.next (s.retire c t y)) hw), hval⟩

/-- Settles O19: each row writes the blocks of its exact results. -/
theorem elementWiseMx : Obligations.ElementWiseMx := by
  intro s c t th f h code rm sat mz d z h5 h9 hz hgov heven act scale x a b old
  have hmx : isMxFmt code = true := (isMxFmt_eq_true_iff code).mpr ⟨h5, h9⟩
  have row {i : Instr} {op : EwOp} {r : Nat → Val × Fl} (hi : exec i s = .next (s.ewRow c t f false op))
      (hr : ∀ j y, r j = op.val rm (a j) (b j) y) : MxWritten s c t th f code (exec i s) r :=
    mxWritten_of_eq hmx (hi.trans (congrArg _ (State.ewRow_of_mx rfl hmx heven op h hgov hz (elementWise_mx op rfl hmx hr))))
  have sgn {i : Instr} {neg : Bool} {r : Nat → Val × Fl} (hi : exec i s = .next (s.signRow c t f neg))
      (hr : ∀ j, r j = (if neg then vNeg (a j) else vAbs (a j), flNone)) (hz2 : zeroFields f [(36, 4), (10, 5)] = true) :
      MxWritten s c t th f code (exec i s) r := by
    have hop : signOp neg (s.ctx c t th f) = mxWrite (s.ctx c t th f) code 0 (fmtCount code)
        (fun j => if vvActiveAt th f code j then some (r j) else none) := by
      rw [signOp_eq_elementWise neg rfl (.inr hmx), elementWise_mx (signEwOp neg) rfl hmx (fun j _ => hr j)]
    exact mxWritten_of_eq hmx (hi.trans (congrArg _ (State.signRow_of_mx rfl hmx heven neg h hgov hz hz2 hop)))
  intro p hp hz2
  change MxWritten s c t th f code (exec p.1 s) p.2.2
  revert p
  simp only [List.forall_mem_cons, List.not_mem_nil, false_imp_iff, implies_true, and_true]
  exact ⟨fun _ => row rfl (fun _ _ => rfl), fun _ => row rfl (fun _ _ => rfl), fun _ => row rfl (fun _ _ => rfl),
    fun _ => row rfl (fun _ _ => rfl), fun _ => row rfl (fun _ _ => rfl), sgn (neg := false) rfl (fun _ => rfl),
    sgn (neg := true) rfl (fun _ => rfl)⟩

end Sys2Proof.Machine
end

section
/-! PROOFS. Compares and reductions (O20). -/

namespace Sys2Proof.Machine

/-! ### Masks made of bits (R103) -/

theorem ofBool_eq_one_iff (b : Bool) : ofBool b = 1 ↔ b = true := by
  cases b <;> decide

/-- A bit of a mask made of bits. -/
theorem getLsbD_ofNat_joinBits {w : Nat} (bit : Nat → Bool) {i : Nat} (hi : i < w) :
    (BitVec.ofNat w (joinBits 1 ((List.range w).map (fun i => ofBool (bit i))))).getLsbD i = bit i := by
  have hparts : ∀ a ∈ (List.range w).map (fun i => ofBool (bit i)), a < 2 ^ 1 := by
    intro a ha
    obtain ⟨j, _, rfl⟩ := List.mem_map.mp ha
    cases bit j <;> decide
  have hf := fieldOf_joinBits hparts i
  rw [getD_map_range _ _ hi, fieldOf_eq_div_mod, Nat.one_mul, Nat.pow_one] at hf
  rw [BitVec.getLsbD_ofNat, decide_eq_true hi, Bool.true_and, Nat.testBit_eq_decide_div_mod_eq, hf, Bool.eq_iff_iff, decide_eq_true_iff,
    ofBool_eq_one_iff]

/-! ### First best values (R123) -/

/-- One step of a reduction: the better of what stands and the next. -/
def pickBetter (o : Ordering) (m : Option (Nat × Val)) (x : Nat × Val) : Option (Nat × Val) :=
  match m with
  | none => some x
  | some y => if vCmpZ x.2 y.2 == o then some x else some y

theorem foldl_pickBetter_mem {o : Ordering} {l : List (Nat × Val)} {m : Option (Nat × Val)} {y : Nat × Val}
    (h : l.foldl (pickBetter o) m = some y) : y ∈ l ∨ m = some y := by
  induction l generalizing m with
  | nil => exact .inr h
  | cons x l ih =>
    rcases ih h with hy | hy
    · exact .inl (List.mem_cons_of_mem _ hy)
    · have hx : pickBetter o m x = some x ∨ pickBetter o m x = m := by
        cases m with
        | none => exact .inl rfl
        | some z =>
          simp only [pickBetter]
          split
          · exact .inl rfl
          · exact .inr rfl
      rcases hx with hx | hx
      · rw [hx] at hy
        exact .inl (Option.some.inj hy ▸ List.mem_cons_self)
      · exact .inr (hx ▸ hy)

/-- What is better than all before it and no worse than all after it is what a reduction gives. -/
theorem foldl_pickBetter_eq {o : Ordering} {l1 l2 : List (Nat × Val)} {x : Nat × Val} (h1 : ∀ y ∈ l1, vCmpZ x.2 y.2 = o)
    (h2 : ∀ y ∈ l2, vCmpZ y.2 x.2 ≠ o) : (l1 ++ x :: l2).foldl (pickBetter o) none = some x := by
  rw [List.foldl_append, List.foldl_cons]
  have hx : pickBetter o (l1.foldl (pickBetter o) none) x = some x := by
    cases hm : l1.foldl (pickBetter o) none with
    | none => rfl
    | some y =>
      have hy : y ∈ l1 := (foldl_pickBetter_mem hm).resolve_right nofun
      simp only [pickBetter, h1 y hy, beq_self_eq_true, if_true]
  rw [hx]
  induction l2 with
  | nil => rfl
  | cons z l2 ih =>
    rw [List.forall_mem_cons] at h2
    rw [List.foldl_cons, show pickBetter o (some x) z = some x from if_neg (by simpa using h2.1)]
    exact ih h2.2

section
variable {s : State} {c : BitVec 9} {t : BitVec 10} {th : Thread} {f : BitVec 48} {code : Nat}

/-! ### Compares (R155) -/

/-- The value of an element of a source of any format. -/
def srcElem (th : Thread) (f : BitVec 48) (code lo r i : Nat) : Val :=
  decodeElem code (if 5 ≤ code ∧ code ≤ 9 then fieldOf (th.getPair (opField f r 5)) (8 * (i / 32)) 8 else 0)
    (elemAt code (th.getV (opField f lo 4)) i)

theorem srcVal_ctx (lo r i : Nat) :
    srcVal (s.ctx c t th f) code (th.getV (opField f lo 4)) (opField f r 5) i = srcElem th f code lo r i := by
  simp only [srcVal, isMxFmt_eq_true_iff, scaleOf, State.ctx_th, srcElem]

theorem scaleRegOk_of {n : Nat} (h : if 5 ≤ code ∧ code ≤ 9 then code = 9 → n % 2 = 0 else n = 0) : scaleRegOk code n = true := by
  rw [scaleRegOk]
  by_cases hmx : 5 ≤ code ∧ code ≤ 9
  · rw [if_pos hmx] at h
    rw [if_pos ((isMxFmt_eq_true_iff code).mpr hmx)]
    by_cases h9 : code = 9
    · simp [h9, h h9]
    · simp [h9]
  · rw [if_neg hmx] at h
    rw [if_neg (mt (isMxFmt_eq_true_iff code).mp hmx), h]
    rfl

theorem fmtBits_eq_four_iff (h : code ≤ 13) : fmtBits code = 4 ↔ code = 9 ∨ code = 11 := by
  interval_cases code <;> decide

/-- The value of bit i of the mask that a compare writes. -/
def cmpBit (th : Thread) (f : BitVec 48) (code : Nat) (uns : Bool) (op : Val → Val → Bool) (i : Nat) : Bool :=
  if uns then op (.fin false (elemAt code (th.getV (opField f 40 4)) i) 0) (.fin false (elemAt code (th.getV (opField f 36 4)) i) 0)
  else op (srcElem th f code 40 15 i) (srcElem th f code 36 10 i)

/-- A compare row with legal fields writes its mask. -/
theorem State.cmpRow_of_legal {uns : Bool} (op : Val → Val → Bool) (h : s.canRun c t th = true) (hcode : opField f 23 4 = code)
    (hv : code ≤ 13) (hgov : vvGovOk f = true) (hx : if 5 ≤ code ∧ code ≤ 9 then code = 9 → opField f 15 5 % 2 = 0 else opField f 15 5 = 0)
    (hy : ¬(5 ≤ code ∧ code ≤ 8) → opField f 10 5 = 0) (huns : uns = true → 10 ≤ code) (hd : opField f 44 4 < 8)
    (h9 : code ≠ 9) (h11 : code ≠ 11) (hz : zeroFields f [(0, 10), (20, 3), (32, 4)] = true) :
    ∃ m : BitVec 256, s.cmpRow c t f uns op = s.retire c t (th.setM (opField f 44 4) m) ∧
      ∀ i < 256, m.getLsbD i = if i < fmtCount code then
          (if vvActiveAt th f code i then cmpBit th f code uns op i else !f.getLsbD 27 && (th.getM (opField f 44 4)).getLsbD i)
        else (th.getM (opField f 44 4)).getLsbD i := by
  have hk : vvFmt (s.ctx c t th f) = code := by rw [vvFmt, fldOf_ctx, hcode]
  have hbits : (fmtBits code == 4) = false := by
    rw [beq_eq_false_iff_ne, Ne, fmtBits_eq_four_iff hv]
    omega
  have hint : (uns && !isIntFmt code) = false := by
    cases uns with
    | false => rfl
    | true => rw [(isIntFmt_eq_true_iff code).mpr ⟨huns rfl, hv⟩]; rfl
  have hyok : scaleRegOk code (opField f 10 5) = true := by
    refine scaleRegOk_of ?_
    by_cases h8 : 5 ≤ code ∧ code ≤ 8
    · rw [if_pos (by omega)]
      omega
    · rw [if_neg (by omega)]
      exact hy h8
  have hscale : scalesOk (s.ctx c t th f) true true false = true := by
    simp [scalesOk, vvFmt, vvX, vvY, fldOf_ctx, hcode, scaleRegOk_of hx, hyok]
  have hrow : s.cmpRow c t f uns op = s.retire c t (writeMask (s.ctx c t th f) code (cmpBit th f code uns op)) := by
    refine (State.vecRow_of_legal [(0, 10), (20, 3), (32, 4)] _ h (by decide) hz hgov ?_ (Thread.setM_pc _ _ _)).trans ?_
    · simp only [hk, hscale, hbits, hint, (validFmt_eq_true_iff code).mpr hv, isMaskReg, vvD, fldOf_ctx, hd, decide_true,
        Bool.not_true, Bool.or_false]
    · simp only [hk, vvA, vvB, vvX, vvY, fldOf_ctx, State.ctx_th, srcVal_ctx]
      rfl
  refine ⟨_, hrow.trans rfl, fun i hi => ?_⟩
  rw [getLsbD_ofNat_joinBits _ hi]
  simp only [vvActive_ctx, vvMz, testBit_ctx, vvD, fldOf_ctx, State.ctx_th]

/-- Both values of a compare are numbers. -/
def bothNum (a b : Val) : Prop := a ≠ .nan ∧ b ≠ .nan

theorem ordCmp_eq_true_iff (p : Ordering → Bool) (a b : Val) : ordCmp p a b = true ↔ bothNum a b ∧ p (vCmp a b) = true := by
  simp [ordCmp, bothNum, and_assoc]

theorem vCmp_nat (m n : Nat) : vCmp (.fin false m 0) (.fin false n 0) = compare m n := by
  have hc : vCmp (.fin false m 0) (.fin false n 0) = compare (m : Int) (n : Int) := by simp [vCmp, alignInt]
  rw [hc]
  rcases lt_trichotomy m n with h | h | h
  · rw [compare_lt_iff_lt.mpr h, compare_lt_iff_lt.mpr (Int.ofNat_lt.mpr h)]
  · rw [compare_eq_iff_eq.mpr h, compare_eq_iff_eq.mpr (congrArg _ h)]
  · rw [compare_gt_iff_gt.mpr h, compare_gt_iff_gt.mpr (Int.ofNat_lt.mpr h)]

/-! ### Reductions (R123) -/

/-- The active elements. -/
def liveElems (th : Thread) (f : BitVec 48) (code : Nat) : List Nat := (List.range (fmtCount code)).filter (vvActiveAt th f code)

theorem liveElems_sorted (th : Thread) (f : BitVec 48) (code : Nat) : (liveElems th f code).Pairwise (· < ·) :=
  List.Pairwise.filter _ List.pairwise_lt_range

/-- The element that a reduction finds: the first NaN, or the first of the best numbers. -/
def IsFirst (th : Thread) (f : BitVec 48) (code : Nat) (o : Ordering) (i : Nat) : Prop :=
  i ∈ liveElems th f code ∧ ((∃ j ∈ liveElems th f code, srcElem th f code 40 15 j = .nan) →
      srcElem th f code 40 15 i = .nan ∧ ∀ j ∈ liveElems th f code, j < i → srcElem th f code 40 15 j ≠ .nan) ∧
    ((¬∃ j ∈ liveElems th f code, srcElem th f code 40 15 j = .nan) →
      (∀ j ∈ liveElems th f code, vCmpZ (srcElem th f code 40 15 j) (srcElem th f code 40 15 i) ≠ o) ∧
        ∀ j ∈ liveElems th f code, j < i → vCmpZ (srcElem th f code 40 15 i) (srcElem th f code 40 15 j) = o)

/-- The elements of a reduction with their values. -/
def liveVals (th : Thread) (f : BitVec 48) (code : Nat) : List (Nat × Val) :=
  (liveElems th f code).map (fun i => (i, srcElem th f code 40 15 i))

theorem reduceIdx_ctx (least : Bool) (hcode : opField f 23 4 = code) : reduceIdx (s.ctx c t th f) least =
    match (liveVals th f code).find? (fun x => x.2.isNan) with
    | some x => some x.1
    | none => ((liveVals th f code).foldl (pickBetter (if least then .lt else .gt)) none).map (·.1) := by
  have hk : vvFmt (s.ctx c t th f) = code := by rw [vvFmt, fldOf_ctx, hcode]
  have hvals : ((List.range (fmtCount code)).filter (vvActive (s.ctx c t th f) code)).map (fun i =>
      (i, srcVal (s.ctx c t th f) code (th.getV (vvA (s.ctx c t th f))) (vvX (s.ctx c t th f)) i)) = liveVals th f code := by
    simp only [vvActive_ctx, vvA, vvX, fldOf_ctx, srcVal_ctx]
    rfl
  simp only [reduceIdx, hk, State.ctx_th, hvals]
  rfl

theorem reduceIdx_of_none (least : Bool) (hcode : opField f 23 4 = code) (h : liveElems th f code = []) :
    reduceIdx (s.ctx c t th f) least = none := by
  rw [reduceIdx_ctx least hcode, liveVals, h]
  rfl

theorem reduceIdx_of_first (least : Bool) (hcode : opField f 23 4 = code) {i : Nat}
    (h : IsFirst th f code (if least then .lt else .gt) i) : reduceIdx (s.ctx c t th f) least = some i := by
  obtain ⟨hi, hnan, hnum⟩ := h
  obtain ⟨l1, l2, hl⟩ := List.append_of_mem hi
  have hbefore : ∀ j ∈ l1, j ∈ liveElems th f code ∧ j < i := by
    intro j hj
    have hsort := liveElems_sorted th f code
    rw [hl, List.pairwise_append] at hsort
    exact ⟨hl ▸ List.mem_append_left _ hj, hsort.2.2 j hj i List.mem_cons_self⟩
  have hafter : ∀ j ∈ l2, j ∈ liveElems th f code := fun j hj => hl ▸ List.mem_append_right _ (List.mem_cons_of_mem _ hj)
  have hvals : liveVals th f code = l1.map (fun i => (i, srcElem th f code 40 15 i)) ++
      (i, srcElem th f code 40 15 i) :: l2.map (fun i => (i, srcElem th f code 40 15 i)) := by
    rw [liveVals, hl, List.map_append, List.map_cons]
  rw [reduceIdx_ctx least hcode]
  by_cases hex : ∃ j ∈ liveElems th f code, srcElem th f code 40 15 j = .nan
  · obtain ⟨hin, hout⟩ := hnan hex
    have hfind : (liveVals th f code).find? (fun x => x.2.isNan) = some (i, srcElem th f code 40 15 i) := by
      rw [hvals, List.find?_eq_some_iff_append]
      refine ⟨by simpa using hin, _, _, rfl, fun x hx => ?_⟩
      obtain ⟨j, hj, rfl⟩ := List.mem_map.mp hx
      obtain ⟨hlive, hlt⟩ := hbefore j hj
      simpa using hout j hlive hlt
    rw [hfind]
  · obtain ⟨hbest, hfirst⟩ := hnum hex
    have hfind : (liveVals th f code).find? (fun x => x.2.isNan) = none := by
      refine List.find?_eq_none.mpr fun x hx => ?_
      obtain ⟨j, hj, rfl⟩ := List.mem_map.mp hx
      simpa using fun hn => hex ⟨j, hj, hn⟩
    have hfold : (liveVals th f code).foldl (pickBetter (if least then .lt else .gt)) none =
        some (i, srcElem th f code 40 15 i) := by
      rw [hvals]
      refine foldl_pickBetter_eq (fun y hy => ?_) (fun y hy => ?_)
      · obtain ⟨j, hj, rfl⟩ := List.mem_map.mp hy
        exact hfirst j (hbefore j hj).1 (hbefore j hj).2
      · obtain ⟨j, hj, rfl⟩ := List.mem_map.mp hy
        exact hbest j (hafter j hj)
    rw [hfind, hfold]
    rfl

/-- What a reduction gives for a NaN. -/
def reduceNan (code : Nat) : Nat := if 10 ≤ code then 0 else if 5 ≤ code then 0xFF00 else canonNan code

/-- What a reduction gives for an element. -/
def reduceShown (th : Thread) (f : BitVec 48) (code i : Nat) : Nat :=
  if srcElem th f code 40 15 i = .nan then reduceNan code
  else if 5 ≤ code ∧ code ≤ 9 then
    elemAt code (th.getV (opField f 40 4)) i + 2 ^ 8 * fieldOf (th.getPair (opField f 15 5)) (8 * (i / 32)) 8
  else if code = 11 then ofSigned 8 (toSigned 4 (elemAt code (th.getV (opField f 40 4)) i))
  else elemAt code (th.getV (opField f 40 4)) i

theorem reduceNan_eq (hv : code ≤ 13) :
    (if isIntFmt code then 0 else if isMxFmt code then 0xFF00 else canonNan code) = reduceNan code := by
  rw [reduceNan]
  simp only [isIntFmt_eq_true_iff, isMxFmt_eq_true_iff]
  by_cases h10 : 10 ≤ code
  · rw [if_pos ⟨h10, hv⟩, if_pos h10]
  · rw [if_neg (by omega), if_neg h10]
    exact if_congr (by omega) rfl rfl

theorem reduceVal_of_none (least : Bool) (hcode : opField f 23 4 = code) (hv : code ≤ 13) (h : liveElems th f code = []) :
    reduceVal (s.ctx c t th f) least = reduceNan code := by
  have hk : vvFmt (s.ctx c t th f) = code := by rw [vvFmt, fldOf_ctx, hcode]
  simp only [reduceVal, reduceIdx_of_none least hcode h, hk]
  exact reduceNan_eq hv

theorem reduceVal_of_first (least : Bool) (hcode : opField f 23 4 = code) (hv : code ≤ 13) {i : Nat}
    (h : IsFirst th f code (if least then .lt else .gt) i) : reduceVal (s.ctx c t th f) least = reduceShown th f code i := by
  have hk : vvFmt (s.ctx c t th f) = code := by rw [vvFmt, fldOf_ctx, hcode]
  rw [reduceShown, ← reduceNan_eq hv]
  simp only [reduceVal, reduceIdx_of_first least hcode h, hk, vvA, vvX, fldOf_ctx, State.ctx_th, srcVal_ctx, Val.isNan_eq_true_iff,
    beq_iff_eq, isMxFmt_eq_true_iff, scaleOf]

/-- A reduction row with legal fields writes its scalar. -/
theorem State.redRow_of_legal {g : Ctx → Nat} {n : Nat} (h : s.canRun c t th = true) (hcode : opField f 23 4 = code) (hv : code ≤ 13)
    (hgov : vvGovOk f = true) (hx : if 5 ≤ code ∧ code ≤ 9 then code = 9 → opField f 15 5 % 2 = 0 else opField f 15 5 = 0)
    (hz : zeroFields f [(0, 5), (10, 5), (20, 3), (27, 1), (32, 8), (44, 4)] = true) (hg : g (s.ctx c t th f) = n) :
    s.redRow c t f g = s.retire c t (th.setS (opField f 5 5) (BitVec.ofNat 64 n)) := by
  refine (State.vecRow_of_legal _ _ h (by decide) hz hgov ?_ (Thread.setS_pc _ _ _)).trans ?_
  · simp only [vvFmt, vvX, fldOf_ctx, hcode, (validFmt_eq_true_iff code).mpr hv, scaleRegOk_of hx, Bool.not_true, Bool.or_self]
  · simp only [vvZ, fldOf_ctx, State.ctx_th, hg]

end

/-- Settles O20: each compare is the compare shape with its operation, and each reduction finds the first best element. -/
theorem compareAndReduce : Obligations.CompareAndReduce := by
  intro s c t th f h code d hv hgov hx act e x a b num
  constructor
  case left =>
    have row {i : Instr} {uns : Bool} {op : Val → Val → Bool} (hi : exec i s = .next (s.cmpRow c t f uns op))
        (huns : uns = true → 10 ≤ code) {r : Nat → Bool} (hr : ∀ j, r j = cmpBit th f code uns op j) (hd : d < 8) (h9 : code ≠ 9)
        (h11 : code ≠ 11) (hz : zeroFields f [(0, 10), (20, 3), (32, 4)] = true) (hy : ¬(5 ≤ code ∧ code ≤ 8) → opField f 10 5 = 0) :
        ∃ m : BitVec 256, exec i s = .next (s.retire c t (th.setM d m)) ∧ ∀ j < 256, m.getLsbD j =
          if j < fmtCount code then (if act j then r j else !f.getLsbD 27 && (th.getM d).getLsbD j) else (th.getM d).getLsbD j := by
      obtain ⟨m, hm, hbits⟩ := State.cmpRow_of_legal op h rfl hv hgov hx hy huns hd h9 h11 hz
      exact ⟨m, hi.trans (congrArg _ hm), fun j hj => by rw [hr j]; exact hbits j hj⟩
    have hbit (op : Val → Val → Bool) (j : Nat) : cmpBit th f code false op j = op (a j) (b j) := rfl
    have hnat (op : Val → Val → Bool) (j : Nat) :
        cmpBit th f code true op j = op (.fin false (e 40 j) 0) (.fin false (e 36 j) 0) := rfl
    have hsgn : false = true → 10 ≤ code := fun hf => absurd hf Bool.false_ne_true
    have hnum (m n : Nat) : bothNum (.fin false m 0) (.fin false n 0) := ⟨nofun, nofun⟩
    simp only [List.forall_mem_cons, List.not_mem_nil, false_imp_iff, implies_true, and_true]
    refine ⟨fun _ => row (uns := false) rfl hsgn (fun j => ?eq), fun _ => row (uns := false) rfl hsgn (fun j => ?ne), fun _ => row (uns := false) rfl hsgn (fun j => ?lt),
      fun _ => row (uns := false) rfl hsgn (fun j => ?le), fun _ => row (uns := false) rfl hsgn (fun j => ?gt), fun _ => row (uns := false) rfl hsgn (fun j => ?ge),
      fun hc => row (uns := true) rfl (fun _ => hc) (fun j => ?ltu), fun hc => row (uns := true) rfl (fun _ => hc) (fun j => ?geu),
      fun _ => row (uns := false) rfl hsgn (fun j => ?un)⟩
    case ltu =>
      rw [hnat, Bool.eq_iff_iff, decide_eq_true_iff, ordCmp_eq_true_iff, vCmp_nat, beq_iff_eq, compare_lt_iff_lt,
        and_iff_right (hnum _ _)]
    case geu =>
      rw [hnat, Bool.eq_iff_iff, decide_eq_true_iff, ordCmp_eq_true_iff, vCmp_nat, bne_iff_ne, compare_ge_iff_ge,
        and_iff_right (hnum _ _)]
    case ne =>
      rw [hbit, Bool.eq_iff_iff, decide_eq_true_iff, Bool.not_eq_true', ← Bool.not_eq_true, ordCmp_eq_true_iff, beq_iff_eq]
      rfl
    case un =>
      rw [hbit, Bool.eq_iff_iff, decide_eq_true_iff, Bool.or_eq_true, Val.isNan_eq_true_iff, Val.isNan_eq_true_iff, not_and_or,
        not_not, not_not]
    all_goals
      rw [hbit, Bool.eq_iff_iff, decide_eq_true_iff, ordCmp_eq_true_iff]
      simp only [beq_iff_eq, bne_iff_ne]
      rfl
  case right =>
    intro hz z live nan shown first
    have hfirst {o : Ordering} {i : Nat} (hi : first o i) : IsFirst th f code o i :=
      ⟨hi.1, fun hex => (iff_of_eq (if_pos hex)).mp hi.2, fun hex => (iff_of_eq (if_neg hex)).mp hi.2⟩
    have row {i : Instr} {g : Ctx → Nat} {n : Nat} (hi : exec i s = .next (s.redRow c t f g)) (hg : g (s.ctx c t th f) = n) :
        exec i s = .next (s.retire c t (th.setS z (BitVec.ofNat 64 n))) :=
      hi.trans (congrArg Host.Outcome.next (State.redRow_of_legal h rfl hv hgov hx hz hg))
    simp only [List.forall_mem_cons, List.not_mem_nil, false_imp_iff, implies_true, and_true]
    refine ⟨⟨⟨fun hl => row rfl (reduceVal_of_none false rfl hv hl), fun i hi => row rfl (reduceVal_of_first false rfl hv (hfirst hi))⟩,
      ⟨fun hl => row rfl (reduceVal_of_none true rfl hv hl), fun i hi => row rfl (reduceVal_of_first true rfl hv (hfirst hi))⟩⟩,
      fun hl => row rfl ?_, fun i hi => row rfl ?_⟩
    · rw [reduceIdx_of_none false rfl hl, vvFmt, fldOf_ctx]
      rfl
    · rw [reduceIdx_of_first false rfl (hfirst hi)]
      rfl

end Sys2Proof.Machine
end

section
/-! PROOFS. Mask operations, moves and permutes (O22). -/

namespace Sys2Proof.Machine

section
variable {s : State} {c : BitVec 9} {t : BitVec 10} {th : Thread} {f : BitVec 48}

/-! ### Mask operations (major 0x25) -/

/-- A word whose ME, Mk and MZ are zero has legal mask fields. -/
theorem vvGovOk_of_zero {lo n : Nat} (h : opField f lo n = 0) (hlo : lo ≤ 27) (hhi : 31 ≤ lo + n) : vvGovOk f = true := by
  have hk : opField f 28 3 = 0 := opField_sub_eq_zero h (by omega) (by omega)
  have hz : opField f 27 1 = 0 := opField_sub_eq_zero h (by omega) (by omega)
  have hbit : f.getLsbD 27 = false := by
    have hb := congrArg (fun x : BitVec 1 => x.getLsbD 0) ((extractLsb'_eq_zero_iff f 27 1).mpr hz)
    simp only [BitVec.getLsbD_extractLsb', Nat.add_zero, Nat.zero_lt_one, decide_true, Bool.true_and] at hb
    exact hb
  rw [vvGovOk, hk, hbit]
  simp

/-- A row of mask logic with legal fields writes its mask. -/
theorem State.maskRow_of_legal (l : List (Nat × Nat)) {mask : Nat} (op : BitVec 256 → BitVec 256 → BitVec 256)
    (h : s.canRun c t th = true)
    (hm : ∀ i < 48, mask.testBit i = !l.any (fun p => decide (p.1 ≤ i) && decide (i < p.1 + p.2))) (hz : zeroFields f l = true)
    (hgov : vvGovOk f = true) (hd : opField f 44 4 < 8) (ha : opField f 40 4 < 8) (hb : opField f 36 4 < 8) :
    s.maskRow c t f mask op = s.retire c t (th.setM (opField f 44 4) (op (th.getM (opField f 40 4)) (th.getM (opField f 36 4)))) := by
  refine (State.vecRow_of_legal l _ h hm hz hgov ?_ (Thread.setM_pc _ _ _)).trans ?_
  · simp [isMaskReg, vvD, vvA, vvB, fldOf_ctx, hd, ha, hb]
  · simp only [vvD, vvA, vvB, fldOf_ctx, State.ctx_th]

/-- A row that reads one mask with legal fields writes its scalar. -/
theorem State.maskRead_of_legal (l : List (Nat × Nat)) {mask : Nat} {bad : Ctx → Bool} {op : Ctx → BitVec 256 → Nat} {n : Nat}
    (h : s.canRun c t th = true)
    (hm : ∀ i < 48, mask.testBit i = !l.any (fun p => decide (p.1 ≤ i) && decide (i < p.1 + p.2))) (hz : zeroFields f l = true)
    (hgov : vvGovOk f = true) (ha : opField f 40 4 < 8) (hbad : bad (s.ctx c t th f) = false)
    (hop : op (s.ctx c t th f) (th.getM (opField f 40 4)) = n) :
    s.maskRead c t f mask bad op = s.retire c t (th.setS (opField f 5 5) (BitVec.ofNat 64 n)) := by
  refine (State.vecRow_of_legal l _ h hm hz hgov ?_ (Thread.setS_pc _ _ _)).trans ?_
  · simp [isMaskReg, vvA, fldOf_ctx, ha, hbad]
  · simp only [vvZ, vvA, fldOf_ctx, State.ctx_th, hop]

theorem length_setBits (m : BitVec 256) : (setBits m).length = (List.range 256).countP (fun i => m.getLsbD i) :=
  List.countP_eq_length_filter.symm

/-- The lowest set bit of a mask, or 256. -/
theorem headD_setBits {m : BitVec 256} {n : Nat}
    (h : (n = 256 ∧ m = 0) ∨ (n < 256 ∧ m.getLsbD n = true ∧ ∀ i < n, m.getLsbD i = false)) : (setBits m).headD 256 = n := by
  rw [List.headD_eq_head?_getD, setBits, List.head?_filter]
  rcases h with ⟨rfl, rfl⟩ | ⟨hn, hbit, hlow⟩
  · rw [List.find?_eq_none.mpr (fun i _ => by simp)]
    rfl
  · rw [List.find?_range_eq_some.mpr ⟨hbit, List.mem_range.mpr hn, fun j hj => by rw [hlow j hj]; rfl⟩]
    rfl

/-- The mask that MFROMS writes. -/
theorem getLsbD_mfroms (m : BitVec 256) (x : W64) {p i : Nat} (hi : i < 256) :
    (BitVec.ofNat 256 (m.toNat - fieldOf m.toNat (64 * p) 64 * 2 ^ (64 * p) + x.toNat * 2 ^ (64 * p))).getLsbD i =
      if i / 64 = p then x.getLsbD (i % 64) else m.getLsbD i := by
  rw [BitVec.getLsbD_ofNat, decide_eq_true hi, Bool.true_and, testBit_replaceField x.isLt]
  by_cases hp : i / 64 = p
  · rw [if_pos hp, if_pos (by omega), ← hp, show i - 64 * (i / 64) = i % 64 by omega, BitVec.testBit_toNat]
  · rw [if_neg hp, if_neg (by omega), BitVec.testBit_toNat]

theorem getLsbD_mrange (n : Nat) {i : Nat} (hi : i < 256) :
    (BitVec.ofNat 256 (2 ^ (if n < 256 then n else 256) - 1)).getLsbD i = decide (i < n) := by
  rw [BitVec.getLsbD_ofNat, decide_eq_true hi, Bool.true_and, Nat.testBit_two_pow_sub_one]
  refine decide_eq_decide.mpr ?_
  split <;> omega

/-! ### Moves and permutes (major 0x26) -/

/-- What an element of a destination becomes, MX or not. -/
theorem elemAt_writeCodes_any {code : Nat} {new : Nat → Nat} (hnew : ∀ i, new i < 2 ^ fmtBits code) {i : Nat} (hi : i < fmtCount code) :
    elemAt code (writeCodes (s.ctx c t th f) code new) i =
      if 5 ≤ code ∧ code ≤ 9 then
        (if vvActiveAt th f code (i / 32 * 32) then (if vvActiveAt th f code i then new i else 0)
          else if f.getLsbD 27 then 0 else elemAt code (th.getV (opField f 44 4)) i)
      else if vvActiveAt th f code i then new i else if f.getLsbD 27 then 0 else elemAt code (th.getV (opField f 44 4)) i := by
  by_cases hmx : isMxFmt code = true
  · rw [if_pos ((isMxFmt_eq_true_iff code).mp hmx), elemAt_writeCodes_mx hmx (fun j _ _ => hnew j) hi]
  · rw [if_neg (mt (isMxFmt_eq_true_iff code).mpr hmx), elemAt_writeCodes (Bool.eq_false_iff.mpr hmx) (fun j _ _ => hnew j) hi]

/-- A row that writes element codes with legal fields. -/
theorem State.codeRow_of_legal (l : List (Nat × Nat)) {mask code : Nat} {bad : Ctx → Bool} {new : Ctx → Nat → Nat} {r : Nat → Nat}
    (h : s.canRun c t th = true) (hcode : opField f 23 4 = code)
    (hm : ∀ i < 48, mask.testBit i = !l.any (fun p => decide (p.1 ≤ i) && decide (i < p.1 + p.2))) (hz : zeroFields f l = true)
    (hgov : vvGovOk f = true) (hbad : bad (s.ctx c t th f) = false) (hr : new (s.ctx c t th f) = r)
    (hlt : ∀ i, r i < 2 ^ fmtBits code) :
    ∃ w, s.vecRow c t f mask bad (fun k => k.th.setV (vvD k) (writeCodes k (vvFmt k) (new k))) =
        s.retire c t (th.setV (opField f 44 4) w) ∧
      ∀ i < fmtCount code, elemAt code w i =
        if 5 ≤ code ∧ code ≤ 9 then
          (if vvActiveAt th f code (i / 32 * 32) then (if vvActiveAt th f code i then r i else 0)
            else if f.getLsbD 27 then 0 else elemAt code (th.getV (opField f 44 4)) i)
        else if vvActiveAt th f code i then r i else if f.getLsbD 27 then 0 else elemAt code (th.getV (opField f 44 4)) i := by
  refine ⟨writeCodes (s.ctx c t th f) code r, (State.vecRow_of_legal l _ h hm hz hgov hbad (Thread.setV_pc _ _ _)).trans ?_,
    fun i hi => elemAt_writeCodes_any hlt hi⟩
  simp only [vvD, vvFmt, fldOf_ctx, hcode, State.ctx_th, hr]

theorem fieldOf_eq_opField64 (x : W64) (lo n : Nat) : fieldOf x.toNat lo n = opField64 x lo n := by
  rw [opField64, BitVec.extractLsb'_toNat]
  rfl

end

/-- Settles O22: each row of majors 0x25 and 0x26. -/
theorem maskAndMoveResults : Obligations.MaskAndMoveResults := by
  intro s c t th f h code d a b p z sx sy va vb act toM toS lowBit
  have fld {lo n : Nat} (l : List (Nat × Nat)) (hz : zeroFields f l = true) (hp : (lo, n) ∈ l) : opField f lo n = 0 :=
    opField_of_zeroFields hz hp
  refine ⟨fun hd ha hb hz => ?logic, fun hd ha hz => ?mnot, fun hd hz => ?mset, fun ha hz => ?count, fun hd hp hz => ?mfroms,
    fun ha hp hz => ?mtos, fun hd hz => ?mrange, ?codes, fun hv hz => ?vext, fun hv hsy hz => ?vins⟩
  case logic =>
    have hgov : vvGovOk f = true := vvGovOk_of_zero (fld _ hz List.mem_cons_self) (by decide) (by decide)
    have row {i : Instr} {op : BitVec 256 → BitVec 256 → BitVec 256} (hi : exec i s = .next (s.maskRow c t f (mVd + mVa + mVb) op)) :
        exec i s = toM (op (th.getM a) (th.getM b)) :=
      hi.trans (congrArg Host.Outcome.next (State.maskRow_of_legal _ op h (by decide) hz hgov hd ha hb))
    exact ⟨row rfl, row rfl, row rfl, row (op := fun x y => x &&& ~~~y) rfl⟩
  case mnot =>
    have h0 := fld _ hz List.mem_cons_self
    have hb : opField f 36 4 = 0 := opField_sub_eq_zero h0 (by decide) (by decide)
    exact congrArg Host.Outcome.next (State.maskRow_of_legal _ _ h (by decide) hz (vvGovOk_of_zero h0 (by decide) (by decide)) hd ha
      (by omega))
  case mset =>
    have h0 := fld _ hz List.mem_cons_self
    have ha : opField f 40 4 = 0 := opField_sub_eq_zero h0 (by decide) (by decide)
    have hb : opField f 36 4 = 0 := opField_sub_eq_zero h0 (by decide) (by decide)
    exact congrArg Host.Outcome.next (State.maskRow_of_legal _ _ h (by decide) hz (vvGovOk_of_zero h0 (by decide) (by decide)) hd
      (by omega) (by omega))
  case count =>
    have hgov : vvGovOk f = true := vvGovOk_of_zero (fld (lo := 10) (n := 30) _ hz (by simp)) (by decide) (by decide)
    exact ⟨congrArg Host.Outcome.next (State.maskRead_of_legal _ h (by decide) hz hgov ha rfl (length_setBits _)),
      fun n hn => congrArg Host.Outcome.next (State.maskRead_of_legal _ h (by decide) hz hgov ha rfl (headD_setBits hn))⟩
  case mfroms =>
    have hgov : vvGovOk f = true := vvGovOk_of_zero (fld (lo := 20) (n := 12) _ hz (by simp)) (by decide) (by decide)
    refine ⟨_, congrArg Host.Outcome.next ((State.vecRow_of_legal _ _ h (by decide) hz hgov ?_ (Thread.setM_pc _ _ _)).trans ?_),
      fun i hi => getLsbD_mfroms (th.getM d) sx hi⟩
    · simpa [isMaskReg, vvD, vvC, fldOf_ctx] using ⟨hd, hp⟩
    · simp only [vvD, vvC, vvX, fldOf_ctx, State.ctx_th]
      rfl
  case mtos =>
    have hgov : vvGovOk f = true := vvGovOk_of_zero (fld (lo := 10) (n := 22) _ hz (by simp)) (by decide) (by decide)
    refine congrArg Host.Outcome.next (State.maskRead_of_legal _ h (by decide) hz hgov ha ?_ ?_)
    · simpa [vvC, fldOf_ctx] using hp
    · rw [vvC, fldOf_ctx, BitVec.extractLsb'_toNat]
      rfl
  case mrange =>
    have hgov : vvGovOk f = true := vvGovOk_of_zero (fld (lo := 20) (n := 24) _ hz (by simp)) (by decide) (by decide)
    refine ⟨_, congrArg Host.Outcome.next ((State.vecRow_of_legal _ _ h (by decide) hz hgov ?_ (Thread.setM_pc _ _ _)).trans ?_),
      fun i hi => getLsbD_mrange sx.toNat hi⟩
    · simpa [isMaskReg, vvD, fldOf_ctx] using hd
    · simp only [vvD, vvX, fldOf_ctx, State.ctx_th]
      rfl
  case codes =>
    have row {i : Instr} {mask : Nat} {bad : Ctx → Bool} {new : Ctx → Nat → Nat} {r : Nat → Nat} {l : List (Nat × Nat)}
        (hi : exec i s = .next (s.vecRow c t f mask bad (fun k => k.th.setV (vvD k) (writeCodes k (vvFmt k) (new k)))))
        (hm : ∀ i < 48, mask.testBit i = !l.any (fun p => decide (p.1 ≤ i) && decide (i < p.1 + p.2)))
        (hr : new (s.ctx c t th f) = r) (hlt : ∀ i, r i < 2 ^ fmtBits code) (hbad : bad (s.ctx c t th f) = false)
        (hgov : vvGovOk f = true) (hz : zeroFields f l = true) :
        ∃ w, exec i s = .next (s.retire c t (th.setV d w)) ∧ ∀ i < fmtCount code, elemAt code w i =
          if 5 ≤ code ∧ code ≤ 9 then
            (if act (i / 32 * 32) then (if act i then r i else 0) else if f.getLsbD 27 then 0 else elemAt code (th.getV d) i)
          else if act i then r i else if f.getLsbD 27 then 0 else elemAt code (th.getV d) i := by
      obtain ⟨w, hw, hval⟩ := State.codeRow_of_legal l h rfl hm hz hgov hbad hr hlt
      exact ⟨w, hi.trans (congrArg _ hw), hval⟩
    have hk : vvFmt (s.ctx c t th f) = code := fldOf_ctx s c t th f 23 4
    have hvalid (hv : code ≤ 13) : (!validFmt (vvFmt (s.ctx c t th f))) = false := by
      rw [hk, (validFmt_eq_true_iff code).mpr hv]
      rfl
    simp only [List.forall_mem_cons, List.not_mem_nil, false_imp_iff, implies_true, and_true]
    refine ⟨fun _ hv _ => row rfl (by decide) ?vmov (fun i => elemAt_lt code va i) (hvalid hv),
      fun _ hv _ => row rfl (by decide) ?vbcast (fun i => BitVec.isLt _) (hvalid hv),
      fun h10 hv _ => row rfl (by decide) ?viota (fun i => Nat.mod_lt _ (Nat.two_pow_pos _)) ?viotaOk,
      fun _ hv hmx => row rfl (by decide) ?vperm (fun i => elemAt_lt code va _) ?vpermOk⟩
    case vmov => simp only [hk, vvA, fldOf_ctx, State.ctx_th]; rfl
    case vbcast => simp only [hk, vvX, fldOf_ctx, State.ctx_th, fieldOf_eq_opField64]; rfl
    case viota => simp only [hk]
    case viotaOk => rw [hk, (isIntFmt_eq_true_iff code).mpr ⟨h10, hv⟩]; rfl
    case vperm => simp only [hk, vvA, vvB, fldOf_ctx, State.ctx_th]; rfl
    case vpermOk =>
      rw [hvalid hv, hk, Bool.false_or, Bool.eq_false_iff, Ne, isMxFmt_eq_true_iff]
      exact hmx trivial
  case vext =>
    have hgov : vvGovOk f = true := vvGovOk_of_zero (fld (lo := 27) (n := 13) _ hz (by simp)) (by decide) (by decide)
    have hbad : (!validFmt (vvFmt (s.ctx c t th f)) || decide (elemIndex (s.ctx c t th f) ≥ fmtCount (vvFmt (s.ctx c t th f)))) =
        decide (fmtCount code ≤ sy) := by
      rw [vvFmt, fldOf_ctx, (validFmt_eq_true_iff _).mpr hv, elemIndex, vvY, fldOf_ctx]
      rfl
    by_cases hsy : sy < fmtCount code
    · rw [if_pos hsy]
      refine congrArg Host.Outcome.next ((State.vecRow_of_legal _ _ h (by decide) hz hgov (hbad.trans ?_) (Thread.setS_pc _ _ _)).trans ?_)
      · exact decide_eq_false (by omega)
      · simp only [vvFmt, vvA, vvZ, vvY, elemIndex, fldOf_ctx, State.ctx_th]
        rfl
    · rw [if_neg hsy]
      refine congrArg Host.Outcome.next (State.issue_illegal f none _ h ?_)
      simp only [hbad, decide_eq_true (Nat.le_of_not_lt hsy), Bool.or_true]
  case vins =>
    have hgov : vvGovOk f = true := vvGovOk_of_zero (fld (lo := 27) (n := 17) _ hz (by simp)) (by decide) (by decide)
    refine ⟨fromElems code ((List.range (fmtCount code)).map (fun i => if i = sy then opField64 sx 0 (fmtBits code)
      else elemAt code (th.getV d) i)), congrArg Host.Outcome.next
        ((State.vecRow_of_legal _ _ h (by decide) hz hgov ?_ (Thread.setV_pc _ _ _)).trans ?_), fun i hi => ?_⟩
    · rw [vvFmt, fldOf_ctx, (validFmt_eq_true_iff _).mpr hv, elemIndex, vvY, fldOf_ctx]
      exact decide_eq_false (not_le.mpr hsy)
    · simp only [vvFmt, vvD, vvX, vvY, elemIndex, fldOf_ctx, State.ctx_th, fieldOf_eq_opField64, beq_iff_eq]
      rfl
    · refine elemAt_fromElems_range (fun j _ => ?_) hi
      split
      · exact BitVec.isLt _
      · exact elemAt_lt _ _ _

end Sys2Proof.Machine
end

section
/-! PROOFS. Accumulators (O23, O24): what the bank and the groups leave alone, and the rows of Table 04-13. -/

namespace Sys2Proof.Machine

/-! ### Groups (R71, R124) -/

theorem Tab.has_eq_any {α : Type} (l : List (Nat × α)) (k : Nat) : Tab.has l k = l.any (fun a => a.1 == k) := by
  induction l with
  | nil => rfl
  | cons a l ih =>
    obtain ⟨k', v⟩ := a
    rw [Tab.has] at ih
    rw [Tab.has, Tab.find?_cons, List.any_cons, ← ih]
    by_cases h : k' = k
    · simp [h]
    · simp [h]

section
variable (s : State) (c g : Nat)

/-- The bank alone changes when a group comes into it. -/
theorem State.useGroup_cell : ∃ bank, (s.useGroup c g).cell c = { s.cell c with accBank := bank } := by
  rw [State.useGroup]
  dsimp only
  split
  · exact ⟨_, s.cell_setCell_self c _⟩
  · split
    next v _ =>
      have hr : RegsOnly (s.setCell c { s.cell c with accBank := (s.cell c).accBank.filter (· != v) ++ [g] })
          ((s.setCell c { s.cell c with accBank := (s.cell c).accBank.filter (· != v) ++ [g] }).inc (pgCELL c) 0x054) :=
        State.count_regsOnly _ _ _ _ _ _
      exact ⟨_, (hr.cell c).trans (s.cell_setCell_self c _)⟩
    · exact ⟨(s.cell c).accBank, rfl⟩

@[simp] theorem State.useGroup_mem : (s.useGroup c g).mem = s.mem := by
  rw [State.useGroup]
  split
  · rfl
  · split
    next v _ =>
      exact (State.count_regsOnly (s.setCell c { s.cell c with accBank := (s.cell c).accBank.filter (· != v) ++ [g] }) _ _ _ _ _).mem
    · rfl

@[simp] theorem State.useGroup_thread? (t : Nat) : ((s.useGroup c g).cell c).thread? t = (s.cell c).thread? t := by
  obtain ⟨bank, h⟩ := s.useGroup_cell c g
  rw [h]
  rfl

@[simp] theorem State.useGroup_accs : ((s.useGroup c g).cell c).accs = (s.cell c).accs := by
  obtain ⟨bank, h⟩ := s.useGroup_cell c g
  rw [h]

@[simp] theorem State.useGroup_accOwner : ((s.useGroup c g).cell c).accOwner = (s.cell c).accOwner := by
  obtain ⟨bank, h⟩ := s.useGroup_cell c g
  rw [h]

end

theorem State.setAcc_cell (s : State) (c g i : Nat) (v : AccVal) :
    (s.setAcc c g i v).cell c = { s.cell c with accs := Tab.set (.fin 0) (s.cell c).accs (g * 16 + i) v } :=
  s.cell_modCell_self c _

/-- Accumulators of a group set one after the other. -/
def State.setAccs (s : State) (c g : Nat) (l : List (Nat × AccVal)) : State := l.foldl (fun u a => u.setAcc c g a.1 a.2) s

@[simp] theorem State.setAccs_nil (s : State) (c g : Nat) : s.setAccs c g [] = s := rfl

theorem State.setAccs_cons (s : State) (c g : Nat) (a : Nat × AccVal) (l : List (Nat × AccVal)) :
    s.setAccs c g (a :: l) = (s.setAcc c g a.1 a.2).setAccs c g l := rfl

theorem State.setAccs_cell (s : State) (c g : Nat) (l : List (Nat × AccVal)) :
    ∃ accs, (s.setAccs c g l).cell c = { s.cell c with accs := accs } := by
  induction l generalizing s with
  | nil => exact ⟨(s.cell c).accs, rfl⟩
  | cons a l ih =>
    obtain ⟨accs, h⟩ := ih (s.setAcc c g a.1 a.2)
    refine ⟨accs, ?_⟩
    rw [State.setAccs_cons, h, State.setAcc_cell]

@[simp] theorem State.setAccs_thread? (s : State) (c g t : Nat) (l : List (Nat × AccVal)) :
    ((s.setAccs c g l).cell c).thread? t = (s.cell c).thread? t := by
  obtain ⟨accs, h⟩ := s.setAccs_cell c g l
  rw [h]
  rfl

@[simp] theorem State.setAccs_accOwner (s : State) (c g : Nat) (l : List (Nat × AccVal)) :
    ((s.setAccs c g l).cell c).accOwner = (s.cell c).accOwner := by
  obtain ⟨accs, h⟩ := s.setAccs_cell c g l
  rw [h]

@[simp] theorem State.setAccs_mem (s : State) (c g : Nat) (l : List (Nat × AccVal)) : (s.setAccs c g l).mem = s.mem := by
  induction l generalizing s with
  | nil => rfl
  | cons a l ih => exact ih _

/-- The accumulators of another group stay. -/
theorem State.setAccs_other (s : State) (c : Nat) {g j : Nat} (l : List (Nat × AccVal)) (hl : ∀ a ∈ l, a.1 < 16) (hj : j / 16 ≠ g) :
    Tab.get (.fin 0) ((s.setAccs c g l).cell c).accs j = Tab.get (.fin 0) (s.cell c).accs j := by
  induction l generalizing s with
  | nil => rfl
  | cons a l ih =>
    rw [List.forall_mem_cons] at hl
    rw [State.setAccs_cons, ih _ hl.2, State.setAcc_cell, Tab.get_set_ne]
    have := hl.1
    omega

/-! ### Rows of Table 04-13 -/

section
variable {s s1 : State} {c : BitVec 9} {t : BitVec 10} {th : Thread} {f : BitVec 48}

/-- The handle that an accumulator instruction names. -/
def accHandle (th : Thread) (f : BitVec 48) : Nat := (th.getS (opField f 35 5)).toNat

theorem vaHandle_ctx (s : State) (c : BitVec 9) (t : BitVec 10) (th : Thread) (f : BitVec 48) :
    vaHandle (s.ctx c t th f) = accHandle th f := by
  rw [vaHandle, vaG, fldOf_ctx, accHandle, State.ctx_th]

/-- What an accumulator row does before its operation: the address of an image, then the handle. -/
def accOp (image : Bool) (op : Ctx → State → Nat → Res) (k : Ctx) (s : State) : Res :=
  let a := k.th.getS (vaD k)
  if image && a.toNat % 16 != 0 then .trap s 0x04 0 a
  else if image && a.toNat + 80 > scratchSize k.x then .trap s 0x05 0 a
  else if !allocated k (vaHandle k) then .trap s 0x06 2 (if image then a else 0)
  else op k (s.useGroup k.c (vaHandle k)) (vaHandle k)

theorem State.accRow_eq (s : State) (c : BitVec 9) (t : BitVec 10) (f : BitVec 48) (mask : Nat) (bad : Ctx → Bool) (image : Bool)
    (op : Ctx → State → Nat → Res) : s.accRow c t f mask bad image op =
      s.issue c t f none (fun k => !onlyBits k mask || (!vaMe k && vaMk k != 0) || bad k) (accOp image op) := rfl

theorem accOp_of_allocated {image : Bool} (op : Ctx → State → Nat → Res)
    (himg : image = true → (th.getS (opField f 6 5)).toNat % 16 = 0 ∧ (th.getS (opField f 6 5)).toNat + 80 ≤ scratchSize (s.cell c.toNat))
    (halloc : (s.cell c.toNat).accOwner.any (fun a => a.1 == accHandle th f) = true) :
    accOp image op (s.ctx c t th f) s = op (s.ctx c t th f) (s.useGroup c.toNat (accHandle th f)) (accHandle th f) := by
  have ha : allocated (s.ctx c t th f) (accHandle th f) = true := (Tab.has_eq_any _ _).trans halloc
  simp only [accOp, vaHandle_ctx, vaD, fldOf_ctx, State.ctx_th, State.ctx_x, State.ctx_c, ha, Bool.not_true, Bool.false_eq_true, if_false]
  cases image with
  | false => rfl
  | true =>
    obtain ⟨hal, hfit⟩ := himg rfl
    rw [if_neg (by simp [hal]), if_neg (by simpa using hfit)]

theorem accOp_of_free (op : Ctx → State → Nat → Res)
    (hfree : (s.cell c.toNat).accOwner.any (fun a => a.1 == accHandle th f) = false) :
    accOp false op (s.ctx c t th f) s = .trap s 0x06 2 0 := by
  have ha : allocated (s.ctx c t th f) (accHandle th f) = false := (Tab.has_eq_any _ _).trans hfree
  simp [accOp, vaHandle_ctx, ha]

/-- The fields of an accumulator row are legal. -/
theorem accBad_of_legal (l : List (Nat × Nat)) {mask : Nat} {bad : Ctx → Bool}
    (hm : ∀ i < 48, mask.testBit i = !l.any (fun p => decide (p.1 ≤ i) && decide (i < p.1 + p.2))) (hz : zeroFields f l = true)
    (hme : f.getLsbD 30 = true ∨ opField f 27 3 = 0) (hbad : bad (s.ctx c t th f) = false) :
    (!onlyBits (s.ctx c t th f) mask || (!vaMe (s.ctx c t th f) && vaMk (s.ctx c t th f) != 0) || bad (s.ctx c t th f)) = false := by
  have hmk : (!f.getLsbD 30 && opField f 27 3 != 0) = false := by
    rcases hme with h | h
    · rw [h]; rfl
    · rw [h]; exact Bool.and_false _
  rw [onlyBits_eq_zeroFields l s c t th f hm, hz, vaMe, testBit_ctx, vaMk, fldOf_ctx, hmk, hbad]
  rfl

section
variable (l : List (Nat × Nat)) {mask : Nat} {bad : Ctx → Bool} {image : Bool} {op : Ctx → State → Nat → Res}
  (h : s.canRun c t th = true)
  (hm : ∀ i < 48, mask.testBit i = !l.any (fun p => decide (p.1 ≤ i) && decide (i < p.1 + p.2))) (hz : zeroFields f l = true)
  (hme : f.getLsbD 30 = true ∨ opField f 27 3 = 0) (hbad : bad (s.ctx c t th f) = false)
  (himg : image = true → (th.getS (opField f 6 5)).toNat % 16 = 0 ∧ (th.getS (opField f 6 5)).toNat + 80 ≤ scratchSize (s.cell c.toNat))
  (halloc : (s.cell c.toNat).accOwner.any (fun a => a.1 == accHandle th f) = true)
include h hm hz hme hbad himg halloc

/-- A legal row on an allocated group ends as its operation does. -/
theorem State.accRow_done (hop : op (s.ctx c t th f) (s.useGroup c.toNat (accHandle th f)) (accHandle th f) = .done s1)
    (ht : (s1.cell c.toNat).thread? t.toNat = some th) : s.accRow c t f mask bad image op = s1.retire c t th := by
  rw [State.accRow_eq, State.issue_done_of h (accBad_of_legal l hm hz hme hbad) ((accOp_of_allocated op himg halloc).trans hop) ht]

theorem State.accRow_modThread (g : Thread → Thread)
    (hop : op (s.ctx c t th f) (s.useGroup c.toNat (accHandle th f)) (accHandle th f) = .done (s1.modThread c.toNat t.toNat g))
    (ht : (s1.cell c.toNat).thread? t.toNat = some th) (hpc : (g th).pc = th.pc) :
    s.accRow c t f mask bad image op = s1.retire c t (g th) := by
  rw [State.accRow_eq, State.issue_modThread_of g h (accBad_of_legal l hm hz hme hbad) ((accOp_of_allocated op himg halloc).trans hop)
    ht hpc]

theorem State.accRow_trap {cause detail : Nat} {a : W64}
    (hop : op (s.ctx c t th f) (s.useGroup c.toNat (accHandle th f)) (accHandle th f) = .trap s1 cause detail a) :
    s.accRow c t f mask bad image op = s1.trapped c t cause detail a := by
  rw [State.accRow_eq, State.issue_trap h (accBad_of_legal l hm hz hme hbad) ((accOp_of_allocated op himg halloc).trans hop)]

end

/-! ### Accumulation (R126, R146 to R148) -/

/-- What each accumulator of a group becomes. -/
def accResults (x : Cell) (g : Nat) (l : List AccIn) : List (AccIn × Option (AccVal × Fl)) :=
  l.map (fun a => (a, accumulate (accAt x g a.idx) (a.vals.map (fun v => accOf v.1)) a.nan))

theorem flags_regroup (a b d e : Fl) : e ||| a ||| (b ||| d) = a ||| b ||| (e ||| d) := by
  rw [BitVec.or_comm e a, BitVec.or_assoc a, BitVec.or_assoc a, ← BitVec.or_assoc e, BitVec.or_comm e b, BitVec.or_assoc b]

/-- The flags of contributions and of their sums. -/
theorem flAll_accResults (l : List (AccIn × Option (AccVal × Fl))) (h : ∀ r ∈ l, r.2.isSome = true) :
    flAll (l.map (fun r => match r.2 with
      | some (_, e) => e ||| flAll (r.1.vals.map (·.2))
      | none => flNone)) =
      flAll (l.map (fun r => flAll (r.1.vals.map (·.2)))) ||| flAll (l.filterMap (fun r => r.2.map (·.2))) := by
  induction l with
  | nil => rfl
  | cons r l ih =>
    rw [List.forall_mem_cons] at h
    obtain ⟨v, hv⟩ := Option.isSome_iff_exists.mp h.1
    rw [List.map_cons, flAll_cons, ih h.2, List.map_cons, flAll_cons,
      List.filterMap_cons_some (f := fun r : AccIn × Option (AccVal × Fl) => r.2.map (·.2)) (b := v.2) (by simp [hv]), flAll_cons]
    simp only [hv]
    exact flags_regroup _ _ _ _

theorem foldl_accResults (u : State) (c g : Nat) (l : List (AccIn × Option (AccVal × Fl))) :
    l.foldl (fun s r => match r.2 with
      | some (v, _) => s.setAcc c g r.1.idx v
      | none => s) u = u.setAccs c g (l.filterMap (fun r => r.2.map (fun v => (r.1.idx, v.1)))) := by
  induction l generalizing u with
  | nil => rfl
  | cons r l ih =>
    rw [List.foldl_cons, ih]
    cases hr : r.2 with
    | none => rw [List.filterMap_cons_none (f := fun r : AccIn × Option (AccVal × Fl) => r.2.map (fun v => (r.1.idx, v.1))) (by simp [hr])]
    | some v =>
      rw [List.filterMap_cons_some (f := fun r : AccIn × Option (AccVal × Fl) => r.2.map (fun v => (r.1.idx, v.1)))
        (b := (r.1.idx, v.1)) (by simp [hr]), State.setAccs_cons]

/-- The state after contributions have been added to a group: ACC_RANGE, or every accumulator changed and the flags added. -/
def accAdded (s : State) (c : BitVec 9) (t : BitVec 10) (th : Thread) (g : Nat) (u : State) (l : List AccIn) :
    Host.Outcome State Fault Refusal :=
  if (accResults (s.cell c.toNat) g l).any (fun r => r.2.isNone) then .next (u.trapped c t 0x0C 0 0)
  else .next ((u.setAccs c.toNat g ((accResults (s.cell c.toNat) g l).filterMap (fun r => r.2.map (fun v => (r.1.idx, v.1))))).retire c t
    (th.addFlags (flAll (l.map (fun a => flAll (a.vals.map (·.2)))) |||
      flAll ((accResults (s.cell c.toNat) g l).filterMap (fun r => r.2.map (·.2))))))

/-- A row that accumulates into a group. -/
theorem State.accRow_adds (l : List (Nat × Nat)) {mask : Nat} {bad : Ctx → Bool} {op : Ctx → State → Nat → Res} {u : State}
    (ins : List AccIn) (h : s.canRun c t th = true)
    (hm : ∀ i < 48, mask.testBit i = !l.any (fun p => decide (p.1 ≤ i) && decide (i < p.1 + p.2))) (hz : zeroFields f l = true)
    (hme : f.getLsbD 30 = true ∨ opField f 27 3 = 0) (hbad : bad (s.ctx c t th f) = false)
    (halloc : (s.cell c.toNat).accOwner.any (fun a => a.1 == accHandle th f) = true)
    (hop : op (s.ctx c t th f) (s.useGroup c.toNat (accHandle th f)) (accHandle th f) =
      u.accumulateAll (s.ctx c t th f) (accHandle th f) ins)
    (hu : (u.cell c.toNat).thread? t.toNat = some th) :
    Host.Outcome.next (s.accRow c t f mask bad false op) = accAdded s c t th (accHandle th f) u ins := by
  have himg : false = true → (th.getS (opField f 6 5)).toNat % 16 = 0 ∧
    (th.getS (opField f 6 5)).toNat + 80 ≤ scratchSize (s.cell c.toNat) := fun hf => absurd hf Bool.false_ne_true
  rw [accAdded]
  by_cases hout : (accResults (s.cell c.toNat) (accHandle th f) ins).any (fun r => r.2.isNone) = true
  · rw [if_pos hout, State.accRow_trap l h hm hz hme hbad himg halloc (hop.trans (if_pos hout))]
  · have hsome : ∀ r ∈ accResults (s.cell c.toNat) (accHandle th f) ins, r.2.isSome = true := by
      intro r hr
      rw [Bool.not_eq_true, List.any_eq_false] at hout
      have := hout r hr
      cases hr2 : r.2 with
      | none => rw [hr2] at this; exact absurd rfl this
      | some v => rfl
    have hvals : (accResults (s.cell c.toNat) (accHandle th f) ins).map (fun r => flAll (r.1.vals.map (·.2))) =
        ins.map (fun a => flAll (a.vals.map (·.2))) := by
      rw [accResults, List.map_map]
      rfl
    rw [if_neg hout, ← hvals, ← flAll_accResults _ hsome, ← foldl_accResults]
    refine congrArg Host.Outcome.next (State.accRow_modThread l h hm hz hme hbad himg halloc (Thread.addFlags · _)
      (hop.trans (if_neg hout)) ?_ (Thread.addFlags_pc _ _))
    have hth := (u.setAccs_thread? c.toNat (accHandle th f) t.toNat
      ((accResults (s.cell c.toNat) (accHandle th f) ins).filterMap (fun r => r.2.map (fun v => (r.1.idx, v.1))))).trans hu
    rwa [← foldl_accResults] at hth

end

end Sys2Proof.Machine
end

section
/-! PROOFS. The accumulator instructions (O23) and their handles (O24). -/

namespace Sys2Proof.Machine

/-! ### Contributions as the statement lists them (R126) -/

/-- An accumulator with its contributions and whether an input is NaN. -/
def accInOf (a : Nat × List (Val × Fl) × Bool) : AccIn := { idx := a.1, vals := a.2.1, nan := a.2.2 }

/-- The state after contributions to some accumulators of a group. -/
def accAdds (s : State) (c : BitVec 9) (t : BitVec 10) (th : Thread) (g : Nat) (u : State) (l : List (Nat × List (Val × Fl) × Bool)) :
    Host.Outcome State Fault Refusal :=
  let r := l.map (fun a => (a.1, accumulate (Tab.get (.fin 0) (s.cell c.toNat).accs (g * 16 + a.1)) (a.2.1.map (fun v => accOf v.1)) a.2.2))
  if r.any (fun a => a.2.isNone) then .next (u.trapped c t 0x0C 0 0)
  else .next (((r.filterMap (fun a => a.2.map (fun v => (a.1, v.1)))).foldl (fun u a => u.setAcc c.toNat g a.1 a.2) u).retire c t
    (th.addFlags (flAll (l.map (fun a => flAll (a.2.1.map (·.2)))) ||| flAll (r.filterMap (fun a => a.2.map (·.2))))))

theorem accAdded_map (s : State) (c : BitVec 9) (t : BitVec 10) (th : Thread) (g : Nat) (u : State)
    (l : List (Nat × List (Val × Fl) × Bool)) : accAdded s c t th g u (l.map accInOf) = accAdds s c t th g u l := by
  simp only [accAdded, accAdds, accResults, List.map_map, List.any_map, List.filterMap_map]
  rfl

section
variable {s s1 : State} {c : BitVec 9} {t : BitVec 10} {th : Thread} {f : BitVec 48} {code : Nat}

/-! ### Elements and masks of VA (Table 04-3) -/

/-- Whether an element is active under ME and Mk of an accumulator instruction. -/
def accActive (th : Thread) (f : BitVec 48) (code i : Nat) : Bool :=
  !f.getLsbD 30 || (th.getM (opField f 27 3)).getLsbD (if fmtBits code == 4 then i / 2 else i)

theorem vaFmt_ctx (s : State) (c : BitVec 9) (t : BitVec 10) (th : Thread) (f : BitVec 48) :
    vaFmt (s.ctx c t th f) = opField f 23 4 := fldOf_ctx s c t th f 23 4

theorem vaActive_ctx (s : State) (c : BitVec 9) (t : BitVec 10) (th : Thread) (f : BitVec 48) :
    vaActive (s.ctx c t th f) = accActive th f (opField f 23 4) := by
  funext i
  simp only [vaActive, activeAt, vaMe, vaMk, testBit_ctx, fldOf_ctx, vaFmt_ctx, accActive, perBit, State.ctx_th]
  split
  · rfl
  · rw [Nat.div_one]

theorem vaVal_ctx (lo r i : Nat) :
    vaVal (s.ctx c t th f) (th.getV (opField f lo 4)) (opField f r 5) i = srcElem th f (opField f 23 4) lo r i := by
  simp only [vaVal, vaFmt_ctx, isMxFmt_eq_true_iff, scaleOf, State.ctx_th, srcElem]

/-- The products of the active elements of a segment. -/
def accDots (th : Thread) (f : BitVec 48) (code i lo n : Nat) : Nat × List (Val × Fl) × Bool :=
  let js := ((List.range n).map (lo + ·)).filter (accActive th f code)
  (i, js.map (fun j => vMul (srcElem th f code 44 18 j) (srcElem th f code 40 13 j)),
    js.any (fun j => (srcElem th f code 44 18 j).isNan || (srcElem th f code 40 13 j).isNan))

theorem dotIn_ctx (i lo n : Nat) : dotIn (s.ctx c t th f) i lo n = accInOf (accDots th f (opField f 23 4) i lo n) := by
  simp only [dotIn, vaActive_ctx, vaA, vaB, vaX, vaY, fldOf_ctx, State.ctx_th, vaVal_ctx, List.map_map, List.any_map]
  rfl

theorem f32Of_eq (x : W64) : f32Of x = decodeFloat (ffmt 0) (opField64 x 0 32) := by
  rw [f32Of, opField64, BitVec.extractLsb'_toNat, Nat.shiftRight_zero]

theorem roundElem_lt (hcode : code ≤ 9 ∨ isIntFmt code = true) (rm : Rm) (sat : Bool) (v : Val) :
    (roundElem code rm sat v).1 < 2 ^ fmtBits code := by
  have hsigned (w : Nat) (n : Int) : ofSigned w n < 2 ^ w := by
    have h := fitInt_lt w false n
    rwa [← narrowInt_eq_fitInt] at h
  rw [roundElem]
  by_cases hint : isIntFmt code = true
  · rw [if_pos hint]
    cases v with
    | nan => exact Nat.two_pow_pos _
    | inf n => exact hsigned _ _
    | fin n m e =>
      simp only [roundInt]
      rw [narrowInt_eq_fitInt]
      exact fitInt_lt _ _ _
  · rw [if_neg hint]
    exact roundTo_lt (hcode.resolve_right hint) _ _ _

/-! ### The instructions -/

theorem used_thread? (h : s.canRun c t th = true) (g : Nat) : ((s.useGroup c.toNat g).cell c.toNat).thread? t.toNat = some th :=
  (s.useGroup_thread? _ _ _).trans ((State.canRun_iff s c t th).mp h).2.1

section
variable (h : s.canRun c t th = true) (hme : f.getLsbD 30 = true ∨ opField f 27 3 = 0)
  (halloc : (s.cell c.toNat).accOwner.any (fun a => a.1 == accHandle th f) = true)
include h hme halloc

/-- A row that adds contributions to accumulators of one group. -/
theorem exec_adds {i : Instr} {mask : Nat} {bad : Ctx → Bool} {op : Ctx → State → Nat → Res} {u : State}
    (ins : List (Nat × List (Val × Fl) × Bool)) (l : List (Nat × Nat)) (hi : exec i s = .next (s.accRow c t f mask bad false op))
    (hm : ∀ i < 48, mask.testBit i = !l.any (fun p => decide (p.1 ≤ i) && decide (i < p.1 + p.2))) (hz : zeroFields f l = true)
    (hbad : bad (s.ctx c t th f) = false)
    (hop : op (s.ctx c t th f) (s.useGroup c.toNat (accHandle th f)) (accHandle th f) =
      u.accumulateAll (s.ctx c t th f) (accHandle th f) (ins.map accInOf))
    (hu : (u.cell c.toNat).thread? t.toNat = some th) : exec i s = accAdds s c t th (accHandle th f) u ins := by
  rw [hi, State.accRow_adds l _ h hm hz hme hbad halloc hop hu, accAdded_map]

/-- VDOT and VDOTS. -/
theorem exec_dots (hv : opField f 23 4 ≤ 13) (hz : opField f 0 13 = 0)
    (hx : scaleRegOk (opField f 23 4) (opField f 18 5) = true) (hy : scaleRegOk (opField f 23 4) (opField f 13 5) = true) :
    exec (.vdot c t f) s = accAdds s c t th (accHandle th f) (s.useGroup c.toNat (accHandle th f))
      [accDots th f (opField f 23 4) (opField f 31 4) 0 (fmtCount (opField f 23 4))] ∧
    (opField f 31 4 ≤ 4 → exec (.vdots c t f) s = accAdds s c t th (accHandle th f) (s.useGroup c.toNat (accHandle th f))
      ((List.range (2 ^ opField f 31 4)).map (fun i => accDots th f (opField f 23 4) i
        (i * (fmtCount (opField f 23 4) / 2 ^ opField f 31 4)) (fmtCount (opField f 23 4) / 2 ^ opField f 31 4)))) := by
  have hz' : zeroFields f [(0, 13)] = true := by simp [zeroFields, hz]
  have hbad : dotBad (s.ctx c t th f) = false := by
    simp [dotBad, vaFmt_ctx, vaX, vaY, fldOf_ctx, (validFmt_eq_true_iff _).mpr hv, hx, hy]
  refine ⟨exec_adds h hme halloc _ [(0, 13)] rfl (by decide) hz' hbad ?_ (used_thread? h _), fun hi =>
    exec_adds h hme halloc _ [(0, 13)] rfl (by decide) hz' ?_ ?_ (used_thread? h _)⟩
  · simp only [vaIdx, vaFmt_ctx, fldOf_ctx, dotIn_ctx]
    rfl
  · rw [hbad, vaIdx, fldOf_ctx, Bool.false_or]
    exact decide_eq_false (not_lt.mpr hi)
  · simp only [vaIdx, vaFmt_ctx, fldOf_ctx, dotIn_ctx, List.map_map]
    rfl

/-- The scalar factor or addend in Sd: an integer, or an FP32 value. -/
def accScalar (isInt : Bool) (x : W64) : Val :=
  if isInt then intVal x.toInt else decodeFloat (ffmt 0) (opField64 x 0 32)

/-- VAXPY. -/
theorem exec_vaxpy (hv : opField f 23 4 ≤ 13) (h11 : opField f 23 4 ≠ 11) (hidx : opField f 31 4 < fmtCount (opField f 23 4) / 16)
    (hx : scaleRegOk (opField f 23 4) (opField f 18 5) = true)
    (hz : zeroFields f [(0, 6), (11, 7), (27, 4), (40, 4)] = true) :
    let k := accScalar (isIntFmt (opField f 23 4)) (th.getS (opField f 6 5))
    let e (j : Nat) : Val := srcElem th f (opField f 23 4) 44 18 (16 * opField f 31 4 + j)
    exec (.vaxpy c t f) s = accAdds s c t th (accHandle th f) (s.useGroup c.toNat (accHandle th f))
      ((List.range 16).map (fun j => (j, [vMul k (e j)], k.isNan || (e j).isNan))) := by
  intro k e
  refine exec_adds h hme halloc _ [(0, 6), (11, 7), (27, 4), (40, 4)] rfl (by decide) hz ?_ ?_ (used_thread? h _)
  · simp [vaFmt_ctx, vaIdx, vaX, fldOf_ctx, (validFmt_eq_true_iff _).mpr hv, h11, hx, hidx]
  · simp only [vaIdx, vaFmt_ctx, vaA, vaX, vaD, fldOf_ctx, State.ctx_th, vaVal_ctx, List.map_map, f32Of_eq]
    rfl

/-- ACCADDS. -/
theorem exec_accadds (hcode : opField f 23 4 = 0 ∨ opField f 23 4 = 13)
    (hz : zeroFields f [(0, 6), (11, 12), (27, 4), (40, 8)] = true) :
    let v := accScalar (opField f 23 4 != 0) (th.getS (opField f 6 5))
    exec (.accadds c t f) s = accAdds s c t th (accHandle th f) (s.useGroup c.toNat (accHandle th f))
      [(opField f 31 4, [(v, 0)], v.isNan)] := by
  intro v
  have hval : (if opField f 23 4 == 0 then f32Of (th.getS (opField f 6 5)) else intVal (th.getS (opField f 6 5)).toInt) = v := by
    rcases hcode with h0 | h13
    · simp [v, accScalar, h0, f32Of_eq]
    · simp [v, accScalar, h13]
  refine exec_adds h hme halloc _ [(0, 6), (11, 12), (27, 4), (40, 8)] rfl (by decide) hz ?_ ?_ (used_thread? h _)
  · rcases hcode with h0 | h13
    · simp [vaFmt_ctx, h0]
    · simp [vaFmt_ctx, h13]
  · simp only [vaIdx, vaFmt_ctx, vaD, fldOf_ctx, State.ctx_th, hval]
    rfl

/-- ACCACC, from an allocated group or from one that is not. -/
theorem exec_accacc (hy : opField f 13 5 ≤ 15) (hz : zeroFields f [(0, 13), (23, 8), (40, 8)] = true) :
    let g := (th.getS (opField f 18 5)).toNat
    let v := accVal (accAt (s.cell c.toNat) g (opField f 13 5))
    ((s.cell c.toNat).accOwner.any (fun a => a.1 == g) = true → exec (.accacc c t f) s = accAdds s c t th (accHandle th f)
      ((s.useGroup c.toNat (accHandle th f)).useGroup c.toNat g) [(opField f 31 4, [(v, 0)], v.isNan)]) ∧
    ((s.cell c.toNat).accOwner.any (fun a => a.1 == g) = false →
      exec (.accacc c t f) s = .next ((s.useGroup c.toNat (accHandle th f)).trapped c t 0x06 2 0)) := by
  intro g v
  have himg : false = true → (th.getS (opField f 6 5)).toNat % 16 = 0 ∧
    (th.getS (opField f 6 5)).toNat + 80 ≤ scratchSize (s.cell c.toNat) := fun hf => absurd hf Bool.false_ne_true
  have hbad : decide (vaY (s.ctx c t th f) > 15) = false := by
    rw [vaY, fldOf_ctx]
    exact decide_eq_false (not_lt.mpr hy)
  have hal : allocated (s.ctx c t th f) g = (s.cell c.toNat).accOwner.any (fun a => a.1 == g) := Tab.has_eq_any _ _
  refine ⟨fun hg => exec_adds h hme halloc _ [(0, 13), (23, 8), (40, 8)] rfl (by decide) hz hbad ?_ ?_, fun hg =>
    congrArg Host.Outcome.next (State.accRow_trap [(0, 13), (23, 8), (40, 8)] h (by decide) hz hme hbad himg halloc ?_)⟩
  · simp only [vaX, vaY, vaIdx, fldOf_ctx, State.ctx_th, State.ctx_x, State.ctx_c]
    rw [show allocated (s.ctx c t th f) (th.getS (opField f 18 5)).toNat = true from hal.trans hg]
    rfl
  · rw [State.useGroup_thread?]
    exact used_thread? h _
  · simp only [vaX, fldOf_ctx, State.ctx_th]
    rw [show allocated (s.ctx c t th f) (th.getS (opField f 18 5)).toNat = false from hal.trans hg]
    rfl

end
end

end Sys2Proof.Machine
end

section
/-! PROOFS. The accumulator instructions that change, round, move or free accumulators, and the statements on them (O23, O24). -/

namespace Sys2Proof.Machine

section
variable {s s1 : State} {c : BitVec 9} {t : BitVec 10} {th : Thread} {f : BitVec 48} {code : Nat}

theorem accAt_ctx (g i : Nat) : accAt (s.ctx c t th f).x g i = Tab.get (.fin 0) (s.cell c.toNat).accs (g * 16 + i) := rfl

/-- A value taken out of an accumulator, by cases. -/
theorem accOut_eq (rm : Rm) (a : AccVal) : accOut rm a = match a with
    | .fin n => .fin (if n = 0 then rm == 3 else decide (n < 0)) n.natAbs (-320)
    | .inf b => .inf b
    | .nan => .nan := by
  cases a with
  | nan => rfl
  | inf b => rfl
  | fin n =>
    by_cases hn : n = 0
    · subst hn
      rfl
    · simp [accOut, accVal, hn]

/-- An accumulator rounded once to the format of the instruction. -/
def accRounded (s : State) (c : BitVec 9) (th : Thread) (f : BitVec 48) (i : Nat) : Nat × Fl :=
  roundElem (opField f 23 4) (opField f 11 2) (f.getLsbD 5) (accOut (opField f 11 2) (accAt (s.cell c.toNat) (accHandle th f) i))

theorem accRound_ctx (i : Nat) :
    accRound (s.ctx c t th f) (accAt (s.cell c.toNat) (accHandle th f) i) = accRounded s c th f i := by
  rw [accRound, vaFmt_ctx, vaRm, vaSat, fldOf_ctx, testBit_ctx, accRounded]

section
variable (h : s.canRun c t th = true) (hme : f.getLsbD 30 = true ∨ opField f 27 3 = 0)
  (halloc : (s.cell c.toNat).accOwner.any (fun a => a.1 == accHandle th f) = true)
include h hme halloc

/-- A row that changes the used group or its bank, and leaves the thread alone. -/
theorem exec_accDone {i : Instr} {mask : Nat} {bad : Ctx → Bool} {op : Ctx → State → Nat → Res} (l : List (Nat × Nat))
    (hi : exec i s = .next (s.accRow c t f mask bad false op))
    (hm : ∀ i < 48, mask.testBit i = !l.any (fun p => decide (p.1 ≤ i) && decide (i < p.1 + p.2))) (hz : zeroFields f l = true)
    (hbad : bad (s.ctx c t th f) = false)
    (hop : op (s.ctx c t th f) (s.useGroup c.toNat (accHandle th f)) (accHandle th f) = .done s1)
    (hs : (s1.cell c.toNat).thread? t.toNat = ((s.useGroup c.toNat (accHandle th f)).cell c.toNat).thread? t.toNat) :
    exec i s = .next (s1.retire c t th) :=
  hi.trans (congrArg Host.Outcome.next (State.accRow_done l h hm hz hme hbad (fun hf => absurd hf Bool.false_ne_true) halloc hop
    (hs.trans (used_thread? h _))))

theorem exec_accneg (hz : zeroFields f [(0, 31), (40, 8)] = true) :
    exec (.accneg c t f) s = match accNeg (accAt (s.cell c.toNat) (accHandle th f) (opField f 31 4)) with
      | some v => .next (((s.useGroup c.toNat (accHandle th f)).setAccs c.toNat (accHandle th f) [(opField f 31 4, v)]).retire c t th)
      | none => .next ((s.useGroup c.toNat (accHandle th f)).trapped c t 0x0C 0 0) := by
  have hidx : vaIdx (s.ctx c t th f) = opField f 31 4 := fldOf_ctx s c t th f 31 4
  cases hneg : accNeg (accAt (s.cell c.toNat) (accHandle th f) (opField f 31 4)) with
  | some v =>
    refine exec_accDone h hme halloc [(0, 31), (40, 8)] rfl (by decide) hz rfl ?_ (State.setAccs_thread? _ _ _ _ _)
    simp only [hidx, State.ctx_x, hneg]
    rfl
  | none =>
    refine congrArg Host.Outcome.next (State.accRow_trap [(0, 31), (40, 8)] h (by decide) hz hme rfl
      (fun hf => absurd hf Bool.false_ne_true) halloc ?_)
    simp only [hidx, State.ctx_x, hneg]

theorem exec_accclr (hz : zeroFields f [(0, 31), (40, 8)] = true) : exec (.accclr c t f) s =
    .next (((s.useGroup c.toNat (accHandle th f)).setAccs c.toNat (accHandle th f) [(opField f 31 4, .fin 0)]).retire c t th) := by
  refine exec_accDone h hme halloc [(0, 31), (40, 8)] rfl (by decide) hz rfl ?_ (State.setAccs_thread? _ _ _ _ _)
  simp only [vaIdx, fldOf_ctx]
  rfl

theorem exec_accclrg (hz : zeroFields f [(0, 35), (40, 8)] = true) : exec (.accclrg c t f) s =
    .next (((s.useGroup c.toNat (accHandle th f)).setAccs c.toNat (accHandle th f)
      ((List.range 16).map (fun i => (i, .fin 0)))).retire c t th) := by
  refine exec_accDone h hme halloc [(0, 35), (40, 8)] rfl (by decide) hz rfl ?_ (State.setAccs_thread? _ _ _ _ _)
  rw [State.setAccs, List.foldl_map]
  rfl

theorem exec_accfree (hz : zeroFields f [(0, 35), (40, 8)] = true) :
    let u := s.useGroup c.toNat (accHandle th f)
    let x := u.cell c.toNat
    exec (.accfree c t f) s = .next ((u.setCell c.toNat
      { x with accOwner := Tab.del x.accOwner (accHandle th f),
               accBank := x.accBank.filter (· != accHandle th f),
               accs := x.accs.filter (fun a => a.1 / 16 != accHandle th f) }).retire c t th) := by
  intro u x
  refine exec_accDone h hme halloc [(0, 35), (40, 8)] rfl (by decide) hz rfl rfl ?_
  rw [State.cell_setCell_self]
  rfl

/-! ### Rounding out (R151 to R153) -/

theorem exec_accrnd (hfmt : rndFmtOk (s.ctx c t th f) = true) (hz : zeroFields f [(0, 5), (13, 10), (27, 4), (40, 8)] = true) :
    exec (.accrnd c t f) s = .next ((s.useGroup c.toNat (accHandle th f)).retire c t
      ((th.setS (opField f 6 5) (BitVec.ofNat 64 (accRounded s c th f (opField f 31 4)).1)).addFlags
        (accRounded s c th f (opField f 31 4)).2)) := by
  refine congrArg Host.Outcome.next (State.accRow_modThread [(0, 5), (13, 10), (27, 4), (40, 8)] h (by decide) hz hme
    (by rw [hfmt]; rfl) (fun hf => absurd hf Bool.false_ne_true) halloc (fun y =>
      (y.setS (opField f 6 5) (BitVec.ofNat 64 (accRounded s c th f (opField f 31 4)).1)).addFlags
        (accRounded s c th f (opField f 31 4)).2) ?_ (used_thread? h _) ?_)
  · simp only [vaIdx, vaD, fldOf_ctx, State.ctx_x, accRound_ctx]
    rfl
  · rw [Thread.addFlags_pc, Thread.setS_pc]

theorem exec_accrndv (hcode : opField f 23 4 ≤ 9 ∨ isIntFmt (opField f 23 4) = true) (hfmt : rndFmtOk (s.ctx c t th f) = true)
    (hz : zeroFields f [(0, 5), (6, 5), (13, 10), (40, 4)] = true)
    (hidx : opField f 31 4 < fmtCount (opField f 23 4) / 16) :
    let lo := 16 * opField f 31 4
    let act (i : Nat) : Bool := accActive th f (opField f 23 4) i
    ∃ w, exec (.accrndv c t f) s = .next ((s.useGroup c.toNat (accHandle th f)).retire c t ((th.setV (opField f 44 4) w).addFlags
        (flAll (((List.range 16).filter (fun j => act (lo + j))).map (fun j => (accRounded s c th f j).2))))) ∧
      ∀ i < fmtCount (opField f 23 4), elemAt (opField f 23 4) w i =
        if lo ≤ i ∧ i < lo + 16 ∧ act i = true then (accRounded s c th f (i - lo)).1
        else elemAt (opField f 23 4) (th.getV (opField f 44 4)) i := by
  intro lo act
  let old := th.getV (opField f 44 4)
  let rs (j : Nat) : Nat × Fl := if act (lo + j) then accRounded s c th f j else (elemAt (opField f 23 4) old (lo + j), flNone)
  let new (i : Nat) : Nat := if (decide (lo ≤ i) && decide (i < lo + 16)) = true then (((List.range 16).map rs).getD (i - lo) (0, flNone)).1
    else elemAt (opField f 23 4) old i
  have hnew (i : Nat) : new i = if lo ≤ i ∧ i < lo + 16 ∧ act i = true then (accRounded s c th f (i - lo)).1
      else elemAt (opField f 23 4) old i := by
    simp only [new, Bool.and_eq_true, decide_eq_true_eq]
    by_cases hin : lo ≤ i ∧ i < lo + 16
    · rw [if_pos hin, getD_map_range _ _ (by omega)]
      simp only [rs, Nat.add_sub_cancel' hin.1]
      by_cases ha : act i = true
      · rw [if_pos ha, if_pos ⟨hin.1, hin.2, ha⟩]
      · rw [if_neg ha, if_neg (fun hc => ha hc.2.2)]
    · rw [if_neg hin, if_neg (fun hc => hin ⟨hc.1, hc.2.1⟩)]
  have hfl : flAll (((List.range 16).map rs).map (·.2)) =
      flAll (((List.range 16).filter (fun j => act (lo + j))).map (fun j => (accRounded s c th f j).2)) := by
    rw [← flAll_map_ite, List.map_map]
    refine congrArg flAll (List.map_congr_left fun j _ => ?_)
    simp only [Function.comp_apply, rs]
    split <;> rfl
  have hval (i : Nat) (hi : i < fmtCount (opField f 23 4)) :
      elemAt (opField f 23 4) (fromElems (opField f 23 4) ((List.range (fmtCount (opField f 23 4))).map new)) i = new i := by
    refine elemAt_fromElems_range (fun j _ => ?_) hi
    rw [hnew]
    split
    · exact roundElem_lt hcode _ _ _
    · exact elemAt_lt _ _ _
  obtain ⟨w, hw⟩ : ∃ w, fromElems (opField f 23 4) ((List.range (fmtCount (opField f 23 4))).map new) = w := ⟨_, rfl⟩
  obtain ⟨fl, hflags⟩ : ∃ fl, flAll (((List.range 16).map rs).map (·.2)) = fl := ⟨_, rfl⟩
  rw [hw] at hval
  refine ⟨w, ?_, fun i hi => (hval i hi).trans (hnew i)⟩
  rw [← hfl, hflags]
  refine congrArg Host.Outcome.next (State.accRow_modThread [(0, 5), (6, 5), (13, 10), (40, 4)] h (by decide) hz hme ?_
    (fun hf => absurd hf Bool.false_ne_true) halloc (fun y => (y.setV (opField f 44 4) w).addFlags fl) ?_ (used_thread? h _) ?_)
  · rw [hfmt, vaIdx, fldOf_ctx, vaFmt_ctx, Bool.not_true, Bool.false_or]
    exact decide_eq_false (not_le.mpr hidx)
  · simp only [vaIdx, vaA, vaFmt_ctx, vaActive_ctx, fldOf_ctx, State.ctx_x, State.ctx_th, accRound_ctx]
    rw [← hw, ← hflags]
    rfl
  · rw [Thread.addFlags_pc, Thread.setV_pc]

/-! ### Images (R144, R145) -/

section
variable (hz : zeroFields f [(0, 6), (11, 20), (40, 8)] = true) (hal : (th.getS (opField f 6 5)).toNat % 16 = 0)
  (hfit : (th.getS (opField f 6 5)).toNat + 80 ≤ scratchSize (s.cell c.toNat))
include hz hal hfit

theorem exec_accld :
    let a := (th.getS (opField f 6 5)).toNat
    let u := (s.useGroup c.toNat (accHandle th f)).scratchCount c.toNat a 80
    exec (.accld c t f) s = match accOfWord (leNat (scratchRead (s.cell c.toNat) a 80)) with
      | some v => .next ((u.setAccs c.toNat (accHandle th f) [(opField f 31 4, v)]).retire c t th)
      | none => .next ((u.setAccs c.toNat (accHandle th f) [(opField f 31 4, .nan)]).retire c t (th.addFlags flNV)) := by
  intro a u
  have hu (l : List (Nat × AccVal)) : ((u.setAccs c.toNat (accHandle th f) l).cell c.toNat).thread? t.toNat = some th := by
    rw [State.setAccs_thread?, State.thread?_scratchCount]
    exact used_thread? h _
  have hidx : vaIdx (s.ctx c t th f) = opField f 31 4 := fldOf_ctx s c t th f 31 4
  have hd : vaD (s.ctx c t th f) = opField f 6 5 := fldOf_ctx s c t th f 6 5
  cases hw : accOfWord (leNat (scratchRead (s.cell c.toNat) a 80)) with
  | some v =>
    refine congrArg Host.Outcome.next (State.accRow_done [(0, 6), (11, 20), (40, 8)] h (by decide) hz hme rfl (fun _ => ⟨hal, hfit⟩)
      halloc ?_ (hu _))
    simp only [hidx, hd, State.ctx_x, State.ctx_th, State.ctx_c]
    rw [show accOfWord (leNat (scratchRead (s.cell c.toNat) (th.getS (opField f 6 5)).toNat 80)) = some v from hw]
    rfl
  | none =>
    refine congrArg Host.Outcome.next (State.accRow_modThread [(0, 6), (11, 20), (40, 8)] h (by decide) hz hme rfl
      (fun _ => ⟨hal, hfit⟩) halloc (Thread.addFlags · flNV) ?_ (hu _) (Thread.addFlags_pc _ _))
    simp only [hidx, hd, State.ctx_x, State.ctx_th, State.ctx_c]
    rw [show accOfWord (leNat (scratchRead (s.cell c.toNat) (th.getS (opField f 6 5)).toNat 80)) = none from hw]
    rfl

theorem exec_accst : exec (.accst c t f) s = .next (((s.useGroup c.toNat (accHandle th f)).scratchWrite c.toNat
    (th.getS (opField f 6 5)).toNat (leBytes 80 (accWord (accAt (s.cell c.toNat) (accHandle th f) (opField f 31 4))))).retire c t th) := by
  refine congrArg Host.Outcome.next (State.accRow_done [(0, 6), (11, 20), (40, 8)] h (by decide) hz hme rfl (fun _ => ⟨hal, hfit⟩)
    halloc ?_ ?_)
  · simp only [vaIdx, vaD, fldOf_ctx, State.ctx_x, State.ctx_th, State.ctx_c]
  · rw [thread?_scratchWrite]
    exact used_thread? h _

end
end
end

end Sys2Proof.Machine
end

section
/-! PROOFS. The statements on accumulators (O23, O24). -/

namespace Sys2Proof.Machine

/-! ### Allocation (R124) -/

section
variable {s : State} {c : BitVec 9} {t : BitVec 10} {th : Thread} {f : BitVec 48}

/-- The state in which a handle has become a thread's own, before its group comes into the bank. -/
def accTaken (s : State) (c t g : Nat) : State :=
  let n := if bwReplay (s.cell c).bind then 0 else s.free + 1
  (((({ s with free := s.free + 1 } : State).modCell c (fun x => { x with accOwner := Tab.put x.accOwner g t })).setAccs c g
    ((newAccs n g).map (fun a => (a.1 % 16, a.2)))).useGroup c g)

theorem accTaken_frame (s : State) (c t g : Nat) :
    ((accTaken s c t g).cell c).accOwner = Tab.put (s.cell c).accOwner g t ∧
      (∀ k, ((accTaken s c t g).cell c).thread? k = (s.cell c).thread? k) ∧
      (∀ j, j / 16 ≠ g → Tab.get (.fin 0) ((accTaken s c t g).cell c).accs j = Tab.get (.fin 0) (s.cell c).accs j) ∧
      (accTaken s c t g).mem = s.mem := by
  have hcell : ((({ s with free := s.free + 1 } : State).modCell c (fun x => { x with accOwner := Tab.put x.accOwner g t })).cell c) =
      { s.cell c with accOwner := Tab.put (s.cell c).accOwner g t } := State.cell_modCell_self _ _ _
  refine ⟨?_, fun k => ?_, fun j hj => ?_, ?_⟩
  · rw [accTaken, State.useGroup_accOwner, State.setAccs_accOwner, hcell]
  · rw [accTaken, State.useGroup_thread?, State.setAccs_thread?, hcell]
    rfl
  · rw [accTaken, State.useGroup_accs, State.setAccs_other _ _ _ _ hj, hcell]
    intro a ha
    obtain ⟨b, _, rfl⟩ := List.mem_map.mp ha
    exact Nat.mod_lt _ (by decide)
  · rw [accTaken, State.useGroup_mem, State.setAccs_mem]
    rfl

/-- What ACCALLOC does: the lowest free handle becomes the thread's own, or ACC_ALLOC. -/
theorem exec_accalloc (h : s.canRun c t th = true) (hz : zeroFields f [(0, 6), (11, 37)] = true) :
    exec (.accalloc c t f) s =
      match (List.range (bwAcc (s.cell c.toNat).bind)).find? (fun g => !(s.cell c.toNat).accOwner.any (fun a => a.1 == g)) with
      | none => .next (s.trapped c t 0x06 1 0)
      | some g => .next ((accTaken s c.toNat t.toNat g).retire c t (th.setS (opField f 6 5) (BitVec.ofNat 64 g))) := by
  have hb : (!onlyBits (s.ctx c t th f) mVaD) = false := by
    rw [onlyBits_eq_zeroFields [(0, 6), (11, 37)] s c t th f (by decide), hz]
    rfl
  have hal : (fun g => !allocated (s.ctx c t th f) g) = fun g => !(s.cell c.toNat).accOwner.any (fun a => a.1 == g) :=
    funext fun g => congrArg not (Tab.has_eq_any _ g)
  have ht := ((State.canRun_iff s c t th).mp h).2.1
  cases hg : (List.range (bwAcc (s.cell c.toNat).bind)).find? (fun g => !(s.cell c.toNat).accOwner.any (fun a => a.1 == g)) with
  | none =>
    refine congrArg Host.Outcome.next (State.issue_trap h hb ?_)
    simp only [State.ctx_x, hal, hg]
  | some g =>
    refine congrArg Host.Outcome.next (State.issue_modThread_of (s1 := accTaken s c.toNat t.toNat g)
      (fun y => y.setS (opField f 6 5) (BitVec.ofNat 64 g)) h hb ?_ (((accTaken_frame _ _ _ _).2.1 _).trans ht) (Thread.setS_pc _ _ _))
    simp only [State.ctx_x, hal, hg, vaD, fldOf_ctx, accTaken, State.setAccs, List.foldl_map]
    rfl

end

/-- A retired thread that is not stopped stands at its next instruction, and nothing else of the state is touched. -/
theorem State.retire_frame (w : State) (c : BitVec 9) (t : BitVec 10) (y : Thread) :
    ((w.retire c t y).cell c.toNat).thread? t.toNat = some y.stepped ∧
      ((w.retire c t y).cell c.toNat).accOwner = (w.cell c.toNat).accOwner ∧
      ((w.retire c t y).cell c.toNat).accs = (w.cell c.toNat).accs ∧ (w.retire c t y).mem = w.mem := by
  have hcell : (w.retire c t y).cell c.toNat = (w.cell c.toNat).setThread t.toNat y.stepped := State.cell_setCell_self _ _ _
  rw [hcell]
  exact ⟨Cell.thread?_setThread_self _ _ _, rfl, rfl, rfl⟩

/-- Settles O24: the first handle that `find?` gives is the lowest free one. -/
theorem accumulatorHandles : Obligations.AccumulatorHandles := by
  intro s c t th f h x n free
  refine ⟨fun hz => ⟨fun g hg hfree hlow => ?found, fun hall => ?full⟩, fun hz hfree i hi => ?unallocated⟩
  case found =>
    have hfind : (List.range (bwAcc (s.cell c.toNat).bind)).find? (fun g => !(s.cell c.toNat).accOwner.any (fun a => a.1 == g)) =
        some g :=
      List.find?_range_eq_some.mpr ⟨by rw [hfree]; rfl, List.mem_range.mpr hg, fun j hj => by
        rw [Bool.not_not, ← Bool.not_eq_false]
        exact hlow j hj⟩
    obtain ⟨howner, _, haccs, hmem⟩ := accTaken_frame s c.toNat t.toNat g
    obtain ⟨hth, howner', haccs', hmem'⟩ :=
      State.retire_frame (accTaken s c.toNat t.toNat g) c t (th.setS (opField f 6 5) (BitVec.ofNat 64 g))
    rw [← howner'] at howner
    rw [← haccs'] at haccs
    refine ⟨_, _, by rw [exec_accalloc h hz, hfind], hth, ?_, congrArg (· + 8) (Thread.setS_pc _ _ _), ?_, fun j hj => ?_, haccs, hmem'.trans hmem⟩
    · change (th.setS (opField f 6 5) (BitVec.ofNat 64 g)).getS (opField f 6 5) = _
      by_cases h0 : opField f 6 5 = 0
      · rw [if_pos h0, h0, Thread.getS_zero]
      · rw [if_neg h0, Thread.getS_setS_self _ _ h0]
    · rw [howner, Tab.find?_put_self]
    · rw [howner, Tab.find?_put_ne _ _ hj]
  case full =>
    have hfind : (List.range (bwAcc (s.cell c.toNat).bind)).find? (fun g => !(s.cell c.toNat).accOwner.any (fun a => a.1 == g)) =
        none :=
      List.find?_eq_none.mpr fun g hg => by
        rw [Bool.not_eq_true']
        exact hall g (List.mem_range.mp hg)
    rw [exec_accalloc h hz, hfind]
  case unallocated =>
    have hme : opField f 27 3 = 0 :=
      opField_sub_eq_zero (opField_of_zeroFields (p := (0, 31)) hz List.mem_cons_self) (by decide) (by decide)
    have row {i : Instr} {op : Ctx → State → Nat → Res}
        (hi : exec i s = .next (s.accRow c t f (mVaG + mVaIdx) (fun _ => false) false op)) :
        exec i s = .next (s.trapped c t 0x06 2 0) := by
      rw [hi, State.accRow_eq, State.issue_trap h (accBad_of_legal (mask := mVaG + mVaIdx) (bad := fun _ => false) [(0, 31), (40, 8)] (by decide) hz (.inr hme) rfl)
        (accOp_of_free op hfree)]
    simp only [List.mem_cons, List.not_mem_nil, or_false] at hi
    rcases hi with rfl | rfl
    · exact row rfl
    · exact row rfl

/-- Settles O23: each instruction by its own lemma. -/
theorem accumulatorResults : Obligations.AccumulatorResults := by
  intro s c t th f h x code idx rm sat g sd va acc used isMx scaleOk act elt upd adds dots hme halloc
  have hscale {r : Nat} (hr : scaleOk r) : scaleRegOk code r = true := scaleRegOk_of hr
  have hkint (hv : code ≤ 13) : isIntFmt code = decide (10 ≤ code) := by
    rw [Bool.eq_iff_iff, isIntFmt_eq_true_iff, decide_eq_true_iff]
    omega
  have hout (i : Nat) : accRounded s c th f i = roundElem code rm sat (match acc g i with
      | .fin n => .fin (if n = 0 then rm == 3 else decide (n < 0)) n.natAbs (-320)
      | .inf b => .inf b
      | .nan => .nan) := by
    rw [accRounded, accOut_eq]
    rfl
  refine ⟨fun hv hx hy hz => exec_dots h hme halloc hv hz (hscale hx) (hscale hy), fun hv h11 hidx hx hz => ?axpy,
    fun hc hz => ?adds, fun hy hz => exec_accacc h hme halloc hy hz, fun hz => ⟨?neg, exec_accclr h hme halloc hz⟩,
    fun hz => exec_accclrg h hme halloc hz, fun hc hsat => ?rounds, fun hz hal hfit => ⟨?ld, exec_accst h hme halloc hz hal hfit⟩,
    fun hz => exec_accfree h hme halloc hz⟩
  case axpy =>
    have hval : accScalar (isIntFmt code) sd =
        if 10 ≤ code then Val.fin (decide (sd.toInt < 0)) sd.toInt.natAbs 0 else decodeFloat (ffmt 0) (opField64 sd 0 32) := by
      rw [accScalar, hkint hv]
      exact if_congr decide_eq_true_iff rfl rfl
    have hex := exec_vaxpy h hme halloc hv h11 hidx (hscale hx) hz
    exact (congrArg (fun k => exec (.vaxpy c t f) s = adds used ((List.range 16).map (fun j =>
      (j, [vMul k (elt 44 18 (16 * idx + j))], k.isNan || (elt 44 18 (16 * idx + j)).isNan)))) hval).mp hex
  case adds =>
    have hval : accScalar (code != 0) sd =
        if code = 0 then decodeFloat (ffmt 0) (opField64 sd 0 32) else Val.fin (decide (sd.toInt < 0)) sd.toInt.natAbs 0 := by
      by_cases h0 : code = 0
      · simp [accScalar, h0]
      · simp [accScalar, h0, intVal]
    exact (congrArg (fun v => exec (.accadds c t f) s = adds used [(idx, [(v, 0)], v.isNan)]) hval).mp (exec_accadds h hme halloc hc hz)
  case neg =>
    refine (exec_accneg h hme halloc hz).trans ?_
    change (match accNeg (acc g idx) with
      | some v => Host.Outcome.next ((upd used [(idx, v)]).retire c t th)
      | none => .next (used.trapped c t 0x0C 0 0)) = _
    cases acc g idx with
    | inf b => rfl
    | nan => rfl
    | fin n =>
      have hrange : accInRange (-n) = true ↔ -(2 ^ 638) < n ∧ n ≤ 2 ^ 638 := by
        rw [accInRange, Bool.and_eq_true, decide_eq_true_iff, decide_eq_true_iff]
        push_cast
        omega
      by_cases hin : -(2 ^ 638) < n ∧ n ≤ 2 ^ 638
      · have hneg : accNeg (.fin n) = some (.fin (-n)) := if_pos (hrange.mpr hin)
        simp only [hneg, if_neg hin.1.ne', if_pos hin]
      · have hneg : accNeg (.fin n) = none := if_neg (mt hrange.mp hin)
        simp only [hneg, if_neg hin, ite_self]
  case rounds =>
    have hfmt : rndFmtOk (s.ctx c t th f) = true := by
      have hnsat : (vaSat (s.ctx c t th f) && decide (code ≤ 2)) = false := by
        rw [vaSat, testBit_ctx, Bool.and_eq_false_iff, decide_eq_false_iff_not]
        exact (Bool.eq_false_or_eq_true _).symm.imp_right fun hs => by have := hsat hs; omega
      rw [rndFmtOk, vaFmt_ctx, hnsat, Bool.not_false, Bool.and_true]
      simpa [or_assoc] using hc
    have hcode : code ≤ 9 ∨ isIntFmt code = true := by
      rw [isIntFmt_eq_true_iff]
      omega
    refine ⟨fun hz => ?_, fun hz hidx => ?_⟩
    · rw [exec_accrnd h hme halloc hfmt hz, hout]
      rfl
    · obtain ⟨w, hw, hval⟩ := exec_accrndv h hme halloc hcode hfmt hz hidx
      simp only [hout] at hw hval
      exact ⟨w, hw, hval⟩
  case ld =>
    exact (exec_accld h hme halloc hz hal hfit).trans (by cases accOfWord _ <;> rfl)

end Sys2Proof.Machine
end

section
/-! PROOFS. The statement on requests of the device's own (O54). -/

namespace Sys2Proof.Machine

/-! ### Packets that arrive -/

section
variable {s : State} {l : LinkNo} {p : Packet}

/-- What arrives for the device leaves the receive buffer and is handled. -/
theorem State.receive_of_arrives (h : s.arrives l p = true) (inside : State → Packet → State) :
    s.receive l p inside = inside (s.takeRx l p) p := by
  obtain ⟨⟨⟨hup, hme⟩, hvalid⟩, henc⟩ : ((s.linkUp l = true ∧ s.forMe p = true) ∧ pktValid p = true) ∧ p.enc = false := by
    simpa [State.arrives] using h
  have hme' : (s.takeRx l p).forMe p = true := hme
  simp only [State.receive, hup, hme', hvalid, henc, Bool.not_true, Bool.false_eq_true, if_false]

/-- A packet that leaves the receive buffer leaves every link as up as it was. -/
theorem State.takeRx_linkUp (s : State) (l : LinkNo) (p : Packet) (m : LinkNo) : (s.takeRx l p).linkUp m = s.linkUp m := by
  have hup : ((s.takeRx l p).lnk m).isUp = (s.lnk m).isUp := by
    by_cases hm : m.toNat = l.toNat
    · obtain rfl : m = l := BitVec.eq_of_toNat_eq hm
      exact (congrArg Link.isUp (Tab.get_set_self _ _ _ _)).trans rfl
    · exact congrArg Link.isUp (Tab.get_set_ne _ _ _ hm)
  exact congrArg (s.linkExists m && ·) hup

theorem State.takeRx_route (s : State) (l : LinkNo) (p : Packet) (ep : BitVec 13) : (s.takeRx l p).route ep = s.route ep := by
  simp only [State.route, State.takeRx_linkUp]
  rfl

end

/-! ### What fails and what is confirmed -/

/-- The first reason for which a transfer command fails stands. -/
theorem State.failXfer_frame (s : State) (id st addr remote : Nat) :
    (∃ xs, s.failXfer id st addr remote = { s with xfers := xs }) ∧
      ((s.xfer id).failed = none → ((s.failXfer id st addr remote).xfer id).failed = some (st, addr, remote)) := by
  by_cases h : (s.xfer id).failed.isSome = true
  · have heq : s.failXfer id st addr remote = s := if_pos h
    exact ⟨⟨s.xfers, heq⟩, fun hn => by simp [hn] at h⟩
  · have heq : s.failXfer id st addr remote = s.setXfer id { s.xfer id with failed := some (st, addr, remote) } := if_neg h
    rw [heq]
    exact ⟨⟨_, rfl⟩, fun _ => congrArg Xfer.failed (s.xfer_setXfer_self _ _)⟩

/-- A request that fails changes what it was for, and nothing else. -/
theorem State.ownFail_frame (s : State) (k : OwnKind) (addr : BitVec 64) (st : Nat) :
    ∃ xs fs, s.ownFail k addr st = { s with xfers := xs, faults := fs } := by
  have xfer (id : Nat) : ∃ xs fs, s.failXfer id cstRemoteError addr.toNat st = { s with xfers := xs, faults := fs } := by
    obtain ⟨⟨xs, h⟩, _⟩ := s.failXfer_frame id cstRemoteError addr.toNat st
    exact ⟨xs, s.faults, h⟩
  cases k with
  | copyRead id n => exact xfer id
  | copyWrite id n => exact xfer id
  | returnPage id n => exact xfer id
  | migrate fid part =>
    cases hf : Tab.find? s.faults fid with
    | none => exact ⟨s.xfers, s.faults, by simp only [State.ownFail, hf]⟩
    | some f => exact ⟨s.xfers, _, by simp only [State.ownFail, hf]; rfl⟩

/-- A transfer command whose request fails notes it. -/
theorem State.ownFail_xfer {s : State} {k : OwnKind} {id n : Nat} (addr : BitVec 64) (st : Nat)
    (hk : k = .copyRead id n ∨ k = .copyWrite id n ∨ k = .returnPage id n) (hx : (s.xfer id).failed = none) :
    ((s.ownFail k addr st).xfer id).failed = some (cstRemoteError, addr.toNat, st) := by
  have h := (s.failXfer_frame id cstRemoteError addr.toNat st).2 hx
  rcases hk with rfl | rfl | rfl <;> exact h

/-- A migration whose request fails notes it. -/
theorem State.ownFail_migrate {s : State} {fid part : Nat} {f : OpenFault} {m : Migr} (addr : BitVec 64) (st : Nat)
    (hf : Tab.find? s.faults fid = some f) (hm : f.mig = some m) (hn : m.failed = none) :
    Tab.find? (s.ownFail (.migrate fid part) addr st).faults fid = some { f with mig := some { m with failed := some st } } := by
  simp only [State.ownFail, hf, hm, Option.map_some, hn, Option.isSome_none, Bool.false_eq_true, if_false, Tab.find?_put_self]

/-- A write whose outcome is unknown is counted and raised, and its command notes it. -/
theorem State.ownUnknown_frame (s : State) (k : OwnKind) :
    ∃ xs u, s.ownUnknown k = { u with xfers := xs } ∧ u = (s.inc pgHOME 0x094).raise pgHOME 3 := by
  have xfer (id : Nat) := ((s.inc pgHOME 0x094).raise pgHOME 3).failXfer_frame id cstUnknown 0 0
  cases k with
  | copyRead id n => exact ⟨_, _, (xfer id).1.choose_spec, rfl⟩
  | copyWrite id n => exact ⟨_, _, (xfer id).1.choose_spec, rfl⟩
  | returnPage id n => exact ⟨_, _, (xfer id).1.choose_spec, rfl⟩
  | migrate fid part => exact ⟨_, _, rfl, rfl⟩

/-! ### Responses -/

/-- What a response does to the request that it answers. -/
def State.settled (s : State) (o : OwnReq) (p : Packet) : State :=
  match p.status.toNat with
  | 0x00 => if o.write then s.ownDone o else if p.data.length == o.len then s.ownData o p.data else s.badPkt
  | 0x20 => s.setOwn { o with token := some p.token }
  | 0x23 => s.ownNoRoute o
  | st => (s.dropOwn o).ownFail o.kind o.addr st

section
variable {s : State} {l : LinkNo} {p : Packet} {o : OwnReq}

/-- A request that alone has its tag is the one that is found by it. -/
theorem State.find?_own {g : OwnReq → Bool} (ho : o ∈ s.own) (hone : ∀ x ∈ s.own, x.tag = o.tag → x = o) (hg : g o = true)
    (htag : ∀ x, g x = true → x.tag = o.tag) : s.own.find? g = some o := by
  cases h : s.own.find? g with
  | none => exact absurd hg (List.find?_eq_none.mp h o ho)
  | some x => rw [hone x (List.mem_of_find?_eq_some h) (htag x (List.find?_some h))]

/-- A response that matches no request is dropped. -/
theorem State.ownAnswer_of_unmatched {b : Bool}
    (h : ∀ o ∈ s.own, o.tag ≠ p.tag ∨ o.dest ≠ p.srcEp ∨ o.write = !b ∨ o.sent = none) : s.ownAnswer p b = s := by
  have hnone : s.own.find? (fun o => o.tag == p.tag && o.dest == p.srcEp && o.write == b && o.sent.isSome && o.token.isNone &&
      (b || o.data.isEmpty)) = none := by
    refine List.find?_eq_none.mpr fun o ho => ?_
    rcases h o ho with h | h | h | h <;> simp [h]
  simp only [State.ownAnswer, hnone]

/-- A response that matches a request closes the window's account and settles the request. -/
theorem State.ownAnswer_of_matched (ho : o ∈ s.own) (hone : ∀ x ∈ s.own, x.tag = o.tag → x = o) (htag : o.tag = p.tag)
    (hdest : o.dest = p.srcEp) (hsent : o.sent ≠ none) (htoken : o.token = none) (hdata : o.write = true ∨ o.data = []) :
    s.ownAnswer p o.write = (((s.winResponse p.srcEp (p.ece || p.ce)).settled o p).ownNext o.kind) := by
  have hfind : s.own.find? (fun x => x.tag == p.tag && x.dest == p.srcEp && x.write == o.write && x.sent.isSome && x.token.isNone &&
      (o.write || x.data.isEmpty)) = some o := by
    refine State.find?_own ho hone ?_ fun x hx => ?_
    · have hd : (o.write || o.data.isEmpty) = true := by simpa using hdata
      simp [htag, hdest, htoken, Option.isSome_iff_ne_none.mpr hsent, hd]
    · simp only [Bool.and_eq_true, beq_iff_eq] at hx
      rw [hx.1.1.1.1.1, htag]
  simp only [State.ownAnswer, hfind]
  rfl

theorem exec_ownRsp (ho : o ∈ s.own) (hone : ∀ x ∈ s.own, x.tag = o.tag → x = o) (htag : o.tag = p.tag)
    (hdest : o.dest = p.srcEp) (hsent : o.sent ≠ none) (htoken : o.token = none) (hdata : o.write = true ∨ o.data = [])
    (h : s.arrives l (if o.write then { p with opcode := 0x12 } else { p with opcode := 0x11 }) = true) :
    exec (if o.write then .writeRsp l p else .readRsp l p) s =
      .next ((((s.takeRx l (if o.write then { p with opcode := 0x12 } else { p with opcode := 0x11 })).winResponse p.srcEp
        (p.ece || p.ce)).settled o p).ownNext o.kind) := by
  cases hw : o.write with
  | true =>
    simp only [hw, if_true] at h ⊢
    refine congrArg Host.Outcome.next ((State.receive_of_arrives h _).trans ?_)
    exact hw ▸ State.ownAnswer_of_matched (s := s.takeRx l _) (p := { p with opcode := 0x12 }) ho hone htag hdest hsent htoken hdata
  | false =>
    simp only [hw, Bool.false_eq_true, if_false] at h ⊢
    refine congrArg Host.Outcome.next ((State.receive_of_arrives h _).trans ?_)
    exact hw ▸ State.ownAnswer_of_matched (s := s.takeRx l _) (p := { p with opcode := 0x11 }) ho hone htag hdest hsent htoken hdata

theorem State.settled_defer (h : p.status = 0x20) : s.settled o p = s.setOwn { o with token := some p.token } := by
  rw [State.settled, h]
  rfl

theorem State.settled_noRoute (h : p.status = 0x23) : s.settled o p = s.ownNoRoute o := by
  rw [State.settled, h]
  rfl

theorem State.settled_ok (h : p.status = 0) : s.settled o p =
    if o.write then s.ownDone o else if p.data.length == o.len then s.ownData o p.data else s.badPkt := by
  rw [State.settled, h]
  rfl

theorem State.settled_fail (h0 : p.status ≠ 0) (h20 : p.status ≠ 0x20) (h23 : p.status ≠ 0x23) :
    s.settled o p = (s.dropOwn o).ownFail o.kind o.addr p.status.toNat := by
  unfold State.settled
  split
  next h => exact absurd (BitVec.eq_of_toNat_eq h) h0
  next h => exact absurd (BitVec.eq_of_toNat_eq h) h20
  next h => exact absurd (BitVec.eq_of_toNat_eq h) h23
  next => rfl

/-- A request is sent again on the alternate path once. -/
theorem State.sendAgain_some {path : BitVec 48} {out : LinkNo} (hagain : o.again = false) (halt : o.alt = false)
    (h : s.altRoute o.dest = some (path, out)) : s.sendAgain o = some ((s.inc pgHOME 0x090).launch o path out true true) := by
  simp [State.sendAgain, hagain, halt, h]

theorem State.sendAgain_none (h : o.again = true ∨ o.alt = true ∨ s.altRoute o.dest = none) : s.sendAgain o = none := by
  rcases h with h | h | h <;> simp [State.sendAgain, h]

/-- A request that fails leaves the list of requests, the windows and the memory to those who hold them. -/
theorem State.dropOwn_ownFail_frame (s : State) (o : OwnReq) (st : Nat) :
    ((s.dropOwn o).ownFail o.kind o.addr st).own = s.own.filter (fun x => x.tag != o.tag) ∧
      ((s.dropOwn o).ownFail o.kind o.addr st).wins = s.wins ∧ ((s.dropOwn o).ownFail o.kind o.addr st).mem = s.mem := by
  obtain ⟨xs, fs, h⟩ := (s.dropOwn o).ownFail_frame o.kind o.addr st
  rw [h]
  exact ⟨rfl, rfl, rfl⟩

/-- A confirmed write changes the account of its command. -/
theorem State.ownDone_frame (s : State) (o : OwnReq) :
    (s.ownDone o).own = s.own.filter (fun x => x.tag != o.tag) ∧ (s.ownDone o).wins = s.wins ∧ (s.ownDone o).mem = s.mem := by
  unfold State.ownDone
  cases o.kind <;> exact ⟨rfl, rfl, rfl⟩

theorem State.ownDone_copyWrite {id n : Nat} (hk : o.kind = .copyWrite id n) :
    (s.ownDone o).xfer id = { s.xfer id with ok := (s.xfer id).ok + o.data.length } := by
  simp only [State.ownDone, hk, State.xfer_setXfer_self]
  rfl

theorem State.ownDone_returnPage {id n : Nat} (hk : o.kind = .returnPage id n) :
    (s.ownDone o).xfer id = { s.xfer id with got := insNat n (s.xfer id).got } := by
  simp only [State.ownDone, hk, State.xfer_setXfer_self]
  rfl

/-- A whole-word counter that has counted. -/
theorem State.inc_countedOnce (s : State) (pg off : Nat) : CountedOnce s (s.inc pg off) pg off := by
  have hword : fieldOf ((s.inc pg off).rd pg off).toNat 0 32 = satAdd (s.fld pg off 0 32) 1 (2 ^ 32 - 1) % 2 ^ 32 :=
    s.fld_setFld_self pg off 0 32 _ (by decide)
  have hfull (w : W32) : fieldOf w.toNat 0 32 = w.toNat := Nat.mod_eq_of_lt w.isLt
  rw [hfull, State.fld, hfull] at hword
  rw [CountedOnce, hword]
  refine Nat.mod_eq_of_lt ?_
  unfold satAdd
  split <;> omega

/-- A counter and an interrupt status bit of a page, one after the other. -/
theorem State.inc_raise_shown (s : State) {pg off b : Nat} (hoff : off ≠ oIRQS) (hb : b < 32) :
    CountedOnce s ((s.inc pg off).raise pg b) pg off ∧ ((s.inc pg off).raise pg b).bit pg oIRQS b = true := by
  refine ⟨?_, State.bit_raise _ _ _ hb⟩
  rw [CountedOnce, State.rd_raise_ne _ (by omega)]
  exact s.inc_countedOnce pg off

theorem State.inc_raise_regsOnly (s : State) (pg off b : Nat) : RegsOnly s ((s.inc pg off).raise pg b) :=
  (s.count_regsOnly _ _ _ _ _).trans (State.raise_regsOnly _ _ _)

end

end Sys2Proof.Machine
end

section
/-! PROOFS. The statement on requests of the device's own (O54), settled. -/

namespace Sys2Proof.Machine

section
variable {s : State} {o : OwnReq} {p : Packet}

/-- What a lost write leaves: the request is gone, the loss is counted and raised, the memory is as it was. -/
theorem State.ownUnknown_shown (s : State) (k : OwnKind) :
    (s.ownUnknown k).own = s.own ∧ CountedOnce s (s.ownUnknown k) pgHOME 0x094 ∧ (s.ownUnknown k).bit pgHOME oIRQS 3 = true ∧
      (s.ownUnknown k).mem = s.mem := by
  obtain ⟨xs, u, h, hu⟩ := s.ownUnknown_frame k
  obtain ⟨hcount, hbit⟩ := s.inc_raise_shown (pg := pgHOME) (off := 0x094) (b := 3) (by decide) (by decide)
  obtain ⟨r, m, out, hr⟩ := s.inc_raise_regsOnly pgHOME 0x094 3
  rw [← hu] at hcount hbit hr
  rw [h]
  refine ⟨?_, hcount, hbit, ?_⟩ <;> rw [hr]

theorem State.ownUnknown_xfer {k : OwnKind} {id n : Nat} (hk : k = .copyWrite id n ∨ k = .returnPage id n)
    (hx : (s.xfer id).failed = none) : ((s.ownUnknown k).xfer id).failed = some (cstUnknown, 0, 0) := by
  obtain ⟨r, m, out, hr⟩ := s.inc_raise_regsOnly pgHOME 0x094 3
  have hx' : (((s.inc pgHOME 0x094).raise pgHOME 3).xfer id).failed = none := by rw [hr]; exact hx
  have h := (State.failXfer_frame _ id cstUnknown 0 0).2 hx'
  rcases hk with rfl | rfl <;> exact h

/-- What a lost read leaves. -/
theorem State.readLost_frame (s : State) (o : OwnReq) : ∃ xs fs, s.readLost o = { s with xfers := xs, faults := fs } := by
  unfold State.readLost
  split
  · split
    · obtain ⟨⟨xs, h⟩, _⟩ := s.failXfer_frame _ cstUnknown 0 0
      exact ⟨xs, s.faults, h⟩
    · exact s.ownFail_frame _ _ _
  · exact s.ownFail_frame _ _ _

theorem State.readLost_xfer {id n : Nat} (hk : o.kind = .copyRead id n) (hx : (s.xfer id).failed = none) :
    ((s.readLost o).xfer id).failed = some (if s.writeOut id then (cstUnknown, 0, 0) else (cstRemoteError, o.addr.toNat, 0x23)) := by
  simp only [State.readLost, hk]
  split
  · exact (s.failXfer_frame id cstUnknown 0 0).2 hx
  · exact State.ownFail_xfer (n := n) o.addr 0x23 (.inl rfl) hx

/-- A packet discarded leaves the requests and the windows. -/
theorem State.badPkt_shown (s : State) : s.badPkt.own = s.own ∧ s.badPkt.wins = s.wins ∧ CountedOnce s s.badPkt pgXBAR 0x08C ∧
    s.badPkt.bit pgXBAR oIRQS 3 = true := by
  obtain ⟨hcount, hbit⟩ := s.inc_raise_shown (pg := pgXBAR) (off := 0x08C) (b := 3) (by decide) (by decide)
  obtain ⟨r, m, out, hr⟩ := s.inc_raise_regsOnly pgXBAR 0x08C 3
  refine ⟨?_, ?_, hcount, hbit⟩ <;> rw [State.badPkt, hr]

/-- The data read for a REMOTE_COPY go on to its destination as a write. -/
theorem State.ownData_copyRead {id n : Nat} {c : Cmd} (hk : o.kind = .copyRead id n) (hc : s.cmd? id = some c) (d : Bytes) :
    ∃ (z : State) (x : OwnReq), s.ownData o d = z.pumpOwn ∧ z.own = s.own.filter (fun x => x.tag != o.tag) ++ [x] ∧
      x.write = true ∧ x.kind = .copyWrite id n ∧ x.dest = BitVec.ofNat 13 (c.field 0x22 2) ∧
      x.addr = BitVec.ofNat 64 (c.field 0x30 8 + n) ∧ x.data = d ∧ x.job = c.job ∧ x.sent = none ∧ z.wins = s.wins ∧ z.mem = s.mem := by
  exact ⟨(s.dropOwn o).addOwn (.copyWrite id n) true (BitVec.ofNat 13 (c.field 0x22 2)) c.job o.enc (BitVec.ofNat 64 (c.field 0x30 8 + n)) d.length d,
    { tag := (s.dropOwn o).newTag.1, kind := .copyWrite id n, write := true, dest := BitVec.ofNat 13 (c.field 0x22 2), job := c.job, enc := o.enc,
      addr := BitVec.ofNat 64 (c.field 0x30 8 + n), len := d.length, data := d, sent := none, alt := false, again := false, token := none },
    by simp only [State.ownData, hk, hc], rfl, rfl, rfl, rfl, rfl, rfl, rfl, rfl, rfl, rfl⟩

/-- The data read for a migration are written to the page's place. -/
theorem State.ownData_migrate {fid part : Nat} {f : OpenFault} {m : Migr} {lf : Leaf} {d e : Bytes} {z : State}
    (hk : o.kind = .migrate fid part) (hf : Tab.find? s.faults fid = some f) (hm : f.mig = some m)
    (hl : s.leafAt f.tenant f.region.toNat = some lf)
    (hw : s.devWrite lf.handle (lf.offset.toNat * 65536 + 4096 * part) d = (.ok e, z)) :
    (s.ownData o d).mem = z.mem ∧ o ∉ (s.ownData o d).own ∧
      Tab.find? (s.ownData o d).faults fid = some { f with mig := some { m with got := insNat part m.got } } := by
  have hdata : s.ownData o d =
      { z.dropOwn o with faults := Tab.put z.faults fid { f with mig := some { m with got := insNat part m.got } } } := by
    simp only [State.ownData, hk, hf, hm, hl, hw]
  rw [hdata]
  refine ⟨rfl, fun hin => ?_, Tab.find?_put_self _ _ _⟩
  simpa using (List.mem_filter.mp hin).2

end

/-- Settles O54: `exec_ownRsp` gives each response as `settled` and what follows; the rest are the branches of READY and of
REQ_TMO. -/
theorem ownRequestsEnd : Obligations.OwnRequestsEnd := by
  intro s l p rd wr
  refine ⟨fun h hno => ?readUnmatched, fun h hno => ?writeUnmatched, fun o ho hone htag hdest hsent htoken => ?matched,
    fun o h hone => ?ready, fun h hnone => ?readyNone, fun tag hno => ?tmoNone, fun o ho hone hsent => ?tmo⟩
  case readUnmatched =>
    refine congrArg Host.Outcome.next ((State.receive_of_arrives h _).trans (State.ownAnswer_of_unmatched ?_))
    exact hno
  case writeUnmatched =>
    refine congrArg Host.Outcome.next ((State.receive_of_arrives h _).trans (State.ownAnswer_of_unmatched ?_))
    exact hno
  case matched =>
    intro i q w rest ends harr hdata
    have hexec : exec i s = .next ((w.settled o p).ownNext o.kind) := exec_ownRsp ho hone htag hdest hsent htoken hdata harr
    obtain ⟨L, W, hframe⟩ : ∃ L W, w = { s with links := L, wins := W } := ⟨_, _, rfl⟩
    have hwown : w.own = s.own := by rw [hframe]
    have hwmem : w.mem = s.mem := by rw [hframe]
    have hwx (id : Nat) : w.xfer id = s.xfer id := by rw [hframe]; rfl
    have hwfaults : w.faults = s.faults := by rw [hframe]
    have hwcmd (id : Nat) : w.cmd? id = s.cmd? id := by rw [hframe]; rfl
    have hwleaf (t : BitVec 12) (a : Nat) : w.leafAt t a = s.leafAt t a := by rw [hframe]; rfl
    have hwrd (pg off : Nat) : w.rd pg off = s.rd pg off := by rw [hframe]; rfl
    clear_value w
    have hrest : w.own.filter (fun x => x.tag != o.tag) = rest := congrArg (List.filter _) hwown
    have close {good : State → Prop} {v : State} (hv : w.settled o p = v) (hwins : v.wins = w.wins) (hgood : good v) : ends good :=
      ⟨v, hv ▸ hexec, hwins, hgood⟩
    have fail (hv : w.settled o p = (w.dropOwn o).ownFail o.kind o.addr 0x23) : ends (fun v => v.own = rest ∧ v.mem = s.mem) := by
      obtain ⟨hown, hwins, hmem⟩ := w.dropOwn_ownFail_frame o 0x23
      exact close hv hwins ⟨hown.trans hrest, hmem.trans hwmem⟩
    refine ⟨fun h => close (State.settled_defer h) rfl ⟨congrArg (List.map _) hwown, hwmem⟩, fun h hno => fail ?_, fun path out h hagain halt hroute => ?_,
      fun h0 h20 h23 => ?_, fun h hw => ?_, fun h hw hlen => ?_, fun h hw hlen => ?_⟩
    · rw [State.settled_noRoute h, State.ownNoRoute, State.sendAgain_none hno]
    · rw [hexec, State.settled_noRoute h, State.ownNoRoute, State.sendAgain_some hagain halt hroute]
    · obtain ⟨hown, hwins, hmem⟩ := w.dropOwn_ownFail_frame o p.status.toNat
      refine close (State.settled_fail h0 h20 h23) hwins ⟨hown.trans hrest, hmem.trans hwmem,
        fun id n hk hx => State.ownFail_xfer o.addr _ hk ((congrArg Xfer.failed (hwx id)).trans hx), fun fid part f m hk hf hm hn => ?_⟩
      rw [hk]
      exact State.ownFail_migrate o.addr _ (hwfaults ▸ hf) hm hn
    · obtain ⟨hown, hwins, hmem⟩ := w.ownDone_frame o
      refine close ((State.settled_ok h).trans (if_pos hw)) hwins
        ⟨hown.trans hrest, hmem.trans hwmem, fun id n hk => ?_, fun id n hk => ?_⟩
      · rw [State.ownDone_copyWrite hk, hwx]
      · rw [State.ownDone_returnPage hk, hwx]
    · obtain ⟨hown, hwins, hcount, hbit⟩ := w.badPkt_shown
      have hv : w.settled o p = w.badPkt := by simp [State.settled_ok h, hw, hlen]
      rw [CountedOnce, hwrd] at hcount
      exact close hv hwins ⟨hown.trans hwown, hcount, hbit⟩
    · have hv : w.settled o p = w.ownData o p.data := by simp [State.settled_ok h, hw, hlen]
      refine ⟨fun id n c hk hc => ?_, fun fid part f m lf d z hk hf hm hl hdev => ?_⟩
      · obtain ⟨z, x, hz, hown, hwrite, hkind, hto, haddr, hd, hjob, hunsent, hwins, hmem⟩ :=
          State.ownData_copyRead hk ((hwcmd id).trans hc) p.data
        exact ⟨z, x, by rw [hexec, hv, hz], by rw [hown, hrest], hwrite, hkind, hto, haddr, hd, hjob, hunsent, hwins, hmem.trans hwmem⟩
      · obtain ⟨hmem, hout, hfault⟩ := State.ownData_migrate hk (hwfaults ▸ hf) hm ((hwleaf _ _).trans hl) hdev
        exact ⟨_, by rw [hexec, hv], hmem, hfault, hout⟩
  case ready =>
    intro w
    have hready : exec (.ready l p) s = .next ((w.reissueOwn o).ownNext o.kind) := by
      refine congrArg Host.Outcome.next ((State.receive_of_arrives h _).trans ?_)
      exact congrArg (List.foldl _ w) hone
    have hroute : w.route o.dest = s.route o.dest := State.takeRx_route _ _ _ _
    refine ⟨fun path out alt hr => ?_, fun hr => ?_⟩
    · rw [hready, State.reissueOwn, hroute, hr]
    · obtain ⟨hown, _, _⟩ := w.dropOwn_ownFail_frame o 0x23
      exact ⟨_, by rw [hready, State.reissueOwn, hroute, hr], hown⟩
  case readyNone =>
    refine congrArg Host.Outcome.next ((State.receive_of_arrives h _).trans ?_)
    exact congrArg (List.foldl _ _) hnone
  case tmoNone =>
    have hnone : s.own.find? (fun o => o.tag == tag && o.sent.isSome) = none :=
      List.find?_eq_none.mpr fun o ho hg => by
        rw [Bool.and_eq_true, beq_iff_eq] at hg
        simp [hno o ho hg.1] at hg
    change execReqTmo tag s = _
    rw [execReqTmo, hnone]
  case tmo =>
    intro rest
    have hfind : s.own.find? (fun x => x.tag == o.tag && x.sent.isSome) = some o :=
      State.find?_own ho hone (by simp [Option.isSome_iff_ne_none.mpr hsent]) fun x hx => by
        rw [Bool.and_eq_true, beq_iff_eq] at hx
        exact hx.1
    have hlost (ht : o.token = none) : exec (.reqTmo o.tag) s = .next ((s.ownLost o).ownNext o.kind) := by
      change execReqTmo o.tag s = _
      simp [execReqTmo, hfind, ht]
    refine ⟨fun t ht hne => ?_, fun path out alt ht hr => ?_, fun ht hw => ?_, fun path out ht hw hagain halt hr => ?_,
      fun ht hw hno => ?_⟩
    · change execReqTmo o.tag s = _
      simp [execReqTmo, hfind, ht, hne]
    · change execReqTmo o.tag s = _
      simp [execReqTmo, hfind, ht, State.reissueOwn, hr]
    · obtain ⟨hown, hcount, hbit, hmem⟩ := (s.dropOwn o).ownUnknown_shown o.kind
      exact ⟨_, by rw [hlost ht, State.ownLost, if_pos hw], hown, hcount, hbit, hmem, fun id n hk hx => State.ownUnknown_xfer hk hx⟩
    · rw [hlost ht, State.ownLost, hw, if_neg Bool.false_ne_true, State.sendAgain_some hagain halt hr]
    · obtain ⟨xs, fs, h⟩ := (s.dropOwn o).readLost_frame o
      refine ⟨(s.dropOwn o).readLost o, ?_, by rw [h]; rfl, by rw [h]; rfl, fun id n hk hx => State.readLost_xfer (n := n) hk hx⟩
      rw [hlost ht, State.ownLost, hw, if_neg Bool.false_ne_true, State.sendAgain_none hno]

end Sys2Proof.Machine
end

section
/-! PROOFS. The transcendentals and EXP2.F (O21, R122, R159). -/

namespace Sys2Proof.Machine

/-! ### Rows of results (R103) -/

section
variable {s : State} {c : BitVec 9} {t : BitVec 10} {th : Thread} {f : BitVec 48} {code : Nat}

/-- The results of a row, of which the inactive ones take no part. -/
def rowResults (th : Thread) (f : BitVec 48) (code : Nat) (r : Nat → Nat × Fl) : List (Nat × Fl) :=
  (List.range (fmtCount code)).map (fun i => if vvActiveAt th f code i then r i else (0, flNone))

theorem flAll_rowResults (r : Nat → Nat × Fl) : flAll ((rowResults th f code r).map (·.2)) =
    flAll (((List.range (fmtCount code)).filter (vvActiveAt th f code)).map (fun i => (r i).2)) := by
  rw [← flAll_map_ite, rowResults, List.map_map]
  refine congrArg flAll (List.map_congr_left fun i _ => ?_)
  rw [Function.comp_apply]
  split <;> rfl

theorem elemAt_rowResults (hmx : isMxFmt code = false) {r : Nat → Nat × Fl}
    (hr : ∀ i < fmtCount code, vvActiveAt th f code i = true → (r i).1 < 2 ^ fmtBits code) {i : Nat} (hi : i < fmtCount code) :
    elemAt code (writeCodes (s.ctx c t th f) code (fun i => ((rowResults th f code r).getD i (0, flNone)).1)) i =
      if vvActiveAt th f code i then (r i).1 else if f.getLsbD 27 then 0 else elemAt code (th.getV (opField f 44 4)) i := by
  have hact (j : Nat) (hj : j < fmtCount code) (ha : vvActiveAt th f code j = true) :
      ((rowResults th f code r).getD j (0, flNone)).1 = (r j).1 := by
    rw [rowResults, getD_map_range _ _ hj, ha, if_pos rfl]
  rw [elemAt_writeCodes hmx (fun j hj ha => (hact j hj ha).symm ▸ hr j hj ha) hi]
  split
  next ha => exact hact i hi ha
  next => rfl

/-! ### EXP2.F (R122) -/

theorem encodeMag_neg (fm : FFmt) (k : Nat) (q : Int) :
    encodeMag fm true k q = 2 ^ (fm.ebits + fm.mbits) + encodeMag fm false k q := by
  simp only [encodeMag, ofBool, if_true, Bool.false_eq_true, if_false, Nat.one_mul, Nat.zero_mul, Nat.zero_add]
  split <;> split <;> omega

/-- The FP32 code of a value that is not negative has its sign bit clear. -/
theorem roundTo_lt_sign (rm : Rm) {v : Val} (hv : v.neg = false) : (roundTo 0 rm false v).1 < 2 ^ 31 := by
  cases v with
  | nan => exact (by decide : canonNan 0 < 2 ^ 31)
  | inf n =>
    obtain rfl : n = false := hv
    exact (by decide : infCode (ffmt 0) false < 2 ^ 31)
  | fin n m e =>
    obtain rfl : n = false := hv
    simp only [roundTo]
    split
    next => exact (by decide : infCode (ffmt 0) false < 2 ^ 31)
    next hov =>
      have h := encodeMag_roundFloat_lt (code := 0) (by decide) rm false true m e (by simpa using hov)
      have h31 : (ffmt 0).ebits + (ffmt 0).mbits = 31 := rfl
      rw [encodeMag_neg, h31, show fmtBits 0 = 32 from rfl] at h
      change encodeMag (ffmt 0) false _ _ < 2 ^ 31
      omega

theorem transEval_exp2_neg (v : Val) : (transEval .exp2 v).1.neg = false := by
  cases v with
  | nan => rfl
  | inf n => cases n <;> rfl
  | fin n m e =>
    simp only [transEval]
    split
    · rfl
    · unfold exp2Val
      split
      · split <;> rfl
      · dsimp only
        split <;> rfl

/-- The codes that EXP2.F may give a value that is not NaN. -/
def exp2Codes (v : Val) : List Nat :=
  (roundTo 0 0 false v).1 :: [(roundTo 0 0 false v).1 - 2, (roundTo 0 0 false v).1 - 1, (roundTo 0 0 false v).1 + 1,
    (roundTo 0 0 false v).1 + 2, 2 ^ 31, 2 ^ 31 + 1, 2 ^ 31 + 2].filter (fun c => near2 c v)

theorem exp2Fast_mem (free : Nat) {x : Val} (hx : x.isNan = false) :
    (exp2Fast free x).1 ∈ exp2Codes (transEval .exp2 x).1 := by
  have hlt : free % (exp2Codes (transEval .exp2 x).1).length < (exp2Codes (transEval .exp2 x).1).length :=
    Nat.mod_lt _ (Nat.succ_pos _)
  have hval : (exp2Fast free x).1 = (exp2Codes (transEval .exp2 x).1).getD (free % (exp2Codes (transEval .exp2 x).1).length)
      (roundTo 0 0 false (transEval .exp2 x).1).1 := by
    simp only [exp2Fast, hx, Bool.false_eq_true, if_false]
    rfl
  rw [hval, List.getD_eq_getElem _ _ hlt]
  exact List.getElem_mem hlt

/-- EXP2.F gives the code of the result rounded once, or one within two units of the exact result. -/
theorem exp2Fast_near (free : Nat) (x : Val) : (exp2Fast free x).1 = (roundTo 0 0 false (transEval .exp2 x).1).1 ∨
    near2 (exp2Fast free x).1 (transEval .exp2 x).1 = true := by
  cases hx : x.isNan with
  | true =>
    obtain rfl : x = .nan := (Val.isNan_eq_true_iff x).mp hx
    exact .inl rfl
  | false => exact (List.mem_cons.mp (exp2Fast_mem free hx)).imp_right fun h =>
    (List.mem_filter (p := fun c => near2 c _)).mp h |>.2

theorem exp2Fast_lt (free : Nat) (x : Val) : (exp2Fast free x).1 < 2 ^ fmtBits 0 := by
  cases hx : x.isNan with
  | true =>
    obtain rfl : x = .nan := (Val.isNan_eq_true_iff x).mp hx
    exact (by decide : canonNan 0 < 2 ^ fmtBits 0)
  | false =>
    have h31 := roundTo_lt_sign 0 (transEval_exp2_neg x)
    have hb : fmtBits 0 = 32 := rfl
    rw [hb]
    rcases List.mem_cons.mp (exp2Fast_mem free hx) with h | h
    · omega
    · have h := (List.mem_filter.mp h).1
      simp only [List.mem_cons, List.not_mem_nil, or_false] at h
      omega

theorem State.issue_detail {nd : Nat} {bad : Ctx → Bool} {op : Ctx → State → Res} (hr : bwReplay (s.cell c.toNat).bind = false) :
    s.issue c t f (some nd) bad op = s.issue c t f none bad op := by
  simp only [State.issue, hr, Bool.and_false]
  rfl

/-- One result of EXP2.F: the free values from one on pick the codes. -/
def exp2Result (th : Thread) (f : BitVec 48) (free i : Nat) : Nat × Fl :=
  exp2Fast (Config.value (free + i)).toNat (decodeFloat (ffmt 0) (elemAt 0 (th.getV (opField f 40 4)) i))

/-- The thread after a row of FP32 results. -/
def rowThread (s : State) (c : BitVec 9) (t : BitVec 10) (th : Thread) (f : BitVec 48) (r : Nat → Nat × Fl) : Thread :=
  (th.setV (opField f 44 4) (writeCodes (s.ctx c t th f) 0 (fun i => ((rowResults th f 0 r).getD i (0, flNone)).1))).addFlags
    (flAll ((rowResults th f 0 r).map (·.2)))

theorem rowThread_pc (r : Nat → Nat × Fl) : (rowThread s c t th f r).pc = th.pc := by
  rw [rowThread, Thread.addFlags_pc, Thread.setV_pc]

/-- A row of FP32 results writes the active elements, and adds their flags. -/
theorem rowThread_eq {r : Nat → Nat × Fl} (hr : ∀ i, (r i).1 < 2 ^ fmtBits 0) :
    ∃ w, rowThread s c t th f r = (th.setV (opField f 44 4) w).addFlags
        (flAll (((List.range 64).filter (vvActiveAt th f 0)).map (fun i => (r i).2))) ∧
      ∀ i < 64, elemAt 0 w i = if vvActiveAt th f 0 i then (r i).1 else if f.getLsbD 27 then 0
        else elemAt 0 (th.getV (opField f 44 4)) i :=
  ⟨_, congrArg (Thread.addFlags _) (flAll_rowResults r), fun _ hi => elemAt_rowResults rfl (fun j _ _ => hr j) hi⟩

/-- EXP2.F with legal fields. -/
theorem exec_exp2F (h : s.canRun c t th = true) (hgov : vvGovOk f = true) (hz : zeroFields f [(0, 27), (32, 8)] = true)
    (hr : bwReplay (s.cell c.toNat).bind = false) : exec (.exp2F c t f) s =
      .next (({ s with free := s.free + 64 } : State).retire c t (rowThread s c t th f (exp2Result th f s.free))) := by
  have hb : (!onlyBits (s.ctx c t th f) (mVd + mVa + mMe + mMz) || !maskOk (s.ctx c t th f)) = false := by
    rw [onlyBits_eq_zeroFields [(0, 27), (32, 8)] s c t th f (by decide), hz, maskOk_ctx, hgov]
    rfl
  have ht : (({ s with free := s.free + 64 } : State).cell c.toNat).thread? t.toNat = some th := ((State.canRun_iff s c t th).mp h).2.1
  refine congrArg Host.Outcome.next ((State.issue_detail hr).trans
    (State.issue_modThread_of (fun _ => rowThread s c t th f (exp2Result th f s.free)) h hb ?_ ht (rowThread_pc _)))
  simp only [vvActive_ctx, vvA, vvD, fldOf_ctx, State.ctx_th]
  rfl

/-! ### The four functions (R159) -/

/-- One result of a transcendental, rounded once. -/
def transResult (th : Thread) (f : BitVec 48) (fn : Trans) (i : Nat) : Nat × Fl :=
  roundOnce 0 (opField f 21 2) false (transEval fn (decodeFloat (ffmt 0) (elemAt 0 (th.getV (opField f 40 4)) i)))

/-- What a transcendental makes of its thread. -/
def transThread (fn : Trans) (k : Ctx) : Thread :=
  let v := k.th.getV (vvA k)
  let rs := (List.range 64).map (fun i =>
    if vvActive k 0 i then roundOnce 0 (vvRm k) false (transEval fn (decodeElem 0 0 (elemAt 0 v i))) else (0, flNone))
  (k.th.setV (vvD k) (writeCodes k 0 (fun i => (rs.getD i (0, flNone)).1))).addFlags (flAll (rs.map (·.2)))

theorem transThread_ctx (fn : Trans) : transThread fn (s.ctx c t th f) = rowThread s c t th f (transResult th f fn) := by
  simp only [transThread, vvActive_ctx, vvA, vvD, vvRm, fldOf_ctx, State.ctx_th]
  rfl

/-- A row of a transcendental with legal fields retires. -/
theorem State.transRow_of_legal (fn : Trans) (h : s.canRun c t th = true) (hgov : vvGovOk f = true)
    (hz : zeroFields f [(0, 21), (23, 4), (32, 8)] = true) :
    s.transRow c t f fn = s.retire c t (rowThread s c t th f (transResult th f fn)) := by
  have hrow : s.transRow c t f fn = s.vecRow c t f (mVd + mVa + mMe + mMz + mVrm) (fun _ => false) (transThread fn) := rfl
  rw [hrow, State.vecRow_of_legal [(0, 21), (23, 4), (32, 8)] _ h (by decide) hz hgov rfl, transThread_ctx]
  rw [transThread_ctx, rowThread_pc]

end

end Sys2Proof.Machine
end

section
/-! PROOFS. Conversion, and the statement on conversions and transcendentals (O21). -/

namespace Sys2Proof.Machine

section
variable {s : State} {c : BitVec 9} {t : BitVec 10} {th : Thread} {f : BitVec 48} {src dst : Nat}

/-! ### The part that VCVT converts (R121) -/

/-- How many elements VCVT converts. -/
def cvtN (src dst : Nat) : Nat := min (fmtCount src) (fmtCount dst)

/-- The first element that VCVT reads, and the first that it writes. -/
def cvtFrom (f : BitVec 48) (src dst : Nat) : Nat := if fmtCount dst < fmtCount src then cvtN src dst * opField f 32 4 else 0
def cvtTo (f : BitVec 48) (src dst : Nat) : Nat := if fmtCount src < fmtCount dst then cvtN src dst * opField f 32 4 else 0

/-- Whether a converted element is active. -/
def cvtActiveAt (th : Thread) (f : BitVec 48) (n i : Nat) : Bool :=
  !f.getLsbD 31 || (th.getM (opField f 28 3)).getLsbD (if n = 512 then i / 2 else i)

theorem cvtCount_eq (src dst : Nat) : cvtCount src dst = (cvtN src dst, max (fmtCount src) (fmtCount dst) / cvtN src dst) := by
  unfold cvtCount cvtN
  dsimp only
  split
  next h => rw [min_eq_left h, max_eq_right h]
  next h => rw [min_eq_right (by omega), max_eq_left (by omega)]

theorem cvtActive_ctx (n i : Nat) : cvtActive (s.ctx c t th f) n i = cvtActiveAt th f n i := by
  simp only [cvtActive, vvMe, vvMask, vvMk, testBit_ctx, fldOf_ctx, State.ctx_th, cvtActiveAt, beq_iff_eq]

/-- The element counts are multiples of a block. -/
theorem dvd_fmtCount {code : Nat} (h : code ≤ 13) : 32 ∣ fmtCount code := by
  interval_cases code <;> decide

theorem dvd_cvtN (hs : src ≤ 13) (hd : dst ≤ 13) : 32 ∣ cvtN src dst := by
  rcases min_choice (fmtCount src) (fmtCount dst) with h | h <;> rw [cvtN, h]
  · exact dvd_fmtCount hs
  · exact dvd_fmtCount hd

theorem dvd_cvtTo (hs : src ≤ 13) (hd : dst ≤ 13) : 32 ∣ cvtTo f src dst := by
  unfold cvtTo
  split
  · exact Dvd.dvd.mul_right (dvd_cvtN hs hd) _
  · exact dvd_zero _

/-! ### Legal words -/

theorem zeroFields_cvt (h0 : f.getLsbD 0 = false) (hb : opField f 36 4 = 0) (hy : opField f 10 5 = 0) :
    zeroFields f [(0, 1), (36, 4), (10, 5)] = true := by
  have hlow : opField f 0 1 = 0 := opField_eq_zero_of_bits fun i h1 h2 => by
    obtain rfl : i = 0 := by omega
    exact h0
  simp [zeroFields, hlow, hb, hy]

/-- VCVT with legal fields retires. -/
theorem exec_vcvt (h : s.canRun c t th = true) (hgov : vvGovOk f = true) (hf : zeroFields f [(0, 1), (36, 4), (10, 5)] = true)
    (hbad : cvtBad (s.ctx c t th f) = false) {y : Thread} (hy : convert (s.ctx c t th f) = y) (hpc : y.pc = th.pc) :
    exec (.vcvt c t f) s = .next (s.retire c t y) := by
  subst hy
  exact congrArg Host.Outcome.next (State.vecRow_of_legal [(0, 1), (36, 4), (10, 5)] convert h (by decide) hf hgov hbad hpc)

section
variable (hsrc : opField f 23 4 = src) (hdst : opField f 1 4 = dst)
include hsrc hdst

theorem cvtBad_of_legal (hs : src ≤ 13) (hd : dst ≤ 13) (hne : src ≠ dst)
    (hp : opField f 32 4 < max (fmtCount src) (fmtCount dst) / cvtN src dst) (hsat : f.getLsbD 20 = true → 3 ≤ dst)
    (hx : scaleRegOk src (opField f 15 5) = true) (hz : scaleRegOk dst (opField f 5 5) = true) :
    cvtBad (s.ctx c t th f) = false := by
  have hok : satOk (s.ctx c t th f) dst = true := by
    rw [satOk, vvSat, testBit_ctx, Bool.not_eq_true', Bool.and_eq_false_iff, decide_eq_false_iff_not]
    exact (Bool.eq_false_or_eq_true _).symm.imp_right fun hb => by have := hsat hb; omega
  have hp' : ¬(max (fmtCount src) (fmtCount dst) / cvtN src dst ≤ opField f 32 4) := by omega
  simp [cvtBad, vvFmt, vvDfmt, vvC, vvX, vvZ, fldOf_ctx, hsrc, hdst, cvtCount_eq, (validFmt_eq_true_iff _).mpr hs,
    (validFmt_eq_true_iff _).mpr hd, hne, hok, hx, hz, hp']

/-! ### Destinations that are not MX (R156) -/

/-- What VCVT gives the elements of a destination that is not MX. -/
theorem convert_elems (hd : dst ≤ 13) (hmx : isMxFmt dst = false) {r : Nat → Nat × Fl}
    (hr : ∀ i, r i = cvtElem (s.ctx c t th f) src dst (elemAt src (th.getV (opField f 40 4)) (cvtFrom f src dst + i))
      (srcElem th f src 40 15 (cvtFrom f src dst + i))) :
    ∃ w, convert (s.ctx c t th f) = (th.setV (opField f 44 4) w).addFlags
        (flAll (((List.range (cvtN src dst)).filter (cvtActiveAt th f (cvtN src dst))).map (fun i => (r i).2))) ∧
      ∀ i < fmtCount dst, elemAt dst w i = if cvtTo f src dst ≤ i ∧ i < cvtTo f src dst + cvtN src dst then
          (if cvtActiveAt th f (cvtN src dst) (i - cvtTo f src dst) then (r (i - cvtTo f src dst)).1
            else if f.getLsbD 27 then 0 else elemAt dst (th.getV (opField f 44 4)) i)
        else elemAt dst (th.getV (opField f 44 4)) i := by
  have hcode : dst ≤ 9 ∨ isIntFmt dst = true := by
    rw [isIntFmt_eq_true_iff]
    omega
  have hlt (i : Nat) : (r i).1 < 2 ^ fmtBits dst := by
    rw [hr, cvtElem]
    split
    · rw [narrowInt_eq_fitInt]
      exact fitInt_lt _ _ _
    · exact roundElem_lt hcode _ _ _
  let rs (i : Nat) : Nat × Fl := if cvtActiveAt th f (cvtN src dst) i then r i
    else (if f.getLsbD 27 then 0 else elemAt dst (th.getV (opField f 44 4)) (cvtTo f src dst + i), flNone)
  let new (j : Nat) : Nat := if cvtTo f src dst ≤ j && j < cvtTo f src dst + cvtN src dst then
    (((List.range (cvtN src dst)).map rs).getD (j - cvtTo f src dst) (0, flNone)).1 else elemAt dst (th.getV (opField f 44 4)) j
  have hnew (i : Nat) : new i = if cvtTo f src dst ≤ i ∧ i < cvtTo f src dst + cvtN src dst then
          (if cvtActiveAt th f (cvtN src dst) (i - cvtTo f src dst) then (r (i - cvtTo f src dst)).1
            else if f.getLsbD 27 then 0 else elemAt dst (th.getV (opField f 44 4)) i)
        else elemAt dst (th.getV (opField f 44 4)) i := by
    by_cases hin : cvtTo f src dst ≤ i ∧ i < cvtTo f src dst + cvtN src dst
    · have hb : (decide (cvtTo f src dst ≤ i) && decide (i < cvtTo f src dst + cvtN src dst)) = true := by simpa using hin
      rw [if_pos hin]
      simp only [new, hb, if_true]
      rw [getD_map_range _ _ (by omega)]
      simp only [rs, Nat.add_sub_cancel' hin.1]
      split <;> rfl
    · have hb : ¬(decide (cvtTo f src dst ≤ i) && decide (i < cvtTo f src dst + cvtN src dst)) = true := by simpa using hin
      rw [if_neg hin]
      exact if_neg hb
  have hnewlt (i : Nat) : new i < 2 ^ fmtBits dst := by
    rw [hnew]
    split
    · split
      · exact hlt _
      · split
        · exact Nat.two_pow_pos _
        · exact elemAt_lt _ _ _
    · exact elemAt_lt _ _ _
  refine ⟨fromElems dst ((List.range (fmtCount dst)).map new), ?_,
    fun i hi => (elemAt_fromElems_range (fun j _ => hnewlt j) hi).trans (hnew i)⟩
  have hfl : flAll (((List.range (cvtN src dst)).map rs).map (·.2)) =
      flAll (((List.range (cvtN src dst)).filter (cvtActiveAt th f (cvtN src dst))).map (fun i => (r i).2)) := by
    rw [← flAll_map_ite, List.map_map]
    refine congrArg flAll (List.map_congr_left fun i _ => ?_)
    simp only [Function.comp_apply, rs]
    split <;> rfl
  rw [← hfl]
  simp only [convert, vvFmt, vvDfmt, vvC, vvA, vvD, vvX, vvMz, fldOf_ctx, testBit_ctx, State.ctx_th, hsrc, hdst, cvtCount_eq, hmx,
    Bool.false_eq_true, if_false, cvtActive_ctx, srcVal_ctx, new, rs, hr]
  rfl

/-! ### MX destinations (R158) -/

/-- What VCVT gives the blocks of an MX destination. -/
theorem convert_blocks (hs : src ≤ 13) (hmx : isMxFmt dst = true) :
    ∃ w sc fl, convert (s.ctx c t th f) = (putScales (th.setV (opField f 44 4) w) dst (opField f 5 5) sc).addFlags fl ∧
      ∀ blk < fmtCount dst / 32, mxBlockOf dst w sc blk =
        if cvtTo f src dst / 32 ≤ blk ∧ blk < cvtTo f src dst / 32 + cvtN src dst / 32 then
          mxBlockAfter dst (opField f 21 2) (f.getLsbD 20) (f.getLsbD 27)
            (fun j => cvtActiveAt th f (cvtN src dst) (32 * (blk - cvtTo f src dst / 32) + j))
            (fun j => srcElem th f src 40 15 (cvtFrom f src dst + (32 * (blk - cvtTo f src dst / 32) + j)))
            (mxBlockOf dst (th.getV (opField f 44 4)) (mxOldScales th f dst) blk)
        else mxBlockOf dst (th.getV (opField f 44 4)) (mxOldScales th f dst) blk := by
  have hd : dst ≤ 13 := by
    have := (isMxFmt_eq_true_iff dst).mp hmx
    omega
  obtain ⟨w, sc, hw, hval⟩ := mxWrite_part (s := s) (c := c) (t := t) (th := th) (f := f) hmx (cvtTo f src dst / 32)
    (cvtN src dst / 32) (cvtActiveAt th f (cvtN src dst)) (fun i => (srcElem th f src 40 15 (cvtFrom f src dst + i), flNone))
  rw [Nat.mul_div_cancel' (dvd_cvtTo hs hd), Nat.mul_div_cancel' (dvd_cvtN hs hd)] at hw
  refine ⟨w, sc, _, Eq.trans ?_ hw, hval⟩
  simp only [convert, vvFmt, vvDfmt, vvC, vvA, vvX, fldOf_ctx, State.ctx_th, hsrc, hdst, cvtCount_eq, hmx, if_true, cvtActive_ctx,
    srcVal_ctx]
  rfl

end

end

/-- Settles O21: VCVT by the format of its destination, the transcendentals and EXP2.F by their rows. -/
theorem conversionAndTranscendentals : Obligations.ConversionAndTranscendentals := by
  intro s c t th f h hgov src dst rm sat d va p a b n ratio so d0 act isMx scaleOk x
  refine ⟨fun h0 hb hy hs hd hne hp hsat hx hz hmx => ?elements, fun h0 hb hy hs hne hp hx hz hmx => ?blocks, ?four,
    fun hf hr => ?fast⟩
  case elements =>
    have hmx' : isMxFmt dst = false := isMxFmt_eq_false (by have : ¬(5 ≤ dst ∧ dst ≤ 9) := hmx; omega)
    have hbad : cvtBad (s.ctx c t th f) = false :=
      cvtBad_of_legal rfl rfl hs hd hne hp hsat (scaleRegOk_of hx) (scaleRegOk_of hz)
    have hint {k : Nat} (hk : k ≤ 13) : isIntFmt k = true ↔ 10 ≤ k := by
      rw [isIntFmt_eq_true_iff]
      omega
    have hboth : (isIntFmt src && isIntFmt dst) = true ↔ 10 ≤ src ∧ 10 ≤ dst := by rw [Bool.and_eq_true, hint hs, hint hd]
    let r (i : Nat) : Nat × Fl :=
      if 10 ≤ src ∧ 10 ≤ dst then (narrowInt (fmtBits dst) sat (toSigned (fmtBits src) (elemAt src va (so + i))), 0)
      else roundElem dst rm sat (x i)
    have hr (i : Nat) : r i = cvtElem (s.ctx c t th f) src dst (elemAt src va (so + i)) (x i) := by
      rw [cvtElem, vvRm, vvSat, fldOf_ctx, testBit_ctx]
      exact (if_congr hboth rfl rfl).symm
    obtain ⟨w, hw, hval⟩ := convert_elems (s := s) (c := c) (t := t) (th := th) (f := f) rfl rfl hd hmx' hr
    have hfl : flAll (((List.range n).filter act).map (fun i => (r i).2)) =
        if 10 ≤ src ∧ 10 ≤ dst then 0 else flAll (((List.range n).filter act).map (fun i => (roundElem dst rm sat (x i)).2)) := by
      by_cases hi : 10 ≤ src ∧ 10 ≤ dst
      · simp only [r, if_pos hi]
        exact flAll_map_zero _
      · simp only [r, if_neg hi]
    refine ⟨w, ?_, fun i hi => (hval i hi).trans ?_⟩
    · rw [← hfl]
      refine exec_vcvt h hgov (zeroFields_cvt h0 hb hy) hbad hw ?_
      rw [Thread.addFlags_pc, Thread.setV_pc]
    · have hr1 (j : Nat) : (r j).1 = if 10 ≤ src ∧ 10 ≤ dst then
          narrowInt (fmtBits dst) sat (toSigned (fmtBits src) (elemAt src va (so + j))) else (roundElem dst rm sat (x j)).1 :=
        apply_ite Prod.fst _ _ _
      rw [hr1]
      rfl
  case blocks =>
    intro old
    have hmx' : isMxFmt dst = true := (isMxFmt_eq_true_iff dst).mpr hmx
    have hd : dst ≤ 13 := hmx.2.trans (by decide)
    have hbad : cvtBad (s.ctx c t th f) = false :=
      cvtBad_of_legal rfl rfl hs hd hne hp (fun _ => Nat.le_trans (by decide) hmx.1) (scaleRegOk_of hx) (scaleRegOk_of hz)
    obtain ⟨w, sc, fl, hw, hval⟩ := convert_blocks (s := s) (c := c) (t := t) (th := th) (f := f) rfl rfl hs hmx'
    refine ⟨w, sc, fl, exec_vcvt h hgov (zeroFields_cvt h0 hb hy) hbad hw ?_, hval⟩
    rw [Thread.addFlags_pc, putScales_pc, Thread.setV_pc]
  case four =>
    have row {i : Instr} {fn : Trans} (hi : exec i s = .next (s.transRow c t f fn))
        (hz : zeroFields f [(0, 21), (23, 4), (32, 8)] = true) :
        ∃ w, exec i s = .next (s.retire c t ((th.setV d w).addFlags (flAll (((List.range 64).filter (vvActiveAt th f 0)).map
            (fun j => (transResult th f fn j).2))))) ∧
          ∀ j < 64, elemAt 0 w j = if vvActiveAt th f 0 j then (transResult th f fn j).1
            else if f.getLsbD 27 then 0 else elemAt 0 (th.getV d) j := by
      obtain ⟨w, hw, hval⟩ := rowThread_eq (s := s) (c := c) (t := t) (th := th) (f := f) (r := transResult th f fn)
        (fun j => roundTo_lt (code := 0) (by decide) _ _ _)
      exact ⟨w, by rw [hi, State.transRow_of_legal fn h hgov hz, hw], hval⟩
    simp only [List.forall_mem_cons, List.not_mem_nil, false_imp_iff, implies_true, and_true]
    exact ⟨row rfl, row rfl, row rfl, row rfl⟩
  case fast =>
    obtain ⟨w, hw, hval⟩ := rowThread_eq (s := s) (c := c) (t := t) (th := th) (f := f) (r := exp2Result th f s.free)
      (fun j => exp2Fast_lt _ _)
    refine ⟨w, _, by rw [exec_exp2F h hgov hf hr, hw], fun i hi => ?_⟩
    rw [hval i hi]
    split
    · exact exp2Fast_near _ _
    · rfl

end Sys2Proof.Machine
end
